-- ==== Sys2Proof/Word.lean ====
section
/-!
DEFINITION. The words the spec names: a byte, the 16-bit word of R5, the 32-bit ESN of R52.
A tick count, an address of a store and a number of things are plain `Nat`.
-/

namespace Sys2Proof

/-- One byte of a link, a record or a store. -/
abbrev Byte := BitVec 8

/-- One word of the host bus and of every host-side structure (R5: "a word is 16 bits"). -/
abbrev Word := BitVec 16

/-- An event sequence number: 32 bits, wrapping (R52). -/
abbrev Esn := BitVec 32

/-- A 48-byte or longer string of bytes, first byte first. -/
abbrev Bytes := List Byte

end Sys2Proof
end

