-- ==== Sys2Proof/Syntax.lean ====
section
/-!
DEFINITION. The commands of the device: one constructor per row of the opcode table, in the table's order. An opcode
row names the tag of the rung command it carries out; what the device can only measure (a frame received, a reading,
a ball's level, what a read of the NAND met) is an operand of the row that meets it, and so is a change of HA within a
strobe (R79). An operand written with := may be left out of a term and then stands for the value shown: HA steady, no list of
readings or samples, 0.
-/

namespace Sys2Proof

/-- What a read of the NAND met (R504): the ladder step that decoded, the most bits corrected in a codeword, the stripe
was needed, and nothing recovered it. -/
structure NandRead where
  step : Nat
  bits : Nat
  stripe : Bool
  lost : Bool
deriving DecidableEq, Repr

/-- An EEPROM group met in error (R470): its address and whether the error is uncorrectable. -/
structure NvError where
  addr : Nat
  fatal : Bool
deriving DecidableEq, Repr

/-- A token frame as the UHF paths received it (R214–R221): the band and modulation it was sent in, bit 0 path A and bit 1 path B
demodulated it, their RSSI codes and their detect stamps, whether the Manchester coding was valid, and the bytes from the token ID
through the CRC. -/
structure UhfRx where
  band : Nat
  mod : Nat
  paths : Nat
  rssiA : Nat
  rssiB : Nat
  detect : Nat
  detectB : Nat
  manchester : Bool
  bytes : Bytes
deriving DecidableEq, Repr

/-- A UWB packet as received (R237, R244, R248, R249, R251): RMARKER timestamp of 40 bits, first-path amplitudes of the preamble and
the STS, difference of the first paths in RU, the energy before the STS first path as (RU before it, percent of its amplitude), carrier
offset in 0.01 ppm, power in Q8.8 dBm, the two phase differences in 2π/65,536, and the PSDU. -/
structure UwbRx where
  rmarker : Nat
  apre : Nat
  asts : Nat
  fpDiff : Nat
  early : List (Nat × Nat)
  cfo : Int
  power : Word
  phase : Int
  psdu : Bytes
deriving DecidableEq, Repr

/-- A node frame as received on a trunk (R436–R440): trunk 0 KWA or 1 KWB, the frame's bytes, and the stamp at which its
reply window saw it. -/
structure NodeRx where
  trunk : Nat
  bytes : Bytes
deriving DecidableEq, Repr

/-- What a die shows at cold power-up (R494, R495, R498): its size, blocks and endurance, the interfaces it supports, whether it
passes the tests, and whether the map on it names another device. -/
structure DieFound where
  mib : Nat
  blocks : Nat
  endurance : Nat
  ddr : Bool
  sdr : Nat
  usable : Bool
  foreign : Bool
deriving DecidableEq, Repr

/-- A command of the device: one constructor per row of the opcode table. -/
inductive Instr where
  -- opcodes (R120)
  | nop (tag : Nat)
  | sleepEnter (tag : Nat)
  | selftest (tag failing : Nat)
  | telemetryRead (tag : Nat) (items : List Word)
  | logRead (tag : Nat) (nand : NandRead)
  | logVerify (tag : Nat) (nand : NandRead)
  | pollConfig (tag : Nat)
  | pollStart (tag : Nat)
  | pollStop (tag : Nat)
  | lfWakeLocate (tag : Nat)
  | lfTelegram (tag : Nat)
  | aerialCal (tag : Nat) (peaks : List (List Nat)) (faults : List Nat)
  | transponderRead (tag : Nat)
  | rangeBound (tag : Nat)
  | uwbConfig (tag : Nat)
  | proxDecide (tag : Nat)
  | startRelease (tag : Nat) (coil : Nat)
  | startLock (tag : Nat)
  | sessionOpen (tag : Nat)
  | sessionClose (tag : Nat)
  | policyLoad (tag : Nat)
  | tokenAuth (tag : Nat)
  | tokenMemRead (tag : Nat)
  | tokenMemWrite (tag : Nat)
  | tokenEnrol (tag : Nat)
  | tokenRevoke (tag : Nat)
  | learnBegin (tag : Nat)
  | learnAdd (tag : Nat)
  | learnCommit (tag : Nat)
  | keyUpdateStage (tag : Nat)
  | keyUpdatePrepare (tag : Nat)
  | keyUpdateCommit (tag : Nat)
  | keyUpdateDiscard (tag : Nat)
  | keyGenerate (tag : Nat)
  | keyDerive (tag : Nat)
  | attestIdentity (tag : Nat)
  | attestKey (tag : Nat)
  | sha256 (tag : Nat)
  | hmacGen (tag : Nat)
  | hmacVer (tag : Nat)
  | cmacGen (tag : Nat)
  | cmacVer (tag : Nat)
  | cbcEnc (tag : Nat)
  | cbcDec (tag : Nat)
  | ctrEnc (tag : Nat)
  | ctrDec (tag : Nat)
  | gcmEnc (tag : Nat)
  | gcmDec (tag : Nat)
  | hkdf (tag : Nat)
  | ecdsaSign (tag : Nat)
  | ecdsaVerify (tag : Nat)
  | ecdhDerive (tag : Nat)
  | keyWrap (tag : Nat)
  | keyUnwrap (tag : Nat)
  | random (tag : Nat)
  | atlasQuery (tag : Nat) (nand : NandRead)
  | atlasLoad (tag : Nat)
  | atlasCommit (tag : Nat) (nand : NandRead)
  | atlasInfo (tag : Nat)
  | nodePair (tag : Nat)
  | nodeUnpair (tag : Nat)
  | nodeGrant (tag : Nat)
  | nodeRevokeGrant (tag : Nat)
  | nodeMsg (tag : Nat)
  | nodeScanStatus (tag : Nat)
  | nodeScanDiscover (tag : Nat)
  | nodeScanUplinks (tag : Nat)
  | nvRead (tag : Nat) (errors : List NvError)
  | nvWrite (tag : Nat)
  | nvRecordAppend (tag : Nat)
  | nvRecordRead (tag : Nat) (errors : List NvError)
  | nvCounterInc (tag : Nat)
  | mediaRead (tag : Nat) (nand : NandRead)
  | mediaWrite (tag : Nat)
  | mediaDiscard (tag : Nat)
  | mediaSecureDiscard (tag : Nat)
  | mediaHealth (tag : Nat)
  | mediaFlush (tag : Nat)
  | scriptLoad (tag : Nat)
  | scriptRun (tag : Nat)
  | scriptStop (tag : Nat)
  -- host register accesses (chapter 4) and the test port
  | pwrreqSelect (dom : Nat)
  | powerOn (dom : Nat)
  | powerOff (dom : Nat)
  | clkGate (dom : Nat)
  | clkUngate (dom : Nat)
  | warmRst (irqEn : Bool)
  | fnrst (mask : Nat)
  | sqPortWrite (w : Word)
  | doorbell
  | stagingDiscard
  | cqPortRead (haMoved : Bool := false)
  | pop
  | rewind
  | claim (line : Nat) (haMoved : Bool := false)
  | evcDataWrite (w : Word)
  | setDataWrite (w : Word)
  | setDataRead (haMoved : Bool := false)
  | tmrGo (mask : Nat)
  | tmrHalt (mask : Nat)
  | tbSnapshot
  | locknow
  | jrnlHeadCapture (sel : Nat)
  | wdtKick (code : Word)
  | relock (allow : Bool)
  | registerWrite (offset : Nat) (w : Word) (haMoved : Bool := false)
  | unlockAttempt (signature : Bytes)
  | debugHalt (seq : Nat)
  | breakpoint (seq : Nat)
  | singleStep (seq : Nat)
  -- events of the device and its balls
  | coldPowerUp (refsel lfsrc : Bool) (balls : List Bool) (dies : List DieFound) (healthy : Bool)
  | warmReset (cause : Nat) (balls : List Bool)
  | holdupTrip (vhold : Nat := 0)
  | hardLoss (dom : Nat)
  | vsupLow (feed : Nat := 0)
  | vlfLow (mv : Nat)
  | vbatKsLow (mv : Nat)
  | vholdLow (mv : Nat)
  | tamperTrip (sensor : Nat) (readings : List Int := []) (level : Bool := false) (t : Nat := 0)
  | harmChange (level : Bool) (t : Nat)
  | engineRunChange (level : Bool) (t : Nat)
  | doorChange (n : Nat) (level : Bool) (t : Nat)
  | wakeInputChange (n : Nat) (level : Bool) (t : Nat)
  | gpioChange (n : Nat) (level : Bool) (t : Nat)
  | gptCompareMatch (n : Nat)
  | watcherLatch (entry : Nat)
  | tempDerate (sensor : Nat) (reading : Word)
  | aerialFault (n bit : Nat)
  | relayFault (diag : Nat)
  | uhfJam (path code : Nat) (held : Nat := 0)
  | uhfUnlock (path : Nat)
  | uhfRfFault (path : Nat)
  | uwbUnlock
  | uwbJam
  | uwbRfFault
  | trunkFault (trunk : Nat)
  | dieLost (d : Nat)
  | uhfFrame (rx : UhfRx)
  | pollReply (rx : UhfRx)
  | locateReport (rx : UhfRx)
  | authM2 (rx : UhfRx)
  | memData (rx : UhfRx)
  | rangeReady (rx : UhfRx)
  | tpM2 (turn depth : Nat) (bytes : Bytes)
  | response (rx : UwbRx)
  | report (rx : UwbRx)
  | listenWindowClose
  | uwbWindowClose
  | ack (rx : NodeRx)
  | pairReply (rx : NodeRx)
  | msgUp (rx : NodeRx)
  | uplink (rx : NodeRx)
  | idle (rx : NodeRx)
  | anchorReport (rx : NodeRx)
  | replyWindowClose (trunk : Nat)
  | kwewinCycle
  | evidenceExpiry (index : Nat)
  | sessionTimeout (num : Nat)
  | grantExpiry (addr : Nat)
  | relayHoldClose
  | deferralWindowClose (dom : Nat)
  | holdRelease (holder dom : Nat)
  | drainEnd (dom : Nat)
  | deadlineClose (tag : Nat)
  | learnWindowClose
  | watchdogExpiry
  | entropyWindowClose
  | starvationClose (unit : Nat)
  | loopPinExpiry (n : Nat)
  | waitevTimeout (seq : Nat)
  | waittEnd (seq : Nat)
  | ratioWindowClose
  | spreadChange
  | bellowsPoll (noise : Nat)
  | stageChange
  | dozeEntry
  | dozeExit
  | parkEntry
  | deepEntry
  | shelfEntry
  | wakePark
  | wakeDeep
  | functionResetEnd (n : Nat)
  | completionPayloadEnter
  | drbgReady
  | blockAccepted (samples : List Nat := [])
  | healthTestFail (samples : List Nat := [])
  | reseed
  | remask
  | journalFlush
  | chainHeadWrite
  | nvPageWriteEnd
  | scrubPass
  | scrubAtom (errors : List NvError)
  | trimAtom (n : Nat) (below at_ above : Nat)
  | uwbRetune
  | offStateTest (hsOk lsOk : Bool)
  | paritySweep
  | sensorSweep (items : List Word)
  | squelchMeasure (path code : Nat)
  | fold
  | garbageCollection
  | demotion
  | refresh (die : Nat)
  | protectionRewrite (die : Nat)
  | sampleRead (nand : NandRead)
  | holdupTest (vhold droop : Nat)
  | telemetryRecord
  | rebuildDone
  | mediaReady
  | atlasReload (nand : NandRead)
  | scriptRestore (seq : Nat) (nand : NandRead)
  | hammerEntry (seq : Nat)
  -- sequencer instructions (chapter 17)
  | add (seq : Nat)
  | sub (seq : Nat)
  | and (seq : Nat)
  | or (seq : Nat)
  | xor (seq : Nat)
  | shl (seq : Nat)
  | shr (seq : Nat)
  | sar (seq : Nat)
  | mul (seq : Nat)
  | mov (seq : Nat)
  | cmp (seq : Nat)
  | tst (seq : Nat)
  | not (seq : Nat)
  | load (seq : Nat)
  | store (seq : Nat)
  | branch (seq : Nat)
  | call (seq : Nat)
  | ret (seq : Nat)
  | jr (seq : Nat)
  | waitev (seq : Nat)
  | waitt (seq : Nat)
  | lftx (seq : Nat)
  | uhfrx (seq : Nat) (rx : Option UhfRx)
  | uwbrange (seq : Nat) (ready : Option UhfRx) (resp rep : Option UwbRx)
  | aesn (seq : Nat)
  | cmacn (seq : Nat)
  | unitHkdf (seq : Nat)
  | ecmul (seq : Nat)
  | ecdsa (seq : Nat)
  | atlasq (seq : Nat) (nand : NandRead)
  | copy (seq : Nat)
  | crc (seq : Nat)
  | halt (seq : Nat)
  | reti (seq : Nat)
  | ien (seq : Nat)
  | signal (seq : Nat)
  | tbread (seq : Nat)
  | setr (seq : Nat)
  | setw (seq : Nat)
  | draw (seq : Nat)
  | getsrc (seq : Nat)
  | sysNop (seq : Nat)
  -- happenings inside the device that end what a command began
  | completionPresented (tag : Nat)
  | emissionEnd (peaks : List Nat) (load : Bool)
  | turnaroundWindowClose
  | vsupLowClear (feed : Nat := 0)
  | vlfLimit (mv : Nat)
  | tempDerateClear
  | bridgeOvertempClear (bank : Nat)
  | vholdCollapse
  | hrstNRise
  | synthesiserRelock (unit : Nat)
  | debugMemoryWrite (seq space addr : Nat) (bytes : Bytes)
deriving DecidableEq, Repr

end Sys2Proof
end

