-- ==== Sys2Proof/Decode.lean ====
section
/-!
DEFINITION. The command a table word spells. The opcode table gives no row any bits, so no word spells a command.
-/

namespace Sys2Proof

/-- The command spelled by the `nbits` bits of `w`, over the rows that give bits: there are none. -/
def decodeTableWord (_nbits _w : Nat) : Option Instr := none

end Sys2Proof
end

