-- ==== Sys2Proof/Machine/Bytes.lean ====
section
/-!
DEFINITION. Byte and word order (R4, R5, R6, R106): how numbers and byte strings lie in words, and the
bit-field helpers every chapter's layouts use.
-/

namespace Sys2Proof.Machine

/-- The field [hi:lo] of a number (R4: both bits belong to it). -/
def field (hi lo : Nat) (v : Nat) : Nat := (v >>> lo) % 2 ^ (hi + 1 - lo)

/-- Bit `n` of a number (R4). -/
def bit (n : Nat) (v : Nat) : Bool := v.testBit n

/-- 1 or 0. -/
def b2n (b : Bool) : Nat := if b then 1 else 0

/-- A number cut to a word. -/
def word (v : Nat) : Word := BitVec.ofNat 16 v

/-- A number cut to a byte. -/
def byte (v : Nat) : Byte := BitVec.ofNat 8 v

/-- The `n` bytes of a number, lowest first (R5). -/
def leBytes : Nat → Nat → Bytes
  | 0, _ => []
  | n + 1, v => byte v :: leBytes n (v / 256)

/-- The `n` bytes of a number, most significant first (R6). -/
def beBytes (n v : Nat) : Bytes := (leBytes n v).reverse

/-- The number a byte string spells, lowest byte first (R5). -/
def leNat : Bytes → Nat
  | [] => 0
  | b :: bs => b.toNat + 256 * leNat bs

/-- The number a byte string spells, most significant byte first (R6). -/
def beNat (bs : Bytes) : Nat := bs.foldl (fun a b => a * 256 + b.toNat) 0

/-- The `n` words of a number, lowest first (R5). -/
def leWords : Nat → Nat → List Word
  | 0, _ => []
  | n + 1, v => word v :: leWords n (v / 65536)

/-- The number words spell, lowest first (R5). -/
def wordsNat : List Word → Nat
  | [] => 0
  | w :: ws => w.toNat + 65536 * wordsNat ws

/-- The bytes of words: byte 2i in bits [7:0] of word i, byte 2i+1 in bits [15:8] (R106). -/
def wordsToBytes : List Word → Bytes
  | [] => []
  | w :: ws => byte w.toNat :: byte (w.toNat / 256) :: wordsToBytes ws

/-- The words of a byte string; an odd length is padded with one zero byte (R106). -/
def bytesToWords : Bytes → List Word
  | [] => []
  | [a] => [word a.toNat]
  | a :: b :: bs => word (a.toNat + 256 * b.toNat) :: bytesToWords bs

/-- `n` bytes of a string from offset `o`, short when the string ends. -/
def slice (o n : Nat) (bs : List α) : List α := (bs.drop o).take n

/-- Exactly `n` entries of a list, padded with `d`. -/
def fit (n : Nat) (d : α) (l : List α) : List α := (l ++ List.replicate n d).take n

/-- Byte-wise exclusive or, as long as the shorter. -/
def xorBytes (a b : Bytes) : Bytes := List.zipWith (· ^^^ ·) a b

/-- Words `i..` of a list written over by `ws`. -/
def overwrite (l : List α) (i : Nat) : List α → List α
  | [] => l
  | w :: ws => overwrite (l.set i w) (i + 1) ws

/-- The entries of `l` at and after index `i`, with the indices. -/
def indexedFrom (i : Nat) : List α → List (Nat × α)
  | [] => []
  | a :: as => (i, a) :: indexedFrom (i + 1) as

/-- The number whose bit `i` is the i-th entry. -/
def bitsNat : List Bool → Nat
  | [] => 0
  | b :: bs => b2n b + 2 * bitsNat bs

/-- The indices below `n` whose bit is set in `m`, rising. -/
def bitsOf (n m : Nat) : List Nat := (List.range n).filter (fun i => m.testBit i)

/-- How many bits below `n` are set. -/
def popcount (n m : Nat) : Nat := (bitsOf n m).length

/-- Two's complement reading of the low `n` bits. -/
def signed (n v : Nat) : Int := (BitVec.ofNat n v).toInt

/-- Division rounding up. -/
def ceilDiv (a b : Nat) : Nat := (a + b - 1) / b

end Sys2Proof.Machine
end

