-- ==== Sys2Proof/Machine/Crypto.lean ====
section
/-!
DEFINITION. The published standards of R15 the device meets: SHA-256 (FIPS 180-4), HMAC (FIPS 198-1), HKDF (RFC 5869),
AES (FIPS 197), CMAC (SP 800-38B), CBC and CTR (SP 800-38A), GCM (SP 800-38D), P-256 ECDH and ECDSA (SP 800-56A,
FIPS 186-5), CTR_DRBG with AES-256 and derivation function (SP 800-90A), and the CRCs of the links.
The spec names the standards and gives none of their tables: PRESUMED, log entry 3.
-/

namespace Sys2Proof.Machine

/-! ### SHA-256 -/

/-- FIPS 180-4 4.2.2: the first 32 bits of the fractional parts of the cube roots of the first 64 primes, the first in the lowest
bits. -/
def shaRoots3 : Nat :=
  0xc19bf1749bdc06a780deb1fe72be5d74550c7dc3243185be12835b01d807aa98ab1c5ed5923f82a459f111f13956c25be9b5dba5b5c0fbcf71374491428a2f98 * 2 ^ 0 +
  0x1429296706ca6351d5a79147c6e00bf3bf597fc7b00327c8a831c66d983e515276f988da5cb0a9dc4a7484aa2de92c6f240ca1cc0fc19dc6efbe4786e49b69c1 * 2 ^ 512 +
  0x106aa070f40e3585d6990624d192e819c76c51a3c24b8b70a81a664ba2bfe8a192722c8581c2c92e766a0abb650a735453380d134d2c6dfc2e1b213827b70a85 * 2 ^ 1024 +
  0xc67178f2bef9a3f7a4506ceb90befffa8cc7020884c8781478a5636f748f82ee682e6ff35b9cca4f4ed8aa4a391c0cb334b0bcb52748774c1e376c0819a4c116 * 2 ^ 1536

/-- FIPS 180-4 5.3.3: the same of the square roots of the first eight primes. -/
def shaRoots2 : Nat := 0x5be0cd191f83d9ab9b05688c510e527fa54ff53a3c6ef372bb67ae856a09e667

/-- Number `i` of a packed table of 32-bit words. -/
def packed32 (table i : Nat) : BitVec 32 := BitVec.ofNat 32 (table / 2 ^ (32 * i))

/-- The padded message (FIPS 180-4 5.1.1). -/
def shaPad (m : Bytes) : Bytes :=
  m ++ [0x80] ++ List.replicate ((119 - m.length % 64) % 64) 0 ++ beBytes 8 (8 * m.length)

/-- Three rotations of a word, exclusive-ored: the functions Σ of FIPS 180-4 4.1.2. -/
def turns (i j k : Nat) (x : BitVec 32) : BitVec 32 := x.rotateRight i ^^^ x.rotateRight j ^^^ x.rotateRight k

/-- The same with a shift in the third place: the functions σ. -/
def slides (i j k : Nat) (x : BitVec 32) : BitVec 32 := x.rotateRight i ^^^ x.rotateRight j ^^^ (x >>> k)

/-- The word of the message schedule that comes sixteen places behind the first of `w` (FIPS 180-4 6.2.2). -/
def shaNext (w : List (BitVec 32)) : BitVec 32 :=
  slides 17 19 10 (w.getD 14 0) + w.getD 9 0 + slides 7 18 3 (w.getD 1 0) + w.getD 0 0

/-- The working variables a–h after a round whose constant and schedule word add up to `x` (FIPS 180-4 6.2.2): choice on e, f, g, majority
on a, b, c. -/
def shaTurn (x : BitVec 32) : List (BitVec 32) → List (BitVec 32)
  | [a, b, c, d, e, f, g, h] =>
    let choice := (e &&& f) ^^^ (~~~e &&& g)
    let majority := (a &&& (b ^^^ c)) ^^^ (b &&& c)
    let into := h + turns 6 11 25 e + choice + x
    [into + turns 2 13 22 a + majority, a, b, c, d + into, e, f, g]
  | v => v

/-- The last `n` of the 64 rounds; `w` holds the schedule's next sixteen words. -/
def shaTurns : Nat → List (BitVec 32) → List (BitVec 32) → List (BitVec 32)
  | 0, _, v => v
  | n + 1, w, v => shaTurns n (w.drop 1 ++ [shaNext w]) (shaTurn (packed32 shaRoots3 (63 - n) + w.getD 0 0) v)

/-- The hash value after one more block of 64 bytes, each word most significant byte first. -/
def shaBlock (h : List (BitVec 32)) (blk : Bytes) : List (BitVec 32) :=
  let w := (List.range 16).map (fun i => BitVec.ofNat 32 (beNat (slice (4 * i) 4 blk)))
  (h.zip (shaTurns 64 w h)).map (fun p => p.1 + p.2)

/-- Blocks of SHA-256, `n` of them. -/
def shaBlocks : Nat → List (BitVec 32) → Bytes → List (BitVec 32)
  | 0, h, _ => h
  | n + 1, h, bs => shaBlocks n (shaBlock h (bs.take 64)) (bs.drop 64)

/-- SHA-256 of a byte string (FIPS 180-4): 32 bytes. -/
@[irreducible] def sha256 (m : Bytes) : Bytes :=
  let p := shaPad m
  (shaBlocks (p.length / 64) ((List.range 8).map (packed32 shaRoots2)) p).flatMap (fun w => beBytes 4 w.toNat)

/-- HMAC-SHA-256 (FIPS 198-1). -/
@[irreducible] def hmac (key m : Bytes) : Bytes :=
  let k := fit 64 0 (if key.length > 64 then sha256 key else key)
  sha256 (k.map (· ^^^ 0x5c) ++ sha256 (k.map (· ^^^ 0x36) ++ m))

/-- HKDF expand blocks (RFC 5869 2.3). -/
def hkdfBlocks (prk info : Bytes) : Nat → Nat → Bytes → Bytes
  | 0, _, _ => []
  | n + 1, i, t =>
    let t' := hmac prk (t ++ info ++ [byte i])
    t' ++ hkdfBlocks prk info n (i + 1) t'

/-- HKDF-SHA-256, extract and expand (RFC 5869), `len` bytes. -/
@[irreducible] def hkdf (ikm salt info : Bytes) (len : Nat) : Bytes :=
  let prk := hmac (if salt = [] then List.replicate 32 0 else salt) ikm
  (hkdfBlocks prk info (ceilDiv len 32) 1 []).take len

/-! ### AES -/

/-- Multiplication by x in GF(2^8). -/
def xtime (a : Byte) : Byte := (a <<< 1) ^^^ (if a.getLsbD 7 then 0x1b else 0)

/-- Multiplication in GF(2^8) by the low `n` bits of `b`. -/
def gmul : Nat → Byte → Byte → Byte
  | 0, _, _ => 0
  | n + 1, a, b => (if b.getLsbD 0 then a else 0) ^^^ gmul n (xtime a) (b >>> 1)

/-- The S-box table of FIPS 197 5.1.1, the entry of 0 in the lowest byte. -/
def sboxTable : Nat :=
  0x75b227ebe28012079a059618c323c7041531d871f1e5a534ccf73f362693fdb7c072a49cafa2d4adf04759fa7dc982ca76abd7fe2b670130c56f6bf27b777c63 * 2 ^ 0 +
  0xd2f3ff1021dab6bcf5389d928f40a351a89f3c507f02f94585334d43fbaaefd0cf584c4a39becb6a5bb1fc20ed00d153842fe329b3d63b52a05a6e1b1a2c8309 * 2 ^ 512 +
  0x08ae7a65eaf4566ca94ed58d6d37c8e779e4959162acd3c25c2406490a3a32e0db0b5ede14b8ee4688902a22dc4f816073195d643d7ea7c41744975fec130ccd * 2 ^ 1024 +
  0x16bb54b00f2d99416842e6bf0d89a18cdf2855cee9871e9b948ed9691198f8e19e1dc186b95735610ef6034866b53e708a8bbd4b1f74dde8c6b4a61c2e2578ba * 2 ^ 1536

/-- The S-box (FIPS 197 5.1.1). -/
def sbox (a : Byte) : Byte := BitVec.ofNat 8 (sboxTable / 2 ^ (8 * a.toNat))

/-- The inverse S-box table of FIPS 197 5.3.2, the entry of 0 in the lowest byte. -/
def invSboxTable : Nat :=
  0x25d18b6d49a25b76b224d92866a12e084ec3fa420b954cee3d23c2a632947b54cbe9dec444438e3487ff2f9b8239e37cfbd7f3819ea340bf38a53630d56a0952 * 2 ^ 0 +
  0x6b8a130103bdafc1020f3fca8f1e2cd00645b3b80558e4f70ad3bc8c00abd890849d8da75746155edab9edfd5048706c92b6655dcc5ca4d41698688664f6f872 * 2 ^ 512 +
  0xf45acd78fec0db9a2079d2c64b3e56fc1bbe18aa0e62b76f89c5291d711af1476edf751ce837f9e28535ade72274ac9673e6b4f0cecff297eadc674f4111913a * 2 ^ 1024 +
  0x7d0c2155631469e126d677ba7e042b17619953833cbbebc8b0f52aae4d3be0a0ef9cc9939f7ae52d0d4ab519a97f51605fec8027591012b131c7078833a8dd1f * 2 ^ 1536

/-- The inverse S-box (FIPS 197 5.3.2). -/
def invSbox (a : Byte) : Byte := BitVec.ofNat 8 (invSboxTable / 2 ^ (8 * a.toNat))

/-- Key expansion, newest word first; `nk` is 4 or 8. -/
def aesExpand (nk : Nat) : Nat → Nat → Byte → List Bytes → List Bytes
  | 0, _, _, acc => acc
  | n + 1, i, rc, acc =>
    let t := acc.headD []
    let u :=
      if i % nk = 0 then
        match t with
        | [a, b, c, d] => [sbox b ^^^ rc, sbox c, sbox d, sbox a]
        | t => t
      else if nk > 6 ∧ i % nk = 4 then t.map sbox
      else t
    aesExpand nk n (i + 1) (if i % nk = 0 then xtime rc else rc) (xorBytes (acc.getD (nk - 1) []) u :: acc)

/-- A list cut into pieces of four. -/
def fours : Nat → Bytes → List Bytes
  | 0, _ => []
  | n + 1, bs => bs.take 4 :: fours n (bs.drop 4)

/-- Words joined by fours into round keys. -/
def roundKeys : Nat → List Bytes → List Bytes
  | 0, _ => []
  | n + 1, ws => (ws.take 4).flatten :: roundKeys n (ws.drop 4)

/-- The round keys of a 16- or 32-byte key, first first. -/
def aesKeys (key : Bytes) : List Bytes :=
  if key.length = 32 then
    roundKeys 15 (aesExpand 8 52 8 1 (fours 8 key).reverse).reverse
  else
    roundKeys 11 (aesExpand 4 40 4 1 (fours 4 (fit 16 0 key)).reverse).reverse

/-- Row r of column c moves to column c - r (FIPS 197 5.1.2). -/
def shiftRows (s : Bytes) : Bytes :=
  (List.range 16).map (fun i => s.getD ((i + 4 * (i % 4)) % 16) 0)

/-- The inverse of `shiftRows`. -/
def invShiftRows (s : Bytes) : Bytes :=
  (List.range 16).map (fun i => s.getD ((i + 12 * (i % 4)) % 16) 0)

/-- One column by the four coefficients of a mixing row. -/
def mixColumn (m : List Byte) (c : Bytes) : Bytes :=
  (List.range 4).map (fun r =>
    (List.range 4).foldl (fun acc j => acc ^^^ gmul 4 (c.getD j 0) (m.getD ((j + 4 - r) % 4) 0)) 0)

/-- MixColumns with coefficients `m` (FIPS 197 5.1.3, 5.3.3). -/
def mixColumns (m : List Byte) (s : Bytes) : Bytes := (fours 4 s).flatMap (mixColumn m)

/-- AES encryption of one block (FIPS 197). -/
@[irreducible] def aesEnc (key blk : Bytes) : Bytes :=
  match aesKeys key with
  | [] => blk
  | k0 :: ks =>
    let s := ks.dropLast.foldl
      (fun s k => xorBytes (mixColumns [2, 3, 1, 1] (shiftRows (s.map sbox))) k) (xorBytes blk k0)
    xorBytes (shiftRows (s.map sbox)) (ks.getLastD [])

/-- AES decryption of one block (FIPS 197). -/
@[irreducible] def aesDec (key blk : Bytes) : Bytes :=
  match (aesKeys key).reverse with
  | [] => blk
  | k0 :: ks =>
    let s := ks.dropLast.foldl
      (fun s k => mixColumns [14, 11, 13, 9] (xorBytes ((invShiftRows s).map invSbox) k)) (xorBytes blk k0)
    xorBytes ((invShiftRows s).map invSbox) (ks.getLastD [])

/-- Doubling in GF(2^128) of SP 800-38B. -/
def cmacDbl (b : Bytes) : Bytes :=
  let v := BitVec.ofNat 128 (beNat b)
  beBytes 16 ((v <<< 1) ^^^ (if v.getLsbD 127 then 0x87#128 else 0#128)).toNat

/-- The CBC chain of CMAC over whole blocks. -/
def cmacChain (key : Bytes) : Nat → Bytes → Bytes → Bytes
  | 0, c, _ => c
  | n + 1, c, bs => cmacChain key n (aesEnc key (xorBytes c (bs.take 16))) (bs.drop 16)

/-- CMAC (SP 800-38B): 16 bytes; a shorter tag is its leftmost bytes. -/
@[irreducible] def cmac (key m : Bytes) : Bytes :=
  let k1 := cmacDbl (aesEnc key (List.replicate 16 0))
  let n := (m.length - 1) / 16
  let last := m.drop (16 * n)
  let lastBlk :=
    if last.length = 16 then xorBytes last k1
    else xorBytes (fit 16 0 (last ++ [0x80])) (cmacDbl k1)
  aesEnc key (xorBytes (cmacChain key n (List.replicate 16 0) m) lastBlk)

/-- CBC encryption of `n` blocks (SP 800-38A). -/
def cbcEnc (key : Bytes) : Nat → Bytes → Bytes → Bytes
  | 0, _, _ => []
  | n + 1, iv, bs =>
    let c := aesEnc key (xorBytes iv (bs.take 16))
    c ++ cbcEnc key n c (bs.drop 16)

/-- CBC decryption of `n` blocks (SP 800-38A). -/
def cbcDec (key : Bytes) : Nat → Bytes → Bytes → Bytes
  | 0, _, _ => []
  | n + 1, iv, bs =>
    xorBytes iv (aesDec key (bs.take 16)) ++ cbcDec key n (bs.take 16) (bs.drop 16)

/-- The CTR key stream of `n` blocks, a 128-bit counter incremented by one. -/
def ctrStream (key : Bytes) : Nat → Nat → Bytes
  | 0, _ => []
  | n + 1, c => aesEnc key (beBytes 16 c) ++ ctrStream key n (c + 1)

/-- CTR encryption and decryption from an initial counter block (SP 800-38A). -/
@[irreducible] def ctrCrypt (key iv m : Bytes) : Bytes :=
  xorBytes m (ctrStream key (ceilDiv m.length 16) (beNat iv))

/-- GHASH product of SP 800-38D, over the bits of `y` from the most significant. -/
def ghashMul : Nat → BitVec 128 → BitVec 128 → BitVec 128 → BitVec 128
  | 0, z, _, _ => z
  | n + 1, z, v, y =>
    ghashMul n (if y.getLsbD 127 then z ^^^ v else z)
      ((v >>> 1) ^^^ (if v.getLsbD 0 then 0xE1000000000000000000000000000000#128 else 0#128)) (y <<< 1)

/-- GHASH over `n` blocks. -/
def ghash (h : BitVec 128) : Nat → BitVec 128 → Bytes → BitVec 128
  | 0, z, _ => z
  | n + 1, z, bs => ghash h n (ghashMul 128 0 h (z ^^^ BitVec.ofNat 128 (beNat (bs.take 16)))) (bs.drop 16)

/-- Zero padding to a whole number of 16-byte blocks. -/
def pad16 (b : Bytes) : Bytes := b ++ List.replicate ((16 - b.length % 16) % 16) 0

/-- The CTR stream of GCM: only the low 32 bits count. -/
def gctrStream (key j0 : Bytes) : Nat → Nat → Bytes
  | 0, _ => []
  | n + 1, c => aesEnc key (j0 ++ beBytes 4 c) ++ gctrStream key j0 n (c + 1)

/-- The GCM tag of a ciphertext under a 96-bit IV (SP 800-38D): 16 bytes. -/
@[irreducible] def gcmTag (key iv aad ct : Bytes) : Bytes :=
  let h := BitVec.ofNat 128 (beNat (aesEnc key (List.replicate 16 0)))
  let x := pad16 aad ++ pad16 ct ++ beBytes 8 (8 * aad.length) ++ beBytes 8 (8 * ct.length)
  xorBytes (beBytes 16 (ghash h (x.length / 16) 0 x).toNat) (aesEnc key (iv ++ beBytes 4 1))

/-- GCM encryption and decryption of the data part. -/
@[irreducible] def gcmCrypt (key iv m : Bytes) : Bytes :=
  xorBytes m (gctrStream key iv (ceilDiv m.length 16) 2)

/-! ### P-256 -/

/-- The field prime of P-256. -/
def p256p : Nat := 0xffffffff00000001000000000000000000000000ffffffffffffffffffffffff
/-- The group order of P-256. -/
def p256n : Nat := 0xffffffff00000000ffffffffffffffffbce6faada7179e84f3b9cac2fc632551
/-- The coefficient b of P-256. -/
def p256b : Nat := 0x5ac635d8aa3a93e7b3ebbd55769886bc651d06b0cc53b0f63bce3c3e27d2604b
/-- The base point of P-256. -/
def p256g : Option (Nat × Nat) :=
  some (0x6b17d1f2e12c4247f8bce6e563a440f277037d812deb33a0f4a13945d898c296,
        0x4fe342e2fe1a7f9b8ee7eb4a7c0f9e162bce33576b315ececbb6406837bf51f5)

/-- a^e mod m over the low `n` bits of `e`. -/
def powMod (m : Nat) : Nat → Nat → Nat → Nat
  | 0, _, _ => 1 % m
  | n + 1, a, e =>
    let r := powMod m n (a * a % m) (e / 2)
    if e % 2 = 1 then a * r % m else r

/-- Inverse modulo a 256-bit prime. -/
def invMod (m a : Nat) : Nat := powMod m 256 (a % m) (m - 2)

/-- Point addition on P-256; `none` is the point at infinity. -/
def ecAdd : Option (Nat × Nat) → Option (Nat × Nat) → Option (Nat × Nat)
  | none, q => q
  | p, none => p
  | some (x1, y1), some (x2, y2) =>
    if x1 = x2 ∧ (y1 + y2) % p256p = 0 then none
    else
      let l :=
        if x1 = x2 then (3 * x1 * x1 + (p256p - 3)) * invMod p256p (2 * y1) % p256p
        else (y2 + p256p - y1) * invMod p256p (x2 + p256p - x1) % p256p
      let x3 := (l * l + 2 * p256p - x1 - x2) % p256p
      some (x3, (l * (x1 + p256p - x3) + p256p - y1) % p256p)

/-- Scalar multiplication over the low `n` bits of `k`. -/
def ecMulBits : Nat → Nat → Option (Nat × Nat) → Option (Nat × Nat)
  | 0, _, _ => none
  | n + 1, k, p =>
    let r := ecMulBits n (k / 2) (ecAdd p p)
    if k % 2 = 1 then ecAdd p r else r

/-- Scalar multiplication on P-256. -/
@[irreducible] def ecMul (k : Nat) (p : Option (Nat × Nat)) : Option (Nat × Nat) := ecMulBits 256 k p

/-- A 64-byte public point, X then Y, most significant byte first, when it lies on the curve. -/
def ecPoint (b : Bytes) : Option (Nat × Nat) :=
  let x := beNat (b.take 32)
  let y := beNat (b.drop 32)
  if b.length = 64 ∧ x < p256p ∧ y < p256p ∧
      y * y % p256p = (x * x % p256p * x + (p256p - 3) * x + p256b) % p256p then some (x, y) else none

/-- The bytes of a point, X then Y. -/
def ecBytes : Option (Nat × Nat) → Bytes
  | some (x, y) => beBytes 32 x ++ beBytes 32 y
  | none => List.replicate 64 0

/-- The public point of a private key. -/
def ecPub (priv : Bytes) : Bytes := ecBytes (ecMul (beNat priv) p256g)

/-- ECDH (SP 800-56A): the X coordinate, or nothing for a point off the curve or at infinity. -/
def ecdh (priv pub : Bytes) : Option Bytes :=
  match ecPoint pub with
  | none => none
  | some p => (ecMul (beNat priv % p256n) (some p)).map (fun q => beBytes 32 q.1)

/-- ECDSA with the per-message secret `k` (FIPS 186-5): r then s, 64 bytes. -/
@[irreducible] def ecdsaSign (priv hash k : Bytes) : Bytes :=
  let kn := beNat k % p256n
  let r := ((ecMul kn p256g).map (fun q => q.1 % p256n)).getD 0
  let sg := invMod p256n kn * (beNat hash + r * beNat priv) % p256n
  beBytes 32 r ++ beBytes 32 sg

/-- ECDSA verification over a 32-byte hash (FIPS 186-5). -/
@[irreducible] def ecdsaVerify (pub hash sig : Bytes) : Bool :=
  let r := beNat (sig.take 32)
  let sg := beNat (slice 32 32 sig)
  match ecPoint pub with
  | none => false
  | some q =>
    if r = 0 ∨ sg = 0 ∨ p256n ≤ r ∨ p256n ≤ sg ∨ sig.length ≠ 64 then false
    else
      let w := invMod p256n sg
      match ecAdd (ecMul (beNat hash * w % p256n) p256g) (ecMul (r * w % p256n) (some q)) with
      | none => false
      | some (x, _) => x % p256n == r

/-! ### CTR_DRBG with AES-256 (SP 800-90A) -/

/-- `n` output blocks of a CTR_DRBG and the counter after them. -/
def drbgBlocks (key : Bytes) : Nat → Nat → Bytes × Nat
  | 0, v => ([], v)
  | n + 1, v =>
    let v' := (v + 1) % 2 ^ 128
    let r := drbgBlocks key n v'
    (aesEnc key (beBytes 16 v') ++ r.1, r.2)

/-- CTR_DRBG_Update: the new key and counter from 48 bytes of data. -/
@[irreducible] def drbgUpdate (key : Bytes) (v : Nat) (data : Bytes) : Bytes × Nat :=
  let t := xorBytes (drbgBlocks key 3 v).1 data
  (t.take 32, beNat (t.drop 32))

/-- BCC of the derivation function. -/
def drbgBcc (key data : Bytes) : Bytes := cmacChain key (data.length / 16) (List.replicate 16 0) data

/-- The derivation function's output blocks. -/
def drbgDfOut (key : Bytes) : Nat → Bytes → Bytes
  | 0, _ => []
  | n + 1, x => let y := aesEnc key x; y ++ drbgDfOut key n y

/-- The block-cipher derivation function to 48 bytes (SP 800-90A 10.3.2). -/
@[irreducible] def drbgDf (input : Bytes) : Bytes :=
  let s := pad16 (beBytes 4 input.length ++ beBytes 4 48 ++ input ++ [0x80])
  let key := (List.range 32).map byte
  let t := (List.range 3).flatMap (fun i => drbgBcc key (beBytes 4 i ++ List.replicate 12 0 ++ s))
  drbgDfOut (t.take 32) 3 (slice 32 16 t)

/-! ### CRCs -/

/-- One byte into a CRC of `w` bits with polynomial `poly`. -/
def crcByte (w poly : Nat) : Nat → Nat → Nat
  | 0, c => c
  | n + 1, c => crcByte w poly n (if c.testBit (w - 1) then (2 * c % 2 ^ w) ^^^ poly else 2 * c % 2 ^ w)

/-- A CRC of `w` bits over bytes, most significant bit first, from `init`. -/
def crc (w poly init : Nat) (bs : Bytes) : Nat :=
  bs.foldl (fun c b => crcByte w poly 8 (c ^^^ (b.toNat <<< (w - 8)))) init

/-- One byte into a CRC that takes the least significant bit first; `poly` is the reversed polynomial. -/
def crcLow (poly : Nat) : Nat → Nat → Nat
  | 0, c => c
  | n + 1, c => crcLow poly n (if c.testBit 0 then (c / 2) ^^^ poly else c / 2)

end Sys2Proof.Machine
end

