-- ==== Sys2Proof/Config.lean ====
section
/-!
DEFINITION. What the spec leaves open: free values. Each is an opaque constant with no body, so nothing in Lean can
evaluate it or prove a value of it. A meaning applies one to the counter `free` of the state and advances the counter,
so each open choice takes a value of its own.
-/

namespace Sys2Proof.Config

/-- An open number (for example the noise of the entropy source, R366). -/
opaque freeNat : Nat → Nat

/-- An open word (for example a register of a function after a host error, R13). -/
opaque freeWord : Nat → Word

/-- An open byte. -/
opaque freeByte : Nat → Byte

/-- An open choice between two outcomes. -/
opaque freeBool : Nat → Bool

/-- An angle between two Q8.8 values is reported as the one of greater magnitude: R251 does not state the rounding. -/
opaque angleUp : Int → Nat → Bool

/-- The bytes of Dasuric's script anchor, the public key of R421 that the boot ROM holds. -/
opaque scriptAnchor : Nat → Byte

end Sys2Proof.Config
end

