-- ==== Sys2Proof/Machine/Cells.lean ====
section
/-!
DEFINITION. Sparse stores in one canonical form: a list of (key, value) pairs with strictly rising keys and no entry equal
to what an unlisted key reads as. The settings space, the EEPROM's host pages, the volumes, the sequencers' RAM and
the shared banks are held so; equal contents are equal lists.
-/

namespace Sys2Proof.Machine

/-- The value at a key; `d` is what an unlisted key reads as. -/
def cellGet {α : Type} (d : α) (k : Nat) : List (Nat × α) → α
  | [] => d
  | (a, v) :: cs => if a = k then v else cellGet d k cs

/-- The entry of a key put in its place, or taken out where the value is the default. -/
def cellPut {α : Type} [DecidableEq α] (d : α) (k : Nat) (v : α) : List (Nat × α) → List (Nat × α)
  | [] => if v = d then [] else [(k, v)]
  | (a, w) :: cs =>
    if a < k then (a, w) :: cellPut d k v cs
    else if a = k then (if v = d then cs else (k, v) :: cs)
    else (if v = d then (a, w) :: cs else (k, v) :: (a, w) :: cs)

/-- The canonical form, with every key at or above `n`. -/
def cellsFrom {α : Type} [DecidableEq α] (d : Nat → α) (n : Nat) : List (Nat × α) → Bool
  | [] => true
  | (a, v) :: cs => decide (n ≤ a) && decide (v ≠ d a) && cellsFrom d (a + 1) cs

/-- The canonical form of a store. -/
def cellsWf {α : Type} [DecidableEq α] (d : Nat → α) (cs : List (Nat × α)) : Bool := cellsFrom d 0 cs

/-- The `n` values at keys `k`, `k + 1`, … . -/
def cellsRead {α : Type} (d : α) (k : Nat) : Nat → List (Nat × α) → List α
  | 0, _ => []
  | n + 1, cs => cellGet d k cs :: cellsRead d (k + 1) n cs

/-- Values written at keys `k`, `k + 1`, … . -/
def cellsWrite {α : Type} [DecidableEq α] (d : α) (k : Nat) : List α → List (Nat × α) → List (Nat × α)
  | [], cs => cs
  | v :: vs, cs => cellsWrite d (k + 1) vs (cellPut d k v cs)

/-- Every entry with a key in [k, k + n) taken out. -/
def cellsClear {α : Type} (k n : Nat) (cs : List (Nat × α)) : List (Nat × α) :=
  cs.filter (fun c => !(k ≤ c.1 && c.1 < k + n))

end Sys2Proof.Machine
end

