-- ==== Sys2Proof/Machine/Tables.lean ====
section
/-!
DEFINITION. The fixed tables of the spec that the state is shaped by: the settings of every unit (R129, with the tables of
the units' chapters), and the sources of the event controller with their ports, classes, kinds and watcher entries (R147).
-/

namespace Sys2Proof.Machine

/-- A row of a settings table: first address, words, range of the value, default, lock class (0 U, 1 RO, 2 SO) and the
bits that are not reserved. -/
structure SettingRow where
  addr : Nat
  words : Nat
  lo : Nat
  hi : Nat
  dflt : Nat
  lock : Nat
  mask : Nat
deriving DecidableEq, Repr

/-- A writable setting of one word whose every bit may be written. -/
def uRow (addr lo hi dflt : Nat) : SettingRow := ⟨addr, 1, lo, hi, dflt, 0, 0xFFFF⟩

/-- A writable setting of two words. -/
def uRow2 (addr lo hi dflt : Nat) : SettingRow := ⟨addr, 2, lo, hi, dflt, 0, 0xFFFFFFFF⟩

/-- A writable setting with reserved bits. -/
def mRow (addr mask dflt : Nat) : SettingRow := ⟨addr, 1, 0, 0xFFFF, dflt, 0, mask⟩

/-- A read-only setting. -/
def roRow (addr words dflt : Nat) : SettingRow := ⟨addr, words, 0, 0, dflt, 1, 0xFFFFFFFF⟩

/-- SYS (R135) and PWR (R59). -/
def sysRows : List SettingRow :=
  [⟨0x000000, 2, 0, 0x1FFFF, 0, 2, 0x1FFFF⟩, uRow 0x000010 0 3 2, uRow 0x000012 50 1000 300, uRow 0x000020 50 99 90,
   uRow 0x010000 1 200 20, uRow 0x010001 0 65535 50, uRow 0x010002 0 65535 0xFFFF, mRow 0x010003 0x00FF 0x007F]

/-- LF, but for the aerials (R212). -/
def lfRows : List SettingRow :=
  [roRow 0x020000 2 0, uRow2 0x020002 107547 161319 134433, uRow 0x020004 0 1 0, uRow 0x020005 64 250 188,
   uRow 0x020006 32 128 64, uRow 0x020007 0 4 2, uRow 0x020010 0 255 60, uRow 0x020011 1 64 8,
   uRow 0x020020 110 160 150, uRow 0x020021 6000 16000 8000, uRow 0x020030 0 3600 600,
   uRow 0x020040 100 10000 150, uRow 0x020041 100 10000 10000, uRow 0x020042 0 10000 0, uRow 0x020043 0 65535 0,
   uRow 0x020050 100 10000 150, uRow 0x020051 1 65535 5, uRow 0x020052 100 10000 250, uRow 0x020053 1 65535 30,
   uRow 0x020054 100 10000 400, uRow 0x020055 1 65535 120, uRow 0x020056 100 10000 600, uRow 0x020057 1 65535 480,
   uRow 0x020058 100 10000 1000, uRow 0x020059 1 65535 1440, uRow 0x02005A 100 10000 1600, uRow 0x02005B 1 65535 4320,
   uRow 0x02005C 100 10000 2500, uRow 0x02005D 1 65535 10080,
   roRow 0x020200 1 0, roRow 0x020201 1 0, roRow 0x020202 2 0]

/-- The settings of aerial n (R212). -/
def aerialRows (n : Nat) : List SettingRow :=
  let b := 0x020100 + 0x10 * n
  [mRow b 0x00FF 0x0095, roRow (b + 1) 1 16, uRow (b + 2) 0 31 0, uRow (b + 3) 0 31 31, mRow (b + 4) 0x801F 0,
   uRow (b + 5) 0 65535 0, roRow (b + 6) 1 0, roRow (b + 7) 1 0]

/-- UHF (R229) and UWB (R255). -/
def radioRows : List SettingRow :=
  [uRow 0x030000 0 3 1, uRow 0x030001 0 1 0, uRow 0x030002 1 3 3, uRow 0x030003 200 1000 400, uRow 0x030004 20 240 60,
   uRow 0x030005 1 100 5, roRow 0x030010 1 0, roRow 0x030011 2 0, roRow 0x030013 1 0, roRow 0x030014 2 0,
   roRow 0x030016 2 0,
   uRow 0x040000 5 9 9, uRow 0x040001 9 12 9, uRow 0x040002 0 2 1, uRow 0x040003 64 4095 1280, uRow 0x040004 64 255 160,
   uRow 0x040005 16 512 64, uRow 0x040006 256 4096 1536, uRow 0x040007 5 50 20, uRow 0x040008 10 100 50,
   uRow 0x040010 200 800 500, uRow 0x040011 200 800 400, uRow 0x040012 200 800 400, uRow 0x040013 0 2 1,
   uRow 0x040014 0 1 0, roRow 0x040020 2 0, roRow 0x040022 1 0, roRow 0x040023 1 0]

/-- DEC, REL (R315), KEY (R351), ATL (R290). -/
def decideRows : List SettingRow :=
  [roRow 0x050000 2 0, roRow 0x050002 2 0, roRow 0x050004 1 0, roRow 0x050005 1 0,
   uRow 0x060000 1 300 30, uRow 0x060001 20 1000 60, uRow 0x060002 100 2000 600, uRow 0x060003 1 4 2,
   uRow 0x060004 1 3600 30, uRow 0x060005 10 1000 100,
   uRow 0x060010 0 65535 2, uRow 0x060011 0 65535 4, uRow 0x060012 0 65535 8, uRow 0x060013 0 65535 16,
   uRow 0x060014 0 65535 32, uRow 0x060015 0 65535 0, roRow 0x060020 1 0,
   roRow 0x070000 1 0, roRow 0x070001 1 0, roRow 0x070002 1 0, roRow 0x070003 1 0, roRow 0x070004 1 0,
   roRow 0x070005 1 0, roRow 0x070006 1 0, roRow 0x070007 1 0, roRow 0x070010 2 0, roRow 0x070012 1 0,
   roRow 0x070020 1 0, roRow 0x070021 1 0, roRow 0x070022 1 0, roRow 0x070023 1 0, roRow 0x070024 2 0,
   roRow 0x070026 1 0, roRow 0x070027 1 0, roRow 0x070028 1 0, roRow 0x070029 1 0, roRow 0x070030 1 0,
   uRow 0x080000 0 1 0, uRow 0x080001 0 1 1, roRow 0x080010 2 0, roRow 0x080012 2 0, roRow 0x080014 1 0xFFFF,
   roRow 0x080015 1 0, roRow 0x080016 2 0]

/-- KWN (R468), NVS (R492), MED (R523). Address 0x0B_0050 is named twice by R523; it is `MED.TEL_PERIOD` here. -/
def storeRows : List SettingRow :=
  [uRow 0x090000 0 3 3, uRow 0x090001 1 3600 600, uRow 0x090002 0 255 10, uRow 0x090003 1 16 3, uRow 0x090004 1 100 10,
   uRow 0x090005 0 3 2, uRow 0x090006 1 3600 10, roRow 0x090010 2 0, roRow 0x090012 1 0, roRow 0x090013 2 0,
   uRow 0x0A0000 0 3 0, roRow 0x0A0010 2 0, roRow 0x0A0012 1 0xFFFF, roRow 0x0A0013 1 1440,
   uRow 0x0B0000 0 2 0, uRow 0x0B0001 0 5 5, uRow 0x0B0002 100 200 200, uRow2 0x0B0010 64 65600 8192,
   uRow 0x0B0012 1 4096 64, uRow 0x0B0020 4500 16000 6000, uRow 0x0B0021 1 168 24, uRow2 0x0B0030 0 0xFFFFFFFF 0,
   uRow 0x0B0040 0 255 0] ++ (List.range 15).map (fun k => uRow (0x0B0041 + k) 0 65535 0) ++
  [uRow 0x0B0050 1 1440 60, uRow 0x0B0051 1 10 2, roRow 0x0B0100 2 0, roRow 0x0B0102 1 0, roRow 0x0B0103 2 0,
   roRow 0x0B0105 1 0]

/-- The settings of timer channel n (R167). -/
def timerRows (n : Nat) : List SettingRow :=
  let b := 0x0C0000 + 0x20 * n
  [mRow b 0x00FF 0, uRow (b + 1) 0 65535 0, uRow (b + 2) 0 65535 0, roRow (b + 3) 1 0, uRow2 (b + 4) 0 0xFFFFFFFF 0,
   uRow (b + 6) 0 65535 0, uRow2 (b + 8) 0 0xFFFFFFFF 0, roRow (b + 0xC) 1 0, roRow (b + 0xD) 1 0, roRow (b + 0xE) 1 0,
   roRow (b + 0x10) 1 0, roRow (b + 0x11) 1 0, roRow (b + 0x12) 1 0, roRow (b + 0x14) 1 0, roRow (b + 0x15) 1 0,
   roRow (b + 0x16) 1 0, roRow (b + 0x18) 2 0]

/-- TMR's global settings (R167), TEL, BGW (R535), HAM (R431), TMP (R351). -/
def lateRows : List SettingRow :=
  [uRow 0x0C0200 0 65535 0, uRow 0x0C0201 0 65535 0,
   uRow 0x0D0000 100 160 140, uRow 0x0D0001 90 155 130, uRow 0x0D0010 10 1000 10, uRow 0x0D0011 10 1000 1000,
   uRow 0x0D0012 0 1000 0, uRow 0x0D0013 0 65535 0,
   uRow 0x0E0000 10 1000 200,
   uRow 0x0E0010 20 240 20, uRow 0x0E0011 20 240 120, uRow 0x0E0012 0 240 0, uRow 0x0E0013 0 65535 0,
   uRow 0x0E0014 20 240 20, uRow 0x0E0015 20 240 120, uRow 0x0E0016 0 240 0, uRow 0x0E0017 0 65535 0,
   uRow 0x0E0018 1 400 8, uRow 0x0E0019 1 400 400, uRow 0x0E001A 0 400 0, uRow 0x0E001B 0 65535 0] ++
  (List.range 13).map (fun n => roRow (0x0E0100 + n) 1 0) ++
  [uRow 0x0F0000 0 1 0, roRow 0x0F0002 2 0, roRow 0x0F0004 2 0,
   roRow 0x0F0010 1 0, roRow 0x0F0011 2 0, roRow 0x0F0013 2 0, roRow 0x0F0015 1 0, roRow 0x0F0016 2 0,
   roRow 0x0F0020 1 0, roRow 0x0F0021 2 0, roRow 0x0F0023 2 0, roRow 0x0F0025 1 0, roRow 0x0F0026 2 0,
   roRow 0x100000 1 0, roRow 0x100001 1 0, roRow 0x100002 1 0]

/-- The rows of a unit's table (R129). -/
def unitRows (unit : Nat) : List SettingRow :=
  match unit with
  | 0 => sysRows.take 4
  | 1 => sysRows.drop 4
  | 2 => lfRows ++ (List.range 8).flatMap aerialRows
  | 3 => radioRows.filter (fun r => r.addr / 0x10000 == 3)
  | 4 => radioRows.filter (fun r => r.addr / 0x10000 == 4)
  | 5 => decideRows.filter (fun r => r.addr / 0x10000 == 5)
  | 6 => decideRows.filter (fun r => r.addr / 0x10000 == 6)
  | 7 => decideRows.filter (fun r => r.addr / 0x10000 == 7)
  | 8 => decideRows.filter (fun r => r.addr / 0x10000 == 8)
  | 9 => storeRows.filter (fun r => r.addr / 0x10000 == 9)
  | 10 => storeRows.filter (fun r => r.addr / 0x10000 == 10)
  | 11 => storeRows.filter (fun r => r.addr / 0x10000 == 11)
  | 12 => (List.range 16).flatMap timerRows ++ lateRows.filter (fun r => r.addr / 0x10000 == 12)
  | 13 => lateRows.filter (fun r => r.addr / 0x10000 == 13)
  | 14 => lateRows.filter (fun r => r.addr / 0x10000 == 14)
  | 15 => lateRows.filter (fun r => r.addr / 0x10000 == 15)
  | 16 => lateRows.filter (fun r => r.addr / 0x10000 == 16)
  | _ => []

/-- The row that holds a settings address, none where it is reserved (R129). -/
def settingRow (addr : Nat) : Option SettingRow :=
  (unitRows (addr / 0x10000)).find? (fun r => r.addr ≤ addr && addr < r.addr + r.words)

/-- Default of the setting whose first address this is (R130). -/
def settingDefault (addr : Nat) : Nat := ((settingRow addr).map SettingRow.dflt).getD 0

/-! ### Sources of the event controller (R147) -/

/-- Kinds of R148, and of the external inputs. -/
inductive SourceKind where
  | event | level | input
deriving DecidableEq, Repr

/-- Kind of a source (R147). -/
def sourceKind (n : Nat) : SourceKind :=
  if n = 6 || n = 7 || (25 ≤ n && n ≤ 31) || (104 ≤ n && n ≤ 127) then .input
  else if (15 ≤ n && n ≤ 19) || n = 60 || n = 63 || n = 137 || n = 141 || n = 154 || n = 155 || n = 157 then .level
  else .event

/-- Fixed `IRQ_SUM` class of a source, 5 (WAKE) for the sources whose class is programmed (R95, R147). -/
def sourceClass (n : Nat) : Nat :=
  if n ≤ 8 then 3 else if n = 9 then 6 else if n ≤ 20 then 4 else if n = 21 then 5 else if n ≤ 23 then 4
  else if n ≤ 25 then 1 else if n ≤ 31 then 2 else if n ≤ 34 then 1 else if n = 35 then 2 else if n ≤ 47 then 7
  else if n ≤ 55 then 8 else if n = 56 then 5 else if n ≤ 63 then 8 else if n ≤ 71 then 9 else if n ≤ 127 then 5
  else if n ≤ 135 then 15 else if n ≤ 143 then 11 else if n ≤ 147 then 12 else if n ≤ 153 then 10
  else if n ≤ 155 then 13 else if n ≤ 158 then 14 else 3

/-- A source whose class is programmed (R147: "prog"). -/
def sourceProg (n : Nat) : Bool := 72 ≤ n && n ≤ 127

/-- Arbiter port of a source, in the order of R50 (R147). -/
def sourcePort (n : Nat) : Nat :=
  if n ≤ 8 then 1 else if n ≤ 23 then 2 else if n ≤ 35 then 3 else if n ≤ 47 then 4 else if n ≤ 63 then 5
  else if n ≤ 67 then 6 else if n ≤ 71 then 7 else if n ≤ 119 then 8 else if n ≤ 127 then 2 else if n ≤ 131 then 9
  else if n ≤ 135 then 10 else if n ≤ 143 then 11 else if n ≤ 147 then 12 else 13

/-- Source observed by watcher entry W0–W31 (R147). -/
def watcherSource (w : Nat) : Nat :=
  if w ≤ 8 then w else if w = 9 then 15 else if w = 10 then 17 else if w = 11 then 25 else if w ≤ 17 then 26 + (w - 12)
  else if w = 18 then 56 else if w ≤ 22 then 72 + (w - 19) else if w ≤ 30 then 120 + (w - 23) else 24

/-- Watcher entry of a source, where it has one. -/
def sourceWatcher (n : Nat) : Option Nat := (List.range 32).find? (fun w => watcherSource w == n)

/-- Reset value of `SRC_CFG[n]` (R152). -/
def srcCfgReset (n : Nat) : Word :=
  let prio := if n ≤ 8 || n = 159 then 0 else if n = 9 then 1 else 8
  let trig := if sourceKind n = .input then 2 * 128 else 0
  word (prio + 16 + trig + sourceClass n * 1024)

/-- Reset value of `SRC_FILT[n]` (R152): only external inputs have one. -/
def srcFiltReset (n : Nat) : Word :=
  if n = 6 || n = 7 then word 64 else if sourceKind n = .input then word (32 + 4 * 256) else 0

/-- Reset value of `WCFG[w]` (R161). -/
def wcfgReset (w : Nat) : Word := word (watcherSource w + 0x300)

/-- Reset value of `WFILT[w]` (R161). -/
def wfiltReset (w : Nat) : Word := if w ≤ 8 then 1 else 2

end Sys2Proof.Machine
end

