-- ==== Sys2Proof/Machine/State.lean ====
section
/-!
DEFINITION. The state of the device as plain data: every register, table, store, counter, window and queue the spec
names, the fault and refusal types, and the state after reset. Times are counts of ticks (R8) as natural numbers;
what the spec numbers as a word or a key is a bit vector or a byte string.
-/

namespace Sys2Proof.Machine

/-- Why the block would stop. No command of this device stops it: every row of the table has an effect, and a command
that finds nothing to act on leaves the state as it was. -/
inductive Fault where
  /-- Raised by nobody. It stands for a device out of service; safe, since no meaning answers it. -/
  | outOfService
deriving DecidableEq, Repr

/-- Why a command has no meaning in the model. -/
inductive Refusal where
  /-- Raised by `exec` for a command not yet modelled, named by its mnemonic; safe: it stops where the device goes on. -/
  | notModelled (mnemonic : String)
deriving DecidableEq, Repr

/-! ### Time (chapter 2) -/

/-- A half-open window [opens, close) of R9 with the uncertainty recorded at its open (R45). -/
structure Window where
  opens : Nat
  close : Nat
  uOpen : Nat
deriving DecidableEq, Repr

/-- The timebase: TB and its residue, the spread generator, the uncertainty, the continuation and the ratio (R34–R45). -/
structure Clock where
  /-- ROOT runs; otherwise the Hearth continues TB (R42). -/
  rootOn : Bool
  /-- ROOT runs for a Bellows burst in PARK, while TB stays in continuation (R60). -/
  burst : Bool
  /-- TB at the last spread FABRIC edge. -/
  tb : Nat
  /-- Residue ρ, 0–511 RU (R36). -/
  rho : Nat
  /-- FABRIC edges since the start of the modulation period, 0–3999 (R34, R38). -/
  pos : Nat
  /-- Depth D in force in this modulation period (R34, R35). -/
  depth : Nat
  /-- Accumulated uncertainty U in ticks (R44). -/
  unc : Nat
  /-- TB_entry of the continuation (R42). -/
  tbEntry : Nat
  /-- LF cycles since TB_entry (R42). -/
  lfCycles : Nat
  /-- Latest complete ratio measurement since the last re-anchor, unsigned Q12.20 (R41). -/
  ratio : Option Nat
  /-- Ratio frozen for the continuation, unsigned Q12.20 (R41). -/
  frozen : Nat
  /-- TB at the opening of the ratio window in progress (R41). -/
  ratioFrom : Option Nat
  /-- TB loaded at the last re-anchor; 0 where ROOT has run since it first locked (R41, R43). -/
  anchorTb : Nat
  /-- Next event sequence number (R52). -/
  esn : Esn
  /-- ESN of the event now taking effect. -/
  evEsn : Esn
  /-- Stamp of the event now taking effect. -/
  evTb : Nat
  /-- Place of the last event in the arbiter's order within its stamp: port, a close before the others (R50, R51). -/
  evPlace : Nat
  /-- Ports of the events presented and not yet accepted, in the order of their ESNs: the ports' FIFOs (R49, R50). -/
  fifo : List Nat
  /-- Captured TB of `TB_SNAP_W0`–`W3` (R48). -/
  snapTb : Nat
  /-- `TB_SNAP_CTL.RES` (R48). -/
  snapRes : Nat
  /-- `TB_SNAP_CTL.VALID` (R48). -/
  snapValid : Bool
deriving DecidableEq, Repr

/-! ### Power (chapter 3) -/

/-- The device states of R60, and the time before the start phases end. -/
inductive DevState where
  | starting | run | doze | park | deep | shelf
deriving DecidableEq, Repr

/-- What a power domain is doing; DEFER is a view of an ON or GATED domain with a deferral standing. -/
inductive Domain where
  | off | on | gated | drain | lost
deriving DecidableEq, Repr

/-- A secure hold: holder code 1–5 of R67 on a domain. -/
structure Hold where
  holder : Nat
  dom : Nat
deriving DecidableEq, Repr

/-- A deferred POWER_OFF (R68). -/
structure Deferral where
  dom : Nat
  esn : Esn
  win : Window
deriving DecidableEq, Repr

/-- Power domains, device state and the secure boundary. -/
structure Power where
  dev : DevState
  /-- The 24 domains, PD00 first (R53). -/
  doms : List Domain
  holds : List Hold
  deferrals : List Deferral
  /-- Last value written to `PWRREQ` (R55). -/
  req : Word
  rej : Bool
  ign : Bool
  brk : Bool
  loss : Bool
  /-- `PWRSTAT.PREV`. -/
  prev : Nat
  /-- A PARK, DEEP or SHELF entry granted by SLEEP_ENTER and not yet begun: target code, KEEP_POLL (R64). -/
  sleep : Option (Nat × Bool)
  /-- Wakes to RUN since cold power-up, saturating at 65,535 (R124). -/
  wakes : Nat
  /-- Stamp at which PARK was reached (R202). -/
  parkAt : Nat
  /-- RUN ticks before the present stay in RUN, and the stamp at which that began (R497, R518). -/
  runTicks : Nat
  runFrom : Nat
  /-- Stamp of the last host access or background atom (R61). -/
  busyAt : Nat
  /-- Supply monitors that hold now: VSUP_LOW, VLF_LOW, VBAT_KS_LOW, VHOLD_LOW (R558). -/
  vsupLow : Bool
  vlfLow : Bool
  vbatLow : Bool
  vholdLow : Bool
deriving DecidableEq, Repr

/-! ### Host bus and register file (chapter 4) -/

/-- The registers of the host interface that hold a value of their own. -/
structure HostIf where
  /-- Data last driven on HD by a read that is a command of the table. -/
  data : Word
  irqEn : Bool
  ready : Bool
  degraded : Bool
  phase : Nat
  cold : Bool
  wdt : Bool
  hrst : Bool
  swrst : Bool
  supply : Bool
  /-- `FNSTAT.BUSY`, bit n for function n (R89). -/
  fnBusy : Nat
  /-- Words in the active staging buffer (R90). -/
  staged : List Word
  /-- Stamp at which the buffer rung last has wholly passed to the dispatcher (R90). -/
  passedAt : Nat
  /-- `SQ_BELL.REFUSED`. -/
  refused : Bool
  /-- Words read of the head completion entry (R93). -/
  cqRead : Nat
  irqMask : Word
  /-- Line of each of the 16 classes (R96). -/
  routes : List Nat
  routeSel : Nat
  evcAddr : Word
  setAddrLo : Word
  setAddrHi : Word
  setOk : Bool
  setLocked : Bool
  setRange : Bool
  setProt : Bool
  jrnlSel : Nat
  jrnlCapEsn : Nat
  jrnlCapTag : Bytes
  jrnlCapCount : Nat
  wdtCfg : Word
  /-- Kick window while the watchdog counts (R101). -/
  wdtWin : Option Window
  /-- The last expiry has not been followed by a kick (R101). -/
  wdtExpired : Bool
  dbgAllow : Bool
  dbgUnlocked : Bool
  /-- Functions made unpredictable by a host error (R13): bit n for function n, bit 14 the host interface. -/
  poison : Nat
deriving DecidableEq, Repr

/-! ### Commands (chapter 5) -/

/-- Status codes of R125. -/
inductive Status where
  | done | abortedFnrst | holdBroken | deadline | authFail | noResponse | boundExceeded | stsReject | notPlausible
  | policyDeny | slotBad | slotExhausted | counterStale | limitReached | entropyTimeout | mediaUncorrectable
  | nvUncorrectable | protected_ | nodeSilent | tampered | notProvisioned | imageInvalid | stateConflict
  | atlasAbsent | hwFault
deriving DecidableEq, Repr

/-- One journal record before its chain tag (R137); numbers are read at their field's width. -/
structure Record where
  number : Nat
  esn : Nat
  epoch : Nat
  tb : Nat
  origin : Nat
  cls : Nat
  unit : Nat
  subject : Nat
  old : Nat
  new : Nat
  auxTag : Nat
  auxOp : Nat
  auxCause : Nat
  auxDetail : Nat
  tag : Bytes
deriving DecidableEq, Repr

/-- The fields of a record that its class defines; the event supplies the rest. -/
structure Draft where
  cls : Nat
  unit : Nat
  subject : Nat
  old : Nat
  new : Nat
  cause : Nat
  detail : Nat
deriving DecidableEq, Repr

/-- A neighbour of an atlas result: ID, label and distance (R274). -/
structure Neighbour where
  id : Nat
  label : Nat
  dist : Nat
deriving DecidableEq, Repr

/-- What an evidence record holds by its kind (R292). -/
inductive EvKind where
  | auth
  | lf (rssi : Bytes) (mask : Nat)
  | uwb (authEsn : Nat) (tof : Int) (score : Nat) (az el power : Word) (x : Nat)
  | atlas (lfIndex : Nat) (uwbIndex : Option Nat) (lfEsn : Nat) (uwbEsn : Option Nat) (image : Nat) (plausible : Bool)
      (near : List Neighbour)
  | transponder (depth turnaround : Nat)
  | anchor (node : Nat) (dist : Int) (x : Nat)
deriving DecidableEq, Repr

/-- An evidence record (R292). -/
structure Evidence where
  kind : EvKind
  slot : Nat
  esn : Esn
  win : Window
deriving DecidableEq, Repr

/-- A decision record (R304). -/
structure Decision where
  allow : Bool
  zone : Nat
  zvalid : Bool
  slot : Nat
  rule : Nat
  mask : Nat
  esn : Esn
  win : Window
deriving DecidableEq, Repr

/-! ### Settings and journal (chapter 6) -/

/-- The settings space and the audit journal. -/
structure Journal where
  /-- Records buffered and not yet on V2, oldest first (R142). -/
  buf : List Record
  /-- Records on V2, oldest first (R142). -/
  v2 : List Record
  /-- The newest record overwritten in V2: number and chain tag (R142). -/
  anchor : Option (Nat × Bytes)
  /-- Number of the next record (R137). -/
  nextNumber : Nat
  /-- Chain tag of the last record appended. -/
  lastTag : Bytes
  /-- ESN of the last record appended. -/
  lastEsn : Nat
  /-- Stamp at which the oldest buffered record was appended (R142). -/
  oldestAt : Nat
  /-- Journal hold in force (R144). -/
  hold : Bool
  /-- Summary records of the hold: class, count, first ESN, last ESN (R144). -/
  folded : List (Nat × Nat × Nat × Nat)
  /-- Chain head in EEPROM: number, ESN, BOOT_EPOCH, tag, FLUSHED (R143). -/
  head : Option (Nat × Nat × Nat × Bytes × Bool)
  /-- Stamp of the last chain-head write (R143). -/
  headAt : Nat
  /-- A record appended since the last chain-head write. -/
  headDue : Bool
  /-- Ring record number of the last chain-head write (R473). -/
  headSeq : Nat
deriving DecidableEq, Repr

/-! ### Event controller (chapter 7) -/

/-- The event controller and the wake watcher. Lists are indexed by source 0–159 or watcher entry 0–31. -/
structure Evc where
  srcCfg : List Word
  srcFilt : List Word
  /-- Filter words replaced within the longest filter: source, stamp of the write, the word before it; newest first (R149). -/
  filtWas : List (Nat × Nat × Word)
  /-- Pending per target, with the stamp that set it (R155). -/
  pendH : List (Option Nat)
  pendA : List (Option Nat)
  pendB : List (Option Nat)
  /-- Sources active on each sequencer, newest first (R158). -/
  actA : List Nat
  actB : List Nat
  lastEsn : List Esn
  /-- Condition of each kind L source (R148). -/
  cond : List Bool
  /-- Filtered ball level of each X source, and of HARM at 24 (R149, R83). -/
  level : List Bool
  /-- Present ball level of each X source, and of HARM at 24. -/
  ball : List Bool
  wcfg : List Word
  wfilt : List Word
  wcount : List Nat
  /-- First latched event of each entry: its continued stamp (R162). -/
  latched : List (Option Nat)
  prigroup : Nat
  statOk : Bool
  statLocked : Bool
  statHold : Bool
  lock : Bool
  /-- Sources of the events that are held at their ports for the re-anchor, in the order in which they were presented (R160). -/
  held : List Nat
  /-- A watcher entry has latched with WAKE_EN: the continued stamp of the trigger (R162). -/
  trigger : Option Nat
deriving DecidableEq, Repr

/-! ### Timers (chapter 8) -/

/-- A running interval, or a hold of the count, that is over (R165): the stamp from which it no longer was, its start, its base, whether the
channel counted, and P. -/
structure Span where
  until_ : Nat
  start : Nat
  base : Nat
  counted : Bool
  p : Nat
deriving DecidableEq, Repr

/-- One timer channel; its settings other than CTL and CMP stand in the settings space (R167). -/
structure Channel where
  run : Bool
  cosnap : Bool
  frz : Nat
  cmpMode : Nat
  /-- Start of the running interval and its base (R165). -/
  start : Nat
  base : Nat
  /-- Compare value in effect, 48 bits (R168). -/
  cmp : Nat
  /-- Held write of `CMP_HI` (R168). -/
  cmpHiHeld : Option Nat
  /-- Armed target (R171). -/
  target : Option Nat
  /-- Snapshot of the count, and its stamp (R169). -/
  snap : Nat
  snapAt : Nat
  /-- A running interval that outlasted the last snapshot has ended without one (R169). -/
  stale : Bool
  capA : Nat
  capB : Nat
  pw : Nat
  capSeq : Nat
  /-- Count and unwrapped count of a held leading edge (R176). -/
  lead : Option (Nat × Nat)
  /-- Unwrapped count of the previous capture (R176). -/
  prevCap : Option Nat
  /-- Qualifying edges counted since the last captured one (R175). -/
  edges : Nat
  out : Bool
  /-- Stamp at which the output level last moved. -/
  outAt : Nat
  late : Bool
  frozen : Bool
  /-- PD21 is off, by request or by a hard loss, since the last channel reset: the channel does not count (R183). -/
  dead : Bool
  /-- The intervals that ended within the longest filter, newest first: a capture takes the count at the stamp before its filter
  (R174). -/
  past : List Span
deriving DecidableEq, Repr

/-! ### LF (chapter 9) -/

/-- One aerial (R184–R190). -/
structure Aerial where
  /-- DIAG bits of R190. -/
  diag : Nat
  /-- Last peak coil current, mA. -/
  ipeak : Nat
  /-- Sensor 1 reading at the last trim atom, 0.125 °C, and the atom's stamp (R210). -/
  atomTemp : Int
  atomAt : Nat
deriving DecidableEq, Repr

/-- Bellows polling configuration (R206). -/
structure PollConfig where
  mask : Nat
  fast : Bool
  rotate : Bool
  icodes : List Nat
deriving DecidableEq, Repr

/-- What an LF emission in progress is for. -/
inductive Emission where
  | poll | command (tag : Nat) | standby
  /-- The rest of a stopped exchange up to its next bit boundary, the safe point of the work (R117, R233). -/
  | stopping
deriving DecidableEq, Repr

/-- The LF field unit and Bellows. -/
structure Lf where
  aerials : List Aerial
  config : Option PollConfig
  /-- POLL_START has armed polling (R206). -/
  polling : Bool
  stage : Nat
  /-- Stamp at which the next poll is due (R201). -/
  due : Nat
  noisyRun : Nat
  cleanRun : Nat
  /-- The poll in progress has met a noise condition (R204). -/
  noisy : Bool
  /-- Last aerial a rotating poll used. -/
  rotate : Nat
  pollCount : Nat
  /-- Emission in progress: its end stamp, purpose and aerials (R188). -/
  emission : Option (Nat × Emission × Nat)
  /-- Stamp at which the air exchange in progress began, carrier periods from there to the end of the present emission,
  its tuning word and bit time (R187, R188). -/
  airStart : Nat
  airCarriers : Nat
  airFtw : Nat
  airBit : Nat
  /-- Carrier periods of the present emission, and its wake burst, gap and bytes from the preamble or sync on (R191–R193, R232). -/
  airLen : Nat
  airBurst : Nat
  air : Bytes
  /-- ICODE applied to each aerial in the present emission (R185, R208), and the SHAPE of each and `LF.ENV_RAMP` (R186). -/
  airIcodes : List Nat
  airShapes : List Nat
  airRamp : Nat
  /-- Slots of the present locate phase: aerial, stamps of start and end (R196). -/
  slots : List (Nat × Nat × Nat)
  /-- Aerials on which a STANDBY is still to be sent after token exchanges (R384). -/
  standbyDue : Nat
  /-- Stage 7 began the DEEP now in force (R202). -/
  stage7 : Bool
deriving DecidableEq, Repr

/-! ### UHF (chapter 10) -/

/-- A listen window (R226): the command's tag or none for a poll, reply slot, window, codes awaited, and the band and modulation it
opened with (R229). -/
structure Listen where
  tag : Option Nat
  slot : Nat
  opens : Nat
  close : Nat
  codes : List Nat
  band : Nat
  mod : Nat
deriving DecidableEq, Repr

/-- The UHF receivers. -/
structure Uhf where
  windows : List Listen
  /-- Sequence byte last accepted per token slot (R224). -/
  seqs : List (Option Nat)
  lastRssi : Nat
  /-- RSSI of the last accepted frame: the higher code of the paths that delivered it (R217). -/
  rssi : Nat
  lastId : Nat
  lastCode : Nat
  framesOk : Nat
  framesBad : Nat
  /-- Per path A, B: unlocked, faulted, in a jam episode (R228). -/
  unlocked : List Bool
  faulted : List Bool
  jammed : List Bool
deriving DecidableEq, Repr

/-! ### UWB (chapter 11) -/

/-- The UWB ranging unit. -/
structure Uwb where
  /-- Next exchange number x (R240). -/
  x : Nat
  lastTof : Int
  lastCause : Nat
  /-- Calibration words of UWB_CONFIG in force (R254). -/
  cal : List Word
  unlocked : Bool
  faulted : Bool
  /-- Owner of an exchange whose POLL is scheduled, the stamp of its RMARKER, and whether x counts it already (R240). -/
  poll : Option (Nat × Nat × Bool)
  /-- The last packet launched: its number in the exchange, the STS generator's start value, the clean time in RU of the spread edge
  that launched it, and its fine delay (R39, R238). -/
  sent : Option (Nat × Nat × Nat × Nat)
  /-- Ball UWB_ASEL is high (R251). -/
  asel : Bool
  /-- Temperature at the last retuning, 0.125 °C (R256). -/
  tuneTemp : Int
  /-- The newest exchange with anchors, for their reports (R259): x, the window from its POLL RMARKER, ToF, Db, `UWB.STS_MIN`, DONE. -/
  anchorX : Nat
  anchorWin : Window
  anchorTof : Int
  anchorDb : Nat
  anchorMin : Nat
  anchorDone : Bool
  /-- Anchors that take part and have not reported (R258, R259). -/
  anchorNodes : List Nat
  /-- Anchors the material is still to be sent to, and anchors still to be polled for their reports (R462). -/
  anchorSend : List Nat
  anchorPoll : List Nat
  /-- Token slot of the exchange the reports belong to. -/
  anchorSlot : Nat
deriving DecidableEq, Repr

/-! ### Atlas (chapter 12) -/

/-- An atlas entry (R264). -/
structure AtlasEntry where
  code : List Nat
  id : Nat
  label : Nat
deriving DecidableEq, Repr

/-- The load of an atlas image into the shadow volume (R284–R286): 0 IDLE, 1 HEADER, 2 BODY, 3 COMPLETE, 4 SUSPENDED. -/
structure AtlasLoad where
  state : Nat
  image : Nat
  seq : Nat
  /-- Image bytes accepted and kept. -/
  bytes : Bytes
  /-- Signature verified: the first checkpoint stands. -/
  verified : Bool
  chunks : Nat
  total : Nat
deriving DecidableEq, Repr

/-- The atlas engine; the committed image stands whole on its volume. -/
structure Atlas where
  /-- Active volume 0 or 1 and its image bytes. -/
  active : Option (Nat × Bytes)
  load : AtlasLoad
  /-- Reload of header, codebooks and directory has ended (R280). -/
  loaded : Bool
  /-- The last reload could not read its data. -/
  reloadFailed : Bool
  /-- Lists cached, most recent first. -/
  cache : List Nat
  /-- The shadow volume while no load stands: the image that was active before (R288). -/
  former : Bytes
  queries : Nat
deriving DecidableEq, Repr

/-! ### Decision and release (chapter 13) -/

/-- The relay states of R309. -/
inductive Relay where
  | locked
  | closing (tag : Nat)
  | held (win : Window)
  | engineHeld
deriving DecidableEq, Repr

/-- An access session (R312). -/
structure Session where
  zone : Nat
  slot : Nat
  win : Window
deriving DecidableEq, Repr

/-- A policy rule (R299), its fields as numbers. -/
structure Rule where
  valid : Bool
  allow : Bool
  prio : Nat
  require : Nat
  absent : Nat
  minSts : Nat
  zones : Nat
  maxAge : Nat
  maxTof : Nat
  minSupport : Nat
  minAnchors : Nat
  maxD : Nat
  tokens : Nat
  azMin : Nat
  azMax : Nat
deriving DecidableEq, Repr

/-- A loaded policy (R305). -/
structure Policy where
  image : Nat
  seq : Nat
  rules : List Rule
deriving DecidableEq, Repr

/-- The decision and release unit. -/
structure Release where
  evidence : List (Option Evidence)
  decisions : List (Option Decision)
  nextDecision : Nat
  policy : Option Policy
  /-- Words of a policy image staged (R306). -/
  policyStage : List Word
  relay : Relay
  /-- `RELSTAT.FAULT`, `RELSTAT.CAUSE`, `REL.DIAG`. -/
  fault : Bool
  cause : Nat
  diag : Nat
  sessions : List (Option Session)
  /-- `DEC.LAST`: word 0 of the last decision. -/
  last : Nat
deriving DecidableEq, Repr

/-! ### Crucible (chapter 14) -/

/-- A key slot K00–K63: attributes of R326 and material in clear; a persistent slot's record fields (R329). -/
structure KeySlot where
  attr : Nat
  material : Bytes
  seq : Nat
  keyset : Nat
  /-- Uses counted when the record was written (R328). -/
  useBase : Nat
  /-- Copies A and B verify (R331). -/
  okA : Bool
  okB : Bool
deriving DecidableEq, Repr

/-- A token slot T00–T31 (R330): state 0 EMPTY, 1 ENROLLED, 2 REVOKED. -/
structure TokenSlot where
  state : Nat
  prio : Nat
  seq : Nat
  id : Nat
  gen : Nat
  epoch : Nat
  tb : Nat
  okA : Bool
  okB : Bool
deriving DecidableEq, Repr

/-- A shadow record of a prepared update (R338): slot, attributes, material. -/
structure Shadow where
  slot : Nat
  attr : Nat
  material : Bytes
deriving DecidableEq, Repr

/-- A prepared update (R338, R344): kind 1 UPDATE, 2 PROVISION with the new root and the body of R342. -/
structure Prepared where
  kind : Nat
  counter : Nat
  shadows : List Shadow
  assigned : List Nat
  drs : Bytes
  body : Bytes
deriving DecidableEq, Repr

/-- The commit record in PD00 (R339): counter, number of shadows, their digest, its CMAC. -/
structure Commit where
  counter : Nat
  n : Nat
  digest : Bytes
  mac : Bytes
deriving DecidableEq, Repr

/-- The Crucible, its tamper logic and PD00. -/
structure Crucible where
  /-- Root shares in PD00 (R317). -/
  shareA : Bytes
  shareB : Bytes
  /-- PD00 scramble key (R319). -/
  scramble : Bytes
  /-- PD10 scramble key (R319). -/
  scramble10 : Bytes
  /-- KEYHDR: root check value, wake ID and TIN_CFG; none before provisioning (R320, R346). -/
  keyhdr : Option (Bytes × Nat × Nat)
  provisioned : Bool
  slots : List KeySlot
  tokens : List TokenSlot
  /-- USECNT counters of K00–K47 and uses of K48–K63 (R328). -/
  uses : List Nat
  updCnt : Nat
  commit : Option Commit
  prepared : Option Prepared
  /-- KEY_UPDATE staging buffer (R337). -/
  stage : List Word
  staging : Bool
  uid : Bytes
  pak : Option Bytes
  /-- `TAMPSTAT` latches (PD00). -/
  tampstat : Nat
  tampered : Bool
  /-- The TAMPER record of a trip latched in standby is still to be appended (R349). -/
  tamperDue : Bool
  tinCfg : Nat
  trips : Nat
  dieTemp : Int
  slotBad : Nat
  rollFwd : Bool
  rollBack : Bool
  slotBadFlag : Bool
  wakeId : Nat
  /-- A debug session has been unlocked since cold power-up (R345). -/
  dbgSeen : Bool
deriving DecidableEq, Repr

/-! ### Anvil and entropy (chapter 15) -/

/-- A context of a multi-part operation (R362): OP, KEY and the bytes or chaining state held. -/
structure Context where
  op : Nat
  key : Nat
  /-- Data gathered for a hash or MAC; the IV or counter block and the count for a cipher. -/
  data : Bytes
  iv : Bytes
  aad : Bytes
  count : Nat
deriving DecidableEq, Repr

/-- What the noise source's health tests remember (R369): the last sample and how many equal ones end there; the first sample of the
window of 1,024, the samples of it so far and how many equal its first; the samples passed since the start-up test began, and those of
the block in progress (R370). -/
structure Health where
  last : Option Nat
  run : Nat
  first : Nat
  pos : Nat
  same : Nat
  passed : Nat
  gathered : Nat
deriving DecidableEq, Repr

/-- The Anvil's contexts, the entropy source and the DRBG. -/
structure Anvil where
  contexts : List (Option Context)
  /-- Decimation D (R368). -/
  decim : Nat
  health : Health
  /-- Conditioned blocks gathered for a cold instantiation (R372). -/
  blocks : List Bytes
  ready : Bool
  cold : Bool
  hfail : Bool
  etime : Bool
  failed : Bool
  /-- Entropy timeout window since the first failure after the last accepted block (R377). -/
  failWin : Option Window
  key : Bytes
  v : Nat
  /-- Requests since the last seeding and stamp of it (R373). -/
  requests : Nat
  seededAt : Nat
  reseedDue : Bool
  /-- Reserve seed in PD00 (R373, R374). -/
  reserve : Option Bytes
  /-- Stamp of the last remask (R318). -/
  remaskAt : Nat
deriving DecidableEq, Repr

/-! ### Tokens (chapter 16) -/

/-- The current authenticated token (R382). -/
structure TokenSession where
  slot : Nat
  token : Nat
  ks : Nat
  authEsn : Nat
  mc : Nat
deriving DecidableEq, Repr

/-- The admission state of LEARNST (R401): state 0 CLOSED, 1 ERASING, 2 OPEN. -/
structure Admission where
  state : Nat
  kind : Nat
  n : Nat
  klm : Nat
  prio : Nat
  flags : Nat
  cause : Nat
  counter : Nat
  win : Window
  learnt : Nat
  digest : Bytes
  ids : List Nat
deriving DecidableEq, Repr

/-- Tokens, enrolment and revocation. -/
structure Tokens where
  session : Option TokenSession
  adm : Admission
  tktCnt : Nat
  enrolCnt : Nat
  /-- Revocation list, oldest first (R394). -/
  revlist : List Nat
deriving DecidableEq, Repr

/-! ### Hammer (chapter 17) -/

/-- A frame saved at an event entry (R416). -/
structure Frame where
  pc : Nat
  flags : Nat
  prog : Nat
  w12 : List (BitVec 32)
  source : Nat
  /-- Suspended state of the instruction: its wait window. -/
  wait : Option Window
deriving DecidableEq, Repr

/-- A verified script image resident in a sequencer (R420). -/
structure Script where
  id : Nat
  seq : Nat
  signer : Nat
  secure : Bool
  settings : Bool
  banks : Nat
  entry : Nat
  handler : Option Nat
  codeLen : Nat
  data : Bytes
deriving DecidableEq, Repr

/-- One sequencer, Hammer A or B (R403). -/
structure Seqr where
  w : List (BitVec 32)
  /-- Z, N, C, V, IE, SEC in bits 0–5 (R403). -/
  flags : Nat
  pc : Nat
  prog : Nat
  frames : List Frame
  /-- Instruction RAM as (address, byte), 32 KiB, absent bytes 0 (R403). -/
  iram : List Host.Cell
  ib : Bytes
  ob : Bytes
  /-- Tag of the SCRIPT_RUN, or of the token command, that occupies the sequencer. -/
  running : Option Nat
  /-- The running script is a ROM script (R428). -/
  rom : Bool
  image : Option Script
  /-- Script claims: banks 0–3 as bits (R405). -/
  claimed : Nat
  restoring : Bool
  restoreFailed : Bool
  dirty : Bool
  halted : Bool
  breakpoints : List Nat
  /-- Window of the wait in progress (R410). -/
  wait : Option Window
  endCause : Nat
  endPc : Nat
deriving DecidableEq, Repr

/-- Both sequencers and what they share. -/
structure Hammer where
  a : Seqr
  b : Seqr
  /-- The 16 KiB shared data RAM, DB0–DB3, absent bytes 0 (R404). -/
  banks : List Host.Cell
  seqK03 : Nat
  seqDas : Nat
  /-- Words of a script image staged in V5 (R423). -/
  stage : List Word
  /-- Resident images in V5 for A and B (R424). -/
  storedA : Option Bytes
  storedB : Option Bytes
deriving DecidableEq, Repr

/-! ### Kwewin (chapter 18) -/

/-- A grant in force (R455, R456). -/
structure Grant where
  scope : Nat
  binding : Nat
  lapse : Nat
  win : Window
deriving DecidableEq, Repr

/-- A node record and the device's state of the node (R441, R451). -/
structure Node where
  state : Nat
  type : Nat
  trunk : Nat
  dn : Nat
  seq : Nat
  kn : Bytes
  fid : Bytes
  cm : Nat
  cn : Nat
  synced : Bool
  silent : Bool
  misses : Nat
  gnum : Nat
  grant : Option Grant
  /-- Counters CM and CN of the epoch before, in use until the new epoch's SYNC is acknowledged (R443). -/
  prev : Option (Nat × Nat)
  /-- Attempts left of a rollback of a PENDING record (R453). -/
  rollback : Option Nat
  /-- GRANT_END frames still to send: attempts left and cause (R457). -/
  ending : Option (Nat × Nat)
deriving DecidableEq, Repr

/-- What the reply window now open on a trunk awaits (R440). -/
structure Reply where
  trunk : Nat
  addr : Nat
  /-- Type code of the master frame sent (R437). -/
  sent : Nat
  /-- The command the frame serves. -/
  tag : Option Nat
deriving DecidableEq, Repr

/-- An uplink in the ring (R464). -/
structure UplinkEntry where
  addr : Nat
  trunk : Nat
  code : Nat
  stamp : Nat
  nodeTb : Nat
  data : Bytes
  esn : Nat
deriving DecidableEq, Repr

/-- The node bus controller. -/
structure Kwewin where
  upA : Bool
  upB : Bool
  faultA : Bool
  faultB : Bool
  /-- W1C bits of `KWSTAT`: KWA_FAULT, KWB_FAULT, SILENT. -/
  seenA : Bool
  seenB : Bool
  seenSilent : Bool
  /-- Records by address 1–255 that are not EMPTY, rising. -/
  nodes : List (Nat × Node)
  epoch : Nat
  started : Bool
  bumpAt : Option Nat
  replies : List Reply
  ring : List UplinkEntry
  rejects : Nat
  cycle : Nat
  /-- A faulted trunk's cycle has gone by without a fault so far (R467). -/
  testing : List Bool
  /-- Address last polled in the round-robin of each trunk (R446). -/
  cursor : List Nat
  /-- Master frames sent in the present cycle: trunk and bytes, ADDR, TYPE and LEN in a byte each (R436). -/
  sent : List (Nat × Bytes)
  /-- The writable settings 0x09_0000–0x09_0006 as this cycle applies them (R468). -/
  sets : List Nat
deriving DecidableEq, Repr

/-! ### NV parameter store (chapter 19) -/

/-- A page write asked for and not yet ended (R472): the command it serves, or none for a device action, its page and
the bytes it programs. A device partition's page carries no bytes: its record stands in its unit's own state. -/
structure PageWrite where
  owner : Option Nat
  page : Nat
  cells : List Host.Cell
deriving DecidableEq, Repr

/-- A device record as it stood before a command asked for its rewrite (R479). -/
inductive OldRecord where
  | key (slot : Nat) (record : KeySlot)
  | token (slot : Nat) (record : TokenSlot)
  | uwbCal (words : List Word)
  /-- The checkpoint of a load (R285), and the choice of the active volume (R288). -/
  | checkpoint (verified : Bool) (chunks : Nat)
  | select
  /-- Node record, chain head and its ring record number, LEARNST, REVLIST, SCRSEQ. -/
  | node (addr : Nat) (record : Node)
  | head (head : Option (Nat × Nat × Nat × Bytes × Bool)) (seq : Nat)
  | admission (a : Admission)
  | revoked (ids : List Nat)
  | scripts (k03 das : Nat)
deriving DecidableEq, Repr

/-- A rewrite of a device record that a command, or with no owner the device, asked for: `left` page writes of the owner end before copy B
is whole, and until then the old record is the one that would be chosen (R479, R493). `page` is the first of copy A. -/
structure Undo where
  owner : Option Nat
  left : Nat
  page : Nat
  record : OldRecord
deriving DecidableEq, Repr

/-- The NV parameter store. -/
structure Nv where
  /-- Bytes of the host pages 0xC000–0xFFFF that are not the blank 0xFF, by rising address (R470, R473). -/
  cells : List Host.Cell
  /-- Groups whose error is uncorrectable, by address (R470). -/
  bad : List Nat
  /-- Payload of the host partition table in force (R486); none when neither copy is valid. -/
  table : Option Bytes
  /-- Page writes asked for, the one in progress first (R472). -/
  queue : List PageWrite
  busy : Bool
  /-- Old records of rewrites whose copy B is not whole yet, in the order of the requests (R479). -/
  undo : List Undo
  /-- SEQ of the device's records with a trailer or a SEQ of no unit's own, by the first page of copy A (R474, R479). -/
  seqs : List (Nat × Nat)
  /-- Copies of device records that a rewrite cut off between them has left behind (R478, R479): address and length. -/
  stale : List (Nat × Nat)
  /-- TWIN staging: partition and bytes (R481). -/
  staging : Option (Nat × Bytes)
  /-- Scrub pass in progress, at this page (R490). -/
  scrub : Option Nat
  /-- RUN and DOZE ticks counted towards the next pass, and the stamp from which more are counted (R490). -/
  scrubRan : Nat
  scrubFrom : Nat
  corr : Bool
  uncorr : Bool
  mismatch : Nat
  /-- Copies whose mismatch is counted and whose rewrite has not ended (R478): address and length. -/
  counted : List (Nat × Nat)
  /-- `NVS.WRITES`, `NVS.LAST_BAD` (R492). -/
  writes : Nat
  lastBad : Nat
  /-- COUNTER partitions of the device: BOOT_EPOCH (R473; the others stand in their units). -/
  bootEpoch : Nat
  /-- Device counters whose increment was cut off, by page (R485). -/
  torn : List Nat
  /-- UWBCAL words (R254). -/
  uwbCal : List Word
  /-- ATLSEL: active volume, image ID and SEQ (R288). -/
  atlSel : Option (Nat × Nat × Nat)
  /-- POLICY partition: a verified image's words (R305). -/
  policy : Option (List Word)
deriving DecidableEq, Repr

/-! ### Media manager (chapter 20) -/

/-- The manager's states of R519. -/
inductive MedState where
  | replay | writeBack | writeThrough | parked | flushing | down
deriving DecidableEq, Repr

/-- A NAND die (R522): state 0 absent, 1 in use, 2 lost. -/
structure Die where
  state : Nat
  mib : Nat
  blocks : Nat
  spare : Nat
  retired : Nat
  refresh : Nat
  /-- Stamps of the blocks retired within the last hour (R514). -/
  retirals : List Nat
  /-- Temperature bin of the last write (R505, R522). -/
  tempBin : Nat
  endurance : Nat
deriving DecidableEq, Repr

/-- A write that is safe and not yet durable (R502): volume 4 or 6, offset, bytes. -/
structure Buffered where
  vol : Nat
  off : Nat
  bytes : Bytes
deriving DecidableEq, Repr

/-- A unit of R508 that is fine or has seen partial rewrites: volume, unit, fine, stamps of the partial rewrites, stamp of
the last write. -/
structure UnitMap where
  vol : Nat
  unit : Nat
  fine : Bool
  rewrites : List Nat
  lastWrite : Nat
deriving DecidableEq, Repr

/-- The media manager and the NAND. -/
structure Media where
  state : MedState
  /-- The state before PARKED was WRITE_THROUGH (R519). -/
  through : Bool
  ready : Bool
  holdupOk : Bool
  flush : Bool
  rebuild : Bool
  uncorr : Bool
  dies : List Die
  /-- Interface in use: 0 none, 1 SDR, 2 NV-DDR2, and its SDR mode (R495). -/
  nif : Nat
  sdrMode : Nat
  /-- A map is on the medium; it names another UID; the last format failed (R498). -/
  formatted : Bool
  foreign : Bool
  failed : Bool
  /-- User capacity in units of 256 KiB, and the sizes fixed at formatting in MiB: an atlas volume, V4 (R498). -/
  userUnits : Nat
  atlasMib : Nat
  profMib : Nat
  /-- Durable bytes of V4 and V6 that are not 0, by rising offset. -/
  v4 : List Host.Cell
  v6 : List Host.Cell
  /-- Units of V4 and V6 that hold mapped data: volume, unit. -/
  mapped : List (Nat × Nat)
  buf : List Buffered
  units : List UnitMap
  /-- Bytes in the SLC buffer that no fold has copied (R509). -/
  slc : Nat
  /-- Starting ladder steps moved off 0, by pair of age bin and temperature bin (R504). -/
  ladder : List (Nat × Nat)
  /-- Media age clock in ticks at stamp `ageAt`, and as saved with the last checkpoint (R505). -/
  age : Nat
  ageAt : Nat
  ageSaved : Nat
  /-- Window in which `MED.OFF_MIN` may be written, and whether it has been (R505). -/
  offWin : Option Window
  offDone : Bool
  /-- V3 records, oldest first, and how many were ever appended (R497). -/
  tel : List Bytes
  telCount : Nat
  /-- RUN time of the last of them, and the window of RUN time, of `MED.HU_TEST_H` hours, that the last hold-up test fell into (R518). -/
  telAt : Nat
  testIn : Option Nat
  /-- Last hold-up test: pass and C in µF (R518, R522). -/
  testPass : Bool
  testC : Nat
  unflushed : Nat
  ladderHits : Nat
  rebuilt : Nat
  uncorrReads : Nat
  mapMismatch : Nat
deriving DecidableEq, Repr

/-! ### Background work, loops, telemetry (chapter 21) -/

/-- An adaptive loop (R531): its estimate, pin and the pin's window (none while the hold is 0 and it is pinned). -/
structure Loop where
  est : Nat
  /-- The estimate is a wish below 0 (R210). -/
  below : Bool
  pinned : Bool
  win : Option Window
  /-- The override of a pin now in force has been journalled (R532). -/
  overrode : Bool
deriving DecidableEq, Repr

/-- A due atom that waits for its function (R527): settings unit code, starvation window, owed, deferred once. -/
structure Due where
  unit : Nat
  win : Window
  owed : Bool
  deferred : Bool
deriving DecidableEq, Repr

/-- Temper, the loops and the telemetry monitor. -/
structure Background where
  loops : List Loop
  override : Bool
  due : List Due
  /-- TEMP_DERATE and LF_DERATE hold (R534, R208). -/
  derate : Bool
  lfDerate : Bool
  vlfLimit : Bool
  /-- Telemetry items 0–31 as last sampled (R124). -/
  items : List Word
  /-- TEL_LIMIT is armed per sensor: it has been 2 °C below T_WARN (R534). -/
  warnArmed : List Bool
  /-- Stamp of the last sensor sweep. -/
  sweepAt : Nat
deriving DecidableEq, Repr

/-! ### Work in progress -/

/-- The transponder exchange of TRANSPONDER_READ (R232): stage 0 charge, 1 TP_M1 sent, 2 TP_M3 sending. -/
structure TpRun where
  stage : Nat
  icode : Nat
  minDepth : Nat
  expect : Nat
  nb : Bytes
  crcEnd : Nat
  slot : Nat
  token : Nat
  depth : Nat
  turn : Nat
deriving DecidableEq, Repr

/-- A ranging exchange (R241): stage 0 RANGE_ARM emitting, 1 RANGE_READY awaited, 2 RESPONSE awaited, 3 REPORT awaited, 4 no packet is
sent any more, since the deadline closes first (R252). Its timestamps are of 40 bits (R237). -/
structure RangeRun where
  stage : Nat
  x : Nat
  chan : Nat
  sts : Nat
  pcode : Nat
  da : Nat
  db : Nat
  bound : Nat
  /-- Settings sampled at the command's start (R132): `UWB.POLL_DLY`, `PDOA_MODE`, `STS_MIN`, `FP_TOL`, `EARLY_WIN`, `EARLY_MAX`,
  `CFO_MAX`; and the calibration in force (R254). -/
  pollDly : Nat
  pdoa : Nat
  stsMin : Nat
  fpTol : Nat
  earlyWin : Nat
  earlyMax : Nat
  cfoMax : Nat
  cal : List Word
  slot : Nat
  token : Nat
  ks : Nat
  authEsn : Nat
  accepted : Nat
  /-- Clean time in RU of the POLL RMARKER, and the timestamps of POLL, RESPONSE and FINAL (R237, R245). -/
  base : Nat
  poll : Nat
  resp : Nat
  fin : Nat
  score : Nat
  fpDiff : Nat
  early : Nat
  cfo : Int
  power : Word
  az : Word
  el : Word
deriving DecidableEq, Repr

/-- A token exchange by a ROM script (R428): kind 0 TOKEN_AUTH, 1 TOKEN_MEM_READ, 2 TOKEN_MEM_WRITE, 3 LEARN_ADD. -/
structure TokenRun where
  kind : Nat
  stage : Nat
  /-- Sequencer: 0 Hammer A, 1 Hammer B. -/
  seq : Nat
  mask : Nat
  rate : Nat
  slot : Nat
  token : Nat
  nb : Bytes
  nt : Bytes
  /-- Page, first unit or chunk, count, units or chunks done, attempts made. -/
  page : Nat
  first : Nat
  count : Nat
  at_ : Nat
  tries : Nat
  /-- Data to write or read so far, and the chunks received. -/
  data : Bytes
  got : List (Nat × Bytes)
  /-- Learn master, token priority and ticket counter of the admission a LEARN_ADD began under (R397). -/
  klm : Nat
  prio : Nat
  ticket : Nat
deriving DecidableEq, Repr

/-- A Kwewin command in progress (R452–R465): its stage, the frame's attempts so far and what it carries. -/
structure NodeRun where
  stage : Nat
  addr : Nat
  trunk : Nat
  tries : Nat
  n : List Nat
  bytes : Bytes
  found : List (Nat × Bytes)
  /-- The session a NODE_GRANT names has ended, or the relay it is bound to has locked: the cause (R26). -/
  ended : Option Nat
deriving DecidableEq, Repr

/-- What an executing command has in hand. -/
inductive Work where
  /-- LF_TELEGRAM, LF_WAKE_LOCATE: stage 0 telegram, 1 locate phase, 2 listening; mask, slot length, target, peaks. -/
  | telegram
  | locate (stage mask slot target : Nat) (peaks : List Nat)
  | transponder (x : TpRun)
  | range (x : RangeRun)
  | token (x : TokenRun)
  | node (x : NodeRun)
  /-- ATLAS_COMMIT, until no ATLAS_QUERY executes (R288). -/
  | commit
  | script (seq : Nat)
deriving DecidableEq, Repr

/-- What a completion brings about in its own event (R121). -/
inductive Effect where
  | none
  | evidence (e : Evidence)
  | decision (d : Decision)
  | session (x : Session)
  /-- A grant comes into force; `ended` is the cause that ends it at once, where its session has ended or the relay has locked (R26). -/
  | grant (addr : Nat) (g : Grant) (num : Nat) (ended : Option Nat)
  | relay
  /-- A current authenticated token with the KS material its slot takes (R382). -/
  | auth (x : TokenSession) (key : Bytes)
  /-- Revocation of a slot, where one is named, and of listed IDs (R394). -/
  | revoke (slot : Option Nat) (ids : List Nat)
  /-- An admission opens; the old set is erased; IDs leave the revocation list (R395, R396). -/
  | admitting (a : Admission) (erase : Bool) (lift : List Nat)
  /-- Atlas evidence records, each with the payload word its index is reported in (R275). -/
  | atlasEvidence (es : List (Nat × Evidence))
  /-- The shadow volume becomes the active one (R288). -/
  | atlasCommit
  /-- A verified policy image becomes the table (R306). -/
  | policy (ws : List Word)
  /-- The admission closes with a cause of R401. -/
  | closeAdmission (cause : Nat)
  | commit
  | sleep (target : Nat) (keep : Bool)
  | poll (on : Bool)
  /-- A host partition table takes effect (R487). -/
  | partitions (table : Bytes)
  /-- A key becomes the material of a slot: slot, attributes, material (R116, R362). -/
  | key (slot attr : Nat) (material : Bytes)
  /-- The record of a command that journal hold turns away goes into its class's summary (R144). -/
  | fold (cls : Nat)
deriving DecidableEq, Repr

/-- What a completed command reports: where word `index` of the payload takes the evidence or session index, and the
records of its event. -/
structure Result where
  status : Status
  payload : List Word
  effect : Effect
  index : Option Nat
  drafts : List Draft
deriving DecidableEq, Repr

/-- The life of a command between its doorbell and its entry (R111). -/
inductive Phase where
  | queued
  /-- Held for entropy (R126, R376). -/
  | held
  | running (w : Work)
  /-- Work done; the entry is presented by COMPLETION_PRESENTED. -/
  | done (r : Result)
  /-- The payload waits for room in the completion store (R119). -/
  | waiting (r : Result)
  /-- Unpredictable after a host error (R13). -/
  | lost
deriving DecidableEq, Repr

/-- A command in flight that has no entry yet. -/
structure Cmd where
  tag : Nat
  desc : List Word
  payload : List Word
  bellTb : Nat
  bellEsn : Nat
  uOpen : Nat
  phase : Phase
  /-- Execution stamp (start). -/
  startTb : Nat
  /-- AES lanes it took at its start (R354). -/
  lanes : Nat
  /-- Sequencer chosen at its start (R115): 0 Hammer A, 1 Hammer B. -/
  hammer : Option Nat
  /-- Settings in effect at its start (R132). -/
  sets : List (Nat × Nat)
  /-- A function has begun its work; before that its completion comes from the dispatcher's checks (R109). -/
  begun : Bool
  /-- Rung before READY (R88). -/
  early : Bool
deriving DecidableEq, Repr

/-- An entry of the completion store (R108). -/
structure Entry where
  tag : Nat
  op : Nat
  status : Nat
  esn : Nat
  tb : Nat
  payload : List Word
deriving DecidableEq, Repr

/-- Straps and fuses (R31, `REVID`, `CAPS_A`). -/
structure Ident where
  refsel : Bool
  lfsrc : Bool
  grade0 : Bool
  dbgFused : Bool
  minor : Nat
  major : Nat
  romrev : Nat
deriving DecidableEq, Repr

/-- Start-up in progress (R540, R581). -/
structure Start where
  /-- A cold power-up has not finished its phases 1 and 4. -/
  cold : Bool
  /-- A warm reset waits for HRST_N (R537). -/
  waitHrst : Bool
  /-- The start waits in phase 2 for the DRBG (R544). -/
  entropy : Bool
  /-- BOOT record not yet completed: its stamp (R541). -/
  boot : Option Nat
  /-- UNFLUSHED of the BOOT record (R143). -/
  unflushed : Bool
  rootLost : Bool
  /-- State that this start leaves, by the codes of R578: 0 cold power-up, 2 PARK, 3 DEEP, 5 RUN. -/
  left : Nat
  /-- A warm reset triggered in standby whose RESET record waits for the re-anchor (R553): its cause. -/
  due : Option Nat
deriving DecidableEq, Repr

/-- Every piece of the device's state but the queue of waiting commands. -/
structure Dev where
  ident : Ident
  clock : Clock
  pwr : Power
  host : HostIf
  start : Start
  cmds : List Cmd
  store : List Entry
  /-- Tags whose payloads wait for room, in the order in which they began to wait (R119). -/
  waiting : List Nat
  /-- Settings whose value is not the default, by rising address (R129, R130). -/
  sets : List (Nat × Nat)
  /-- Pending low words (R131). -/
  setLow : List (Nat × Nat)
  jrnl : Journal
  evc : Evc
  tmr : List Channel
  lf : Lf
  uhf : Uhf
  uwb : Uwb
  atlas : Atlas
  rel : Release
  cru : Crucible
  anvil : Anvil
  tok : Tokens
  ham : Hammer
  kw : Kwewin
  nv : Nv
  med : Media
  bg : Background
  /-- The model's own: which free value the next open choice takes. -/
  free : Nat
deriving DecidableEq, Repr

/-- The device and the commands that wait, first in, first out. -/
structure State extends Dev where
  pending : List Instr
deriving DecidableEq, Repr

/-! ### Reset -/

/-- A window that contains no instant (R9). -/
def Window.none : Window := ⟨0, 0, 0⟩

/-- The clock at cold power-up: TB, ρ, ESN and U at 0, the spread generator at segment 0 (R38, R52, R44); the depth is the
default of `SYS.SPREAD` (R34) and the ratio the nominal 3,808.59375 (R41). -/
def Clock.reset : Clock :=
  { rootOn := true, burst := false, tb := 0, rho := 0, pos := 0, depth := 10, unc := 0, tbEntry := 0, lfCycles := 0, ratio := none,
    frozen := 3993600000, ratioFrom := none, anchorTb := 0, esn := 0, evEsn := 0, evTb := 0, evPlace := 0, fifo := [],
    snapTb := 0, snapRes := 0, snapValid := false }

/-- Every Host domain off but those the fixed list keeps; no hold, no deferral. -/
def Power.reset : Power :=
  { dev := .starting,
    doms := (List.range 24).map (fun n => if n = 0 || n = 1 || n = 17 || n = 20 then .on else .off),
    holds := [], deferrals := [], req := 0, rej := false, ign := false, brk := false, loss := false, prev := 0,
    sleep := none, wakes := 0, parkAt := 0, runTicks := 0, runFrom := 0, busyAt := 0, vsupLow := false, vlfLow := false, vbatLow := false,
    vholdLow := false }

/-- The host interface with every register at the reset value of its field table (chapter 4). -/
def HostIf.reset : HostIf :=
  { data := 0, irqEn := false, ready := false, degraded := false, phase := 0, cold := true, wdt := false, hrst := false,
    swrst := false, supply := false, fnBusy := 0, staged := [], passedAt := 0, refused := false, cqRead := 0, irqMask := 0,
    routes := [0, 1, 1, 1, 1, 1, 1, 2, 2, 2, 2, 3, 3, 3, 3, 3], routeSel := 0, evcAddr := 0, setAddrLo := 0, setAddrHi := 0,
    setOk := true, setLocked := false, setRange := false, setProt := false, jrnlSel := 0, jrnlCapEsn := 0,
    jrnlCapTag := List.replicate 8 0, jrnlCapCount := 0, wdtCfg := 0, wdtWin := none, wdtExpired := false,
    dbgAllow := false, dbgUnlocked := false, poison := 0 }

/-- No record has ever been appended. -/
def Journal.reset : Journal :=
  { buf := [], v2 := [], anchor := none, nextNumber := 0, lastTag := List.replicate 8 0, lastEsn := 0, oldestAt := 0,
    hold := false, folded := [], head := none, headAt := 0, headDue := false, headSeq := 0 }

/-- The event controller with its reset words (R152–R161). -/
def Evc.reset : Evc :=
  { srcCfg := (List.range 160).map srcCfgReset, srcFilt := (List.range 160).map srcFiltReset, filtWas := [],
    pendH := List.replicate 160 none, pendA := List.replicate 160 none, pendB := List.replicate 160 none,
    actA := [], actB := [], lastEsn := List.replicate 160 0, cond := List.replicate 160 false,
    level := List.replicate 160 false, ball := List.replicate 160 false, wcfg := (List.range 32).map wcfgReset,
    wfilt := (List.range 32).map wfiltReset, wcount := List.replicate 32 0, latched := List.replicate 32 none,
    prigroup := 2, statOk := true, statLocked := false, statHold := false, lock := false, held := [], trigger := none }

/-- A timer channel at reset (R167, R183). -/
def Channel.reset : Channel :=
  { run := false, cosnap := false, frz := 0, cmpMode := 0, start := 0, base := 0, cmp := 0, cmpHiHeld := none,
    target := none, snap := 0, snapAt := 0, stale := false, capA := 0, capB := 0, pw := 0, capSeq := 0, lead := none,
    prevCap := none, edges := 0, out := false, outAt := 0, late := false, frozen := false, dead := false, past := [] }

def Lf.reset : Lf :=
  { aerials := List.replicate 8 ⟨0, 0, 0, 0⟩, config := none, polling := false, stage := 0, due := 0, noisyRun := 0,
    cleanRun := 0, noisy := false, rotate := 7, pollCount := 0, emission := none, airStart := 0,
    airCarriers := 0, airFtw := 134433, airBit := 32, airLen := 0, airBurst := 0, air := [],
    airIcodes := List.replicate 8 0, airShapes := List.replicate 8 2, airRamp := 2, slots := [], standbyDue := 0, stage7 := false }

def Uhf.reset : Uhf :=
  { windows := [], seqs := List.replicate 32 none, lastRssi := 0, rssi := 0, lastId := 0, lastCode := 0, framesOk := 0,
    framesBad := 0, unlocked := [false, false], faulted := [false, false], jammed := [false, false] }

def Uwb.reset : Uwb :=
  { x := 0, lastTof := 0, lastCause := 0, cal := List.replicate 16 0, unlocked := false, faulted := false, poll := none,
    sent := none, asel := false, tuneTemp := 0, anchorX := 0, anchorWin := Window.none, anchorTof := 0, anchorDb := 0,
    anchorMin := 0, anchorDone := false, anchorNodes := [], anchorSend := [], anchorPoll := [], anchorSlot := 0 }

/-- No load (R286). -/
def AtlasLoad.idle : AtlasLoad := ⟨0, 0, 0, [], false, 0, 0⟩

def Atlas.reset : Atlas :=
  { active := none, load := AtlasLoad.idle, loaded := false, reloadFailed := false, cache := [], former := [],
    queries := 0 }

def Release.reset : Release :=
  { evidence := List.replicate 64 none, decisions := List.replicate 16 none, nextDecision := 0, policy := none,
    policyStage := [], relay := .locked, fault := false, cause := 0, diag := 0, sessions := List.replicate 32 none,
    last := 0 }

/-- An EMPTY key slot. -/
def KeySlot.empty : KeySlot :=
  { attr := 0, material := [], seq := 0, keyset := 0, useBase := 0, okA := true, okB := true }

/-- An EMPTY token slot. -/
def TokenSlot.empty : TokenSlot :=
  { state := 0, prio := 0, seq := 0, id := 0, gen := 0, epoch := 0, tb := 0, okA := true, okB := true }

/-- A device never provisioned: no shares, no slots, counters at 0. -/
def Crucible.reset : Crucible :=
  { shareA := [], shareB := [], scramble := [], scramble10 := [], keyhdr := none, provisioned := false,
    slots := List.replicate 64 KeySlot.empty, tokens := List.replicate 32 TokenSlot.empty, uses := List.replicate 64 0,
    updCnt := 0, commit := none, prepared := none, stage := [], staging := false, uid := List.replicate 16 0, pak := none,
    tampstat := 0, tampered := false, tamperDue := false, tinCfg := 0, trips := 0, dieTemp := 200, slotBad := 0,
    rollFwd := false, rollBack := false, slotBadFlag := false, wakeId := 0, dbgSeen := false }

/-- The noise source before its first sample. -/
def Health.reset : Health := { last := none, run := 0, first := 0, pos := 0, same := 0, passed := 0, gathered := 0 }

def Anvil.reset : Anvil :=
  { contexts := List.replicate 8 none, decim := 1, health := Health.reset, blocks := [], ready := false, cold := false,
    hfail := false, etime := false, failed := false, failWin := none, key := List.replicate 32 0, v := 0, requests := 0,
    seededAt := 0, reseedDue := false, reserve := none, remaskAt := 0 }

/-- No admission is open. -/
def Admission.closed : Admission :=
  { state := 0, kind := 0, n := 0, klm := 0, prio := 0, flags := 0, cause := 0, counter := 0, win := Window.none,
    learnt := 0, digest := [], ids := [] }

def Tokens.reset : Tokens :=
  { session := none, adm := Admission.closed, tktCnt := 0, enrolCnt := 0, revlist := [] }

/-- A sequencer with nothing loaded; W registers, RAM and buffers 0. -/
def Seqr.reset : Seqr :=
  { w := List.replicate 16 0, flags := 0, pc := 0, prog := 0, frames := [], iram := [], ib := List.replicate 1024 0,
    ob := List.replicate 1024 0, running := none, rom := false, image := none, claimed := 0, restoring := false,
    restoreFailed := false, dirty := false, halted := false, breakpoints := [],
    wait := none, endCause := 0, endPc := 0 }

def Hammer.reset : Hammer :=
  { a := Seqr.reset, b := Seqr.reset, banks := [], seqK03 := 0, seqDas := 0, stage := [], storedA := none, storedB := none }

def Kwewin.reset : Kwewin :=
  { upA := false, upB := false, faultA := false, faultB := false, seenA := false, seenB := false, seenSilent := false,
    nodes := [], epoch := 0, started := false, bumpAt := none, replies := [], ring := [], rejects := 0, cycle := 0,
    testing := [false, false], cursor := [0, 0], sent := [], sets := [3, 600, 10, 3, 10, 2, 10] }

/-- A blank array with a formatted, empty host partition table. -/
def Nv.reset : Nv :=
  { cells := [], bad := [], table := some (List.replicate 56 0), queue := [], busy := false, undo := [], seqs := [], stale := [], staging := none,
    scrub := none, scrubRan := 0, scrubFrom := 0, corr := false, uncorr := false, mismatch := 0, counted := [],
    writes := 0, lastBad := 0xFFFF, bootEpoch := 0, torn := [], uwbCal := List.replicate 16 0, atlSel := none,
    policy := none }

/-- No die is attached. -/
def Media.reset : Media :=
  { state := .down, through := true, ready := false, holdupOk := false, flush := false, rebuild := false, uncorr := false,
    dies := [], nif := 0, sdrMode := 0, formatted := false, foreign := false, failed := false, userUnits := 0,
    atlasMib := 0, profMib := 0, v4 := [], v6 := [], mapped := [], buf := [], units := [], slc := 0, ladder := [], age := 0,
    ageAt := 0, ageSaved := 0, offWin := none, offDone := false, tel := [], telCount := 0, telAt := 0, testIn := none, testPass := false, testC := 0,
    unflushed := 0, ladderHits := 0, rebuilt := 0, uncorrReads := 0, mapMismatch := 0 }

/-- The loops at their defaults: poll period 150 ms, trims 16, squelches 20, rate 400 MB/s, sample period 1,000 ms. -/
def Background.reset : Background :=
  { loops := [150, 16, 16, 16, 16, 16, 16, 16, 16, 20, 20, 400, 1000].map (fun e => ⟨e, false, false, none, false⟩),
    override := false, due := [], derate := false, lfDerate := false, vlfLimit := false,
    items := List.replicate 32 0, warnArmed := List.replicate 4 true, sweepAt := 0 }

/-- The device right after power-on reset releases, before the first phase of its start (R536, R540). -/
def Dev.reset : Dev :=
  { ident := ⟨false, false, false, false, 0, 0, 0⟩, clock := Clock.reset, pwr := Power.reset, host := HostIf.reset,
    start := ⟨true, false, false, none, false, false, 0, none⟩, cmds := [], store := [], waiting := [], sets := [], setLow := [],
    jrnl := Journal.reset, evc := Evc.reset, tmr := List.replicate 16 Channel.reset, lf := Lf.reset, uhf := Uhf.reset,
    uwb := Uwb.reset, atlas := Atlas.reset, rel := Release.reset, cru := Crucible.reset, anvil := Anvil.reset,
    tok := Tokens.reset, ham := Hammer.reset, kw := Kwewin.reset, nv := Nv.reset, med := Media.reset,
    bg := Background.reset, free := 0 }

/-- The machine right after reset: no command waits. -/
def State.reset : State := { Dev.reset with pending := [] }

end Sys2Proof.Machine
end

