-- ==== Sys2Proof/Machine/Clock.lean ====
section
/-!
DEFINITION. The timebase (chapter 2): the spread profile in closed form, the advance of TB by one spread FABRIC edge and to
a stamp, the continuation from the 32.768 kHz clock, the re-anchor and the uncertainty.
-/

namespace Sys2Proof.Machine

/-- D of the spread depth (R34). -/
def spreadD (setting : Nat) : Nat :=
  match setting with
  | 0 => 0
  | 1 => 5
  | 2 => 10
  | _ => 20

/-- Weight m_j of segment j (R34). -/
def weight (j : Nat) : Nat := if j < 16 then 2 * j + 1 else 63 - 2 * j

/-- Sum of the weights of the segments before j. -/
def weightSum (j : Nat) : Nat := if j ≤ 16 then j * j else 512 - (32 - j) * (32 - j)

/-- Rotation steps inserted up to ROOT edge `e` of a modulation period (R34): the accumulator of a segment ends at 0, so a
segment inserts its q_j steps and the r-th edge of one has seen ⌊r·q_j / 1,000⌋. -/
def stepsAt (d e : Nat) : Nat :=
  d * weightSum (e / 1000) + (e % 1000) * (d * weight (e / 1000)) / 1000

/-- Clean length, in RU, from the start of a modulation period to its FABRIC edge `p` (R8, R36). -/
def edgeRu (d p : Nat) : Nat := 512 * p + stepsAt d (8 * p)

/-- Clean time of the last FABRIC edge, in RU from the zero of TB (R36). -/
def Clock.ru (c : Clock) : Nat := 512 * c.tb + c.rho

/-- The next spread FABRIC edge (R36); `want` is the depth that a period which begins now takes (R35). The arbiter accepts up to 4
of the events that wait at its ports (R50). -/
def Clock.tick (want : Nat) (c : Clock) : Clock :=
  let k := stepsAt c.depth (8 * (c.pos + 1)) - stepsAt c.depth (8 * c.pos)
  let t := c.rho + k
  if c.pos + 1 = 4000 then
    { c with tb := c.tb + 1 + t / 512, rho := t % 512, pos := 0, depth := want, fifo := c.fifo.drop 4 }
  else { c with tb := c.tb + 1 + t / 512, rho := t % 512, pos := c.pos + 1, fifo := c.fifo.drop 4 }

/-- TB at the FABRIC edge before the present one (R36), at the depth of this period. -/
def Clock.before (c : Clock) : Nat :=
  let p := if c.pos = 0 then 4000 else c.pos
  (c.ru - (edgeRu c.depth p - edgeRu c.depth (p - 1))) / 512

/-- The least FABRIC edge of a period, in (lo, hi], at or after the clean length `g`; edge `hi` is at or after it. -/
def leastEdge (d g : Nat) : Nat → Nat → Nat → Nat
  | 0, _, hi => hi
  | f + 1, lo, hi =>
    if hi ≤ lo + 1 then hi
    else if g ≤ edgeRu d ((lo + hi) / 2) then leastEdge d g f lo ((lo + hi) / 2)
    else leastEdge d g f ((lo + hi) / 2) hi

/-- What waits at the arbiter's ports `n` FABRIC cycles later: it accepts up to 4 events a cycle (R50). -/
def Clock.drained (c : Clock) (n : Nat) : List Nat := c.fifo.drop (4 * n)

/-- The clock at FABRIC edge `p` of a period that began at clean time `base`, `n` edges from now. -/
def Clock.atEdge (c : Clock) (want depth base p n : Nat) : Clock :=
  let r := base + edgeRu depth p
  if p = 4000 then { c with tb := r / 512, rho := r % 512, pos := 0, depth := want, fifo := c.drained n }
  else { c with tb := r / 512, rho := r % 512, pos := p, depth := depth, fifo := c.drained n }

/-- The clock at the first later spread FABRIC edge at or after clean time `g`, in RU. -/
def Clock.forward (want g : Nat) (c : Clock) : Clock :=
  let base := c.ru - edgeRu c.depth c.pos
  if g ≤ base + edgeRu c.depth 4000 then
    let p := leastEdge c.depth (g - base) 13 c.pos 4000
    c.atEdge want c.depth base p (p - c.pos)
  else
    let base1 := base + edgeRu c.depth 4000
    let n := (g - 1 - base1) / edgeRu want 4000
    let base2 := base1 + n * edgeRu want 4000
    let p := leastEdge want (g - base2) 13 0 4000
    c.atEdge want want base2 p (4000 - c.pos + 4000 * n + p)

/-- The clock at the first spread FABRIC edge at or after clean time `g`, in RU: the present one when it is. -/
def Clock.runRu (want g : Nat) (c : Clock) : Clock := if g ≤ c.ru then c else c.forward want g

/-- The clock at the first spread FABRIC edge whose TB is at or after `t` (R51). -/
def Clock.runTo (want t : Nat) (c : Clock) : Clock := if t ≤ c.tb then c else c.forward want (512 * t)

/-- The clock one edge on where that edge is at or before clean time `g`. -/
def Clock.nudge (want g : Nat) (c : Clock) : Clock := if (c.tick want).ru ≤ g then c.tick want else c

/-- The clock at the last spread FABRIC edge at or before a clean time in RU (R39), never back; edges are at most 517 RU apart. -/
def Clock.edgeAtRu (want g : Nat) (c : Clock) : Clock :=
  (((c.runRu want (g - 1034)).nudge want g).nudge want g).nudge want g

/-- An event presented to a port whose FIFO of 4 is full waits for the cycle in which a place is free (R49); the FIFOs of all 13 ports
are empty after 13 cycles. -/
def Clock.room (want port : Nat) : Nat → Clock → Clock
  | 0, c => c
  | n + 1, c => if 4 ≤ c.fifo.count port then Clock.room want port n (c.tick want) else c

/-- Place of an event within its stamp: by port, and in a port a window's close before the others (R50, R51). -/
def placeOf (port : Nat) (close : Bool) : Nat := 2 * port + (if close then 0 else 1)

/-- The cycle in which an event that comes after those accepted so far is presented: the present one, or the next one where an event
of a later place has been accepted in this one, so that the order of ESNs is that of stamp, port and place (R11, R50). -/
def Clock.turn (want port : Nat) (close : Bool) (c : Clock) : Clock :=
  Clock.room want port 13 (if c.evTb = c.tb && placeOf port close < c.evPlace then c.tick want else c)

/-- An event takes the next ESN and the stamp of the cycle in which it is presented (R49, R52). -/
def Clock.accept (want port : Nat) (close : Bool) (c : Clock) : Clock :=
  let c := c.turn want port close
  { c with evEsn := c.esn, evTb := c.tb, evPlace := placeOf port close, esn := c.esn + 1, fifo := c.fifo ++ [port] }

/-- An event that the present event brings about, presented to its own port behind it (R50, R575). -/
def Clock.follow (want port : Nat) (c : Clock) : Clock :=
  let c := Clock.room want port 13 c
  { c with evEsn := c.esn, evTb := c.tb, esn := c.esn + 1, fifo := c.fifo ++ [port] }

/-- The value the Hearth holds `n` LF cycles after TB_entry (R42). -/
def Clock.continued (c : Clock) (n : Nat) : Nat := c.tbEntry + ceilDiv (n * c.frozen) 1048576

/-- The present time: TB, or the continued value (R42). -/
def Clock.now (c : Clock) : Nat := if c.rootOn then c.tb else c.continued c.lfCycles

/-- The first LF cycle whose continued value is at or after `t`. -/
def Clock.cycleAt (c : Clock) (t : Nat) : Nat :=
  if t ≤ c.tbEntry then 0 else (t - c.tbEntry - 1) * 1048576 / c.frozen + 1

/-- Time advanced to `t`, never back: by spread FABRIC edges, or by LF cycles in a continuation. -/
def Clock.advance (want t : Nat) (c : Clock) : Clock :=
  if c.rootOn then c.runTo want t else { c with lfCycles := max c.lfCycles (c.cycleAt t) }

/-- Entry to a continuation: the ratio is frozen, a ratio window still open is discarded, and TB_entry is one more than
the last TB value (R41, R42). -/
def Clock.enter (c : Clock) : Clock :=
  { c with rootOn := false, tbEntry := c.tb + 1, lfCycles := 0, fifo := [], frozen := c.ratio.getD c.frozen, ratio := none,
           ratioFrom := none }

/-- Growth of U at a re-anchor (R44): C ticks were added, with drift allowance `ppm`. -/
def uncGrowth (added ppm : Nat) : Nat := 2 + ceilDiv (added * ppm) 1000000

/-- The re-anchor at the next LF edge after `t` (R43, R44): TB is the continued value of that edge plus 1, ρ is 0 and the
spread generator starts a modulation period (R38). -/
def Clock.reanchor (depth ppm t : Nat) (c : Clock) : Clock :=
  let n := max (c.lfCycles + 1) (c.cycleAt t)
  let v := c.continued n
  { c with rootOn := true, tb := v + 1, anchorTb := v + 1, rho := 0, pos := 0, depth := depth, lfCycles := n,
           unc := c.unc + uncGrowth (v - c.tbEntry) ppm }

/-- Exponent of R46: the least e ≤ 15 with ⌈U / 8^e⌉ ≤ 1,023. -/
def uncExp (u : Nat) : Option Nat := (List.range 16).find? (fun e => ceilDiv u (8 ^ e) ≤ 1023)

/-- `TBSTAT` (R46). -/
def tbstat (u : Nat) (lfsrc : Bool) : Word :=
  match uncExp u with
  | some e => word (ceilDiv u (8 ^ e) + e * 1024 + b2n lfsrc * 16384)
  | none => word (0x3FFF + b2n lfsrc * 16384 + 32768)

end Sys2Proof.Machine
end

