-- ==== Sys2Proof/Machine/Ops.lean ====
section
/-!
DEFINITION. The named operations every meaning is written over: reading a setting, waiting for a stamp, windows, free
values, presenting an event to the arbiter, setting a source pending, and the power domains.
-/

namespace Sys2Proof.Machine

/-! ### Settings and time -/

/-- The value in effect of a writable setting, by its first address (R130). -/
def Dev.setting (d : Dev) (addr : Nat) : Nat := cellGet (settingDefault addr) addr d.sets

/-- The present time (R36, R42). -/
def Dev.now (d : Dev) : Nat := d.clock.now

/-- Drift allowance a in ppm (R44): `SYS.LFXO_PPM` under the crystal, 20,000 under the RC oscillator. -/
def Dev.driftPpm (d : Dev) : Nat := if d.ident.lfsrc then d.setting 0x000012 else 20000

/-- The depth a modulation period that begins now takes (R35). -/
def Dev.wantDepth (d : Dev) : Nat := spreadD (d.setting 0x000010)

/-- Time advanced to stamp `t`, never back (R51). -/
def Dev.wait (t : Nat) (d : Dev) : Dev := { d with clock := d.clock.advance d.wantDepth t }

/-! ### Windows (R9, R45) -/

/-- A window of `len` ticks opened now, with the uncertainty of its open. -/
def Dev.opened (d : Dev) (len : Nat) : Window := ⟨d.now, d.now + len, d.clock.unc⟩

/-- The close has been reached: TB + (U − U_open) ≥ close (R45). -/
def Dev.reached (d : Dev) (w : Window) : Bool := w.close ≤ d.now + (d.clock.unc - w.uOpen)

/-- The stamp at which a window's close is reached, or its open where that is later (R9, R45). -/
def Dev.closeAt (d : Dev) (w : Window) : Nat := max w.opens (w.close - (d.clock.unc - w.uOpen))

/-- Time advanced to a window's close (R51). -/
def Dev.toClose (w : Window) (d : Dev) : Dev := d.wait (d.closeAt w)

/-- The close of a window goes before the present event (R50, R51): its stamp is an earlier one, or it is the same and the close's port
comes first, or it is that of the event. Closes reached in a standby stand in their own place among what is presented at the re-anchor. -/
def Dev.closedFirst (w : Window) (port : Nat) (d : Dev) : Bool :=
  d.reached w && d.clock.evTb == d.clock.tb && (d.closeAt w ≤ d.clock.before || placeOf port true ≤ d.clock.evPlace : Bool)

/-- Place of an event in the order of R52: stamp first, then ESN. -/
def age (stamp : Nat) (esn : Esn) : Nat := stamp * 2 ^ 32 + esn.toNat

/-! ### Free values -/

/-- An open number, and the state that takes the next one for the next choice. -/
def Dev.freeNat (d : Dev) : Nat × Dev := (Config.freeNat d.free, { d with free := d.free + 1 })

/-- An open word. -/
def Dev.freeWord (d : Dev) : Word × Dev := (Config.freeWord d.free, { d with free := d.free + 1 })

/-- An open choice. -/
def Dev.freeBool (d : Dev) : Bool × Dev := (Config.freeBool d.free, { d with free := d.free + 1 })

/-- `n` open bytes. -/
def Dev.freeBytes (d : Dev) (n : Nat) : Bytes × Dev :=
  ((List.range n).map (fun i => Config.freeByte (d.free + i)), { d with free := d.free + n })

/-! ### Events (R49–R52, R155) -/

/-- An event presented to a port of the arbiter and accepted: it takes the next ESN and the stamp of its cycle (R49–R52); `close` is
for the close of a window. While ROOT is stopped no ESN is given; the happening keeps its continued stamp (R42). -/
def Dev.acceptOn (port : Nat) (close : Bool) (d : Dev) : Dev :=
  if d.clock.rootOn then { d with clock := d.clock.accept d.wantDepth port close }
  else { d with clock := { d.clock with evTb := d.now } }

/-- The same on the host port (R50). -/
def Dev.accept (d : Dev) : Dev := d.acceptOn 13 false

/-- What the present event brings about as an event of its own, on its own port behind it (R575, R577): `f` under the ESN and stamp it
takes, after which the present event goes on under its own. -/
def Dev.aside (port : Nat) (f : Dev → Dev) (d : Dev) : Dev :=
  let x := f (if d.clock.rootOn then { d with clock := d.clock.follow d.wantDepth port }
    else { d with clock := { d.clock with evTb := d.now } })
  { x with clock := { x.clock with evEsn := d.clock.evEsn, evTb := d.clock.evTb } }

/-- The `n`-th word of a source's configuration. -/
def Dev.srcCfg (d : Dev) (n : Nat) : Nat := (d.evc.srcCfg.getD n 0).toNat

/-- A pending word's entry for an event with stamp `t`: set where the target's EN bit is 1. One that is pending already keeps the event
that set it, since events are coalesced (R155). -/
def pend (on : Bool) (n t : Nat) (l : List (Option Nat)) : List (Option Nat) :=
  if on && (l.getD n none).isNone then l.set n (some t) else l

/-- Pending set for each target whose EN bit is 1, and `LAST_ESN` written (R155). -/
def Dev.setPending (n : Nat) (d : Dev) : Dev :=
  let c := d.srcCfg n
  { d with evc := { d.evc with
      pendH := pend (bit 4 c) n d.clock.evTb d.evc.pendH, pendA := pend (bit 5 c) n d.clock.evTb d.evc.pendA,
      pendB := pend (bit 6 c) n d.clock.evTb d.evc.pendB, lastEsn := d.evc.lastEsn.set n d.clock.evEsn } }

/-- A watcher entry latches the happening of its source at continued value `t` (R161, R162); during a warm reset it latches nothing
(R582). -/
def Dev.latchAt (w t : Nat) (d : Dev) : Dev :=
  let c := (d.evc.wcfg.getD w 0).toNat
  if bit 9 c && !d.start.waitHrst then
    { d with evc := { d.evc with
        wcount := d.evc.wcount.set w (min 255 (d.evc.wcount.getD w 0 + 1)),
        latched := if (d.evc.latched.getD w none).isNone then d.evc.latched.set w (some t) else d.evc.latched,
        trigger := if bit 8 c then some (min t (d.evc.trigger.getD t)) else d.evc.trigger } }
  else d

/-- The same at the present continued value. -/
def Dev.latch (w : Nat) (d : Dev) : Dev := d.latchAt w d.now

/-- A happening of a source outside the watcher that a burst of PARK brings is presented after the re-anchor, and so is the change of
state from PARK to DEEP (R61, R160); a condition is presented then where it still holds. -/
def heldSource (n : Nat) : Bool := n = 10 || (sourceKind n == .event && (sourcePort n == 5 || sourcePort n == 7))

/-- A source's event reaches the event controller: pending while ROOT runs; otherwise latched by its watcher entry, or held at its port
until the re-anchor; no other is observed (R159, R160). -/
def Dev.reach (n : Nat) (d : Dev) : Dev :=
  if d.clock.rootOn then d.setPending n
  else
    match sourceWatcher n with
    | some w => d.latch w
    | none => if heldSource n then { d with evc := { d.evc with held := d.evc.held ++ [n] } } else d

/-- An event of source `n`, presented on its port (R147, R148, R155). -/
def Dev.event (n : Nat) (d : Dev) : Dev := (d.acceptOn (sourcePort n) false).reach n

/-- An event of source `n` that the present event brings about: it takes an ESN of its own behind it (R148, R575). -/
def Dev.raise (n : Nat) (d : Dev) : Dev := d.aside (sourcePort n) (Dev.reach n)

/-- The condition of a kind L source begins: one event, then the condition is readable (R148). -/
def Dev.begins (n : Nat) (d : Dev) : Dev :=
  if d.evc.cond.getD n false then d
  else Dev.event n { d with evc := { d.evc with cond := d.evc.cond.set n true } }

/-- The same, where the present event brings it about. -/
def Dev.arises (n : Nat) (d : Dev) : Dev :=
  if d.evc.cond.getD n false then d
  else Dev.raise n { d with evc := { d.evc with cond := d.evc.cond.set n true } }

/-- The condition of a kind L source ends (R156). -/
def Dev.ends (n : Nat) (d : Dev) : Dev := { d with evc := { d.evc with cond := d.evc.cond.set n false } }

/-- The condition of a kind L source is made to be `on`. -/
def Dev.condition (n : Nat) (on : Bool) (d : Dev) : Dev := if on then d.begins n else d.ends n

/-! ### Power domains (R53, R54) -/

/-- State of a domain. -/
def Dev.dom (d : Dev) (n : Nat) : Domain := d.pwr.doms.getD n .off

/-- A domain's supply is on. -/
def Dev.domOn (d : Dev) (n : Nat) : Bool :=
  match d.dom n with
  | .off => false
  | .lost => false
  | _ => true

/-- A domain's clocks are stopped by CLK_GATE. -/
def Dev.domGated (d : Dev) (n : Nat) : Bool := d.dom n == .gated

def Dev.setDom (n : Nat) (x : Domain) (d : Dev) : Dev := { d with pwr := { d.pwr with doms := d.pwr.doms.set n x } }

/-- Domains that follow the device state alone (R53). -/
def domFixed (n : Nat) : Bool := n == 0 || n == 1 || n == 17 || n == 20

/-- A secure hold stands on a domain (R67). -/
def Dev.domHeld (d : Dev) (n : Nat) : Bool := d.pwr.holds.any (fun h => h.dom == n)

/-- A POWER_OFF of a domain is deferred (R68). -/
def Dev.domDeferred (d : Dev) (n : Nat) : Bool := d.pwr.deferrals.any (fun f => f.dom == n)

/-- Ticks of RUN since the cold power-up (R497, R518). -/
def Dev.runTime (d : Dev) : Nat := d.pwr.runTicks + (if d.pwr.dev == .run then d.now - d.pwr.runFrom else 0)

/-- The device runs commands: RUN or DOZE. -/
def Dev.awake (d : Dev) : Bool := d.pwr.dev == .run || d.pwr.dev == .doze

/-! ### EEPROM page writes (R472) -/

/-- The next page write begins when one waits, PD16 is on with its clocks running, and VSUP_LOW does not hold (R472). -/
def Dev.nvKick (d : Dev) : Dev :=
  { d with nv := { d.nv with busy := d.nv.busy || (!d.nv.queue.isEmpty && d.dom 16 == .on && !d.pwr.vsupLow) } }

/-- Page writes asked for, behind those already asked for (R472). -/
def Dev.nvQueue (ws : List PageWrite) (d : Dev) : Dev :=
  Dev.nvKick { d with nv := { d.nv with queue := d.nv.queue ++ ws } }

/-- Page writes of a device partition, whose record stands in its unit's state. -/
def devWrites (owner : Option Nat) (pages : List Nat) : List PageWrite := pages.map (fun p => ⟨owner, p, []⟩)

/-- A page of the device's counters, which it increments of its own accord (R473, R493). -/
def counterPage (p : Nat) : Bool := 4 ≤ p && p ≤ 50

/-- Page writes without those of some owners that have not begun, but for counts, which the device makes of its own accord (R476, R493). -/
def Nv.without (p : Option Nat → Bool) (n : Nv) : List PageWrite :=
  let b := if n.busy then 1 else 0
  n.queue.take b ++ (n.queue.drop b).filterMap (fun w =>
    if !p w.owner then some w else if counterPage w.page then some { w with owner := none } else none)

/-- First pages of copy A of the device's records whose SEQ stands in no unit's state: PTABLE, KEYHDR, ATLSEL, ATLCKPT, UWBCAL, SCRSEQ and
LEARNST (R473, R474). -/
def seqPages : List Nat := [0, 2, 75, 77, 79, 81, 83]

/-- SEQ of such a record stepped up at its rewrite, or back where the rewrite is dropped (R479). -/
def Nv.seqStep (page by_ : Nat) (n : Nv) : Nv :=
  if seqPages.contains page then { n with seqs := cellPut 0 page ((cellGet 0 page n.seqs + by_) % 2 ^ 32) n.seqs } else n

/-- A device record rewritten, copy B's pages and then copy A's (R479). The rewrite may yet be dropped, so the old record is kept until
copy B is whole. -/
def Dev.recordWrite (owner : Option Nat) (b a : List Nat) (old : OldRecord) (d : Dev) : Dev :=
  let left := (d.nv.queue.filter (fun w => w.owner == owner)).length + b.length
  let nv : Nv := { d.nv with undo := d.nv.undo ++ [⟨owner, left, a.headD 0, old⟩] }
  Dev.nvQueue (devWrites owner (b ++ a)) { d with nv := nv.seqStep (a.headD 0) 1 }

end Sys2Proof.Machine
end

