-- ==== Sys2Proof/Machine/Journal.lean ====
section
/-!
DEFINITION. The branch keys of the device root (R321) and the audit journal (R137–R144): the record, its chain tag, appending,
journal hold and folding, and the records other units write.
-/

namespace Sys2Proof.Machine

/-! ### Branch keys -/

/-- The bytes of a label. -/
def ascii (s : String) : Bytes := s.toList.map (fun c => byte c.toNat)

/-- The device root secret: the exclusive or of its shares (R317). -/
def Dev.drs (d : Dev) : Bytes := xorBytes d.cru.shareA d.cru.shareB

/-- A key of `n` bytes on a branch of the device root (R321). -/
def Dev.branchKey (d : Dev) (label : String) (ctx : Bytes) (n : Nat) : Bytes := hkdf d.drs d.cru.uid (ascii label ++ ctx) n

/-- The root can be used: provisioned and not TAMPERED. -/
def Dev.rooted (d : Dev) : Bool := d.cru.provisioned && !d.cru.tampered

/-! ### Origins and classes (R137, R138) -/

def oHost : Nat := 1
def oHammer (seq : Nat) : Nat := 2 + seq
def oDebug : Nat := 4
def oLoop : Nat := 5
def oTamper : Nat := 6
def oPower : Nat := 7
def oBoot : Nat := 8
def oNode (n : Nat) : Nat := 0x100 + n

/-- A record's fields with no detail. -/
def draft (cls unit subject old new cause : Nat) : Draft := ⟨cls, unit, subject, old, new, cause, 0⟩

/-- Bytes 0–39 of a record (R137). -/
def Record.bytes (r : Record) : Bytes :=
  leBytes 4 r.esn ++ leBytes 4 r.epoch ++ leBytes 8 r.tb ++ leBytes 2 r.origin ++ leBytes 1 r.cls ++ leBytes 1 r.unit ++
  leBytes 4 r.subject ++ leBytes 4 r.old ++ leBytes 4 r.new ++ leBytes 2 r.auxTag ++ leBytes 1 r.auxOp ++
  leBytes 1 r.auxCause ++ leBytes 4 r.auxDetail

/-- All 48 bytes of a record (R137). -/
def Record.all (r : Record) : Bytes := r.bytes ++ r.tag

/-- Eight zero bytes. -/
def zeroTag : Bytes := List.replicate 8 0

/-- The chain tag of a record behind one with tag `prev`; zero while unprovisioned or TAMPERED (R141). -/
def Dev.chainTag (d : Dev) (r : Record) (prev : Bytes) : Bytes :=
  if d.rooted then (cmac (d.branchKey "jrnl" [] 32) (r.bytes ++ prev)).take 8 else zeroTag

/-- The record of the present event (R137, R140). -/
def Dev.recordOf (d : Dev) (origin tag op : Nat) (x : Draft) : Record :=
  { number := d.jrnl.nextNumber, esn := d.clock.evEsn.toNat, epoch := d.nv.bootEpoch, tb := d.clock.evTb, origin := origin,
    cls := x.cls, unit := x.unit, subject := x.subject, old := x.old, new := x.new, auxTag := tag, auxOp := op,
    auxCause := x.cause, auxDetail := x.detail, tag := zeroTag }

/-- Pages of the two copies of ring record `n` of CHAINHD: copy A and copy B in the two halves of pages 51–74, two to a
page (R473, R482). -/
def headPages (n : Nat) : List Nat := [63 + (n + 23) % 24 / 2, 51 + (n + 23) % 24 / 2]

/-- The chain head stored, its FLUSHED bit clear, as the next page write (R143). -/
def Dev.headUnflushed (d : Dev) : Dev :=
  match d.jrnl.head with
  | some (n, e, b, t, true) =>
    let ws := devWrites none (headPages (d.jrnl.headSeq + 1))
    let begun := if d.nv.busy then 1 else 0
    let first := d.nv.queue.take begun
    let later (u : Undo) : Undo := if u.owner.isNone then { u with left := u.left + ws.length } else u
    let undo : Undo := ⟨none, (first.filter (fun w => w.owner.isNone)).length + 1, 0, .head d.jrnl.head d.jrnl.headSeq⟩
    Dev.nvKick { d with
      nv := { d.nv with queue := first ++ ws ++ d.nv.queue.drop begun, undo := undo :: d.nv.undo.map later },
      jrnl := { d.jrnl with head := some (n, e, b, t, false), headSeq := d.jrnl.headSeq + 1 } }
  | _ => d

/-- A record appended to the buffer (R140–R143). Behind an uncompleted BOOT record it has no chain tag yet (R541). -/
def Dev.append (r : Record) (d : Dev) : Dev :=
  let d := d.headUnflushed
  let t := if d.start.boot.isSome then zeroTag else d.chainTag r d.jrnl.lastTag
  let r := { r with number := d.jrnl.nextNumber, tag := t }
  { d with jrnl := { d.jrnl with
      buf := d.jrnl.buf ++ [r], nextNumber := d.jrnl.nextNumber + 1,
      lastTag := if d.start.boot.isSome then d.jrnl.lastTag else t, lastEsn := r.esn,
      oldestAt := if d.jrnl.buf.isEmpty then d.now else d.jrnl.oldestAt, headDue := true } }

/-- A record put into its class's summary (R144): class, count, first ESN, last ESN. -/
def foldInto (cls esn : Nat) : List (Nat × Nat × Nat × Nat) → List (Nat × Nat × Nat × Nat)
  | [] => [(cls, 1, esn, esn)]
  | (c, n, a, z) :: fs => if c = cls then (c, n + 1, a, esn) :: fs else (c, n, a, z) :: foldInto cls esn fs

def Dev.fold (cls : Nat) (d : Dev) : Dev :=
  { d with jrnl := { d.jrnl with folded := foldInto cls d.clock.evEsn.toNat d.jrnl.folded } }

/-- Entry to journal hold when the general space of 960 records is full: an event of its own on the host port, whose record takes the
first place of the reserve (R144, R577). -/
def Dev.holdEntry (d : Dev) : Dev :=
  if !d.jrnl.hold && 960 ≤ d.jrnl.buf.length then
    let n := d.jrnl.buf.length
    let d := d.begins 155
    let d := d.append (d.recordOf oPower 0xFFFF 0xFF (draft 0x7F 0xFF (d.jrnl.nextNumber % 2 ^ 32) n (n + 1) 0))
    { d with jrnl := { d.jrnl with hold := true } }
  else d

/-- Journal hold is entered behind the records of the event that filled the general space (R140, R144). -/
def Dev.settle (before d : Dev) : Dev := if d.jrnl.nextNumber = before.jrnl.nextNumber then d else d.holdEntry

/-- A meaning: the device is changed and the queue is left as it was. -/
def run (f : Dev → Dev) (s : State) : Host.Outcome State Fault Refusal := .next { s with toDev := Dev.settle s.toDev (f s.toDev) }

/-- A record of the present event (R139, R144): it takes a place of the buffer while one is free, in hold one of the reserve, and is
folded after that. -/
def Dev.log (origin tag op : Nat) (x : Draft) (d : Dev) : Dev :=
  if d.jrnl.buf.length < 1024 then d.append (d.recordOf origin tag op x) else d.fold x.cls

/-- A record that concerns no command. -/
def Dev.note (origin : Nat) (x : Draft) (d : Dev) : Dev := d.log origin 0xFFFF 0xFF x

/-- The record of a refused write: folded at once in hold (R144). -/
def Dev.noteRefused (origin : Nat) (x : Draft) (d : Dev) : Dev := if d.jrnl.hold then d.fold x.cls else d.note origin x

/-- Several records of one event, in order (R140). -/
def Dev.logs (origin tag op : Nat) (xs : List Draft) (d : Dev) : Dev := xs.foldl (fun d x => d.log origin tag op x) d

/-- Codes of R578 for a device state. -/
def devCode (x : DevState) : Nat :=
  match x with
  | .starting => 0
  | .doze => 1
  | .park => 2
  | .deep => 3
  | .shelf => 4
  | .run => 5

/-- A change of device state: STATE_CHANGE (source 10) and its POWER record (R61, R578); the record of a change made while
ROOT is stopped is appended at the wake. -/
def Dev.stateChange (x : DevState) (d : Dev) : Dev :=
  let old := devCode d.pwr.dev
  let d := Dev.event 10 { d with pwr := { d.pwr with dev := x, runTicks := d.runTime, runFrom := d.now } }
  if d.clock.rootOn then d.note oPower (draft 0x41 0x01 0xFF old (devCode x) 0) else d

/-- Any event or access brings the device from DOZE to RUN first (R61). -/
def Dev.undoze (d : Dev) : Dev :=
  if d.pwr.dev == .doze then Dev.stateChange .run { d with pwr := { d.pwr with prev := 1 } } else d

/-- An event of no source on a port (R50), after DOZE has been left for it. -/
def Dev.presentOn (port : Nat) (d : Dev) : Dev := d.undoze.acceptOn port false

/-- The same on the host port. -/
def Dev.present (d : Dev) : Dev := d.presentOn 13

/-- The close of a window, presented on a port (R51). It takes its ESN even where another event has removed its purpose (R575). -/
def Dev.closeOn (port : Nat) (d : Dev) : Dev := d.undoze.acceptOn port true

/-- A row that closes a window: the close is presented on a port at the stamp at which it is reached (R51), and `f` is what it does. A
window that another event has ended already still has its close take an ESN (R575); none is tested while ROOT is stopped (R576). -/
def Dev.closes (port : Nat) (w : Option Window) (f : Dev → Dev) (d : Dev) : Dev :=
  if !d.clock.rootOn then d
  else
    match w with
    | some w => f ((d.toClose w).closeOn port)
    | none => d.closeOn port

/-- An event of source `n`, after DOZE has been left for it (R61). -/
def Dev.signal (n : Nat) (d : Dev) : Dev := d.undoze.event n

/-- The beginning of a kind L condition, after DOZE has been left for it. -/
def Dev.starts (n : Nat) (d : Dev) : Dev := if d.evc.cond.getD n false then d else d.undoze.begins n

/-- The same two where something else may be the present event, behind which they come (R575). -/
def Dev.alsoSignal (n : Nat) (d : Dev) : Dev := d.undoze.raise n
def Dev.alsoStarts (n : Nat) (d : Dev) : Dev := if d.evc.cond.getD n false then d else d.undoze.arises n

/-- A record whose cause is not otherwise an event: it is presented on a port as an event of its own (R577). -/
def Dev.noteOn (port origin : Nat) (x : Draft) (d : Dev) : Dev := d.aside port (Dev.note origin x)

end Sys2Proof.Machine
end

