-- ==== Sys2Proof/Machine/Shared.lean ====
section
/-!
DEFINITION. Effects that several units bring about: evidence and decision records (R292, R304), access sessions (R313), grants
(R457, R459), the relay's lock (R309), and what the units drop when a command they serve ends.
-/

namespace Sys2Proof.Machine

/-! ### Inputs -/

/-- The active level of an external input: its filtered level, inverted under INV (R152). -/
def Dev.active (d : Dev) (n : Nat) : Bool := (d.evc.level.getD n false) != bit 9 (d.srcCfg n)

/-- HARM (R83), ENGINE_RUN and any DOOR (`RELSTAT`). -/
def Dev.harm (d : Dev) : Bool := d.evc.level.getD 24 false
def Dev.engineRun (d : Dev) : Bool := d.active 25
def Dev.anyDoor (d : Dev) : Bool := (List.range 6).any (fun n => d.active (26 + n))

/-! ### Token slots and evidence -/

/-- A token slot enrolled and not revoked. -/
def Dev.enrolled (d : Dev) (s : Nat) : Bool := (d.cru.tokens.getD s TokenSlot.empty).state == 1

/-- The enrolled slot that holds a token ID (R223). -/
def Dev.slotOfToken (d : Dev) (id : Nat) : Option Nat :=
  (List.range 32).find? (fun s => d.enrolled s && (d.cru.tokens.getD s TokenSlot.empty).id == id)

/-- The index of the least of some numbers. -/
def leastBy (f : α → Nat) : Nat → List α → Option (Nat × Nat)
  | _, [] => none
  | i, a :: as =>
    match leastBy f (i + 1) as with
    | some (j, m) => if f a ≤ m then some (i, f a) else some (j, m)
    | none => some (i, f a)

/-- The place of a new record: the lowest free index, or the oldest record (R52, R292). -/
def freeIndex (key : α → Nat) (l : List (Option α)) : Nat :=
  match l.findIdx? Option.isNone with
  | some i => i
  | none => ((leastBy (fun x => (x.map key).getD 0) 0 l).map Prod.fst).getD 0

/-- The index a new evidence record takes (R292). -/
def Dev.evidenceIndex (d : Dev) : Nat := freeIndex (fun e : Evidence => age e.win.opens e.esn) d.rel.evidence

/-- Freshness window of evidence and decisions: 2 s (R292, R22). -/
def freshTicks : Nat := 249600000

/-- An evidence record made in the present event (R121, R292). -/
def Dev.putEvidence (e : Evidence) (d : Dev) : Dev :=
  let e := { e with esn := d.clock.evEsn, win := d.opened freshTicks }
  { d with rel := { d.rel with evidence := d.rel.evidence.set d.evidenceIndex (some e) } }

/-- A decision record made in the present event: it takes the next index, and supersedes the slot's earlier records
(R304). -/
def Dev.putDecision (x : Decision) (d : Dev) : Dev :=
  let x := { x with esn := d.clock.evEsn, win := d.opened freshTicks }
  let keep (o : Option Decision) : Option Decision :=
    match o with
    | some y => if y.slot = x.slot && x.slot ≠ 0xFF then none else some y
    | none => none
  { d with rel := { d.rel with
      decisions := (d.rel.decisions.map keep).set d.rel.nextDecision (some x), nextDecision := (d.rel.nextDecision + 1) % 16 } }

/-- Every evidence record and decision record of a slot is freed (R293). -/
def Dev.freeSlotRecords (s : Nat) (d : Dev) : Dev :=
  { d with rel := { d.rel with
      evidence := d.rel.evidence.map (fun o => if o.any (fun e => e.slot == s) then none else o),
      decisions := d.rel.decisions.map (fun o => if o.any (fun e => e.slot == s) then none else o) } }

/-! ### Kwewin nodes and grants -/

/-- A node record that is EMPTY. -/
def Node.empty : Node :=
  { state := 0, type := 0, trunk := 0, dn := 0, seq := 0, kn := [], fid := [], cm := 0, cn := 0, synced := false,
    silent := false, misses := 0, gnum := 0, grant := none, prev := none, rollback := none, ending := none }

/-- The node at an address. -/
def Dev.node (d : Dev) (a : Nat) : Node := cellGet Node.empty a d.kw.nodes

def Dev.setNode (a : Nat) (n : Node) (d : Dev) : Dev :=
  { d with kw := { d.kw with nodes := cellPut Node.empty a n d.kw.nodes } }

/-- A KWN setting as the present cycle applies it (R468), by its index. -/
def Dev.kwn (d : Dev) (i : Nat) : Nat := d.kw.sets.getD i 0

/-- Addresses whose node holds a grant that meets `p`. -/
def Dev.grantsWhere (d : Dev) (p : Grant → Bool) : List Nat :=
  (d.kw.nodes.filter (fun c => c.2.grant.any p)).map Prod.fst

/-- A grant is in force. -/
def Dev.anyGrant (d : Dev) : Bool := !(d.grantsWhere (fun _ => true)).isEmpty

/-- The cause with which a grant ends: EXPIRY where its close comes first, and where it falls in the tick of a session's end or of the
relay's lock (R26, R51). -/
def Dev.grantCause (d : Dev) (cause : Nat) (g : Grant) : Nat :=
  if d.closedFirst g.win 4 || ((cause = 1 || cause = 5) && d.reached g.win) then 0 else cause

/-- A grant ends in the present event with a cause of R457: source 44, its GRANT record, and the GRANT_END frames that are
due (none for EXPIRY and RESET). -/
def Dev.endGrant (origin tag op cause a : Nat) (d : Dev) : Dev :=
  let n := d.node a
  match n.grant with
  | none => d
  | some g =>
    let cause := d.grantCause cause g
    let frames := if cause = 0 || cause = 3 then none else some (d.kwn 5 + 1, cause)
    let d := d.setNode a { n with grant := none, ending := frames }
    (d.raise 44).log origin tag op (draft 0x30 0x09 a g.scope (g.win.close % 2 ^ 32) cause)

def Dev.endGrants (origin tag op cause : Nat) (as : List Nat) (d : Dev) : Dev :=
  as.foldl (fun d a => d.endGrant origin tag op cause a) d

/-! ### Sessions -/

/-- Sessions open. -/
def Dev.sessionCount (d : Dev) : Nat := (d.rel.sessions.filter Option.isSome).length

/-- A NODE_GRANT with a binding that meets `p`, on its way, will find its grant ended with `cause` (R26, R455). -/
def Dev.grantFalls (p : Nat → Bool) (cause : Nat) (d : Dev) : Dev :=
  let mark (x : Phase) : Phase := match x with
    | .running (.node n) => .running (.node { n with ended := n.ended.orElse (fun _ => if p (n.n.getD 1 0) then some cause else none) })
    | .done r => .done { r with effect := fallen r.effect }
    | .waiting r => .waiting { r with effect := fallen r.effect }
    | x => x
  { d with cmds := d.cmds.map (fun c => if (c.desc.headD 0).toNat / 256 == 0x72 then { c with phase := mark c.phase } else c) }
where
  fallen (e : Effect) : Effect := match e with
    | .grant a g num ended => .grant a g num (ended.orElse (fun _ => if p g.binding then some cause else none))
    | e => e

/-- A session ends in the present event with a cause of R313, or with TIMEOUT where its close comes first (R21): SESSION_END (source 35)
and its SESSION record. -/
def Dev.closeSession (origin tag op cause num : Nat) (d : Dev) : Dev :=
  match d.rel.sessions.getD num none with
  | none => d
  | some x =>
    let cause := if d.closedFirst x.win 3 then 1 else cause
    let d := { d with rel := { d.rel with sessions := d.rel.sessions.set num none } }
    ((d.grantFalls (· == num) 1).raise 35).log origin tag op { draft 0x22 0x06 num x.zone cause 0 with detail := cause }

/-- The numbers of the sessions that meet `p`, rising. -/
def Dev.sessionsWhere (d : Dev) (p : Session → Bool) : List Nat :=
  (List.range 32).filter (fun n => (d.rel.sessions.getD n none).any p)

/-- Sessions end, and then the grants that name them, with cause `gcause` (R26, R140). -/
def Dev.endList (origin tag op gcause cause : Nat) (ns : List Nat) (d : Dev) : Dev :=
  let gs := d.grantsWhere (fun g => ns.contains g.binding)
  (ns.foldl (fun d n => d.closeSession origin tag op cause n) d).endGrants origin tag op gcause gs

/-- A session ends in the present event, where it is open, with its grants. -/
def Dev.endSession (origin tag op gcause cause num : Nat) (d : Dev) : Dev :=
  if (d.rel.sessions.getD num none).isSome then d.endList origin tag op gcause cause [num] else d

/-- Every session that meets `p` ends, in rising number, with the grants that name them (R140). -/
def Dev.endSessions (origin tag op gcause cause : Nat) (p : Session → Bool) (d : Dev) : Dev :=
  d.endList origin tag op gcause cause (d.sessionsWhere p)

/-! ### The relay -/

/-- Both switches conduct. -/
def Dev.energised (d : Dev) : Bool :=
  match d.rel.relay with
  | .locked => false
  | _ => true

/-- `RELSTAT` (chapter 4). -/
def Dev.relstat (d : Dev) : Word :=
  word (b2n d.energised * 7 + b2n d.harm * 8 + b2n d.engineRun * 16 + b2n d.anyDoor * 32 + b2n d.rel.fault * 64 +
    d.rel.cause * 128 + d.sessionCount * 1024)

/-- A unit works for the command in this phase. -/
def Phase.working (p : Phase) : Bool :=
  match p with
  | .running _ => true
  | _ => false

/-- A command in a phase: once a unit has begun its work, that stays known (R109). -/
def Cmd.into (p : Phase) (c : Cmd) : Cmd := { c with phase := p, begun := c.begun || p.working }

/-- A command's phase replaced. -/
def Dev.setPhase (tag : Nat) (p : Phase) (d : Dev) : Dev :=
  { d with cmds := d.cmds.map (fun c => if c.tag = tag then c.into p else c) }

/-- A result with a status and nothing else. -/
def Result.plain (st : Status) : Result := ⟨st, [], .none, none, []⟩

/-- A result that becomes STATE_CONFLICT with nothing else but its records. -/
def Result.conflict (r : Result) : Result := { r with status := .stateConflict, payload := [], effect := .none, index := none }

/-- A result whose effect would energise the relay, or keep it energised, becomes STATE_CONFLICT. -/
def Phase.unreleased (p : Phase) : Phase :=
  match p with
  | .done r => if r.effect = .relay then .done r.conflict else p
  | .waiting r => if r.effect = .relay then .done r.conflict else p
  | p => p

/-- The relay locks in the present event (R309): both switches off, `RELSTAT.CAUSE`, RELAY_LOCK (source 33) and the LOCK
record. A START_RELEASE that has not completed yet completes STATE_CONFLICT (R307). -/
def Dev.switchOff (origin tag op cause : Nat) (d : Dev) : Dev :=
  let old := d.relstat
  let cs := d.cmds.map (fun c => { c with phase := c.phase.unreleased })
  let d := { d with cmds := cs, rel := { d.rel with relay := .locked, cause := cause } }
  ((d.grantFalls (· == 0xFF) 5).raise 33).log origin tag op (draft 0x21 0x06 0 old.toNat d.relstat.toNat cause)

/-- Addresses whose grants are bound to the relay. -/
def Dev.relayGrants (d : Dev) : List Nat := d.grantsWhere (fun g => g.binding == 0xFF)

/-- The relay locks, and every grant bound to it ends with cause `gcause` (R459). -/
def Dev.lockRelay (origin tag op cause gcause : Nat) (d : Dev) : Dev :=
  (d.switchOff origin tag op cause).endGrants origin tag op gcause d.relayGrants

/-- The relay locks, every session ends, and with them the grants bound to either, in the order of R140: LOCK, SESSION, GRANT
records. `rcause` and `gcause` are the causes of the grants bound to the relay and to a session. -/
def Dev.quell (origin cause scause rcause gcause : Nat) (d : Dev) : Dev :=
  let ns := d.sessionsWhere (fun _ => true)
  let rs := d.relayGrants
  let gs := d.grantsWhere (fun g => g.binding != 0xFF)
  let d := ns.foldl (fun d n => d.closeSession origin 0xFFFF 0xFF scause n) (d.switchOff origin 0xFFFF 0xFF cause)
  let all := (d.kw.nodes.map Prod.fst).filter (fun a => rs.contains a || gs.contains a)
  all.foldl (fun d a => d.endGrant origin 0xFFFF 0xFF (if rs.contains a then rcause else gcause) a) d

/-! ### What a unit drops when its command ends -/

/-- The stamp at carrier period `n` of an LF exchange (R188). -/
def Lf.airStamp (l : Lf) (n : Nat) : Nat := l.airStart + ceilDiv (n * 2 ^ 27) l.airFtw

/-- The next bit boundary of the emission in progress, counted back from its end (R205). -/
def Dev.bitBoundary (d : Dev) : Nat :=
  let l := d.lf
  let gone := (d.now - l.airStart) * l.airFtw / 2 ^ 27
  if l.airCarriers ≤ gone then d.now else l.airStamp (l.airCarriers - (l.airCarriers - gone) / l.airBit * l.airBit)

/-- An emission stops: what is left of it runs to its next bit boundary, its safe point (R117, R205). -/
def Dev.stopAir (d : Dev) : Dev :=
  { d with lf := { d.lf with
      emission := match d.lf.emission with
        | some (_, _, m) => if d.now < d.bitBoundary then some (d.bitBoundary, .stopping, m) else none
        | none => none } }

/-- The aerials still carry a stopped exchange to its safe point, so LF is busy (R117). -/
def Dev.stopping (d : Dev) : Bool :=
  match d.lf.emission with
  | some (t, .stopping, _) => d.now < t
  | _ => false

/-- The aerials carry an emission. -/
def Dev.emitting (d : Dev) : Bool :=
  match d.lf.emission with
  | some (t, .stopping, _) => d.now < t
  | some _ => true
  | none => false

/-- The exchange numbers of UWB: the next one, once a scheduled POLL has left (R240). -/
def Dev.nextX (d : Dev) : Nat := d.uwb.x + b2n (d.uwb.poll.any (fun p => !p.2.2 && p.2.1 ≤ d.now))

/-- An exchange ends: x counts its POLL where that has left, anchors are not sent the material any more, and UWB_ASEL is low again (R240,
R251, R258). -/
def Dev.endExchange (tag : Nat) (d : Dev) : Dev :=
  if d.uwb.poll.any (fun p => p.1 == tag) then
    { d with uwb := { d.uwb with x := d.nextX, poll := none, anchorSend := [], asel := false } }
  else d

/-- A unit's work for a command stops: its emission at the next bit boundary, its listen windows, reply windows and sequencer (R117). -/
def Dev.dropWork (tag : Nat) (d : Dev) : Dev :=
  let mine (e : Nat × Emission × Nat) : Bool := match e.2.1 with
    | .command t => t == tag
    | _ => false
  let clear (q : Seqr) : Seqr := if q.running == some tag then { q with running := none, rom := false, wait := none } else q
  let d := (if d.lf.emission.any mine then d.stopAir else d).endExchange tag
  { d with
    uhf := { d.uhf with windows := d.uhf.windows.filter (fun w => w.tag != some tag) },
    kw := { d.kw with replies := d.kw.replies.filter (fun r => r.tag != some tag) },
    ham := { d.ham with a := clear d.ham.a, b := clear d.ham.b } }

end Sys2Proof.Machine
end

