-- ==== Sys2Proof/Machine/Commands.lean ====
section
/-!
DEFINITION. Commands, tags and completions (chapter 5): the descriptor's fields, the catalogue of opcodes, the rules that decide
when a command may start, the checks of R126, and the completion entry.
-/

namespace Sys2Proof.Machine

/-! ### The descriptor (R105) -/

def Cmd.w (c : Cmd) (n : Nat) : Nat := (c.desc.getD n 0).toNat
/-- A parameter of two words, low word first. -/
def Cmd.w2 (c : Cmd) (n : Nat) : Nat := c.w n + 65536 * c.w (n + 1)
def Cmd.w3 (c : Cmd) (n : Nat) : Nat := c.w2 n + 65536 * 65536 * c.w (n + 2)
def Cmd.op (c : Cmd) : Nat := c.w 0 / 256
def Cmd.ordered (c : Cmd) : Bool := bit 0 (c.w 0)
def Cmd.fenced (c : Cmd) : Bool := bit 1 (c.w 0)
def Cmd.urgent (c : Cmd) : Bool := bit 2 (c.w 0)
def Cmd.dlValid (c : Cmd) : Bool := bit 3 (c.w 0)
def Cmd.stream (c : Cmd) : Nat := field 7 4 (c.w 0)
def Cmd.plen (c : Cmd) : Nat := c.w 2
/-- The payload's bytes (R106). -/
def Cmd.bytes (c : Cmd) : Bytes := wordsToBytes c.payload

/-- The full TB value nearest to `tb` with these low 48 bits (R10). -/
def near48 (tb low : Nat) : Nat :=
  let v := tb - tb % 2 ^ 48 + low % 2 ^ 48
  if tb + 2 ^ 47 ≤ v then v - 2 ^ 48 else if v + 2 ^ 47 < tb then v + 2 ^ 48 else v

/-! ### The catalogue (R120) -/

/-- A row of the catalogue: opcode, functions in `FNRST` bit order, the named or chosen Hammer as 14, words of payload at
most, deadline class (0 C, 1 S, 2 E, 3 L). -/
structure OpRow where
  op : Nat
  fns : List Nat
  inMax : Nat
  cls : Nat
deriving DecidableEq, Repr

/-- The catalogue of R120. -/
def opRows : List OpRow :=
  [⟨0x00, [], 512, 0⟩, ⟨0x01, [], 0, 1⟩, ⟨0x02, [], 0, 0⟩, ⟨0x03, [13], 0, 0⟩, ⟨0x08, [8], 0, 0⟩, ⟨0x09, [8, 3], 0, 0⟩,
   ⟨0x10, [0], 64, 1⟩, ⟨0x11, [0], 0, 1⟩, ⟨0x12, [0], 0, 3⟩, ⟨0x13, [0, 1], 0, 0⟩, ⟨0x14, [0], 8, 0⟩, ⟨0x15, [0], 0, 1⟩,
   ⟨0x16, [0, 4, 3], 0, 0⟩, ⟨0x20, [2, 3], 0, 0⟩, ⟨0x21, [2], 32, 1⟩, ⟨0x30, [11], 0, 0⟩, ⟨0x31, [11], 0, 2⟩,
   ⟨0x32, [11], 0, 3⟩, ⟨0x33, [11], 0, 2⟩, ⟨0x34, [11], 0, 3⟩, ⟨0x35, [11, 3], 1024, 1⟩] ++
  [⟨0x40, [14, 0, 1, 3, 4], 0, 0⟩, ⟨0x41, [14, 0, 1, 3, 4], 0, 0⟩, ⟨0x42, [14, 0, 1, 3, 4], 512, 1⟩, ⟨0x43, [4, 3, 9], 64, 1⟩,
   ⟨0x44, [4, 9], 64, 3⟩, ⟨0x45, [4, 3, 9], 128, 1⟩, ⟨0x46, [14, 0, 1, 3, 4, 9], 0, 1⟩, ⟨0x47, [4, 9], 64, 1⟩,
   ⟨0x48, [4, 3, 9], 1024, 1⟩, ⟨0x49, [4, 3, 9], 0, 1⟩, ⟨0x4A, [4, 3], 64, 1⟩, ⟨0x4B, [4, 3], 16, 0⟩, ⟨0x4C, [4, 3], 16, 0⟩,
   ⟨0x4D, [3, 4], 1024, 0⟩, ⟨0x4E, [3], 0, 0⟩, ⟨0x60, [7, 8], 1024, 0⟩, ⟨0x61, [7, 8, 3], 1024, 1⟩, ⟨0x62, [7, 8], 0, 1⟩,
   ⟨0x63, [7], 0, 0⟩] ++
  [⟨0x70, [10, 3, 4, 9], 64, 1⟩, ⟨0x71, [10, 4, 9], 0, 3⟩, ⟨0x72, [10, 11], 0, 2⟩, ⟨0x73, [10], 0, 3⟩, ⟨0x74, [10, 3], 24, 0⟩,
   ⟨0x75, [10], 0, 0⟩, ⟨0x80, [9], 0, 0⟩, ⟨0x81, [9], 512, 1⟩, ⟨0x82, [9], 512, 1⟩, ⟨0x83, [9], 0, 0⟩, ⟨0x84, [9], 0, 1⟩,
   ⟨0x88, [8], 0, 0⟩, ⟨0x89, [8], 1024, 1⟩, ⟨0x8A, [8], 0, 1⟩, ⟨0x8B, [8], 0, 1⟩, ⟨0x8C, [8], 0, 0⟩, ⟨0x8D, [8], 0, 1⟩,
   ⟨0x90, [14, 3, 8], 1024, 1⟩, ⟨0x91, [14], 512, 0⟩, ⟨0x92, [14], 0, 3⟩]

def opRow (op : Nat) : Option OpRow := opRows.find? (fun r => r.op == op)

/-- Deadline class of a command (R116). -/
def Cmd.cls (c : Cmd) : Nat := ((opRow c.op).map OpRow.cls).getD 0

/-- The exchanges a ROM script runs on a sequencer chosen at start (R115). -/
def Cmd.isToken (c : Cmd) : Bool := c.op == 0x40 || c.op == 0x41 || c.op == 0x42 || c.op == 0x46

/-- The sequencer a command uses: the one chosen at its start, to its completion, or the one its word 6 names (R115, R423–R427). -/
def Cmd.seq (c : Cmd) : Option Nat :=
  if c.isToken then c.hammer else if 0x90 ≤ c.op && c.op ≤ 0x92 then some (c.w 6 % 2) else none

/-- A setting as it stood at the command's start (R132). -/
def Cmd.setting (c : Cmd) (addr : Nat) : Nat := cellGet (settingDefault addr) addr c.sets

/-- The functions a command uses (R120, R241 for RANGE_BOUND), its sequencer as function 5 or 6. SELFTEST uses those it
names (R123). -/
def Cmd.uses (c : Cmd) : List Nat :=
  let base := ((opRow c.op).map OpRow.fns).getD []
  let named := base.flatMap (fun f => if f = 14 then (match c.seq with | some q => [5 + q] | none => []) else [f])
  if c.op = 0x20 then named ++ [0, 1] else if c.op = 0x02 then bitsOf 14 (c.w 6) else named

/-- The functions a command occupies from its start to its completion: all it uses, but for ANVIL, CRUCIBLE_LOGIC, MEDIA and
NVSTORE where another function is listed first (R114). A SCRIPT_STOP acts on a sequencer that is occupied (R427). -/
def Cmd.occupies (c : Cmd) : List Nat :=
  if c.op = 0x92 then [] else
  match c.uses with
  | [] => []
  | f :: fs => f :: fs.filter (fun g => !(g == 3 || g == 4 || g == 8 || g == 9))

/-- Commands a function executes at one time (R114): the media manager's transfers; the Anvil's are told by `Dev.anvilRoom`, and the
atlas engine's by `atlasClash`. -/
def capacity (f : Nat) : Nat := if f = 8 then 512 else 1

/-- The unit of the Anvil that a command works on (R353): 0 the AES lanes, 1 the hash unit, 2 the P-256 unit, 3 the DRBG's stream. -/
def Cmd.anvilUnit (c : Cmd) : Nat :=
  let o := c.w 6 % 256
  if c.op = 0x4E then 3
  else if (4 ≤ o && o ≤ 0x0B) || o = 0x14 || o = 0x15 then 0
  else if 0x10 ≤ o && o ≤ 0x12 then 2
  else 1

/-- A parallel mode, CTR or GCM, which takes every free lane at its start (R354). -/
def Cmd.parallel (c : Cmd) : Bool := let o := c.w 6 % 256; (8 ≤ o && o ≤ 0x0B) || o == 0x14 || o == 0x15

/-- An ATLAS_QUERY of deadline class (R272). -/
def Cmd.isDl (c : Cmd) : Bool := c.op == 0x60 && bit 0 (c.w 6)

/-- The atlas engine cannot execute the command `c` beside `b` (R278, R288): it runs one bulk and one deadline-class query at a time, and
ATLAS_COMMIT waits for queries after its start. -/
def atlasClash (b c : Cmd) : Bool := if b.isDl || c.isDl then b.isDl && c.isDl else !(c.op == 0x62 && b.op == 0x60)

/-- The command has started and has no entry yet. -/
def Cmd.executing (c : Cmd) : Bool :=
  match c.phase with
  | .queued => false
  | .held => false
  | _ => true

/-- The command waits to start. -/
def Cmd.queued (c : Cmd) : Bool :=
  match c.phase with
  | .queued => true
  | .held => true
  | _ => false

/-! ### Domains (R54) -/

/-- Domain of a function. -/
def fnDomains (f : Nat) : List Nat :=
  match f with
  | 0 => [4]
  | 1 => [5]
  | 2 => [7, 8]
  | 3 => [9]
  | 4 => [10]
  | 5 => [11]
  | 6 => [12]
  | 7 => [13, 14]
  | 8 => [15]
  | 9 => [16]
  | 10 => [18]
  | 12 => [21]
  | 13 => [22]
  | _ => []

/-- Domains needed at step 3 of R126 (R54). -/
def Cmd.needs (c : Cmd) : List Nat :=
  match c.op with
  | 0x13 => [4, 5]
  | 0x14 => [4]
  | 0x15 => [4]
  | 0x11 => [4]
  | 0x10 => []
  | 0x12 => []
  | 0x16 => [4, 9, 10]
  | 0x40 => [4, 5, 9, 10]
  | 0x41 => [4, 5, 9, 10]
  | 0x42 => [4, 5, 9, 10]
  | 0x46 => [4, 5, 9, 10]
  | 0x20 => [4, 5, 7, 8, 9, 10]
  | 0x31 => [19]
  | 0x30 => []
  | 0x32 => []
  | 0x33 => []
  | 0x34 => []
  | 0x35 => [9]
  | 0x70 => [18, 9, 10, 16]
  | 0x71 => [18, 10, 16]
  | 0x72 => [18]
  | 0x73 => [18]
  | 0x74 => [18, 9]
  | 0x75 => [18]
  | 0x02 => []
  | _ => c.uses.flatMap fnDomains

/-- A sequencer is free for a token command: its domain on and not gated, not in reset, not halted, not restoring, and no command
that uses it has started and not completed (R54, R115, R428). -/
def Dev.seqFree (d : Dev) (q : Nat) : Bool :=
  let x := if q = 0 then d.ham.a else d.ham.b
  d.domOn (11 + q) && !d.domGated (11 + q) && !bit (5 + q) d.host.fnBusy && !x.halted && !x.restoring && x.running.isNone &&
  !d.cmds.any (fun b => b.executing && b.op != 0x92 && b.seq == some q)

/-- The sequencer R115 chooses: A when it is free, otherwise B. -/
def Dev.freeSeq (d : Dev) : Option Nat := if d.seqFree 0 then some 0 else if d.seqFree 1 then some 1 else none

/-- Domains whose gating holds a command back at its start, and those it uses once it executes: those it needs, and those of the functions
a SELFTEST names (R54, R123). -/
def Cmd.domains (c : Cmd) : List Nat := if c.op = 0x02 then c.uses.flatMap fnDomains else c.needs

/-- Domains an executing command uses: those it needs, and its sequencer's. -/
def Cmd.inDomains (c : Cmd) : List Nat :=
  c.domains ++ (match c.seq with | some q => [11 + q] | none => []) ++ (if c.op = 0x16 then [3] else [])

/-- A clock gate stops the work of an executing command until the domain is ungated (R128). -/
def Dev.gateStops (d : Dev) (c : Cmd) : Bool := c.inDomains.any d.domGated

/-! ### Ready to start (R88, R89, R112–R114) -/

/-- The commands before a tag in doorbell order. -/
def cmdsBefore (tag : Nat) : List Cmd → List Cmd
  | [] => []
  | c :: cs => if c.tag = tag then [] else c :: cmdsBefore tag cs

/-- Dies in use. -/
def Dev.diesUsed (d : Dev) : Nat := (d.med.dies.filter (fun x => x.state == 1)).length
/-- The medium can be used: a die, this device's map, and no failed format (R541). -/
def Dev.mediumOk (d : Dev) : Bool := d.diesUsed != 0 && !d.med.foreign && !d.med.failed && d.med.formatted
/-- The map replay of a usable medium has not ended (R521). -/
def Dev.replaying (d : Dev) : Bool := d.med.state == .replay && d.mediumOk

/-- A function that a SELFTEST names is at work without a command that occupies it: a stopped emission or a poll on LF, a page write in the
NV store, or a command that has it serve as a shared service (R114, R123). -/
def Dev.atWork (d : Dev) (c : Cmd) (f : Nat) : Bool :=
  (f = 0 && d.emitting) || (f = 9 && d.nv.busy) ||
  ((f = 3 || f = 4 || f = 8 || f = 9) && d.cmds.any (fun b => b.tag != c.tag && b.executing && b.uses.contains f))

/-- No ORDERED, FENCE, reset, gate or READY rule holds the command back; one that needs MEDIA waits for its replay (R521). -/
def Dev.unblocked (d : Dev) (c : Cmd) : Bool :=
  let before := cmdsBefore c.tag d.cmds
  c.queued && d.host.ready && d.pwr.dev == .run &&
  !(c.ordered && before.any (fun b => b.stream == c.stream)) &&
  !(c.fenced && !before.isEmpty) && !before.any Cmd.fenced &&
  !c.uses.any (fun f => bit f d.host.fnBusy) && !c.domains.any d.domGated &&
  !(c.isToken && d.freeSeq.isNone && (d.domOn 11 || d.domOn 12)) && !(c.uses.contains 8 && d.replaying) &&
  !(c.op == 0x02 && d.cmds.any (fun b => b.tag != c.tag && b.executing && b.occupies.any (fun f => c.uses.contains f))) &&
  !(c.op == 0x02 && c.uses.any (d.atWork c))

/-- Executing commands that occupy a function. -/
def Dev.occupants (d : Dev) (f : Nat) : Nat := (d.cmds.filter (fun c => c.executing && c.occupies.contains f)).length

/-- Settings unit code of a function's background atoms (R525): LF, UWB, RELEASE, ATLAS, NVSTORE, MEDIA, TELEMETRY. -/
def fnUnit (f : Nat) : Option Nat :=
  match f with
  | 0 => some 0x02
  | 2 => some 0x04
  | 11 => some 0x06
  | 7 => some 0x08
  | 9 => some 0x0A
  | 8 => some 0x0B
  | 13 => some 0x0D
  | _ => none

/-- An owed atom goes before ready commands: at its first close, and, once deferred, from its second close on (R527). -/
def Dev.atomFirst (d : Dev) (a : Due) : Bool := a.owed && (!a.deferred || d.reached a.win)

/-- An owed atom of a function stands ahead of the command; an URGENT command passes one that has not been deferred (R527). -/
def Dev.owedAhead (d : Dev) (c : Cmd) : Bool :=
  c.occupies.any (fun f => d.bg.due.any (fun a => fnUnit f == some a.unit && d.atomFirst a && !(c.urgent && !a.deferred)))

/-- AES lanes taken (R354). -/
def Dev.lanesUsed (d : Dev) : Nat := (d.cmds.filter Cmd.executing).foldl (fun n c => n + c.lanes) 0

/-- AES lanes that a command takes at its start (R354). -/
def Dev.lanesFor (d : Dev) (c : Cmd) : Nat :=
  if !c.occupies.contains 3 || c.anvilUnit != 0 then 0 else if c.parallel then 4 - d.lanesUsed else 1

/-- The Anvil has room for the command (R353, R354): a free lane, or the unit it works on. -/
def Dev.anvilRoom (d : Dev) (c : Cmd) : Bool :=
  if c.anvilUnit = 0 then d.lanesUsed < 4
  else !d.cmds.any (fun b => b.executing && b.occupies.contains 3 && b.anvilUnit == c.anvilUnit)

/-- A function has room for the command (R114). LF is busy until a stopped exchange has reached its safe point (R117); a SCRIPT_LOAD
starts beside a SCRIPT_RUN, whose loaded script then decides its status (R423 order 1). -/
def Dev.hasRoom (d : Dev) (c : Cmd) (f : Nat) : Bool :=
  if f = 3 then d.anvilRoom c
  else if (f = 5 || f = 6) && c.op = 0x90 then !d.cmds.any (fun b => b.executing && b.op != 0x91 && b.occupies.contains f)
  else if f = 0 && d.stopping then false
  else if f = 7 then !d.cmds.any (fun b => b.executing && b.occupies.contains 7 && atlasClash b c) else d.occupants f < capacity f

/-- A command may start now, but for those that go before it. -/
def Dev.startable (d : Dev) (c : Cmd) : Bool := d.unblocked c && c.occupies.all (d.hasRoom c) && !d.owedAhead c

/-- The command is held for entropy (R376). -/
def Cmd.isHeld (c : Cmd) : Bool :=
  match c.phase with
  | .held => true
  | _ => false

/-- Another command that may start goes first on a function the two share: URGENT before the others, then doorbell order
(R114); held commands leave the entropy hold in doorbell order (R376), and commands rung before READY start in doorbell order on whatever
functions (R88). DESIGN CHOICE (log 101): only a command that could start now goes first, so one that waits for a second busy function
lets a later command start on a free one that both use. -/
def Dev.outranked (d : Dev) (c : Cmd) : Bool :=
  let before := (cmdsBefore c.tag d.cmds).map Cmd.tag
  d.cmds.any (fun b => b.tag != c.tag && d.startable b &&
    (if b.early && c.early then before.contains b.tag
     else (b.occupies.any (fun f => c.occupies.contains f) &&
       ((b.urgent && !c.urgent) || (b.urgent == c.urgent && before.contains b.tag))) ||
      (b.isHeld && c.isHeld && before.contains b.tag)))

/-- A command may start now. -/
def Dev.ready (d : Dev) (c : Cmd) : Bool := d.startable c && !d.outranked c

/-! ### Deadlines (R116) -/

/-- The window [doorbell stamp, deadline) of a command that has one. -/
def Cmd.window (c : Cmd) : Option Window :=
  if c.dlValid && c.cls != 3 then some ⟨c.bellTb, near48 c.bellTb (c.w3 3), c.uOpen⟩ else none

/-- A command's window has closed. -/
def Dev.late (d : Dev) (c : Cmd) : Bool := c.window.any d.reached

/-- Maximum durations for class E admission (R118). -/
def admitTicks (op : Nat) : Nat := if op = 0x31 then 624000 else if op = 0x33 then 12480 else 2496000

/-! ### Checks 1–4 of R126 -/

/-- Opcodes that run in the TAMPERED state (R127). -/
def runsTampered (op : Nat) : Bool :=
  [0x00, 0x01, 0x03, 0x08, 0x32, 0x34, 0x73, 0x71, 0x12, 0x92, 0x80, 0x83, 0x88, 0x8C, 0x8D].contains op

/-- KEY_UPDATE runs in the TAMPERED state as STAGE and DISCARD, and as PREPARE and COMMIT of a message of KIND 2 (R127, R337). -/
def Dev.updateRuns (d : Dev) (c : Cmd) : Bool :=
  c.op == 0x48 && (match c.w 6 % 4 with
    | 1 => (d.cru.stage.getD 3 0).toNat % 256 == 2
    | 2 => d.cru.prepared.any (fun p => p.kind == 2)
    | _ => true)

/-- CRYPTO_OP operations with a KEY operand (R580). -/
def keyedOp (o : Nat) : Bool := (2 ≤ o && o ≤ 0x0B) || o == 0x10 || o == 0x12 || o == 0x14 || o == 0x15

/-- Opcodes that complete NOT_PROVISIONED on an unprovisioned device (R580). -/
def needsRoot (c : Cmd) : Bool :=
  [0x40, 0x41, 0x42, 0x43, 0x44, 0x45, 0x46, 0x47, 0x49, 0x4A, 0x4B, 0x4C, 0x16, 0x20, 0x35, 0x61, 0x70, 0x72, 0x74].contains c.op ||
  (c.op == 0x4D && keyedOp (c.w 6 % 256))

/-- The holder of R67 whose holds a command takes, and the domains it needs them on; `DEDUCED` (log 27): a domain that the holder holds
only while it uses it is used within one row, so it is held at no other time. -/
def Cmd.holds (c : Cmd) (d : Dev) : List Hold :=
  if c.isToken then
    match d.freeSeq with
    | some q => [⟨1 + q, 11 + q⟩, ⟨1 + q, 9⟩, ⟨1 + q, 10⟩]
    | none => []
  else if [0x43, 0x44, 0x45, 0x47, 0x48, 0x49, 0x4A, 0x4B, 0x4C].contains c.op then [⟨3, 10⟩, ⟨3, 9⟩]
  else if c.op == 0x4D && keyedOp (c.w 6 % 256) then [⟨4, 9⟩]
  else []

/-- The holds that stand from a command's start to its end: a sequencer's own domain, PD10 for the Crucible, PD09 for the Anvil (R67). -/
def Hold.stands (h : Hold) : Bool := !((h.holder = 1 || h.holder = 2) && h.dom < 11) && !(h.holder = 3 && h.dom = 9)

/-- Random-consuming commands (R376). -/
def Cmd.random (c : Cmd) : Bool :=
  [0x4E, 0x49, 0x4A, 0x4B, 0x4C, 0x40, 0x41, 0x42, 0x46, 0x16, 0x20, 0x70, 0x74, 0x09].contains c.op ||
  (c.op == 0x4D && keyedOp (c.w 6 % 256)) || (c.op == 0x48 && (c.w 6 % 4 == 1 || c.w 6 % 4 == 2))

/-- Steps 1–4 of R126, and, for a command that the entropy hold does not stop before them (R376), the hold rule of R72 and the journal
hold rule of R144, in that order; none when all pass. -/
def Dev.check (d : Dev) (c : Cmd) (jclass : Option Nat) : Option Status :=
  if d.cru.tampered && !runsTampered c.op && !d.updateRuns c then some .tampered
  else if !d.cru.provisioned && needsRoot c then some .notProvisioned
  else if c.needs.any (fun n => !d.domOn n) || (c.isToken && !(d.domOn 11 || d.domOn 12)) then some .stateConflict
  else if c.cls = 2 && c.window.any (fun w => w.close ≤ d.now + admitTicks c.op + (d.clock.unc - w.uOpen)) then some .deadline
  else if c.random && !d.anvil.ready then none
  else if (c.holds d).any (fun h => d.domDeferred h.dom) then some .stateConflict
  else if d.jrnl.hold && jclass.isSome then some .stateConflict
  else none

/-- The class of record a command would produce that journal hold refuses it for (R144); class L commands run. -/
def Dev.recordClass (d : Dev) (c : Cmd) : Option Nat :=
  if c.op = 0x48 && c.w 6 % 4 ≠ 0 && (c.w 6 % 4 ≠ 3 || d.cru.prepared.isSome) then some 0x10
  else if c.op = 0x49 || (c.op = 0x4A && c.w 7 < 48) then some 0x10
  else if [0x43, 0x45, 0x46, 0x47].contains c.op then some 0x11
  else if c.op = 0x70 then some 0x31
  else if c.op = 0x90 && bit 0 (c.w 8) then some 0x71
  else if c.op = 0x62 then some 0x72
  else if c.op = 0x61 && bit 0 (c.w 11) && d.atlas.load.state != 0 && c.w2 6 != d.atlas.load.image then some 0x72
  else if c.op = 0x31 then some 0x20
  else if c.op = 0x33 then some 0x22
  else if c.op = 0x72 then some 0x30
  else none

/-! ### Host errors in a descriptor (R12, R13, R107) -/

/-- Words 6–15 of the descriptor from `n` on are zero. -/
def Cmd.zeroFrom (c : Cmd) (n : Nat) : Bool := (c.desc.drop n).all (· == 0)

/-- The payload is too long for its opcode, or the opcode is reserved (R107, R120), or a reserved bit of words 0–5 is set. -/
def Cmd.malformed (c : Cmd) : Bool :=
  match opRow c.op with
  | none => true
  | some r => r.inMax < c.plen || c.w 1 / 512 != 0 || (!c.dlValid && c.w3 3 != 0)

/-- A function of the command is unpredictable after a host error (R13). -/
def Dev.poisoned (d : Dev) (c : Cmd) : Bool := c.uses.any (fun f => bit f d.host.poison)

/-- A host error in the function of a command: the command, and that function from then on, are unpredictable (R13, R104). DESIGN CHOICE
(log 18): the function concerned is the first that R120 lists for the command, the host interface where it lists none. -/
def Dev.hostError (c : Cmd) (d : Dev) : Dev :=
  let f := c.uses.headD 14
  { (d.setPhase c.tag .lost) with host := { d.host with poison := d.host.poison ||| 2 ^ f } }

/-- Status codes in the order of R125. -/
def statuses : List Status :=
  [.done, .abortedFnrst, .holdBroken, .deadline, .authFail, .noResponse, .boundExceeded, .stsReject, .notPlausible, .policyDeny, .slotBad,
   .slotExhausted, .counterStale, .limitReached, .entropyTimeout, .mediaUncorrectable, .nvUncorrectable, .protected_, .nodeSilent,
   .tampered, .notProvisioned, .imageInvalid, .stateConflict, .atlasAbsent, .hwFault]

/-- A command that uses an unpredictable function (R13): a lost completion, or a status and a payload that are open. It has no effect, so
that what R14 protects stays as it is. -/
def Dev.unpredictable (c : Cmd) (d : Dev) : Dev :=
  let lost := d.freeBool
  if lost.1 then lost.2.setPhase c.tag .lost
  else
    let st := lost.2.freeNat
    let n := st.2.freeNat
    let ws := (List.range (n.1 % 513)).map (fun i => Config.freeWord (n.2.free + i))
    Dev.setPhase c.tag (.done ⟨statuses.getD (st.1 % 25) .hwFault, ws, .none, none, []⟩) { n.2 with free := n.2.free + n.1 % 513 }

/-! ### Completion entries (R108–R110) -/

/-- Codes of R125. -/
def Status.code (s : Status) : Nat :=
  match s with
  | .done => 0
  | .abortedFnrst => 1
  | .holdBroken => 2
  | .deadline => 3
  | .authFail => 4
  | .noResponse => 5
  | .boundExceeded => 6
  | .stsReject => 7
  | .notPlausible => 8
  | .policyDeny => 9
  | .slotBad => 0x0A
  | .slotExhausted => 0x0B
  | .counterStale => 0x0C
  | .limitReached => 0x0D
  | .entropyTimeout => 0x0E
  | .mediaUncorrectable => 0x0F
  | .nvUncorrectable => 0x10
  | .protected_ => 0x11
  | .nodeSilent => 0x12
  | .tampered => 0x13
  | .notProvisioned => 0x14
  | .imageInvalid => 0x15
  | .stateConflict => 0x16
  | .atlasAbsent => 0x17
  | .hwFault => 0x18

/-- The words of an entry: 8 header words, then the payload (R108). -/
def Entry.words (e : Entry) : List Word :=
  [word e.tag, word (e.op * 256 + e.status)] ++ leWords 2 e.esn ++ leWords 3 e.tb ++ [word e.payload.length] ++ e.payload

/-- Payload words in the completion store. -/
def Dev.storeWords (d : Dev) : Nat := d.store.foldl (fun n e => n + e.payload.length) 0

/-- A payload fits the completion store (R119). -/
def Dev.fits (d : Dev) (ws : List Word) : Bool := d.storeWords + ws.length ≤ 16384

/-- Port on which the function that finishes a command presents its entry (R50, R109); the dispatcher and the units of the host port
present on 13. -/
def Cmd.finisher (c : Cmd) : Nat :=
  let o := c.op
  if o = 0x01 || o = 0x03 then 2
  else if o = 0x08 || o = 0x09 then 11
  else if 0x10 ≤ o && o ≤ 0x16 then 5
  else if o = 0x20 || o = 0x21 then 6
  else if 0x30 ≤ o && o ≤ 0x35 then 3
  else if 0x60 ≤ o && o ≤ 0x63 then 11
  else if 0x70 ≤ o && o ≤ 0x75 then 4
  else if 0x80 ≤ o && o ≤ 0x84 then 12
  else if 0x88 ≤ o && o ≤ 0x8D then 11
  else match c.seq with
    | some q => 9 + q
    | none => 13

/-- Statuses that a check at a command's start gives (R109, R126). -/
def Status.atStart (s : Status) : Bool :=
  [.tampered, .notProvisioned, .stateConflict, .deadline, .entropyTimeout, .protected_, .slotBad, .slotExhausted, .limitReached,
   .policyDeny, .atlasAbsent, .hwFault].contains s

/-- Port of a completion (R109). DEDUCED (log 102): one of the statuses a check at start gives, of a command for which no function has
begun any work, comes from the dispatcher. -/
def Cmd.port (c : Cmd) (st : Status) : Nat := if !c.begun && st.atStart then 13 else c.finisher

/-- The entry of a command enters the store with the present event's ESN and stamp; its tag is COMPLETED (R108–R111). -/
def Dev.enter (c : Cmd) (status : Nat) (ws : List Word) (d : Dev) : Dev :=
  { d with
    store := d.store ++ [⟨c.tag, c.op, status, d.clock.evEsn.toNat, d.clock.evTb % 2 ^ 48, ws⟩],
    cmds := d.cmds.filter (fun b => b.tag != c.tag) }

/-- Every START_RELEASE is journalled, whatever its status (R137, R138): the decision's ESN, `RELSTAT` before and after, and the
status code. -/
def Dev.releaseLogged (c : Cmd) (st esn old : Nat) (d : Dev) : Dev :=
  if c.op = 0x31 then d.log oHost c.tag c.op (draft 0x20 0x06 esn old d.relstat.toNat st) else d

/-- The phase's result writes a key when it completes. -/
def Phase.writesKey (p : Phase) : Bool :=
  match p with
  | .done ⟨_, _, .key _ _ _, _, _⟩ => true
  | .waiting ⟨_, _, .key _ _ _, _, _⟩ => true
  | _ => false

/-- A command that ends without its result writes no key: its page writes that have not begun are dropped (R69, R116). -/
def Dev.dropChild (c : Cmd) (d : Dev) : Dev :=
  if c.phase.writesKey then { d with nv := { d.nv with queue := d.nv.without (· == some c.tag) } } else d

/-- A command ends in the present event with a status and no payload, and its units stop its work. -/
def Dev.endBy (st : Status) (c : Cmd) (d : Dev) : Dev :=
  (((d.dropChild c).releaseLogged c st.code 0 d.relstat.toNat).enter c st.code []).dropWork c.tag

/-- A command's window closes: DEADLINE in the close event, on the host port, at the close's stamp (R109, R117). -/
def Dev.expire (c : Cmd) (d : Dev) : Dev :=
  match c.window with
  | some w => Dev.endBy .deadline c ((d.toClose w).closeOn 13)
  | none => d

/-- A command that the present event ends: its completion is an event of its own, with a status and no payload, on the port of the
function that presents it (R89, R109, R128). -/
def Dev.endCmd (st : Status) (c : Cmd) (d : Dev) : Dev := d.aside (c.port st) (Dev.endBy st c)

/-- Every command that meets `p` ends so, in doorbell order. -/
def Dev.endCmds (st : Status) (p : Cmd → Bool) (d : Dev) : Dev := (d.cmds.filter p).foldl (fun d c => d.endCmd st c) d

/-! ### Starting -/

def Dev.cmd (d : Dev) (tag : Nat) : Option Cmd := d.cmds.find? (fun c => c.tag == tag)

/-- A command's work ends with a result that waits to be presented. -/
def Dev.finish (tag : Nat) (r : Result) (d : Dev) : Dev := d.setPhase tag (.done r)

/-- A command completes with a status, no payload and no effect. -/
def Dev.fail (tag : Nat) (st : Status) (d : Dev) : Dev := d.finish tag (Result.plain st)

/-- A command completes DONE with a payload and no other effect. -/
def Dev.reply (tag : Nat) (ws : List Word) (d : Dev) : Dev := d.finish tag ⟨.done, ws, .none, none, []⟩

/-- A command as it starts: its execution stamp (R116), its AES lanes (R354), its sequencer (R115), the settings in effect (R132). -/
def Dev.started (d : Dev) (c : Cmd) : Cmd :=
  { c with startTb := d.now, lanes := d.lanesFor c, hammer := if c.isToken then d.freeSeq else none, sets := d.sets }

/-- The command has started (R115, R116, R132), and has its secure holds (R67); an owed atom it passes is deferred once (R527). -/
def Dev.markStart (c : Cmd) (d : Dev) : Dev :=
  let defer (a : Due) : Due :=
    if a.owed && !a.deferred && c.occupies.any (fun f => fnUnit f == some a.unit) then
      { a with deferred := true, win := { a.win with close := a.win.opens + 2 * (a.win.close - a.win.opens) } }
    else a
  { d with
    cmds := d.cmds.map (fun b => if b.tag = c.tag then d.started b else b),
    pwr := { d.pwr with holds := d.pwr.holds ++ (c.holds d).filter (fun h => h.stands && !d.pwr.holds.contains h) },
    bg := { d.bg with due := d.bg.due.map defer } }

/-- A command that journal hold turns away at its start: its record goes into the summary of its class (R144). -/
def Dev.turnedAway (d : Dev) (c : Cmd) (st : Status) : Effect :=
  if d.jrnl.hold && st == .stateConflict && (c.op = 0x31 || d.check c none != some st) then
    ((d.recordClass c).map Effect.fold).getD .none
  else .none

/-- A command that `sel` picks out starts, when it may (R112–R114): a host error makes it unpredictable (R13); a closed window
completes it DEADLINE at the close (R117); then steps 1–4 of R126; then the entropy hold (R376); then `body`, its own checks and work. A
command that may not start is left as it is. -/
def Dev.startCmd (sel : Cmd → Bool) (tag : Nat) (body : Cmd → Dev → Dev) (d : Dev) : Dev :=
  match d.cmd tag with
  | none => d
  | some c =>
    if sel c && d.ready c then
      if c.malformed then d.hostError c
      else if d.poisoned c then d.unpredictable c
      else if d.late c then d.expire c
      else
        match d.check c (d.recordClass c) with
        | some st => d.finish tag { Result.plain st with effect := d.turnedAway c st }
        | none =>
          if c.random && !d.anvil.ready then
            if d.anvil.failed then d.fail tag .entropyTimeout else d.setPhase tag .held
          else body (d.started c) (d.markStart c)
    else d

/-- Settings that a function samples at a command's start (R132): telegram and locate timing, envelope and aerial configuration of LF, paths
and preamble window of UHF, and those of UWB and REL. The others act by their own chapters' rules, as KWN from the next cycle (R468). -/
def sampledAddr (a : Nat) : Bool :=
  (0x020004 ≤ a && a ≤ 0x020007) || (0x020100 ≤ a && a < 0x020180 && a % 16 == 0) || a == 0x030002 || a == 0x030003 ||
  a / 0x10000 == 4 || a / 0x10000 == 6

/-- The settings an executing command's work goes on under (R132). -/
def Cmd.setsAmong (c : Cmd) (now : List (Nat × Nat)) : List (Nat × Nat) :=
  now.filter (fun x => !sampledAddr x.1) ++ c.sets.filter (fun x => sampledAddr x.1)

/-- What a command's function does while the command executes, under the settings sampled at its start (R132). A script reads and writes
settings of itself, so it goes on under the present ones. -/
def Dev.sampled (tag : Nat) (f : Dev → Dev) (d : Dev) : Dev :=
  match d.cmd tag with
  | none => f d
  | some c =>
    if c.op = 0x91 then f d
    else
      let x := f { d with sets := c.setsAmong d.sets }
      { x with sets := d.sets }

/-- Picks a command by its opcode. -/
def isOp (op : Nat) (c : Cmd) : Bool := c.op == op

end Sys2Proof.Machine
end

