-- ==== Sys2Proof/Machine/Nand.lean ====
section
/-!
DEFINITION. What a read of the NAND does beside returning its bytes (R504, R510, R512), and the volumes' fixed sizes (R497).
-/

namespace Sys2Proof.Machine

/-- Capacity of V2 in records (R142, R497). -/
def v2Capacity : Nat := 1392640

/-- Temperature bin of R505, of a reading in 0.125 °C. -/
def tempBin (t : Int) : Nat := if t < 0 then 0 else if t < 45 * 8 then 1 else if t < 85 * 8 then 2 else 3

/-- LOWSPARE: a die in use keeps less than `MED.SPARE_WARN` percent of its blocks spare (R512). -/
def Dev.lowSpare (d : Dev) : Bool := d.med.dies.any (fun x => x.state == 1 && x.spare * 100 < d.setting 0x0B0051 * x.blocks)

/-- `MED.STATE` (R519). -/
def MedState.code (s : MedState) : Nat :=
  match s with
  | .replay => 0
  | .writeBack => 1
  | .writeThrough => 2
  | .parked => 3
  | .flushing => 4
  | .down => 5

/-- `MEDSTAT` (chapter 4). -/
def Dev.medstat (d : Dev) : Nat :=
  bitsNat [d.med.ready, d.med.state == .writeThrough, d.med.holdupOk, d.med.flush, d.med.rebuild, d.evc.cond.getD 141 false,
           d.med.uncorr] + 256 * d.diesUsed

/-- A MEDIA record of the present event (R138). -/
def Dev.noteMedia (die old : Nat) (d : Dev) : Dev := d.note oPower (draft 0x60 0x0B die old d.medstat 0)

/-- A die is lost (R514): it leaves `MEDSTAT.DIES`, and a rebuild starts where a stripe still holds the data. -/
def Dev.dieGone (k : Nat) (d : Dev) : Dev :=
  match d.med.dies[k]? with
  | none => d
  | some x => { d with med := { d.med with dies := d.med.dies.set k { x with state := 2 }, rebuild := d.med.rebuild || decide (2 ≤ d.diesUsed) } }

/-- DIE_LOST (source 139) and its MEDIA record in the present event (R514). -/
def Dev.dieNoted (k old : Nat) (d : Dev) : Dev := (d.reach 139).noteMedia k old

/-- Places of the dies in use. -/
def Dev.dieList (d : Dev) : List Nat := (List.range 8).filter (fun k => (d.med.dies[k]?).any (fun x => x.state == 1))

/-- A die is lost that retires its fourth block within an hour, or that has no spare block left (R512, R514). -/
def Die.spent (x : Die) (now : Nat) : Bool := x.spare = 0 || 4 ≤ (x.retirals.filter (fun t => now < t + 449280000000)).length

/-- A block of some die in use is retired (R512); which die holds it nothing determines. -/
def Dev.retireBlock (d : Dev) : Dev :=
  let r := d.freeNat
  let k := d.dieList.getD (r.1 % max 1 d.dieList.length) 8
  let d := r.2
  match d.med.dies[k]? with
  | none => d
  | some x =>
    let old := d.medstat
    let y : Die := { x with
      retired := x.retired + 1, spare := x.spare - 1, retirals := x.retirals.filter (fun t => d.now < t + 449280000000) ++ [d.now] }
    let d := { d with med := { d.med with dies := d.med.dies.set k y } }
    let d := if d.lowSpare then d.alsoStarts 141 else d
    if y.spent d.now then (d.dieGone k).undoze.aside 11 (Dev.dieNoted k old) else d

/-- A read goes on to the stripe (R504): the ladder did not decode it, or has step 0 alone, where `MED.RR_FEATURE` is 0. -/
def Dev.nandStripe (d : Dev) (n : NandRead) : Bool := n.stripe || (0 < n.step && d.setting 0x0B0040 == 0)

/-- Nothing recovers the data of a read (R504); with one die there is no stripe (R496). -/
def Dev.nandLost (d : Dev) (n : NandRead) : Bool := n.lost || (d.nandStripe n && d.diesUsed < 2)

/-- A read that met `n` leaves its counts and its fault (R504): `MEDSTAT.UNCORR` and MED_UNCORR (source 142) where nothing
recovered the data; the starting step of the block's pair of bins moved where a later step decoded; the block retired where
the stripe was needed. -/
def Dev.nandMet (n : NandRead) (d : Dev) : Dev :=
  if d.nandLost n then
    Dev.alsoSignal 142 { d with med := { d.med with uncorr := true, uncorrReads := d.med.uncorrReads + 1 } }
  else if d.nandStripe n then Dev.retireBlock { d with med := { d.med with rebuilt := d.med.rebuilt + 1 } }
  else if 0 < n.step then
    let r := d.freeNat
    { r.2 with med := { r.2.med with
        ladderHits := r.2.med.ladderHits + 1, ladder := cellPut 0 (r.1 % 32) (min 15 n.step) r.2.med.ladder } }
  else d

end Sys2Proof.Machine
end

