-- ==== Sys2Proof/Machine/Loops.lean ====
section
/-!
DEFINITION. The thirteen adaptive loops (R531, R532), their bounds, pins and overrides, and the start of a background atom
(R525–R527).
-/

namespace Sys2Proof.Machine

/-- First address of a loop's four settings: floor, ceiling, pin, pin hold (R531). -/
def loopBase (n : Nat) : Nat :=
  if n = 0 then 0x020040
  else if n ≤ 8 then 0x020100 + 0x10 * (n - 1) + 2
  else if n = 9 then 0x0E0010
  else if n = 10 then 0x0E0014
  else if n = 11 then 0x0E0018
  else 0x0D0010

def Dev.loop (d : Dev) (n : Nat) : Loop := d.bg.loops.getD n ⟨0, false, false, none, false⟩
def Dev.loopFloor (d : Dev) (n : Nat) : Nat := d.setting (loopBase n)
def Dev.loopCeil (d : Dev) (n : Nat) : Nat := d.setting (loopBase n + 1)

/-- The value a pin setting names: bits [4:0] of a trim pin, else the whole value (R212, R535). -/
def Dev.pinValue (d : Dev) (n : Nat) : Nat :=
  if 1 ≤ n && n ≤ 8 then d.setting (loopBase n + 2) % 32 else d.setting (loopBase n + 2)

/-- The estimate within the bounds, or the pinned value (R532). -/
def Dev.loopBaseValue (d : Dev) (n : Nat) : Nat :=
  if (d.loop n).pinned then d.pinValue n else max (d.loopFloor n) (min (d.loopCeil n) (d.loop n).est)

/-- Protection acts on the loop (R208, R534). -/
def Dev.loopProtected (d : Dev) (n : Nat) : Bool :=
  if n = 0 then d.bg.lfDerate && d.awake else if n = 11 || n = 12 then d.bg.derate else false

/-- The applied value: protection doubles loop 0 up to its ceiling, and puts loops 11 and 12 at their floors (R208, R532,
R534). -/
def Dev.loopApplied (d : Dev) (n : Nat) : Nat :=
  let v := d.loopBaseValue n
  if d.loopProtected n then (if n = 0 then max v (min (d.loopCeil 0) (2 * v)) else d.loopFloor n) else v

/-- The estimate lies outside the bounds (R532). -/
def Dev.loopSat (d : Dev) (n : Nat) : Bool := (d.loop n).below || (d.loop n).est < d.loopFloor n || d.loopCeil n < (d.loop n).est

/-- `LOOPSTAT.SAT` and the LOOP_SAT condition (source 157). -/
def Dev.satMask (d : Dev) : Nat := bitsNat ((List.range 13).map d.loopSat)
def Dev.satCheck (d : Dev) : Dev := if d.satMask = 0 then d.ends 157 else d.alsoStarts 157

def Dev.putLoop (n : Nat) (l : Loop) (d : Dev) : Dev := { d with bg := { d.bg with loops := d.bg.loops.set n l } }

/-- A loop's estimate moved, unless it is pinned (R532). -/
def Dev.setEst (n v : Nat) (d : Dev) : Dev :=
  if (d.loop n).pinned then d else (d.putLoop n { d.loop n with est := v, below := false }).satCheck

/-- An estimate that would fall below 0 stays at 0 and saturates the loop (R210). -/
def Dev.wishBelow (n : Nat) (d : Dev) : Dev :=
  if (d.loop n).pinned then d else (d.putLoop n { d.loop n with est := 0, below := true }).satCheck

/-- Settings unit of a loop (R531). -/
def loopUnit (n : Nat) : Nat := if n ≤ 8 then 0x02 else if n ≤ 11 then 0x0E else 0x0D

/-- Port of the unit whose loop it is (R50, R577): LF, UHF, media, telemetry. -/
def loopPort (n : Nat) : Nat := if n ≤ 8 then 5 else if n ≤ 10 then 7 else if n = 11 then 11 else 2

/-- An override that moves a loop past its pin is recorded once for each start of it, as an event of the loop's unit (R532, R577). -/
def Dev.overrideCheck (n : Nat) (d : Dev) : Dev :=
  let l := d.loop n
  if l.pinned && d.loopProtected n && d.loopApplied n != d.pinValue n then
    if l.overrode then d
    else
      let d := d.putLoop n { l with overrode := true }
      let d := { d with bg := { d.bg with override := true } }
      (d.noteOn (loopPort n) oLoop (draft 0x73 (loopUnit n) n (d.pinValue n) (d.loopApplied n) 0)).alsoSignal 158
  else d.putLoop n { l with overrode := false }

/-- A pin written at the present event: its window, and none where the hold is 0 (R532). -/
def Dev.pinLoop (n : Nat) (d : Dev) : Dev :=
  let hold := d.setting (loopBase n + 3)
  let w := if hold = 0 then none else some (d.opened (hold * 124800000))
  (d.putLoop n { d.loop n with pinned := true, win := w, overrode := false }).overrideCheck n

/-- A pin ends: the estimate takes the pinned value `v` (R532). The stages of PARK that began while the poll period was pinned apply
then (R203). -/
def Dev.unpinLoop (n v : Nat) (d : Dev) : Dev :=
  if (d.loop n).pinned then
    let raised := (List.range d.lf.stage).foldl (fun p i => max p (d.setting (0x020052 + 2 * i))) v
    (d.putLoop n ⟨if n = 0 && d.pwr.dev == .park then raised else v, false, false, none, false⟩).satCheck
  else d

/-! ### Background atoms -/

/-- The function of a unit's atoms (R525). -/
def unitFn (unit : Nat) : Nat :=
  if unit = 0x02 then 0 else if unit = 0x04 then 2 else if unit = 0x06 then 11 else if unit = 0x08 then 7
  else if unit = 0x0A then 9 else if unit = 0x0B then 8 else 13

/-- The unit's atom that is due, where one waits. -/
def Dev.dueOf (d : Dev) (unit : Nat) : Option Due := d.bg.due.find? (fun a => a.unit == unit)

/-- A foreground command keeps the unit's function: one executes there, or one is ready and no owed atom goes first (R526,
R527). -/
def Dev.atomBusy (d : Dev) (unit : Nat) : Bool :=
  let f := unitFn unit
  0 < d.occupants f ||
  (!(d.dueOf unit).any d.atomFirst && d.cmds.any (fun c => c.occupies.contains f && d.unblocked c))

/-- An atom of a unit: it runs in RUN when its function is free, else it is due, with its starvation window (R526–R528). -/
def Dev.atom (unit : Nat) (body : Dev → Dev) (d : Dev) : Dev :=
  if d.pwr.dev != .run || (fnDomains (unitFn unit)).any (fun n => !d.domOn n) || bit (unitFn unit) d.host.fnBusy then d
  else if d.atomBusy unit then
    if (d.dueOf unit).isSome then d
    else { d with bg := { d.bg with due := d.bg.due ++ [⟨unit, d.opened (d.setting 0x0E0000 * 124800), false, false⟩] } }
  else
    let d := body { d with bg := { d.bg with due := d.bg.due.filter (fun a => a.unit != unit) } }
    { d with pwr := { d.pwr with busyAt := d.now } }

end Sys2Proof.Machine
end

