-- ==== Sys2Proof/Machine/Lf.lean ====
section
/-!
DEFINITION. The LF field unit (chapter 9): aerials and their faults, emissions and their stamps, telegrams, the Bellows period
loop and its stages, and the LF commands POLL_CONFIG, POLL_START, POLL_STOP, LF_WAKE_LOCATE, LF_TELEGRAM and
AERIAL_CAL.
-/

namespace Sys2Proof.Machine

/-! ### Aerials (R184–R190) -/

def Dev.aerial (d : Dev) (n : Nat) : Aerial := d.lf.aerials.getD n ⟨0, 0, 0, 0⟩
def Dev.putAerial (n : Nat) (a : Aerial) (d : Dev) : Dev := { d with lf := { d.lf with aerials := d.lf.aerials.set n a } }

/-- Bank domain of an aerial (R184). -/
def aerialBank (n : Nat) : Nat := if n < 4 then 2 else 3
def Dev.aerialEn (d : Dev) (n : Nat) : Bool := bit 0 (d.setting (0x020100 + 0x10 * n))
/-- A latched OPEN, SHORT_GND or SHORT_SUP fault (R197). -/
def Dev.aerialShut (d : Dev) (n : Nat) : Bool := (d.aerial n).diag % 8 != 0
/-- Not dropped before an emission (R197). In PARK Bellows powers the banks itself (R200), and an aerial with any fault latched is
dropped (R207). -/
def Dev.aerialOk (d : Dev) (n : Nat) : Bool :=
  d.aerialEn n && !d.aerialShut n && (if d.pwr.dev == .park then (d.aerial n).diag == 0 else d.domOn (aerialBank n))
/-- The aerials of a mask that are left (R197). -/
def Dev.usable (d : Dev) (mask : Nat) : Nat := bitsNat ((List.range 8).map (fun n => bit n mask && d.aerialOk n))
/-- A mask of 0 means every enabled aerial (R197). -/
def Dev.maskOf (d : Dev) (mask : Nat) : Nat := if mask = 0 then bitsNat ((List.range 8).map d.aerialEn) else mask
/-- The status of a command left with no aerial (R197). -/
def Dev.noAerial (d : Dev) (mask : Nat) : Status :=
  if (bitsOf 8 mask).any (fun n => d.aerialEn n && d.aerialShut n) then .hwFault else .stateConflict
/-- The trim in use (R189). -/
def Dev.trim (d : Dev) (n : Nat) : Nat := d.loopApplied (n + 1)

/-- A fault bit 0–3 latches on an aerial; its first latch presents AERIAL_FAULTn, source 48 + n (R190). -/
def Dev.latchFault (b n : Nat) (d : Dev) : Dev :=
  let a := d.aerial n
  if bit b a.diag then d
  else (d.putAerial n { a with diag := a.diag ||| 2 ^ b ||| (if b = 0 then 0 else 16) }).signal (48 + n)

/-- A fault found at an aerial (R190): OVERTEMP is the bank's, so all its bridges go off with it. -/
def Dev.faultOn (b n : Nat) (d : Dev) : Dev :=
  if b = 3 then (List.range 4).foldl (fun d i => d.latchFault 3 (n / 4 * 4 + i)) d else d.latchFault b n

/-- The faults that AERIAL_CAL, an LF reset and POWER_ON of the bank clear (R190). -/
def Dev.clearFaults (n : Nat) (d : Dev) : Dev :=
  let a := d.aerial n
  let ot := a.diag &&& 8
  d.putAerial n { a with diag := if ot = 0 then 0 else 24 }

/-! ### Emissions (R187, R188, R191, R195) -/

/-- Bit time of a RATE word: 0 the setting, 1 B = 32, 2 B = 16 (R197). -/
def Dev.bitTime (d : Dev) (rate : Nat) : Nat :=
  if rate = 1 then 32 else if rate = 2 then 16 else if d.setting 0x020004 = 0 then 32 else 16

/-- Carrier periods of a telegram with `n` data bytes (R195). -/
def Dev.telegramLen (d : Dev) (b n : Nat) : Nat := d.setting 0x020005 + b + (56 + 8 * n) * b

/-- Sensor 1 less `LF.TDERATE`, in 0.125 °C (R208). -/
def Dev.overHeat (d : Dev) : Int := signed 16 (d.bg.items.getD 1 0).toNat - ((8 * d.setting 0x020020 : Nat) : Int)

/-- The thermal limit on ICODE, max(4, 30 − 2 × ⌊T − `LF.TDERATE`⌋), while derating holds (R208). -/
def Dev.icodeLimit (d : Dev) : Nat := if d.awake && d.bg.lfDerate then max 4 (30 - 2 * (d.overHeat / 8).toNat) else 30

/-- The ICODE of each aerial's configuration (R185). -/
def Dev.cfgIcodes (d : Dev) : List Nat := (List.range 8).map (fun n => field 5 1 (d.setting (0x020100 + 0x10 * n)))

/-- The ICODE of each aerial, where 0 in a list of wishes means the configured one (R206, R233). -/
def Dev.wishedIcodes (d : Dev) (wish : List Nat) : List Nat :=
  List.zipWith (fun w c => if w = 0 then c else w) (fit 8 0 wish) d.cfgIcodes

/-- Peak coil current of an ICODE in mA (R185). -/
def icodePeak (i : Nat) : Nat := 50 * i

/-- What drives the aerials in an emission that begins now: the current applied, the lower of the wish and the thermal limit (R185, R208),
and the edge and envelope shaping (R186). -/
def Dev.drive (wish : List Nat) (d : Dev) : Dev :=
  { d with lf := { d.lf with
      airIcodes := (d.wishedIcodes wish).map (min d.icodeLimit),
      airShapes := (List.range 8).map (fun n => field 7 6 (d.setting (0x020100 + 0x10 * n))),
      airRamp := d.setting 0x020007 } }

/-- Thermal derating at an emission start in RUN (R208): sensor 1 in 0.125 °C against `LF.TDERATE`. -/
def Dev.lfHeat (d : Dev) : Dev :=
  if d.awake then
    let hot := decide (0 ≤ d.overHeat)
    let d := { d with bg := { d.bg with lfDerate := hot } }
    (if hot then d.starts 60 else d.ends 60).overrideCheck 0
  else d

/-- An exchange begins on the aerials of a mask with an emission of `n` carrier periods, bits lasting `b` (R187), at the ICODEs wished. -/
def Dev.emit (e : Emission) (mask b n : Nat) (wish : List Nat) (d : Dev) : Dev :=
  let d := d.lfHeat.drive wish
  let l := { d.lf with
    airStart := d.now, airCarriers := n, airLen := n, airFtw := d.setting 0x020002, airBit := b, airBurst := n, air := [], slots := [] }
  { d with lf := { l with emission := some (l.airStamp n, e, mask) } }

/-- Bytes of a telegram: preamble, sync, wake ID, code, data, CRC-8 (R191–R193). -/
def Dev.telegram (d : Dev) (code : Nat) (data : Bytes) : Bytes :=
  let m := beBytes 3 d.cru.wakeId ++ [byte code] ++ data
  [0xFF, 0x96] ++ m ++ [byte (crc 8 0x1D 0xFF m)]

/-- The bits of a byte string in the order of the air, most significant first (R192). -/
def airBits (m : Bytes) : List Bool := m.flatMap (fun x => (List.range 8).map (fun i => x.toNat.testBit (7 - i)))

/-- Manchester coding of bits of `b` carrier periods: 1 is on, then off; 0 is off, then on (R192). Each entry is a run of carrier periods
and whether the carrier is on. -/
def manchester (b : Nat) (bits : List Bool) : List (Nat × Bool) := bits.flatMap (fun x => [(b / 2, x), (b / 2, !x)])

/-- The keying of the present emission (R191, R192, R232): its burst and the gap after it, then its bytes. -/
def Lf.keying (l : Lf) : List (Nat × Bool) :=
  (if l.airBurst = 0 then [] else [(l.airBurst, true)]) ++
  (if l.air.isEmpty || l.airBurst = 0 then [] else [(l.airBit, false)]) ++ manchester l.airBit (airBits l.air)

/-- Carrier periods of a keying, and those of them with the carrier on (R195). -/
def keyed (k : List (Nat × Bool)) : Nat := k.foldr (fun x n => x.1 + n) 0
def keyedOn (k : List (Nat × Bool)) : Nat := k.foldr (fun x n => (if x.2 then x.1 else 0) + n) 0

/-- The carrier's envelope at carrier period `p` of a keying, in parts of a ramp of `r` carrier periods (R186): it goes linearly from the
level before the last change to the level after it; a ramp of 0 switches at once. -/
def envelope (r : Nat) : List (Nat × Bool) → Nat → Nat
  | [], p => r - min r p
  | (n, on) :: ks, p => if n ≤ p then envelope r ks (p - n) else if r = 0 then b2n on else if on then min r p else r - min r p

/-- A telegram begins an exchange on the aerials of a mask (R191), at the ICODEs wished. -/
def Dev.sendAt (wish : List Nat) (e : Emission) (mask b code : Nat) (data : Bytes) (d : Dev) : Dev :=
  let d := d.emit e mask b (d.telegramLen b data.length) wish
  { d with lf := { d.lf with air := d.telegram code data, airBurst := d.setting 0x020005 } }

/-- A telegram at the configured ICODEs. -/
def Dev.send (e : Emission) (mask b code : Nat) (data : Bytes) (d : Dev) : Dev := d.sendAt [] e mask b code data

/-- The exchange goes on with an emission of `n` carrier periods, after `gap` of them from the end of its last one (R188). -/
def Dev.emitOn (e : Emission) (mask gap n : Nat) (wish : List Nat) (d : Dev) : Dev :=
  let d := d.lfHeat.drive wish
  let l := { d.lf with airCarriers := d.lf.airCarriers + gap + n, airLen := n, airBurst := n, air := [], slots := [] }
  { d with lf := { l with emission := some (l.airStamp l.airCarriers, e, mask) } }

/-- The slots of a locate phase that began at carrier period `p`: one for each aerial of the mask, ascending, of `s` carrier periods after
a gap of 8 (R196). -/
def Lf.slotsFrom (l : Lf) (s : Nat) : Nat → List Nat → List (Nat × Nat × Nat)
  | _, [] => []
  | p, n :: ns => (n, l.airStamp (p + 8), l.airStamp (p + 8 + s)) :: l.slotsFrom s (p + 8 + s) ns

/-- The locate phase behind a telegram (R196). -/
def Dev.locatePhase (e : Emission) (mask s : Nat) (d : Dev) : Dev :=
  let p := d.lf.airCarriers
  let d := d.emitOn e mask 0 (popcount 8 mask * (s + 8)) []
  { d with lf := { d.lf with slots := d.lf.slotsFrom s p (bitsOf 8 mask) } }

/-- The emission in progress ends at its next bit boundary (R205, R206, R384); a poll's listen windows go with it. -/
def Dev.cutEmission (d : Dev) : Dev :=
  match d.lf.emission with
  | none => d
  | some (_, e, _) =>
    let d := d.wait d.bitBoundary
    let d := { d with lf := { d.lf with emission := none } }
    if e = .poll then { d with uhf := { d.uhf with windows := d.uhf.windows.filter (fun w => w.tag.isSome) } } else d

/-- An LF command takes the aerials: a poll or STANDBY in progress ends first (R205, R384). -/
def Dev.takeLf (d : Dev) : Dev :=
  match d.lf.emission with
  | some (_, .poll, _) => d.cutEmission
  | some (_, .standby, _) => d.cutEmission
  | some (_, .stopping, _) => { d with lf := { d.lf with emission := none } }
  | _ => d

/-! ### The Bellows period loop and stages (R202–R204) -/

def Dev.stagePeriod (d : Dev) (n : Nat) : Nat := d.setting (0x020050 + 2 * n)
/-- End of stage n, in ticks of elapsed PARK time (R202). -/
def Dev.stageEnd (d : Dev) (n : Nat) : Nat := d.setting (0x020051 + 2 * n) * 60 * 124800000
/-- The applied poll period in ticks (R203, R208). -/
def Dev.pollPeriod (d : Dev) : Nat := d.loopApplied 0 * 124800

/-- Bellows polls now: after POLL_START in RUN and DOZE, and in PARK where KEEP_POLL was given (R64, R206). -/
def Dev.bellows (d : Dev) : Bool :=
  d.lf.polling && (d.awake || (d.pwr.dev == .park && d.pwr.sleep == some (2, true) && d.lf.stage < 7))

/-- Polling begins: stage 0, its period, and the first poll one period from now (R201, R203). -/
def Dev.pollFrom (d : Dev) : Dev :=
  let d := Dev.setEst 0 (d.stagePeriod 0) { d with lf := { d.lf with stage := 0, noisyRun := 0, cleanRun := 0, noisy := false } }
  { d with lf := { d.lf with due := d.now + d.pollPeriod } }

/-- The domains a Bellows burst powers in PARK: the banks of its aerials, the LF path and UHF path A (R60, R200). -/
def burstDomains (mask : Nat) : List Nat :=
  (if mask % 16 = 0 then [] else [2]) ++ (if mask / 16 = 0 then [] else [3]) ++ [4, 5]

/-- A Bellows burst in PARK begins (R60): ROOT starts, the spread profile at segment 0 while TB stays in continuation, and the burst's
domains are powered. -/
def Dev.burstOn (mask : Nat) (d : Dev) : Dev :=
  if d.pwr.dev == .park then
    (burstDomains mask).foldl (fun d n => d.setDom n .on)
      { d with clock := { d.clock with burst := true, pos := 0, depth := d.wantDepth } }
  else d

/-- The burst is over: ROOT stops again and its domains go off; one whose supply was lost stays lost (R60, R73). -/
def Dev.burstOff (d : Dev) : Dev :=
  if d.clock.burst then
    [2, 3, 4, 5].foldl (fun d n => if d.domOn n then d.setDom n .off else d) { d with clock := { d.clock with burst := false } }
  else d

/-- PARK passes to DEEP when stage 7 begins (R61, R202). -/
def Dev.parkToDeep (d : Dev) : Dev :=
  let d := d.burstOff
  Dev.stateChange .deep { d with lf := { d.lf with stage := 7, stage7 := true, emission := none },
                                 uhf := { d.uhf with windows := [] } }

/-- The next stage begins (R202, R203). -/
def Dev.nextStage (d : Dev) : Dev :=
  let n := d.lf.stage + 1
  if n = 7 then d.parkToDeep
  else
    let d := { d with lf := { d.lf with stage := n } }
    Dev.setEst 0 (max (d.loop 0).est (d.stagePeriod n)) d

/-- The stages whose ends have been reached begin, `n` of them at most (R202). -/
def Dev.stagesTo (t : Nat) : Nat → Dev → Dev
  | 0, d => d
  | n + 1, d =>
    if d.pwr.dev == .park && d.lf.stage < 7 && d.pwr.parkAt + d.stageEnd d.lf.stage ≤ t then Dev.stagesTo t n d.nextStage else d

/-- A poll ends, and with it a burst: the run of noisy polls doubles the period, and 16 clean ones bring it a factor of 2 nearer to the
stage's (R204). -/
def Dev.pollDone (d : Dev) : Dev :=
  let d := d.burstOff
  let p := (d.loop 0).est
  let s := d.stagePeriod d.lf.stage
  if d.lf.noisy then
    if d.setting 0x020011 ≤ d.lf.noisyRun + 1 then
      let d := Dev.setEst 0 (max p (min (2 * p) (d.loopCeil 0)))
        { d with lf := { d.lf with noisy := false, noisyRun := 0, cleanRun := 0 } }
      d.alsoSignal 59
    else { d with lf := { d.lf with noisy := false, noisyRun := d.lf.noisyRun + 1, cleanRun := 0 } }
  else if 16 ≤ d.lf.cleanRun + 1 then
    Dev.setEst 0 (if s < p then max s (p / 2) else min s (2 * p)) { d with lf := { d.lf with noisyRun := 0, cleanRun := 0 } }
  else { d with lf := { d.lf with noisyRun := 0, cleanRun := d.lf.cleanRun + 1 } }

/-! ### POLL_CONFIG, POLL_START, POLL_STOP (R206) -/

/-- A payload of POLL_CONFIG with no reserved bit set and every ICODE in range. -/
def pollConfigOk (ws : List Word) : Bool :=
  let w (n : Nat) := (ws.getD n 0).toNat
  ws.length == 10 && w 0 < 256 && w 1 < 4 && (ws.drop 2).all (fun x => x.toNat ≤ 30)

/-- POLL_CONFIG (R206). -/
def pollConfig (tag : Nat) : Dev → Dev :=
  Dev.startCmd (isOp 0x10) tag fun c d =>
    let w (n : Nat) := (c.payload.getD n 0).toNat
    if !pollConfigOk c.payload || !c.zeroFrom 6 then d.hostError c
    else
      Dev.fail tag .done { d with lf := { d.lf with
        config := some ⟨w 0, bit 0 (w 1), bit 1 (w 1), (c.payload.drop 2).map (·.toNat)⟩, rotate := 7 } }

def execPollConfig (tag : Nat) (s : State) : Host.Outcome State Fault Refusal := run (pollConfig tag) s

/-- POLL_START (R206). -/
def pollStart (tag : Nat) : Dev → Dev :=
  Dev.startCmd (isOp 0x11) tag fun c d =>
    if !c.zeroFrom 6 || c.plen != 0 then d.hostError c
    else if d.cru.wakeId = 0 || !d.lf.config.any (fun x => x.mask != 0) then d.fail tag .stateConflict
    else d.finish tag ⟨.done, [], .poll true, none, []⟩

def execPollStart (tag : Nat) (s : State) : Host.Outcome State Fault Refusal := run (pollStart tag) s

/-- Polling stops at once; a poll in progress ends at its next bit boundary (R206). -/
def Dev.stopPolling (d : Dev) : Dev :=
  let d := match d.lf.emission with
    | some (_, .poll, _) => d.cutEmission
    | _ => d
  { d with lf := { d.lf with polling := false, noisy := false },
           uhf := { d.uhf with windows := d.uhf.windows.filter (fun w => w.tag.isSome) } }

/-- POLL_STOP (R206). -/
def pollStop (tag : Nat) : Dev → Dev :=
  Dev.startCmd (isOp 0x12) tag fun c d => if c.zeroFrom 6 then d.stopPolling.fail tag .done else d.hostError c

def execPollStop (tag : Nat) (s : State) : Host.Outcome State Fault Refusal := run (pollStop tag) s

/-! ### LF_WAKE_LOCATE, LF_TELEGRAM (R197, R199) -/

/-- LF_WAKE_LOCATE begins (R197): LOCATE is sent on the aerials left, or none is. -/
def lfWakeLocate (tag : Nat) : Dev → Dev :=
  Dev.startCmd (isOp 0x13) tag fun c d =>
    let s := c.w 7
    if 256 ≤ c.w 6 || (s != 0 && (s < 32 || 128 < s || s % 8 != 0)) || 2 < c.w 8 || !c.zeroFrom 11 then d.hostError c
    else
      let want := d.maskOf (c.w 6)
      let mask := d.usable want
      if mask = 0 then d.fail tag (d.noAerial want)
      else
        let d := d.takeLf
        let b := d.bitTime (c.w 8)
        let slot := if s = 0 then d.setting 0x020006 else s
        let d := d.send (.command tag) mask b 2 (beBytes 4 (c.w2 9) ++ [byte mask, byte (slot / 8)])
        d.setPhase tag (.running (.locate 0 mask slot (c.w2 9) []))

def execLfWakeLocate (tag : Nat) (s : State) : Host.Outcome State Fault Refusal := run (lfWakeLocate tag) s

/-- LF_TELEGRAM begins (R199): DONE follows at the end of its CRC. -/
def lfTelegram (tag : Nat) : Dev → Dev :=
  Dev.startCmd (isOp 0x14) tag fun c d =>
    let code := c.w 8
    let n := code - 0x40
    if 256 ≤ c.w 6 || 2 < c.w 7 || 0x51 ≤ code || !c.zeroFrom 9 then d.hostError c
    else if code < 0x40 then d.fail tag .stateConflict
    else if c.plen != (n + 1) / 2 then d.hostError c
    else
      let mask := d.usable (c.w 6)
      if mask = 0 then d.fail tag (d.noAerial (c.w 6))
      else
        let d := d.takeLf
        let b := d.bitTime (c.w 7)
        (d.send (.command tag) mask b code (c.bytes.take n)).setPhase tag (.running .telegram)

def execLfTelegram (tag : Nat) (s : State) : Host.Outcome State Fault Refusal := run (lfTelegram tag) s

/-! ### AERIAL_CAL (R211) -/

/-- The trim with the highest peak, the lowest of equals, and that peak. -/
def bestTrim (peaks : List Nat) : Nat × Nat :=
  (indexedFrom 0 peaks).foldl (fun b x => if b.2 < x.2 then x else b) (0, peaks.headD 0)

/-- The sweep of one aerial: its faults cleared, 16 T_c at each trim from 0 on until a fault stops it (R211). A disabled aerial never
emits (R184), so nothing is measured and no fault is found on it. -/
def Dev.calAerial (apply : Bool) (n : Nat) (peaks : List Nat) (fault : Nat) (d : Dev) : Dev × List Word :=
  let d := d.clearFaults n
  let seen := if d.aerialEn n then peaks.take 32 else []
  let fault := if d.aerialEn n then fault else 0
  let d := d.wait (d.now + ceilDiv (16 * seen.length * 2 ^ 27) (d.setting 0x020002))
  let d := d.putAerial n { d.aerial n with ipeak := seen.getLastD (d.aerial n).ipeak }
  let d := (bitsOf 4 fault).foldl (fun d b => d.faultOn b n) d
  let best := bestTrim seen
  let d := if apply && !seen.isEmpty then d.setEst (n + 1) (max (d.loopFloor (n + 1)) (min (d.loopCeil (n + 1)) best.1)) else d
  (d, [word (best.1 + 256 * ((d.aerial n).diag % 32)), word best.2])

/-- The sweeps of the aerials from `n` on, `k` of them. -/
def Dev.calFrom (apply : Bool) (mask : Nat) (peaks : List (List Nat)) (faults : List Nat) : Nat → Nat → Dev → Dev × List Word
  | 0, _, d => (d, [])
  | k + 1, n, d =>
    let x := if bit n mask then d.calAerial apply n (peaks.getD n []) (faults.getD n 0) else (d, [0, 0])
    let y := Dev.calFrom apply mask peaks faults k (n + 1) x.1
    (y.1, x.2 ++ y.2)

/-- AERIAL_CAL (R211): `peaks` are the peak currents at trims 0, 1, … of each aerial, `faults` the faults found. -/
def aerialCal (tag : Nat) (peaks : List (List Nat)) (faults : List Nat) : Dev → Dev :=
  Dev.startCmd (isOp 0x15) tag fun c d =>
    if 256 ≤ c.w 6 || 1 < c.w 7 || !c.zeroFrom 8 then d.hostError c
    else
      let mask := bitsNat ((List.range 8).map (fun n => bit n (c.w 6) && d.domOn (aerialBank n)))
      if mask = 0 then d.fail tag .stateConflict
      else
        let r := (d.takeLf.lfHeat.drive []).calFrom (c.w 7 = 1) mask peaks faults 8 0
        let bad := (bitsOf 8 mask).any (fun n => (r.1.aerial n).diag != 0)
        r.1.finish tag ⟨if bad then .hwFault else .done, r.2, .none, none, []⟩

def execAerialCal (tag : Nat) (peaks : List (List Nat)) (faults : List Nat) (s : State) : Host.Outcome State Fault Refusal :=
  run (aerialCal tag peaks faults) s

/-! ### Aerial faults and supply (R190, R207, R209) -/

/-- The aerials a poll may use now, out of its mask (R197, R207). -/
def Dev.pollMask (d : Dev) : Nat := d.usable ((d.lf.config.map PollConfig.mask).getD 0)

/-- A fault at A7 ends a transponder read HW_FAULT (R233 order 2). -/
def Dev.coilLost (d : Dev) : Dev :=
  if d.aerialShut 7 then
    match d.cmds.find? (fun c => c.op == 0x16 && c.executing) with
    | some c => match c.phase with
      | .running _ => (d.dropWork c.tag).fail c.tag .hwFault
      | _ => d
    | none => d
  else d

/-- In PARK the last aerial of the mask lost begins stage 7 (R207). -/
def Dev.pollLost (d : Dev) : Dev := if d.pwr.dev == .park && d.bellows && d.pollMask = 0 then d.parkToDeep else d

/-- AERIAL_FAULT (R190): OVERTEMP is the bank's, so every aerial of the bank latches it; in PARK the last aerial lost begins
stage 7 (R207); a transponder read on A7 ends HW_FAULT (R233). -/
def aerialFault (n b : Nat) (d : Dev) : Dev :=
  if 8 ≤ n || 4 ≤ b || (b = 0 && d.evc.cond.getD 63 false) then d
  else
    (d.faultOn b n).coilLost.pollLost

def execAerialFault (n b : Nat) (s : State) : Host.Outcome State Fault Refusal := run (aerialFault n b) s

/-- BRIDGE_OVERTEMP_CLEAR (R190): OVERTEMP and its BRIDGE_OFF clear on every aerial of the bank. -/
def bridgeOvertempClear (bank : Nat) (d : Dev) : Dev :=
  (List.range 4).foldl (fun d i =>
    let n := bank % 2 * 4 + i
    let a := d.aerial n
    d.putAerial n { a with diag := if a.diag &&& 6 = 0 then a.diag &&& 7 else (a.diag &&& 7) ||| 16 }) d

def execBridgeOvertempClear (bank : Nat) (s : State) : Host.Outcome State Fault Refusal := run (bridgeOvertempClear bank) s

/-- VLF_LIMIT (R209): VLF reads `mv`; source 63 holds while it is below `LF.VLF_MIN`. -/
def vlfLimit (mv : Nat) (d : Dev) : Dev :=
  let low := decide (mv < d.setting 0x020021)
  let d := { d with bg := { d.bg with vlfLimit := low } }
  if low then d.starts 63 else d.ends 63

def execVlfLimit (mv : Nat) (s : State) : Host.Outcome State Fault Refusal := run (vlfLimit mv) s

/-! ### TRIM_ATOM (R210) -/

/-- Sensor 1 in 0.125 °C, as the trim atoms compare it (R210). -/
def Dev.trimTemp (d : Dev) : Int := signed 16 (d.bg.items.getD 1 0).toNat

/-- An aerial's atom has a trigger: `LF.CAL_PERIOD` seconds have passed since its last one, or sensor 1 has moved by 8 °C since then
(R210). -/
def Dev.trimDue (d : Dev) (n : Nat) : Bool :=
  let p := d.setting 0x020030
  (p != 0 && (d.aerial n).atomAt + p * 124800000 ≤ d.now) || 64 ≤ (d.trimTemp - (d.aerial n).atomTemp).natAbs

/-- TRIM_ATOM (R210): the peaks at trim t − 1, t and t + 1, of which those outside the bounds are not measured; the estimate
moves to the best, and a wish beyond a bound is one step outside it. -/
def trimAtom (n below at_ above : Nat) : Dev → Dev :=
  Dev.atom 0x02 fun d =>
    if 8 ≤ n || !d.aerialOk n || (d.loop (n + 1)).pinned || d.emitting || !d.trimDue n then d
    else
      let t := d.trim n
      let d := d.lfHeat.drive []
      let d := d.wait (d.now + ceilDiv (48 * 2 ^ 27) (d.setting 0x020002))
      let d := d.putAerial n { d.aerial n with
        ipeak := if t < d.loopCeil (n + 1) then above else at_,
        atomTemp := d.trimTemp, atomAt := d.now }
      if at_ < above && below ≤ above then d.setEst (n + 1) (t + 1)
      else if at_ < below then (if t = 0 then d.wishBelow (n + 1) else d.setEst (n + 1) (t - 1))
      else d.setEst (n + 1) t

def execTrimAtom (n below at_ above : Nat) (s : State) : Host.Outcome State Fault Refusal := run (trimAtom n below at_ above) s

/-! ### BELLOWS_POLL and STAGE_CHANGE (R200–R205) -/

/-- The aerials of one poll: all of the mask left, or the next of them in ascending order (R206). -/
def Dev.pollAerials (d : Dev) (rotate : Bool) : Nat × Nat :=
  let m := d.pollMask
  if rotate then
    match (List.range 8).find? (fun i => bit ((d.lf.rotate + 1 + i) % 8) m) with
    | some i => let n := (d.lf.rotate + 1 + i) % 8; (2 ^ n, n)
    | none => (0, d.lf.rotate)
  else (m, d.lf.rotate)

/-- A poll that is due (R201–R206): skipped while an LF command executes, while LF is reset and with no aerial left; else it
is emitted. `noise` is the field sensed on PD04 before the burst (R204). -/
def bellowsPoll (noise : Nat) (d : Dev) : Dev :=
  if !d.bellows then d
  else
    let d := Dev.stagesTo d.lf.due 7 (d.wait d.lf.due)
    if !d.bellows then d
    else
      let d := { d with lf := { d.lf with due := d.lf.due + d.pollPeriod } }
      match d.lf.config with
      | none => d
      | some x =>
        let m := d.pollAerials x.rotate
        if m.1 = 0 && d.pwr.dev == .park then d.parkToDeep
        else if m.1 = 0 || 0 < d.occupants 0 || bit 0 d.host.fnBusy || d.emitting ||
            (d.awake && (!d.domOn 4 || d.domGated 4)) then d
        else
          let b := if x.fast then 16 else 32
          let d := { d with lf := { d.lf with rotate := m.2, pollCount := (d.lf.pollCount + 1) % 2 ^ 32,
                                              noisy := d.setting 0x020010 < noise } }
          (d.burstOn m.1).sendAt x.icodes .poll m.1 b 1 []

def execBellowsPoll (noise : Nat) (s : State) : Host.Outcome State Fault Refusal := run (bellowsPoll noise) s

/-- STAGE_CHANGE (R202): elapsed PARK time reaches the end of the stage in force. -/
def stageChangeRow (d : Dev) : Dev :=
  if d.pwr.dev == .park && d.bellows then
    let t := d.pwr.parkAt + d.stageEnd d.lf.stage
    Dev.nextStage (d.wait t)
  else d

def execStageChange (s : State) : Host.Outcome State Fault Refusal := run stageChangeRow s

end Sys2Proof.Machine
end

