-- ==== Sys2Proof/Machine/Uhf.lean ====
section
/-!
DEFINITION. The UHF receivers (chapter 10): paths, listen windows, the token frame and the tests of its acceptance, the keys a
frame is checked under, and the path faults.
-/

namespace Sys2Proof.Machine

/-! ### Paths (R214, R228) -/

/-- A path (0 A, 1 B) listens: PARK uses A alone, in a burst; in RUN the paths of `UHF.PATHS` whose domain is on, and A alone where PD06
is off, unless unlocked or faulted. -/
def Dev.pathOk (d : Dev) (p : Nat) : Bool :=
  !d.uhf.unlocked.getD p false && !d.uhf.faulted.getD p false && d.dom (5 + p) == .on &&
  (if d.pwr.dev == .park then p == 0 else (bit p (d.setting 0x030002) || (p == 0 && !d.domOn 6)) && !bit 1 d.host.fnBusy)

def Dev.anyPath (d : Dev) : Bool := d.pathOk 0 || d.pathOk 1

/-! ### Listen windows (R225, R226) -/

/-- Ticks of a frame with `n` body bytes (R218). -/
def frameTicks (n : Nat) : Nat := (152 + 8 * n) * 6240

/-- The window of reply slot `k` after the reference instant `e` for frames of `n` body bytes (R225, R226). -/
def Dev.listenAt (d : Dev) (tag : Option Nat) (e n : Nat) (codes : List Nat) (k : Nat) : Listen :=
  let o := e + 124800 + k * (frameTicks n + 99840) + 37440
  ⟨tag, k, o, o + ceilDiv (d.setting 0x030003 * 1248) 10, codes, d.setting 0x030000, d.setting 0x030001⟩

/-- A write of `UHF.BAND` or `UHF.MOD` takes effect at the next listen window that opens (R229). -/
def Dev.retuneWindows (d : Dev) : Dev :=
  { d with uhf := { d.uhf with
      windows := d.uhf.windows.map (fun w =>
        if d.now < w.opens then { w with band := d.setting 0x030000, mod := d.setting 0x030001 } else w) } }

/-- Windows opened for the reply slots of a telegram; a command with no usable path ends HW_FAULT (R228), and a jam episode in progress
makes a poll noisy (R204). -/
def Dev.openWindows (tag : Option Nat) (e n : Nat) (codes slots : List Nat) (d : Dev) : Dev :=
  let o := { d with uhf := { d.uhf with windows := d.uhf.windows ++ slots.map (d.listenAt tag e n codes) } }
  match tag with
  | none => { o with lf := { o.lf with noisy := o.lf.noisy || (List.range 2).any (fun p => o.pathOk p && o.uhf.jammed.getD p false) } }
  | some t => if d.anyPath then o else d.fail t .hwFault

/-- No command: the owner of a window whose command has its frame already (R226). -/
def noTag : Nat := 0xFFFF

/-- The windows left of a command that has its reply await nothing more (R226). -/
def Dev.releaseWindows (tag : Nat) (d : Dev) : Dev :=
  { d with uhf := { d.uhf with
      windows := d.uhf.windows.map (fun w => if w.tag = some tag then { w with tag := some noTag, codes := [] } else w) } }

/-- The windows of a command are closed. -/
def Dev.closeWindows (tag : Option Nat) (d : Dev) : Dev :=
  { d with uhf := { d.uhf with windows := d.uhf.windows.filter (fun w => w.tag != tag) } }

/-! ### Token keys (R379) -/

def idBytes (id : Nat) : Bytes := beBytes 4 id

/-- The token key K of an ID and an enrolment generation (R321, R379). -/
def Dev.tokenKey (d : Dev) (id gen : Nat) : Bytes := d.branchKey "tok" (idBytes id ++ beBytes 2 gen) 16
/-- The wake key of a key: KW of K, KLW of KL (R379). -/
def wakeKey (k : Bytes) : Bytes := hkdf k [] (ascii "wk") 16
/-- The learn key of a token under a learn master (R379). -/
def Dev.learnKey (d : Dev) (klm id : Nat) : Bytes :=
  hkdf (d.cru.slots.getD klm KeySlot.empty).material [] (ascii "bkl" ++ idBytes id) 16
def Dev.slotRec (d : Dev) (s : Nat) : TokenSlot := d.cru.tokens.getD s TokenSlot.empty
/-- K of a token slot. -/
def Dev.slotKey (d : Dev) (s : Nat) : Bytes := d.tokenKey (d.slotRec s).id (d.slotRec s).gen

/-! ### The frame (R218–R221) -/

/-- A frame's fields. -/
structure TokenFrame where
  id : Nat
  seq : Nat
  code : Nat
  body : Bytes
  flags : Nat
deriving DecidableEq, Repr

/-- Code of a frame's bytes. -/
def frameCode (bs : Bytes) : Nat := (bs.getD 5 0).toNat
/-- Body length a frame's bytes name. -/
def frameLen (bs : Bytes) : Nat := (bs.getD 6 0).toNat

/-- The length matches the code (R219). -/
def lengthOk (code n : Nat) : Bool :=
  match code with
  | 1 => n == 0
  | 2 => n == 24
  | 3 => n == 16
  | 5 => 1 ≤ n && n ≤ 64
  | 6 => n == 4
  | _ => false

/-- Test 2 of R223: coding, length and CRC-16 (R221). -/
def frameSound (rx : UhfRx) : Bool :=
  let n := frameLen rx.bytes
  rx.manchester && rx.bytes.length == 14 + n && lengthOk (frameCode rx.bytes) n &&
  crc 16 0x1021 0xFFFF (rx.bytes.take (12 + n)) == beNat (rx.bytes.drop (12 + n))

def frameOf (bs : Bytes) : TokenFrame :=
  let n := frameLen bs
  ⟨beNat (bs.take 4), (bs.getD 4 0).toNat, frameCode bs, slice 7 n bs, (bs.getD (7 + n) 0).toNat⟩

/-- The CMAC-32 of a frame under a wake key (R220). -/
def Dev.frameMac (d : Dev) (key bs : Bytes) : Bytes :=
  (cmac key (beBytes 3 d.cru.wakeId ++ bs.take (8 + frameLen bs))).take 4

/-! ### Acceptance (R223, R399) -/

/-- The LEARN_ADD exchange in progress, where one awaits a frame: its run. -/
def Dev.learnRun (d : Dev) : Option TokenRun :=
  d.cmds.findSome? (fun c => match c.phase with
    | .running (.token x) => if x.kind = 3 then some x else none
    | _ => none)

/-- The wake key a frame's ID is checked under, and the token slot of its sequence value; none when test 3 fails (R223,
R399). -/
def Dev.frameKey (d : Dev) (id : Nat) : Option (Bytes × Option Nat) :=
  match d.learnRun with
  | some x =>
    if x.token = id && x.stage = 1 then some (wakeKey (d.learnKey x.klm id), none)
    else if x.token = id && x.stage = 5 then some (wakeKey (d.tokenKey id (d.slotRec x.slot).gen), some x.slot)
    else (d.slotOfToken id).map (fun s => (wakeKey (d.slotKey s), some s))
  | none => (d.slotOfToken id).map (fun s => (wakeKey (d.slotKey s), some s))

/-- A sequence byte is new (R224). -/
def Dev.seqNew (d : Dev) (slot : Option Nat) (seq : Nat) : Bool :=
  match slot with
  | none => true
  | some s =>
    match d.uhf.seqs.getD s none with
    | none => true
    | some l => let n := (seq + 256 - l) % 256; 1 ≤ n && n ≤ 127

/-- The paths that recognise a sync word: those that listen and whose code reaches the squelch (R217, R533). -/
def Dev.hearing (d : Dev) (rx : UhfRx) : Nat :=
  b2n (bit 0 rx.paths && d.pathOk 0 && d.loopApplied 9 ≤ rx.rssiA) +
  2 * b2n (bit 1 rx.paths && d.pathOk 1 && d.loopApplied 10 ≤ rx.rssiB)

/-- Detect stamp of a path. -/
def rxDetect (rx : UhfRx) (p : Nat) : Nat := if p = 0 then rx.detect else rx.detectB

/-- The open window that holds a path's detect stamp (R226); a poll listens on path A alone (R200). -/
def Dev.windowOn (d : Dev) (rx : UhfRx) (p : Nat) : Option Listen :=
  d.uhf.windows.find? (fun w => w.opens ≤ rxDetect rx p && rxDetect rx p < w.close && (w.tag.isSome || p == 0))

/-- A path receives a transmission in a window, or with none in RUN while no command listens, when it is tuned to its band and modulation
(R214, R215, R223, R229). -/
def Dev.receives (d : Dev) (rx : UhfRx) (win : Option Listen) : Bool :=
  match win with
  | some w => w.band == rx.band && w.mod == rx.mod
  | none => d.awake && d.setting 0x030000 == rx.band && d.setting 0x030001 == rx.mod

/-- A command listens. -/
def Dev.listening (d : Dev) : Bool := d.uhf.windows.any (fun w => w.tag.any (· != noTag))

/-- The paths that deliver a transmission, and the window they deliver it in: with a command listening only a frame in a window counts
(R217, R223). -/
def Dev.delivering (d : Dev) (rx : UhfRx) : Nat × Option Listen :=
  let on (p : Nat) : Bool := bit p (d.hearing rx) && d.receives rx (d.windowOn rx p) && ((d.windowOn rx p).isSome || !d.listening)
  (b2n (on 0) + 2 * b2n (on 1), if on 0 then d.windowOn rx 0 else d.windowOn rx 1)

/-- The earlier detect stamp of the paths that deliver (R217). -/
def rxEarliest (rx : UhfRx) (m : Nat) : Nat := if m = 3 then min rx.detect rx.detectB else if m = 2 then rx.detectB else rx.detect

/-- The RSSI of a delivered frame: the higher code, path A's where they are equal (R217). -/
def rxRssi (rx : UhfRx) (m : Nat) : Nat :=
  if bit 0 m && (!bit 1 m || rx.rssiB ≤ rx.rssiA) then rx.rssiA % 256 else if bit 1 m then rx.rssiB % 256 else 0

/-- A frame that fails tests 2–4 counts as bad, and makes the poll that listens noisy (R204, R223). -/
def Dev.frameBad (noisy : Bool) (win : Option Listen) (d : Dev) : Dev :=
  { d with uhf := { d.uhf with framesBad := (d.uhf.framesBad + 1) % 2 ^ 32 },
           lf := { d.lf with noisy := d.lf.noisy || (noisy && win.any (fun w => w.tag.isNone)) } }

/-- A frame that passes tests 1–5: `UHF.LAST_ID` and `UHF.LAST_CODE` (R223, R229). -/
def Dev.frameSeen (m : Nat) (f : TokenFrame) (d : Dev) : Dev :=
  { d with uhf := { d.uhf with lastId := f.id, lastCode := f.code + 256 * m } }

/-- A frame that has passed every test: its sequence value, RSSI and count (R216, R217, R223, R224). -/
def Dev.frameAccepted (rx : UhfRx) (m : Nat) (slot : Option Nat) (f : TokenFrame) (d : Dev) : Dev :=
  { d with uhf := { d.uhf with
      seqs := (match slot with | some s => d.uhf.seqs.set s (some f.seq) | none => d.uhf.seqs),
      lastRssi := (if bit 0 m then rx.rssiA % 256 else 0) + 256 * (if bit 1 m then rx.rssiB % 256 else 0), rssi := rxRssi rx m,
      framesOk := (d.uhf.framesOk + 1) % 2 ^ 32 } }

/-- A frame that has passed tests 1–5: its fields, the paths that delivered it, the token slot of its sequence value, its window. -/
structure Heard where
  f : TokenFrame
  paths : Nat
  slot : Option Nat
  win : Option Listen
deriving DecidableEq, Repr

/-- A sync word ends the jam episode of the paths that recognise it (R228). -/
def Dev.synced (rx : UhfRx) (d : Dev) : Dev :=
  { d with uhf := { d.uhf with
      jammed := (List.range 2).map (fun p => !bit p (d.hearing rx) && d.uhf.jammed.getD p false) } }

/-- A received transmission up to test 5 of R223: the state with what the tests leave, and the frame where it passed. -/
def Dev.receive (rx : UhfRx) (d : Dev) : Dev × Option Heard :=
  let m := (d.delivering rx).1
  let win := (d.delivering rx).2
  let d := d.synced rx
  if m = 0 then (d, none)
  else
    let d := d.wait (rxEarliest rx m + (144 + 8 * frameLen rx.bytes) * 6240)
    let f := frameOf rx.bytes
    if !frameSound rx then (d.frameBad true win, none)
    else
      match d.frameKey f.id with
      | none => (d.frameBad true win, none)
      | some (key, slot) =>
        if d.frameMac key rx.bytes != slice (8 + f.body.length) 4 rx.bytes then (d.frameBad true win, none)
        else if !d.seqNew slot f.seq then (d.frameBad false win, none)
        else if d.pwr.dev == .park && !win.any (fun w => w.codes.contains f.code) then (d, none)
        else (d.frameSeen m f, some ⟨f, m, slot, win⟩)

/-! ### Path faults (R204, R227, R228) -/

/-- Commands that listen with no path left complete HW_FAULT (R228). -/
def Dev.pathLost (d : Dev) : Dev :=
  if d.anyPath then d
  else (d.cmds.filter (fun c => d.uhf.windows.any (fun w => w.tag == some c.tag))).foldl
    (fun d c => (d.closeWindows (some c.tag)).fail c.tag .hwFault) d

/-- UHF_JAM (R204, R227, R228): the path has measured at least `code` for `held` ticks with no sync word. In RUN an episode lasts from
`UHF.JAM_TIME` on until the code falls below the level; in PARK the code counts where it lasts through a whole preamble window of
path A. -/
def uhfJam (path code held : Nat) (d : Dev) : Dev :=
  if 2 ≤ path then d
  else
    let over_ := decide (d.setting 0x030004 ≤ code)
    let polling := d.uhf.windows.any (fun w => w.tag.isNone)
    if d.awake then
      let was := d.uhf.jammed.getD path false
      let jam := over_ && (was || d.setting 0x030005 * 124800 ≤ held)
      let d := { d with lf := { d.lf with noisy := d.lf.noisy || (jam && polling) },
                        uhf := { d.uhf with jammed := d.uhf.jammed.set path jam } }
      if jam && !was then d.signal 69 else d
    else
      let whole := over_ && path == 0 && d.uhf.windows.any (fun w => w.tag.isNone && w.close - w.opens ≤ held)
      { d with lf := { d.lf with noisy := d.lf.noisy || whole } }

def execUhfJam (path code : Nat) (s : State) (held : Nat := 0) : Host.Outcome State Fault Refusal := run (uhfJam path code held) s

/-- A path can meet a fault: in RUN, or path A for a poll of PARK, whose happenings are held until the wake (R160, R228). -/
def Dev.pathMeets (d : Dev) (path : Nat) : Bool := path < 2 && (d.awake || (d.pwr.dev == .park && d.bellows && path == 0))

/-- UHF_UNLOCK (R228): source 70; the path delivers nothing until it relocks. -/
def uhfUnlock (path : Nat) (d : Dev) : Dev :=
  if !d.pathMeets path then d
  else (Dev.signal 70 { d with uhf := { d.uhf with unlocked := d.uhf.unlocked.set path true } }).pathLost

def execUhfUnlock (path : Nat) (s : State) : Host.Outcome State Fault Refusal := run (uhfUnlock path) s

/-- UHF_RF_FAULT (R228): source 71. -/
def uhfRfFault (path : Nat) (d : Dev) : Dev :=
  if !d.pathMeets path then d
  else (Dev.signal 71 { d with uhf := { d.uhf with faulted := d.uhf.faulted.set path true } }).pathLost

def execUhfRfFault (path : Nat) (s : State) : Host.Outcome State Fault Refusal := run (uhfRfFault path) s

/-- SYNTHESISER_RELOCK (R228, R256): unit 0 UHF path A, 1 path B, 2 UWB. -/
def synthesiserRelock (unit : Nat) (d : Dev) : Dev :=
  if unit = 2 then { d with uwb := { d.uwb with unlocked := false } }
  else { d with uhf := { d.uhf with unlocked := d.uhf.unlocked.set unit false } }

def execSynthesiserRelock (unit : Nat) (s : State) : Host.Outcome State Fault Refusal := run (synthesiserRelock unit) s

/-- SQUELCH_MEASURE (R533): in RUN, a powered path's estimate moves by at most 4 codes towards the measured code plus 12. -/
def squelchMeasure (path code : Nat) (d : Dev) : Dev :=
  if 2 ≤ path || !d.awake || !d.domOn (5 + path) then d
  else
    let n := 9 + path
    let e := (d.loop n).est
    d.setEst n (if e < code + 12 then min (code + 12) (e + 4) else max (code + 12) (e - 4))

def execSquelchMeasure (path code : Nat) (s : State) : Host.Outcome State Fault Refusal := run (squelchMeasure path code) s

end Sys2Proof.Machine
end

