-- ==== Sys2Proof/Machine/Secure.lean ====
section
/-!
DEFINITION. Operations of the secure world that many commands share: DRBG draws and seeding (R372, R373), the attribute word
and its rules (R326, R327), key uses and their counts (R328), slot records (R329–R331), and updates rolled forward and
back (R339, R340).
-/

namespace Sys2Proof.Machine

/-! ### The DRBG (R367, R372–R375) -/

/-- One generate request of `n` bytes; past 2^20 requests since the last seeding the DRBG is not ready (R373). -/
def Dev.draw (n : Nat) (d : Dev) : Bytes × Dev :=
  let r := drbgBlocks d.anvil.key (ceilDiv n 16) d.anvil.v
  let u := drbgUpdate d.anvil.key r.2 (List.replicate 48 0)
  (r.1.take n,
   { d with anvil := { d.anvil with
      key := u.1, v := u.2, requests := d.anvil.requests + 1,
      reseedDue := d.anvil.reseedDue || d.anvil.requests + 1 = 65536,
      ready := d.anvil.ready && d.anvil.requests + 1 < 2 ^ 20 } })

/-- A scalar in [1, n − 1] of P-256, from 40 bytes of DRBG output (FIPS 186-5 A.2.1). -/
def Dev.drawScalar (d : Dev) : Bytes × Dev :=
  let r := d.draw 40
  (beBytes 32 (beNat r.1 % (p256n - 1) + 1), r.2)

/-- 384 bits generated at once after a seeding and written as the new reserve seed (R373). -/
def Dev.newReserve (d : Dev) : Dev :=
  let r := d.draw 48
  let r2 := { r.2 with anvil := { r.2.anvil with requests := 0 } }
  { r2 with anvil := { r2.anvil with reserve := some r.1, seededAt := r2.now, reseedDue := false } }

/-- Instantiation from 48 bytes of entropy input and nonce, with the personalisation string of R372; READY's change presents
ENT_READY (source 149, R375). -/
def Dev.instantiate (seed : Bytes) (d : Dev) : Dev :=
  let pers := d.cru.uid ++ leBytes 4 d.nv.bootEpoch ++ leBytes 8 d.now ++ leBytes 4 d.pwr.wakes
  let u := drbgUpdate (List.replicate 32 0) 0 (drbgDf (seed ++ pers))
  let was := d.anvil.ready
  let d := Dev.newReserve { d with anvil := { d.anvil with
    key := u.1, v := u.2, reserve := none, ready := true, blocks := [], requests := 0 } }
  let d := { d with cmds := d.cmds.map (fun c => if c.phase = .held then { c with phase := .queued } else c) }
  if was then d else d.alsoSignal 149

/-- A reseed from one conditioned block (R373). -/
def Dev.reseedWith (block : Bytes) (d : Dev) : Dev :=
  let u := drbgUpdate d.anvil.key d.anvil.v (drbgDf block)
  Dev.newReserve { d with anvil := { d.anvil with key := u.1, v := u.2, requests := 0 } }

/-- A fresh block: the conditioned output of the noise source, whose value nothing determines (R370). -/
def Dev.freshBlock (d : Dev) : Bytes × Dev := d.freeBytes 32

/-- A sample passes the repetition count test and the adaptive proportion test (R369), or none. -/
def Health.feed (s : Nat) (h : Health) : Option Health :=
  let run := if h.last = some s then h.run + 1 else 1
  let first := if h.pos = 0 then s else h.first
  let same := if h.pos = 0 then 1 else h.same + b2n (s == h.first)
  if 41 ≤ run || 840 ≤ same then none
  else some { last := some s, run := run, first := first, pos := (h.pos + 1) % 1024, same := same,
              passed := min 1024 (h.passed + 1), gathered := h.gathered + 1 }

/-- Samples one after the other, to the first that fails a test. -/
def Health.feedAll : List Nat → Health → Option Health
  | [], h => some h
  | s :: ss, h => match h.feed s with | some h => Health.feedAll ss h | none => none

/-- Conditioning of a seed or a reseed holds PD10 with holder ENTROPY (R67, R373). -/
def Dev.entropyHold (d : Dev) : Dev :=
  if d.pwr.holds.contains ⟨5, 10⟩ then d else { d with pwr := { d.pwr with holds := d.pwr.holds ++ [⟨5, 10⟩] } }

/-- A seed or a reseed is being conditioned: blocks for a cold instantiation, or the block of the reseed that is due. -/
def Dev.conditioning (d : Dev) : Bool := d.domOn 10 && ((d.anvil.cold && !d.anvil.ready) || d.anvil.reseedDue)

/-- The DRBG's start at a Crucible start: warm from a valid reserve seed, which its use invalidates, and reseeded from the next block,
else cold, ready once two blocks are accepted (R372–R375); either way the source conditions under a hold from here on (R67). The
decimation that the jitter measurement sets is open within 1–3 (R368). -/
def Dev.drbgStart (d : Dev) : Dev :=
  let f := d.freeNat
  let d := { f.2 with anvil := { f.2.anvil with
    decim := f.1 % 3 + 1, ready := false, blocks := [], health := Health.reset, requests := 0, failWin := none, failed := false } }
  match d.anvil.reserve with
  | some s =>
    let d := Dev.instantiate s { d with anvil := { d.anvil with cold := false } }
    Dev.entropyHold { d with anvil := { d.anvil with reseedDue := true } }
  | none => Dev.entropyHold { d with anvil := { d.anvil with cold := true } }

/-! ### Attributes (R326) -/

def attrUse (a : Nat) : Nat := a % 4096
def attrType (a : Nat) : Nat := field 18 16 a
def attrExport (a : Nat) : Bool := bit 22 a
def attrExpire (a : Nat) : Bool := bit 23 a
def attrSecure (a : Nat) : Bool := bit 24 a
def attrLocked (a : Nat) : Bool := bit 25 a
def attrLimit (a : Nat) : Nat := field 47 32 a

/-- A reserved bit is set, or TYPE or ORIGIN holds a reserved value. -/
def attrReserved (a : Nat) : Bool :=
  field 15 12 a != 0 || bit 19 a || 2 ^ 48 ≤ a || 6 ≤ attrType a || field 21 20 a = 3

/-- USE bits a TYPE allows (R326). -/
def useAllowed (ty : Nat) : Nat :=
  match ty with
  | 1 => 0xFCF
  | 2 => 0xFCF
  | 3 => 0x130
  | 4 => 0x24C
  | _ => 0

def usesOk (a : Nat) : Bool := attrUse a &&& useAllowed (attrType a) == attrUse a

/-- Bytes of material of a TYPE (R329). -/
def materialLen (ty : Nat) : Nat := if ty = 1 then 16 else if ty = 5 then 64 else if ty = 0 then 0 else 32

/-- A word of attributes assembled from its fields. -/
def attrOf (use ty origin : Nat) (expo expire secure locked : Bool) (parent limit : Nat) : Nat :=
  use + ty * 2 ^ 16 + origin * 2 ^ 20 + b2n expo * 2 ^ 22 + b2n expire * 2 ^ 23 + b2n secure * 2 ^ 24 +
  b2n locked * 2 ^ 25 + parent * 2 ^ 26 + limit * 2 ^ 32

/-- USE of a new key: K48–K63 always expire at reset (R327). -/
def expireFor (slot : Nat) (asked : Bool) : Bool := 48 ≤ slot || asked

/-! ### Key slots -/

def Dev.key (d : Dev) (n : Nat) : KeySlot := d.cru.slots.getD n KeySlot.empty
/-- A command that has not completed yet will write a key to the slot. -/
def Dev.keyAwaited (d : Dev) (n : Nat) : Bool :=
  d.cmds.any (fun c => match c.phase with
    | .done ⟨_, _, .key m _ _, _, _⟩ => m == n
    | .waiting ⟨_, _, .key m _ _, _, _⟩ => m == n
    | _ => false)

/-- A slot that a new key may take. -/
def Dev.keyEmpty (d : Dev) (n : Nat) : Bool :=
  attrType (d.key n).attr == 0 && ((d.key n).okA || (d.key n).okB) && !d.keyAwaited n
/-- The record of a persistent slot has no valid copy (R331). -/
def Dev.keyBad (d : Dev) (n : Nat) : Bool := n < 48 && !(d.key n).okA && !(d.key n).okB
/-- Uses counted of a key (R328). -/
def Dev.usesOf (d : Dev) (n : Nat) : Nat := d.cru.uses.getD n 0 - (d.key n).useBase
/-- The lowest empty slot of [lo, hi). -/
def Dev.lowestEmpty (d : Dev) (lo hi : Nat) : Option Nat := (List.range hi).find? (fun n => lo ≤ n && d.keyEmpty n)
/-- The update counter in force (R339). -/
def Dev.updCounter (d : Dev) : Nat := max d.cru.updCnt ((d.cru.commit.map Commit.counter).getD 0)

/-- SLOT_BAD: `KSSTAT.SLOTBAD`, source 151, and the slot's bit (R331). -/
def Dev.slotBadEvent (n : Option Nat) (d : Dev) : Dev :=
  Dev.alsoSignal 151 { d with cru := { d.cru with
    slotBadFlag := true, slotBad := match n with | some k => d.cru.slotBad ||| 2 ^ k | none => d.cru.slotBad } }

/-- A command that uses a slot whose record has no valid copy completes SLOT_BAD (R331). -/
def Dev.slotFail (tag n : Nat) (d : Dev) : Dev := (d.slotBadEvent (some n)).fail tag .slotBad

/-- Pages of copy B and of copy A of a key slot's record (R329, R473). -/
def keyPagesB (n : Nat) : List Nat := [608 + 2 * n, 609 + 2 * n]
def keyPagesA (n : Nat) : List Nat := [512 + 2 * n, 513 + 2 * n]
/-- Pages of a key slot's record, copy B first (R331). -/
def keyPages (n : Nat) : List Nat := keyPagesB n ++ keyPagesA n
/-- Pages of a token slot's record, copy B first (R330, R473). -/
def tokenPages (n : Nat) : List Nat := [155 + n, 123 + n]
/-- Page of a slot's counter in USECNT (R473). -/
def usePage (n : Nat) : Nat := 3 + n

/-- A key slot holds a new key: its SEQ rises, its KEYSET is the counter in force, and a bad slot is good again (R329, R331). -/
def Dev.setKey (n attr : Nat) (material : Bytes) (d : Dev) : Dev :=
  let base := if n < 48 then d.cru.uses.getD n 0 else 0
  let k : KeySlot := { attr := attr, material := material, seq := (d.key n).seq + 1, keyset := d.updCounter, useBase := base,
                       okA := true, okB := true }
  { d with cru := { d.cru with
    slots := d.cru.slots.set n k, slotBad := if bit n d.cru.slotBad then d.cru.slotBad - 2 ^ n else d.cru.slotBad,
    uses := if n < 48 then d.cru.uses else d.cru.uses.set n 0 } }

/-- A key slot written, with its record (R331); a volatile slot has none. -/
def Dev.putKey (owner : Option Nat) (n attr : Nat) (material : Bytes) (d : Dev) : Dev :=
  if n < 48 then (d.setKey n attr material).recordWrite owner (keyPagesB n) (keyPagesA n) (.key n (d.key n)) else d.setKey n attr material

/-- A command's new key (R332, R333, R364, R365): the page writes of its record are asked for, and the slot takes it with the DONE
completion that they precede; a command that ends otherwise writes no key (R69, R116). -/
def Dev.childDone (tag slot attr : Nat) (material : Bytes) (payload : List Word) (d : Dev) : Dev :=
  let d := if slot < 48 then d.nvQueue (devWrites (some tag) (keyPages slot)) else d
  d.finish tag ⟨.done, payload, .key slot attr material, none, if slot < 48 then [draft 0x10 0x07 slot d.updCounter d.updCounter 0] else []⟩

/-- A token slot written (R330, R331). -/
def Dev.putToken (owner : Option Nat) (n : Nat) (t : TokenSlot) (d : Dev) : Dev :=
  let t := { t with seq := (d.slotRec n).seq + 1, okA := true, okB := true }
  Dev.recordWrite owner [155 + n] [123 + n] (.token n (d.slotRec n)) { d with cru := { d.cru with tokens := d.cru.tokens.set n t } }

/-- A use of a key (R328): LIMIT_REACHED, or the count and its page write, which the result waits for. -/
def Dev.useKey (owner : Option Nat) (n : Nat) (d : Dev) : Option Status × Dev :=
  let lim := attrLimit (d.key n).attr
  if lim = 0 then (none, d)
  else if lim ≤ d.usesOf n then (some .limitReached, d)
  else
    let d := { d with cru := { d.cru with uses := d.cru.uses.set n (d.cru.uses.getD n 0 + 1) } }
    (none, if n < 48 then d.nvQueue (devWrites owner [usePage n]) else d)

/-- K48–K63, the branch keys and the current authenticated token are cleared (R324, R352, R382). -/
def Dev.clearVolatile (d : Dev) : Dev :=
  { d with cru := { d.cru with slots := d.cru.slots.take 48 ++ List.replicate 16 KeySlot.empty,
                               uses := d.cru.uses.take 48 ++ List.replicate 16 0 },
           tok := { d.tok with session := none } }

/-- Persistent slots with EXPIRE_AT_RESET are rewritten EMPTY (R327). -/
def Dev.expireSlots (d : Dev) : Dev :=
  ((List.range 48).filter (fun n => 6 ≤ n && attrExpire (d.key n).attr && attrType (d.key n).attr != 0)).foldl
    (fun d n => d.putKey none n 0 []) d

/-! ### Token slots and the token session -/

/-- The current authenticated token ends and its KS is cleared (R382). -/
def Dev.endToken (d : Dev) : Dev :=
  match d.tok.session with
  | none => d
  | some x => { d with cru := { d.cru with slots := d.cru.slots.set x.ks KeySlot.empty }, tok := { d.tok with session := none } }

/-- KS of the current authenticated token. -/
def Dev.ks (d : Dev) : Bytes := match d.tok.session with | some x => (d.key x.ks).material | none => []

/-- What a revocation ends beside the slots: their evidence and decisions, their sessions (cause REVOKE, 5), and the current
authenticated token where it is one of theirs (R293, R313, R382). -/
def Dev.dropSlots (tag op : Nat) (ss : List Nat) (d : Dev) : Dev :=
  let d := ss.foldl (fun d s => d.freeSlotRecords s) d
  let d := d.endSessions oHost tag op 1 5 (fun x => ss.contains x.slot)
  if d.tok.session.any (fun x => ss.contains x.slot) then d.endToken else d

/-! ### Updates (R338–R340, R344) -/

/-- A KEY record (R138): the update counter before and after. -/
def keyDraft (slot old new : Nat) : Draft := draft 0x10 0x07 slot old new 0

/-- The slot record a shadow will become, before encryption (R329). -/
def shadowBytes (counter : Nat) (x : Shadow) : Bytes :=
  leBytes 1 x.slot ++ List.replicate 7 0 ++ leBytes 4 counter ++ leBytes 4 0 ++ leBytes 8 x.attr ++ fit 64 0 x.material

/-- Digest of the shadow records in entry order (R339). -/
def Prepared.digest (p : Prepared) : Bytes := sha256 (p.shadows.flatMap (shadowBytes p.counter))

/-- The commit record of a prepared update (R339). For a provisioning it goes with the new shares in one write (R344). -/
def Dev.writeCommit (p : Prepared) (d : Dev) : Dev :=
  let r := if p.kind = 2 then
      let m := d.draw 32
      let s := m.2.draw 32
      { s.2 with cru := { s.2.cru with shareA := m.1, shareB := xorBytes p.drs m.1, scramble := s.1 } }
    else d
  let mac := (cmac (r.branchKey "nvm" [] 32) (leBytes 4 p.counter ++ p.digest)).take 8
  { r with cru := { r.cru with commit := some ⟨p.counter, p.shadows.length, p.digest, mac⟩ } }

/-- Every record of K06–K47 and of the token slots EMPTY (R344). -/
def Dev.eraseRecords (owner : Option Nat) (d : Dev) : Dev :=
  let d := ((List.range 48).filter (fun n => 6 ≤ n)).foldl (fun d n => d.putKey owner n 0 []) d
  (List.range 32).foldl (fun d n => d.putToken owner n { TokenSlot.empty with gen := (d.slotRec n).gen } ) d

/-- Pages that a commit writes (R339, R344): for a provisioning KEYHDR, then the targets' records, for a provisioning every other
record, then UPDCNT. -/
def Prepared.pages (p : Prepared) : List Nat :=
  (if p.kind = 2 then [3, 2] else []) ++ p.shadows.flatMap (fun x => keyPages x.slot) ++
  (if p.kind = 2 then ((List.range 48).filter (fun n => 6 ≤ n)).flatMap keyPages ++ (List.range 32).flatMap tokenPages else []) ++ [5]

/-- Steps 2–4 of R339 for a committed update: the slots rewritten from the shadows, the counter advanced, the commit record cleared; for a
provisioning also R344's: KEYHDR, the wake ID and arming, TAMPSTAT, and a new journal chain with its genesis record; the checkpoint of a
load of an atlas does not verify any more (R285). The KEY record is in the same event. `write` asks for the page writes, which at a
command's completion have ended already. -/
def Dev.rollForward (write : Bool) (origin tag op : Nat) (d : Dev) : Dev :=
  match d.cru.commit, d.cru.prepared with
  | some c, some p =>
    let old := d.cru.updCnt
    let first := (p.assigned.headD 0)
    let nv := d.nv
    let d := if p.kind = 2 then d.eraseRecords none else d
    let d := p.shadows.foldl (fun d x => d.putKey none x.slot x.attr x.material) d
    let d := { d with cru := { d.cru with updCnt := max old c.counter, commit := none, prepared := none } }
    let d := if write then Dev.nvQueue (devWrites none p.pages) { d with nv := nv } else { d with nv := nv }
    if p.kind = 2 then
      let d := { d with nv := d.nv.seqStep 2 1 }
      let wake := leNat (slice 192 3 p.body)
      let tin := (p.body.getD 196 0).toNat
      let d := { d with
        cru := { d.cru with
          keyhdr := some (d.branchKey "chk" [] 8, wake, tin), provisioned := true, tampstat := 0, tampered := false,
          tinCfg := tin, wakeId := wake, trips := 0 },
        tok := { d.tok with adm := Admission.closed, session := none },
        atlas := { d.atlas with load := AtlasLoad.idle } }
      let d := d.log origin tag op (keyDraft first old d.cru.updCnt)
      let d := { d with jrnl := { d.jrnl with lastTag := zeroTag } }
      d.log origin tag op (draft 0x7F 0xFF (d.jrnl.nextNumber % 2 ^ 32) d.jrnl.buf.length (d.jrnl.buf.length + 1) 3)
    else d.log origin tag op (keyDraft first old d.cru.updCnt)
  | some c, none =>
    let old := d.cru.updCnt
    let d := { d with cru := { d.cru with updCnt := max old c.counter, commit := none } }
    (d.nvQueue (devWrites none [5])).log origin tag op (keyDraft 0xFF old d.cru.updCnt)
  | none, _ => d

/-- A prepared update that was not committed is erased, with `KSSTAT.ROLLBACK` and its KEY record (R340). -/
def Dev.rollBack (origin tag op : Nat) (d : Dev) : Dev :=
  match d.cru.prepared with
  | none => d
  | some p =>
    let d := { d with cru := { d.cru with prepared := none, rollBack := true } }
    d.log origin tag op (keyDraft (p.assigned.headD 0) d.cru.updCnt d.cru.updCnt)

/-- The check for a commit record at a Crucible start (R340): one event when there is anything to do. -/
def Dev.recoverUpdate (d : Dev) : Dev :=
  if d.cru.commit.isSome then
    let d := { d with cru := { d.cru with rollFwd := true } }
    d.aside 13 (Dev.rollForward true oPower 0xFFFF 0xFF)
  else if d.cru.prepared.isSome then d.aside 13 (Dev.rollBack oPower 0xFFFF 0xFF)
  else d

/-! ### Crucible start (R319, R320, R327, R340) -/

/-- The root check fails: the device is unprovisioned, and its key and token slots are EMPTY (R320, R350). -/
def Dev.rootCheck (d : Dev) : Dev :=
  match d.cru.keyhdr with
  | none => { d with cru := { d.cru with provisioned := false } }
  | some (chk, wake, tin) =>
    if d.cru.tampered || d.cru.tampstat != 0 then
      { d with cru := { d.cru with tampered := true, provisioned := true, wakeId := 0, tinCfg := tin } }
    else if d.cru.shareA.length = 32 && d.branchKey "chk" [] 8 = chk then
      { d with cru := { d.cru with provisioned := true, wakeId := wake, tinCfg := tin } }
    else
      { d with cru := { d.cru with
          provisioned := false, wakeId := 0, slots := List.replicate 64 KeySlot.empty,
          tokens := d.cru.tokens.map (fun t => { TokenSlot.empty with gen := t.gen, seq := t.seq }) } }

/-- A Crucible start: an update is rolled forward or back, the root is checked, slots that expire at a reset are emptied where
this start follows one, the DRBG is started, and the PD10 scramble key drawn once it is ready. -/
def Dev.crucibleStart (afterReset : Bool) (d : Dev) : Dev :=
  let d := d.recoverUpdate.rootCheck
  let d := if afterReset then d.expireSlots else d
  let d := d.drbgStart
  if d.anvil.ready then
    let r := d.draw 32
    { r.2 with cru := { r.2.cru with scramble10 := r.1 } }
  else d

end Sys2Proof.Machine
end

