-- ==== Sys2Proof/Machine/Token.lean ====
section
/-!
DEFINITION. Tokens (chapter 16): the exchanges a ROM script runs (TOKEN_AUTH, TOKEN_MEM_READ, TOKEN_MEM_WRITE, LEARN_ADD), tickets,
admissions, enrolment and revocation. An exchange goes on in the rows that end its emissions, receive its frames and
close its windows.
-/

namespace Sys2Proof.Machine

/-! ### Shared pieces -/

/-- Enrolments left (R393). -/
def Dev.enrolLeft (d : Dev) : Nat := 250 - d.tok.enrolCnt

/-- A TOKEN record's fields (R138). -/
def tokenDraft (slot old new cause : Nat) : Draft := draft 0x11 0x07 slot old new cause

/-- A token slot's record has no valid copy (R331). -/
def Dev.tokenBad (d : Dev) (s : Nat) : Bool := !(d.slotRec s).okA && !(d.slotRec s).okB

/-- The lowest token slot whose state meets `p`. -/
def Dev.slotWhere (d : Dev) (p : Nat → Bool) : Option Nat :=
  (List.range 32).find? (fun s => !d.tokenBad s && p (d.slotRec s).state)

/-- LEARNST written, copy B first (R401, R473). -/
def Dev.saveAdm (owner : Option Nat) (a : Admission) (d : Dev) : Dev :=
  Dev.recordWrite owner [87, 88, 89, 90] [83, 84, 85, 86] (.admission d.tok.adm) { d with tok := { d.tok with adm := a } }

/-- The newest LF evidence record, by stamp and then by ESN (R52, R383). -/
def Dev.newestLf (d : Dev) : Option Evidence :=
  ((d.rel.evidence.filterMap id).filter (fun e => !d.reached e.win)).foldl (fun b e =>
    match e.kind with
    | .lf _ _ => if b.any (fun x => age e.win.opens e.esn < age x.win.opens x.esn) then b else some e
    | _ => b) none

/-- The slot KS takes: that of the present KS, or the lowest empty of K48–K63 (R382). -/
def Dev.ksSlot (d : Dev) : Option Nat :=
  match d.tok.session with
  | some x => some x.ks
  | none => d.lowestEmpty 48 64

/-- Attributes of KS (R382): AES256, TOKEN_AUTH and UWB_STS, DERIVED, EXPIRE_AT_RESET, WORLD_SECURE. -/
def ksAttr : Nat := attrOf 0xA00 2 2 false true true false 0 0

/-- Memory keys of KS (R382). -/
def Dev.kme (d : Dev) : Bytes := hkdf d.ks [] (ascii "mme") 16
def Dev.kmm (d : Dev) : Bytes := hkdf d.ks [] (ascii "mmm") 16

/-- An authentication tag: the leftmost 8 bytes of CMAC_K(a ‖ b ‖ ID) (R380). -/
def authMac (k a b : Bytes) (id : Nat) : Bytes := (cmac k (a ++ b ++ idBytes id)).take 8

/-! ### Running an exchange (R428) -/

def Dev.setToken (tag : Nat) (x : TokenRun) (d : Dev) : Dev := d.setPhase tag (.running (.token x))

/-- The token exchange of a command in progress. -/
def Dev.tokenRun (d : Dev) (tag : Nat) : Option TokenRun :=
  match (d.cmd tag).map Cmd.phase with
  | some (.running (.token x)) => some x
  | _ => none

/-- A sequencer changed. -/
def Dev.onSeq (q : Nat) (f : Seqr → Seqr) (d : Dev) : Dev :=
  if q = 0 then { d with ham := { d.ham with a := f d.ham.a } } else { d with ham := { d.ham with b := f d.ham.b } }

/-- The exchange ends: its windows close, its ROM script has ended, and its result waits; the command keeps its sequencer to its
completion (R115). -/
def Dev.tokenEnd (tag : Nat) (r : Result) (d : Dev) : Dev := (d.dropWork tag).finish tag r
def Dev.tokenFail (tag : Nat) (st : Status) (d : Dev) : Dev := d.tokenEnd tag (Result.plain st)

/-- A telegram of an exchange begins, and a STANDBY is owed on its aerials (R384). -/
def Dev.tokenSend (tag : Nat) (x : TokenRun) (code : Nat) (data : Bytes) (d : Dev) : Dev :=
  let d := { d with lf := { d.lf with standbyDue := x.mask } }
  (d.send (.command tag) x.mask x.rate code data).setToken tag x

/-- The exchange takes its sequencer and its aerials, and sends its first telegram. -/
def Dev.tokenBegin (tag : Nat) (x : TokenRun) (code : Nat) (data : Bytes) (d : Dev) : Dev :=
  ((d.onSeq x.seq (fun q => { q with running := some tag, rom := true })).takeLf).tokenSend tag x code data

/-- A run of a command at its beginning, on the sequencer the command took (R115). -/
def Cmd.newRun (c : Cmd) (kind mask rate slot token : Nat) : TokenRun :=
  { kind := kind, stage := 0, seq := c.hammer.getD 0, mask := mask, rate := rate, slot := slot, token := token, nb := [],
    nt := [], page := 0, first := 0, count := 0, at_ := 0, tries := 0, data := [], got := [],
    klm := 0, prio := 0, ticket := 0 }

/-! ### TOKEN_AUTH (R380–R383) -/

/-- The slot TOKEN_AUTH names. -/
def Dev.authSlot (d : Dev) (w : Nat) : Option Nat :=
  if w = 0xFF then d.newestLf.map Evidence.slot else some w

/-- TOKEN_AUTH begins: the checks of R383, and M1 with NB from the DRBG. -/
def tokenAuth (tag : Nat) : Dev → Dev :=
  Dev.startCmd (isOp 0x40) tag fun c d =>
    if (31 < c.w 6 && c.w 6 != 0xFF) || 256 ≤ c.w 7 || 2 < c.w 8 || !c.zeroFrom 9 then d.hostError c
    else
      match d.authSlot (c.w 6), d.ksSlot with
      | some s, some _ =>
        if d.tokenBad s then (d.slotBadEvent none).fail tag .slotBad
        else if !d.enrolled s then d.fail tag .stateConflict
        else
          let want := d.maskOf (c.w 7)
          let mask := d.usable want
          if mask = 0 then d.fail tag (d.noAerial want)
          else
            let r := d.draw 8
            let x := { c.newRun 0 mask (d.bitTime (c.w 8)) s (d.slotRec s).id with nb := r.1 }
            r.2.tokenBegin tag x 3 (idBytes x.token ++ x.nb)
      | _, _ => d.fail tag .stateConflict

def execTokenAuth (tag : Nat) (s : State) : Host.Outcome State Fault Refusal := run (tokenAuth tag) s

/-- TOKEN_AUTH is done when M3 has been sent (R383): KS takes its slot, and an AUTH record is made (R121). -/
def Dev.authDone (tag : Nat) (x : TokenRun) (d : Dev) : Dev :=
  match d.ksSlot with
  | none => d.tokenFail tag .stateConflict
  | some k =>
    let t := d.slotRec x.slot
    let key := hkdf (d.slotKey x.slot) (x.nb ++ x.nt) (ascii "ks") 32
    let ws := leWords 2 x.token ++ [word x.slot, 0, word k, word t.gen, 0, 0]
    d.tokenEnd tag ⟨.done, ws, .auth ⟨x.slot, x.token, k, 0, 0⟩ key, some 3, []⟩

/-- The effect of a DONE TOKEN_AUTH, in its event (R240, R382, R292): the former session ends, and KS, its exchange
numbers and the new session begin. -/
def Dev.applyAuth (x : TokenSession) (key : Bytes) (d : Dev) : Dev :=
  let d := d.endToken
  let k : KeySlot := { KeySlot.empty with attr := ksAttr, material := key, keyset := d.updCounter }
  let d := { d with cru := { d.cru with slots := d.cru.slots.set x.ks k, uses := d.cru.uses.set x.ks 0 },
                    tok := { d.tok with session := some { x with authEsn := d.clock.evEsn.toNat } },
                    uwb := { d.uwb with x := 0 } }
  d.putEvidence ⟨.auth, x.slot, 0, Window.none⟩

/-! ### Token memory (R385–R390) -/

/-- The next MEM_REQ: the memory counter rises, and the request is tagged under KMM (R386). `body` makes its 8 BODY bytes from
the counter. -/
def Dev.memReq (tag : Nat) (x : TokenRun) (op arg : Nat) (body : Nat → Bytes) (d : Dev) : Dev :=
  match d.tok.session with
  | none => d.tokenFail tag .stateConflict
  | some s =>
    let mc := s.mc + 1
    let req := [byte op, byte x.page, byte arg, byte mc] ++ body mc
    let mac := (cmac d.kmm (ascii "MQ" ++ idBytes s.token ++ beBytes 4 mc ++ req)).take 4
    Dev.tokenSend tag x 5 (req ++ mac) { d with tok := { d.tok with session := some { s with mc := mc } } }

/-- Chunks of the mask `x.first` still without a verified tag. -/
def TokenRun.missing (x : TokenRun) : Nat :=
  bitsNat ((List.range 32).map (fun c => bit c x.first && !x.got.any (fun g => g.1 == c && g.2 != [])))

/-- A READ for the chunks still missing (R388). -/
def Dev.memRead (tag : Nat) (x : TokenRun) (d : Dev) : Dev :=
  let m := x.missing
  let x := { x with stage := 0, at_ := m, got := x.got.filter (fun g => g.2 != []) }
  d.memReq tag x 1 0 (fun _ => leBytes 4 m ++ List.replicate 4 0)

/-- TOKEN_MEM_READ begins (R390). -/
def tokenMemRead (tag : Nat) : Dev → Dev :=
  Dev.startCmd (isOp 0x41) tag fun c d =>
    if 256 ≤ c.w 6 || 256 ≤ c.w 9 || 2 < c.w 10 || !c.zeroFrom 11 then d.hostError c
    else
      match d.tok.session with
      | none => d.fail tag .stateConflict
      | some s =>
        let want := d.maskOf (c.w 9)
        let mask := d.usable want
        if mask = 0 then d.fail tag (d.noAerial want)
        else
          let chunks := if c.w2 7 = 0 then 2 ^ 32 - 1 else c.w2 7
          let x := { c.newRun 1 mask (d.bitTime (c.w 10)) s.slot s.token with page := c.w 6, first := chunks }
          ((d.onSeq x.seq (fun q => { q with running := some tag, rom := true })).takeLf).memRead tag x

def execTokenMemRead (tag : Nat) (s : State) : Host.Outcome State Fault Refusal := run (tokenMemRead tag) s

/-- A WRITE of unit `x.at_` of the run, or its COMMIT behind the last unit (R386, R389); `x.count` units from `x.first`. The full
counter of the run's first WRITE stands behind the data while the run lasts. -/
def Dev.memWrite (tag : Nat) (x : TokenRun) (d : Dev) : Dev :=
  let mc0 := (d.tok.session.map TokenSession.mc).getD 0 + 1 - x.at_
  if x.at_ < x.count then
    let u := x.first + x.at_
    let body (mc : Nat) : Bytes :=
      ctrCrypt d.kme ([0x57] ++ idBytes x.token ++ beBytes 4 mc ++ [byte x.page, byte u] ++ List.replicate 5 0)
        (slice (8 * x.at_) 8 x.data)
    d.memReq tag { x with stage := 0 } 2 u body
  else
    d.memReq tag { x with stage := 1 } 3 x.first (fun _ => leBytes 4 mc0 ++ [byte x.count] ++ List.replicate 3 0)

/-- TOKEN_MEM_WRITE begins (R390). -/
def tokenMemWrite (tag : Nat) : Dev → Dev :=
  Dev.startCmd (isOp 0x42) tag fun c d =>
    if 256 ≤ c.w 6 || 128 ≤ c.w 7 || c.w 8 != 0 || 256 ≤ c.w 9 || 2 < c.w 10 || !c.zeroFrom 11 ||
        c.plen < 4 || c.plen % 4 != 0 || 128 < c.w 7 + c.plen / 4 then d.hostError c
    else
      match d.tok.session with
      | none => d.fail tag .stateConflict
      | some s =>
        let want := d.maskOf (c.w 9)
        let mask := d.usable want
        if mask = 0 then d.fail tag (d.noAerial want)
        else
          let x := { c.newRun 2 mask (d.bitTime (c.w 10)) s.slot s.token with
            page := c.w 6, first := c.w 7, count := c.plen / 4, data := c.bytes }
          ((d.onSeq x.seq (fun q => { q with running := some tag, rom := true })).takeLf).memWrite tag x

def execTokenMemWrite (tag : Nat) (s : State) : Host.Outcome State Fault Refusal := run (tokenMemWrite tag) s

/-- A READ attempt has ended: a retry for what is missing, or the outcome of R390. -/
def Dev.readEnd (tag : Nat) (x : TokenRun) (d : Dev) : Dev :=
  let bytesAt (c : Nat) : Bytes := ((x.got.find? (fun g => g.1 == c)).map Prod.snd).getD []
  if x.missing != 0 then
    if x.tries < 2 then d.memRead tag { x with tries := x.tries + 1 }
    else d.tokenFail tag (if x.got.any (fun g => g.2 == []) then .authFail else .noResponse)
  else if x.got.any (fun g => g.2.length != 32) then d.tokenFail tag .stateConflict
  else d.tokenEnd tag ⟨.done, (bitsOf 32 x.first).flatMap (fun c => bytesToWords (bytesAt c)), .none, none, []⟩

/-- A MEM_DATA frame of a READ train (R388): its tag, then its chunk. -/
def Dev.readFrame (tag : Nat) (x : TokenRun) (body : Bytes) (d : Dev) : Dev :=
  let c := (body.getD 1 0).toNat
  if body.length != 44 || (body.getD 0 0).toNat != x.page || !bit c x.at_ then d
  else
    let mc := beBytes 4 ((d.tok.session.map TokenSession.mc).getD 0)
    let ok := (cmac d.kmm (ascii "MD" ++ idBytes x.token ++ mc ++ body.take 36)).take 8 == body.drop 36
    let st := (body.getD 2 0).toNat
    let iv := [0x4D] ++ idBytes x.token ++ mc ++ [byte x.page, byte c] ++ List.replicate 5 0
    let v : Bytes := if !ok then [] else if st = 0 then ctrCrypt d.kme iv (slice 4 32 body) else [byte st]
    let x := { x with got := x.got.filter (fun g => g.1 != c) ++ [(c, v)] }
    d.setToken tag x

/-- A WRITE run has its answer, or none: a retry of the whole run, or the outcome of R390. `answer` is 5 for a tag that failed
and none for silence. -/
def Dev.writeEnd (tag : Nat) (x : TokenRun) (answer : Option Nat) (d : Dev) : Dev :=
  match answer with
  | some 0 => d.tokenEnd tag (Result.plain .done)
  | some 2 => d.tokenFail tag .protected_
  | some 1 => d.tokenFail tag .stateConflict
  | some 4 => d.tokenFail tag .stateConflict
  | a =>
    if x.tries < 2 then d.memWrite tag { x with at_ := 0, tries := x.tries + 1 }
    else d.tokenFail tag (if a = some 3 then .stateConflict else if a.isSome then .authFail else .noResponse)

/-- The MEM_DATA reply of a COMMIT (R389). -/
def Dev.writeFrame (tag : Nat) (x : TokenRun) (body : Bytes) (d : Dev) : Dev :=
  if body.length != 12 || (body.getD 0 0).toNat != x.page then d
  else
    let d := d.closeWindows (some tag)
    let mc := beBytes 4 ((d.tok.session.map TokenSession.mc).getD 0)
    let ok := (cmac d.kmm (ascii "MA" ++ idBytes x.token ++ mc ++ body.take 4)).take 8 == body.drop 4
    d.writeEnd tag x (some (if ok then min 4 (body.getD 1 0).toNat else 5))

/-! ### Tickets (R392) -/

/-- A ticket's fields. -/
structure Ticket where
  kind : Nat
  n : Nat
  counter : Nat
  klm : Nat
  flags : Nat
  prio : Nat
  ids : List Nat
deriving DecidableEq, Repr

def ticketOf (m : Bytes) : Ticket :=
  let n := (m.getD 7 0).toNat
  { kind := (m.getD 6 0).toNat, n := n, counter := leNat (slice 24 4 m), klm := (m.getD 28 0).toNat,
    flags := (m.getD 29 0).toNat, prio := (m.getD 30 0).toNat,
    ids := (List.range n).map (fun i => leNat (slice (32 + 4 * i) 4 m)) }

/-- Length, MAGIC, VERSION, KIND, N, KLM and the reserved bits of a ticket of one kind (R392). -/
def ticketShape (kind lo hi : Nat) (m : Bytes) : Bool :=
  let t := ticketOf m
  m.length == 96 + 4 * t.n && leNat (m.take 4) == 0x314B5454 && leNat (slice 4 2 m) == 1 && t.kind == kind &&
  lo ≤ t.n && t.n ≤ hi && t.flags < 2 && t.prio < 16 && m.getD 31 0 == 0 &&
  (if kind = 3 then t.klm == 0 else 6 ≤ t.klm && t.klm ≤ 47)

/-- The UID and the authority's signature (R392). -/
def Dev.ticketSigned (d : Dev) (m : Bytes) : Bool :=
  let n := m.length - 64
  slice 8 16 m == d.cru.uid && ecdsaVerify (d.key 1).material (sha256 (m.take n)) (m.drop n)

/-- The learn master a ticket names may serve (R395 order 6). -/
def Dev.klmOk (d : Dev) (k : Nat) : Bool :=
  let a := (d.key k).attr
  (attrType a == 1 || attrType a == 2 || attrType a == 4) && bit 9 (attrUse a)

/-! ### The revocation list (R394) -/

/-- The revocation list written, copy B of its new record first (R394, R473, R482). -/
def Dev.saveRevoked (ids : List Nat) (d : Dev) : Dev :=
  Dev.recordWrite none [107] [91] (.revoked d.tok.revlist) { d with tok := { d.tok with revlist := ids } }

/-- An ID put on the revocation list, the oldest of 128 making room with a record of its own. -/
def Dev.listRevoked (origin tag op id : Nat) (d : Dev) : Dev :=
  if d.tok.revlist.contains id then d
  else
    let full := 128 ≤ d.tok.revlist.length
    let d := d.saveRevoked ((if full then d.tok.revlist.drop 1 else d.tok.revlist) ++ [id])
    if full then d.log origin tag op (tokenDraft 0xFF d.enrolLeft d.enrolLeft 0) else d

/-- The ENROLLED slots that a TOKEN_REVOKE revokes, in its order: the one it names, then those that hold a listed ID (R394). -/
def Dev.revokees (d : Dev) (slot : Option Nat) (ids : List Nat) : List Nat :=
  (slot.toList.filter d.enrolled ++ ids.filterMap d.slotOfToken).eraseDups

/-- The effect of TOKEN_REVOKE in its completion's event (R394): its one TOKEN record (R139), whose subject is the slot it names or else
the first it revokes (DESIGN CHOICE, log 104); the slots REVOKED and their IDs and the listed ones on the revocation list; then what
R293, R313 and R382 end with the slots. -/
def Dev.applyRevoke (tag op : Nat) (slot : Option Nat) (ids : List Nat) (d : Dev) : Dev :=
  let ss := d.revokees slot ids
  let named := (slot.toList.filter d.enrolled).map (fun s => (d.slotRec s).id) ++ ids
  let d := d.log oHost tag op (tokenDraft (slot.getD (ss.headD 0xFF)) d.enrolLeft d.enrolLeft 0)
  let d := ss.foldl (fun d s => d.putToken none s { d.slotRec s with state := 2 }) d
  (named.foldl (fun d id => d.listRevoked oHost tag op id) d).dropSlots tag op ss

/-- TOKEN_REVOKE (R394). -/
def tokenRevoke (tag : Nat) : Dev → Dev :=
  Dev.startCmd (isOp 0x44) tag fun c d =>
    if field 14 5 (c.w 6) != 0 || !c.zeroFrom 7 then d.hostError c
    else
      let slot := if bit 15 (c.w 6) then none else some (c.w 6 % 32)
      if c.plen = 0 then d.finish tag ⟨.done, [], .revoke slot [], none, []⟩
      else if !ticketShape 3 1 8 c.bytes then d.fail tag .authFail
      else if d.keyBad 1 then d.slotFail tag 1
      else if !d.ticketSigned c.bytes then d.fail tag .authFail
      else d.finish tag ⟨.done, [], .revoke slot (ticketOf c.bytes).ids, none, []⟩

def execTokenRevoke (tag : Nat) (s : State) : Host.Outcome State Fault Refusal := run (tokenRevoke tag) s

/-! ### Admissions (R395–R402) -/

/-- Ticks of the learn window: 30 min (R395). -/
def learnTicks : Nat := 224640000000

/-- The admission a ticket opens; its window is set at the completion. -/
def admissionOf (kind : Nat) (m : Bytes) : Admission :=
  let t := ticketOf m
  { state := 2, kind := kind, n := t.n, klm := t.klm, prio := t.prio, flags := t.flags, cause := 0, counter := t.counter,
    win := Window.none, learnt := 0, digest := sha256 m, ids := t.ids }

/-- The 8 result words of LEARN_BEGIN and TOKEN_ENROL (R396). -/
def Dev.admWords (d : Dev) (a : Admission) : List Word :=
  [word a.kind, word d.enrolLeft] ++ leWords 3 a.win.close ++ [word a.n] ++ leWords 2 a.learnt

/-- Checks 2–6 of R395, which TOKEN_ENROL shares (R396). -/
def Dev.ticketCheck (d : Dev) (kind lo hi : Nat) (m : Bytes) : Option Status :=
  let t := ticketOf m
  if d.tok.adm.state != 0 then some .stateConflict
  else if !ticketShape kind lo hi m then some .stateConflict
  else if d.keyBad 1 then some .slotBad
  else if !d.ticketSigned m then some .authFail
  else if t.counter ≤ d.tok.tktCnt then some .counterStale
  else if !d.klmOk t.klm then some .stateConflict
  else none

/-- A ticket that fails a check; SLOT_BAD is of K01 (R331). -/
def Dev.ticketFail (tag : Nat) (st : Status) (d : Dev) : Dev := if st = .slotBad then d.slotFail tag 1 else d.fail tag st

/-- An accepted ticket advances TKTCNT, and a learn session is ERASING until it opens (R395). -/
def Dev.ticketTaken (tag : Nat) (a : Admission) (erase : Bool) (lift : List Nat) (d : Dev) : Dev :=
  let d := if erase then d.saveAdm (some tag) { a with state := 1 } else d
  let d := Dev.nvQueue (devWrites (some tag) [6]) { d with tok := { d.tok with tktCnt := a.counter } }
  d.finish tag ⟨.done, d.admWords a, .admitting a erase lift, none, []⟩

/-- LEARN_BEGIN (R395). -/
def learnBegin (tag : Nat) : Dev → Dev :=
  Dev.startCmd (isOp 0x45) tag fun c d =>
    if !c.zeroFrom 6 then d.hostError c
    else
      let m := c.bytes
      let a := d.tok.adm
      if a.state != 0 && a.kind == 1 && a.counter == (ticketOf m).counter && a.digest == sha256 m then
        d.finish tag ⟨.done, d.admWords a, .none, none, [tokenDraft 0xFF d.enrolLeft d.enrolLeft 0]⟩
      else
        match d.ticketCheck 2 0 32 m with
        | some st => d.ticketFail tag st
        | none =>
          if d.enrolLeft = 0 then d.fail tag .stateConflict
          else d.ticketTaken tag (admissionOf 1 m) true (if bit 0 (ticketOf m).flags then (ticketOf m).ids else [])

def execLearnBegin (tag : Nat) (s : State) : Host.Outcome State Fault Refusal := run (learnBegin tag) s

/-- TOKEN_ENROL (R396). -/
def tokenEnrol (tag : Nat) : Dev → Dev :=
  Dev.startCmd (isOp 0x43) tag fun c d =>
    if !c.zeroFrom 6 then d.hostError c
    else
      let m := c.bytes
      match d.ticketCheck 1 1 1 m with
      | some st => d.ticketFail tag st
      | none =>
        let t := ticketOf m
        let lift := bit 0 t.flags
        let id := t.ids.headD 0
        if (d.slotOfToken id).isSome || (d.tok.revlist.contains id && !lift) then d.fail tag .stateConflict
        else if d.enrolLeft = 0 then d.fail tag .limitReached
        else if (d.slotWhere (· != 1)).isNone then d.fail tag .slotExhausted
        else d.ticketTaken tag (admissionOf 2 m) false (if lift then t.ids else [])

def execTokenEnrol (tag : Nat) (s : State) : Host.Outcome State Fault Refusal := run (tokenEnrol tag) s

/-- Every ENROLLED and REVOKED slot rewritten EMPTY with its GEN kept, after what a revocation ends (R395). -/
def Dev.eraseTokens (tag op : Nat) (d : Dev) : Dev :=
  let ss := (List.range 32).filter (fun s => (d.slotRec s).state != 0)
  ss.foldl (fun d s =>
    Dev.putToken none s { TokenSlot.empty with gen := (d.slotRec s).gen } { d with uhf := { d.uhf with seqs := d.uhf.seqs.set s none } })
    (d.dropSlots tag op ss)

/-- The effect of a DONE LEARN_BEGIN or TOKEN_ENROL in its event (R395, R396): its TOKEN record goes first (R140). -/
def Dev.applyAdmit (tag op : Nat) (a : Admission) (erase : Bool) (lift : List Nat) (d : Dev) : Dev :=
  let d := d.log oHost tag op (tokenDraft 0xFF d.enrolLeft d.enrolLeft 0)
  let d := if erase then d.endToken.eraseTokens tag op else d
  let d := if lift.isEmpty then d else
    d.saveRevoked (d.tok.revlist.filter (fun i => !lift.contains i))
  d.saveAdm none { a with win := d.opened learnTicks }

/-- The admission closes in the present event with a cause of R401; what it admitted stays readable for a LEARN_ADD that runs
on (R397). -/
def Dev.closeAdm (origin tag op cause : Nat) (d : Dev) : Dev :=
  ((d.saveAdm none { d.tok.adm with state := 0, cause := cause }).log origin tag op (tokenDraft 0xFF d.enrolLeft d.enrolLeft cause)).raise 153

/-- LEARN_WINDOW_CLOSE (R402); its event takes an ESN where the admission is closed already (R575). -/
def learnWindowClose (d : Dev) : Dev :=
  d.closes 13 (if d.tok.adm.state = 2 then some d.tok.adm.win else none) (Dev.closeAdm oPower 0xFFFF 0xFF 1)

def execLearnWindowClose (s : State) : Host.Outcome State Fault Refusal := run learnWindowClose s

/-- The admission is open and its window not closed. -/
def Dev.admOpen (d : Dev) : Bool := d.tok.adm.state == 2 && !d.reached d.tok.adm.win

/-- LEARN_COMMIT (R400). -/
def learnCommit (tag : Nat) : Dev → Dev :=
  Dev.startCmd (isOp 0x47) tag fun c d =>
    if !c.zeroFrom 6 || (c.plen != 0 && c.plen != 8) then d.hostError c
    else if !d.admOpen then d.fail tag .stateConflict
    else
      let nibble (s : Nat) : Nat := let b := (c.bytes.getD (s / 2) 0).toNat; if s % 2 = 0 then b % 16 else b / 16
      let learnt := (bitsOf 32 d.tok.adm.learnt).filter (fun s => c.plen = 8 && d.enrolled s)
      let d := learnt.foldl (fun d s => d.putToken (some tag) s { d.slotRec s with prio := nibble s }) d
      let ws := leWords 2 d.tok.adm.learnt ++ [word d.enrolLeft, word ((List.range 32).filter d.enrolled).length, 0, 0, 0, 0]
      d.finish tag ⟨.done, ws, .closeAdmission 0, none, []⟩

def execLearnCommit (tag : Nat) (s : State) : Host.Outcome State Fault Refusal := run (learnCommit tag) s

/-! ### LEARN_ADD (R397–R399) -/

/-- The open admission admits an ID (R392). -/
def Dev.admits (d : Dev) (id : Nat) : Bool :=
  id != 0 && id != 0xFFFFFFFF && ((d.tok.adm.kind == 1 && d.tok.adm.n == 0) || d.tok.adm.ids.contains id)

/-- The slot LEARN_ADD reserves (R397). -/
def Dev.reserveSlot (d : Dev) : Option Nat :=
  match d.slotWhere (· == 0) with
  | some s => some s
  | none => if d.tok.adm.kind = 2 then d.slotWhere (· == 2) else none

/-- LEARN_ADD begins: orders 1–7 of R398, one use of the learn master (R379), and L1. -/
def learnAdd (tag : Nat) : Dev → Dev :=
  Dev.startCmd (isOp 0x46) tag fun c d =>
    if 256 ≤ c.w 8 || 2 < c.w 9 || !c.zeroFrom 10 then d.hostError c
    else
      let id := c.w2 6
      let klm := d.tok.adm.klm
      let lim := attrLimit (d.key klm).attr
      let want := d.maskOf (c.w 8)
      let mask := d.usable want
      if !d.admOpen then d.fail tag .stateConflict
      else if !d.admits id || d.tok.revlist.contains id || (d.slotOfToken id).isSome then d.fail tag .stateConflict
      else if d.keyBad klm then d.slotFail tag klm
      else if lim != 0 && lim ≤ d.usesOf klm then d.fail tag .limitReached
      else match d.reserveSlot with
        | none => d.fail tag .slotExhausted
        | some s =>
          if d.enrolLeft = 0 then d.fail tag .limitReached
          else if mask = 0 then d.fail tag (d.noAerial want)
          else
            let d := (d.useKey (some tag) klm).2
            let r := d.draw 8
            let x := { c.newRun 3 mask (d.bitTime (c.w 9)) s id with
              nb := r.1, klm := klm, prio := d.tok.adm.prio, ticket := d.tok.adm.counter }
            r.2.tokenBegin tag x 3 (idBytes id ++ x.nb)

def execLearnAdd (tag : Nat) (s : State) : Host.Outcome State Fault Refusal := run (learnAdd tag) s

/-- The new records of a command stand, whatever becomes of its page writes. -/
def Dev.keepNew (tag : Nat) (d : Dev) : Dev := { d with nv := { d.nv with undo := d.nv.undo.filter (fun u => u.owner != tag) } }

/-- L2 has verified: the enrolment is counted and the slot rewritten EMPTY with its next GEN; L3a waits for both writes (R393,
R397). -/
def Dev.learnCounted (tag : Nat) (x : TokenRun) (d : Dev) : Dev :=
  let gen := ((d.slotRec x.slot).gen + 1) % 65536
  let d := { d with tok := { d.tok with enrolCnt := d.tok.enrolCnt + 1 },
                    uhf := { d.uhf with seqs := d.uhf.seqs.set x.slot none } }
  let d := d.nvQueue (devWrites (some tag) [7])
  ((d.putToken (some tag) x.slot { TokenSlot.empty with gen := gen }).keepNew tag).setToken tag { x with stage := 7 }

/-- K of the enrolment a LEARN_ADD makes. -/
def Dev.newKey (d : Dev) (x : TokenRun) : Bytes := d.tokenKey x.token (d.slotRec x.slot).gen

/-- K masked by X for the token's own learn key (R397). -/
def Dev.maskedKey (d : Dev) (x : TokenRun) : Bytes :=
  xorBytes (d.newKey x) (hkdf (d.learnKey x.klm x.token) (x.nb ++ x.nt) (ascii "lk") 16)

/-- The writes of a LEARN_ADD have ended: L3a (R397). -/
def Dev.learnWritten (tag : Nat) (d : Dev) : Dev :=
  match d.tokenRun tag with
  | some x =>
    if x.kind = 3 && x.stage = 7 && !d.nv.queue.any (fun w => w.owner == some tag) then
      d.tokenSend tag { x with stage := 2 } 4 ((d.maskedKey x).take 8)
    else d
  | none => d

/-- C3 has been sent: the slot is written ENROLLED (R397), and the token joins the learnt mask; an ADD admission closes. -/
def Dev.learnDone (tag : Nat) (x : TokenRun) (d : Dev) : Dev :=
  let gen := (d.slotRec x.slot).gen
  let d := d.putToken (some tag) x.slot
    { TokenSlot.empty with state := 1, prio := x.prio, id := x.token, gen := gen, epoch := d.nv.bootEpoch, tb := d.now }
  let mine := d.tok.adm.counter == x.ticket
  let d := { d with uhf := { d.uhf with seqs := d.uhf.seqs.set x.slot none } }
  let d := d.saveAdm (some tag) { d.tok.adm with learnt := if mine then d.tok.adm.learnt ||| 2 ^ x.slot else d.tok.adm.learnt }
  let ws := leWords 2 x.token ++ [word x.slot, word gen, word d.enrolLeft, 0, 0, 0]
  let eff := if mine && d.tok.adm.kind = 2 && d.tok.adm.state = 2 then Effect.closeAdmission 2 else .none
  d.tokenEnd tag ⟨.done, ws, eff, none, [tokenDraft x.slot (d.enrolLeft + 1) d.enrolLeft 0]⟩

/-! ### What the rows of the air bring to an exchange -/

/-- An emission of a token command has ended: windows open for its reply, the next telegram begins, or it is done. -/
def Dev.tokenAired (tag : Nat) (x : TokenRun) (d : Dev) : Dev :=
  match x.kind, x.stage with
  | 0, 0 => (d.setToken tag { x with stage := 1 }).openWindows (some tag) d.now 16 [3] [0]
  | 0, _ => d.authDone tag x
  | 1, _ =>
    (d.setToken tag { x with stage := 1 }).openWindows (some tag) d.now 44 [5] (List.range (popcount 32 x.at_))
  | 2, 0 => d.memWrite tag { x with at_ := x.at_ + 1 }
  | 2, _ => (d.setToken tag { x with stage := 2 }).openWindows (some tag) d.now 12 [5] [0]
  | _, 0 => (d.setToken tag { x with stage := 1 }).openWindows (some tag) d.now 16 [3] [0]
  | _, 2 => d.tokenSend tag { x with stage := 3 } 4 ((d.maskedKey x).drop 8)
  | _, 3 =>
    let r := d.draw 8
    r.2.tokenSend tag { x with stage := 4, nb := r.1 } 3 (idBytes x.token ++ r.1)
  | _, 4 => (d.setToken tag { x with stage := 5 }).openWindows (some tag) d.now 16 [3] [0]
  | _, _ => d.learnDone tag x

/-- A window of the exchange has closed: with none left, the attempt is over. -/
def Dev.tokenMissed (tag : Nat) (x : TokenRun) (d : Dev) : Dev :=
  if d.uhf.windows.any (fun w => w.tag == some tag) then d
  else
    match x.kind with
    | 1 => d.readEnd tag x
    | 2 => d.writeEnd tag x none
    | _ => d.tokenFail tag .noResponse

/-- M2 of an exchange: MAC2 under K, or under KL for L2 (R380, R397). -/
def Dev.authFrame (tag : Nat) (x : TokenRun) (body : Bytes) (d : Dev) : Dev :=
  let d := d.closeWindows (some tag)
  let nt := body.take 8
  let k := if x.kind = 0 then d.slotKey x.slot else if x.stage = 1 then d.learnKey x.klm x.token else d.newKey x
  if authMac k x.nb nt x.token != body.drop 8 then d.tokenFail tag .authFail
  else if x.kind = 3 && x.stage = 1 then d.learnCounted tag { x with nt := nt }
  else
    let x := { x with nt := nt, stage := if x.kind = 0 then 2 else 6 }
    d.tokenSend tag x 4 (authMac k nt x.nb x.token)

/-- An accepted frame for the exchange; one of another token leaves the window open (R383). -/
def Dev.tokenFrame (tag : Nat) (x : TokenRun) (f : TokenFrame) (win : Listen) (d : Dev) : Dev :=
  if f.id != x.token then d
  else
    match x.kind with
    | 1 =>
      let d := { d with uhf := { d.uhf with windows := d.uhf.windows.filter (· != win) } }
      let d := d.readFrame tag x f.body
      match d.tokenRun tag with
      | some y => d.tokenMissed tag y
      | none => d
    | 2 => d.writeFrame tag x f.body
    | _ => d.authFrame tag x f.body

end Sys2Proof.Machine
end

