-- ==== Sys2Proof/Machine/Kwewin.lean ====
section
/-!
DEFINITION. The Kwewin node bus (chapter 18): frames, counters and epochs, the 10 ms cycle, pairing, grants, messages, uplinks,
scans, silence and trunk faults.
-/

namespace Sys2Proof.Machine

/-! ### Trunks (R433, R467, R468) -/

def Dev.trunkFaulted (d : Dev) (t : Nat) : Bool := if t = 0 then d.kw.faultA else d.kw.faultB
def Dev.trunkOk (d : Dev) (t : Nat) : Bool := bit t (d.kwn 0) && !d.trunkFaulted t
/-- The controller runs: PD18 on and its clocks not stopped, no reset, in RUN or DOZE. -/
def Dev.kwRuns (d : Dev) : Bool := d.domOn 18 && !d.domGated 18 && d.awake && !bit 10 d.host.fnBusy
def Dev.retries (d : Dev) : Nat := d.kwn 5

/-- `KWSTAT` (chapter 4). -/
def Dev.kwstat (d : Dev) : Word :=
  word (b2n d.kw.upA + 2 * b2n d.kw.upB + 4 * b2n d.kw.seenA + 8 * b2n d.kw.seenB + 16 * b2n d.kw.seenSilent +
    32 * b2n d.anyGrant + 64 * b2n (d.cmds.any (fun c => c.op == 0x70 && c.executing)) +
    256 * (d.kw.nodes.filter (fun c => c.2.state == 2)).length)

/-- Pages of a node record, copy B first (R473). -/
def nodePages (a : Nat) : List Nat := [(0x3FC0 + 8160 + 32 * (a - 1)) / 64, (0x3FC0 + 32 * (a - 1)) / 64]

/-- A node record written (R451). -/
def Dev.putNode (owner : Option Nat) (a : Nat) (n : Node) (d : Dev) : Dev :=
  (d.setNode a { n with seq := ((d.node a).seq + 1) % 65536 }).recordWrite owner ((nodePages a).take 1) ((nodePages a).drop 1)
    (.node a (d.node a))

/-- A node record erased, with its NODE record's fields (R138). -/
def Dev.eraseNode (owner : Option Nat) (a : Nat) (d : Dev) : Dev :=
  (d.setNode a Node.empty).recordWrite owner ((nodePages a).take 1) ((nodePages a).drop 1) (.node a (d.node a))

/-- A NODE record: node counter before and after. -/
def nodeDraft (a old new cause : Nat) : Draft := draft 0x31 0x09 a (old % 2 ^ 32) (new % 2 ^ 32) cause

/-! ### Frames (R436–R439) -/

/-- The `n` bits of a number, most significant first. -/
def natBits : Nat → Nat → List Bool
  | 0, _ => []
  | n + 1, v => v.testBit n :: natBits n v

/-- CRC-16 over bits (R439). -/
def crcBits (bs : List Bool) : Nat :=
  bs.foldl (fun c b => if c.testBit 15 != b then (2 * c % 65536) ^^^ 0x1021 else 2 * c % 65536) 0xFFFF

/-- The unstuffed bits from ADDR through CMAC (R436). -/
def nodeFrameBits (addr type ctr : Nat) (body mac : Bytes) : List Bool :=
  natBits 8 addr ++ natBits 4 type ++ natBits 6 body.length ++ natBits 24 ctr ++ (body ++ mac).flatMap (fun b => natBits 8 b.toNat)

/-- A frame as bytes: ADDR, TYPE and LEN in a byte each, CTR, PAYLOAD, CMAC, CRC. -/
def nodeFrame (addr type ctr : Nat) (body mac : Bytes) : Bytes :=
  [byte addr, byte type, byte body.length] ++ beBytes 3 ctr ++ body ++ mac ++ beBytes 2 (crcBits (nodeFrameBits addr type ctr body mac))

/-- The CMAC of a frame (R438). -/
def nodeMac (kn : Bytes) (dir addr type full : Nat) (body : Bytes) : Bytes :=
  (cmac kn ([byte dir, byte addr, byte type, byte body.length] ++ beBytes 6 full ++ body)).take 4

def kneOf (kn : Bytes) : Bytes := hkdf kn [] (ascii "kne") 16

/-- Encryption of a payload under KNE (R438). -/
def nodeCrypt (kn : Bytes) (dir addr full : Nat) (m : Bytes) : Bytes :=
  ctrCrypt (kneOf kn) ([byte dir, byte addr] ++ beBytes 6 full ++ List.replicate 8 0) m

/-- A master frame: destination, type, payload, the offset it is encrypted from, the largest reply it solicits, and the command
it serves. -/
structure KwFrame where
  addr : Nat
  type : Nat
  body : Bytes
  encFrom : Option Nat
  reply : Option Nat
  tag : Option Nat
deriving DecidableEq, Repr

/-- Worst-case length W(n) in bit times (R436). -/
def frameMaxBits (n : Nat) : Nat := (91 + 8 * n) + (90 + 8 * n) / 4 + 8

/-- Bit times a frame takes of the cycle, with the reply window it solicits (R444). -/
def KwFrame.cost (f : KwFrame) : Nat :=
  frameMaxBits f.body.length + (match f.reply with | some n => 10 + frameMaxBits n | none => 0)

/-- A node that has counters: the new epoch's, once acknowledged, or the one's before (R443). -/
def Node.usable (n : Node) : Bool := n.synced || n.prev.isSome

/-- The next master counter for a frame type, and the node with it stored (R441, R443). -/
def Node.nextCm (n : Node) (type : Nat) : Nat × Node :=
  match n.synced || type == 0, n.prev with
  | false, some p => (p.1 + 1, { n with prev := some (p.1 + 1, p.2) })
  | _, _ => (n.cm + 1, { n with cm := n.cm + 1 })

/-- A master frame is sent, and its reply window opens (R438–R441). -/
def Dev.nodeSend (trunk : Nat) (f : KwFrame) (d : Dev) : Dev :=
  let n := d.node f.addr
  let x := n.nextCm f.type
  let enc (full : Nat) : Bytes := match f.encFrom with
    | some o => f.body.take o ++ nodeCrypt n.kn 0x4D f.addr full (f.body.drop o)
    | none => f.body
  let bytes := if f.addr = 0 then nodeFrame 0 f.type 0 f.body (List.replicate 4 0)
    else nodeFrame f.addr f.type (x.1 % 2 ^ 24) (enc x.1) (nodeMac n.kn 0x4D f.addr f.type x.1 (enc x.1))
  let d := if f.addr = 0 then d else d.setNode f.addr x.2
  { d with kw := { d.kw with
      sent := d.kw.sent ++ [(trunk, bytes)],
      replies := if f.reply.isSome then d.kw.replies ++ [⟨trunk, f.addr, f.type, f.tag⟩] else d.kw.replies } }

/-! ### Epochs (R442, R443) -/

/-- The settings of KWN as the next cycle applies them (R468). -/
def Dev.kwSample (d : Dev) : Dev :=
  { d with kw := { d.kw with sets := (List.range 7).map (fun i => d.setting (0x090000 + i)) } }

/-- A Kwewin start: the trunks stand still until the epoch's increment is committed (R442). -/
def Dev.kwStart (d : Dev) : Dev :=
  let d := d.kwSample
  if d.domOn 18 then
    Dev.nvQueue (devWrites none [8]) { d with kw := { d.kw with
      started := false, replies := [], epoch := d.kw.epoch + 1,
      nodes := d.kw.nodes.map (fun c => (c.1, { c.2 with synced := false, prev := none, rollback := none })) } }
  else d

/-- A resync bump: the next epoch's increment (R442). -/
def Dev.kwBump (d : Dev) : Dev :=
  Dev.nvQueue (devWrites none [8]) { d with kw := { d.kw with epoch := d.kw.epoch + 1, bumpAt := some d.now } }

/-- The increment of KWEPOCH is committed: every node's counters are set to the epoch's (R442); after a bump the former ones go
on until the SYNC is acknowledged (R443). -/
def Dev.kwEpochWritten (d : Dev) : Dev :=
  let e := d.kw.epoch * 2 ^ 24
  let f (n : Node) : Node :=
    { n with cm := e, cn := e, synced := false, prev := if d.kw.started && n.synced then some (n.cm, n.cn) else n.prev }
  { d with kw := { d.kw with
      started := true, nodes := d.kw.nodes.map (fun c => (c.1, f c.2)),
      upA := if d.kw.started then d.kw.upA else d.trunkOk 0, upB := if d.kw.started then d.kw.upB else d.trunkOk 1 } }

/-- The key RAM, the replies and the running state go with the controller (R438): at POWER_OFF or hard loss of PD18, at PARK and
DEEP. -/
def Dev.kwStop (d : Dev) : Dev :=
  { d with kw := { d.kw with
      started := false, upA := false, upB := false, replies := [], sent := [],
      nodes := d.kw.nodes.map (fun c => (c.1, { c.2 with synced := false, prev := none, ending := none })) } }

/-! ### Commands in progress -/

/-- The node command in progress: its tag, opcode and run. -/
def Dev.nodeRun (d : Dev) : Option (Cmd × NodeRun) :=
  d.cmds.findSome? (fun c => match c.phase with
    | .running (.node x) => some (c, x)
    | _ => none)

def Dev.setRun (tag : Nat) (x : NodeRun) (d : Dev) : Dev := d.setPhase tag (.running (.node x))

/-- A run at its beginning. -/
def NodeRun.new (addr trunk : Nat) (n : List Nat) (bytes : Bytes) : NodeRun :=
  { stage := 0, addr := addr, trunk := trunk, tries := 0, n := n, bytes := bytes, found := [], ended := none }

/-- The node command's run where it has an opcode and an address. -/
def Dev.runFor (d : Dev) (op a : Nat) : Option (Cmd × NodeRun) :=
  match d.nodeRun with
  | some (c, x) => if c.op = op && x.addr = a then some (c, x) else none
  | none => none

/-- Nodes of a trunk that are not EMPTY. -/
def Dev.nodesOn (d : Dev) (t : Nat) : List (Nat × Node) := d.kw.nodes.filter (fun c => c.2.trunk == t && c.2.state != 0)

/-! ### NODE_PAIR (R449–R453) -/

/-- FID of a factory key. -/
def fidOf (pub : Bytes) : Bytes := (sha256 pub).take 8

/-- NODE_PAIR begins: orders 1–3 of R452, and the ephemeral key. -/
def nodePair (tag : Nat) : Dev → Dev :=
  Dev.startCmd (isOp 0x70) tag fun c d =>
    let a := c.w 6
    let type := c.w 7 % 8
    let t := b2n (bit 8 (c.w 7))
    if a = 0 || 255 < a || c.w 7 - type - 256 * t != 0 || !c.zeroFrom 9 || c.plen != 32 then d.hostError c
    else if (d.node a).state != 0 || !d.trunkOk t then d.fail tag .stateConflict
    else if 128 ≤ (d.nodesOn t).length then d.fail tag .limitReached
    else if (ecPoint c.bytes).isNone || 4 < type then d.fail tag .stateConflict
    else
      let r := d.drawScalar
      r.2.setRun tag (NodeRun.new a t [type, c.w 8] (r.1 ++ c.bytes))

def execNodePair (tag : Nat) (s : State) : Host.Outcome State Fault Refusal := run (nodePair tag) s

/-- P1 and P2 (R450). -/
def pairFrames (tag : Nat) (x : NodeRun) : List KwFrame :=
  let e := ecPub (x.bytes.take 32)
  let fid := fidOf (x.bytes.drop 32)
  [⟨0, 6, [1] ++ fid ++ [byte x.addr, byte (x.n.headD 0)] ++ e.take 32, none, none, some tag⟩,
   ⟨0, 6, [2] ++ fid ++ e.drop 32, none, some 34, some tag⟩]

/-- Q1 (R450, R452): with a good MAC_N, P3 is sent and the record written PENDING. -/
def Dev.pairAnswer (c : Cmd) (x : NodeRun) (body : Bytes) (d : Dev) : Dev :=
  let eph := x.bytes.take 32
  let fac := x.bytes.drop 32
  let fid := fidOf fac
  let type := x.n.headD 0
  let nn := slice 10 16 body
  if (body.getD 9 0).toNat != type then d.fail c.tag .stateConflict
  else
    let info := ascii "kwl" ++ d.cru.uid ++ [byte x.addr] ++ fid
    let kn := hkdf ((ecdh eph fac).getD []) nn info 16
    let e := ecPub eph
    if (cmac kn (ascii "NP" ++ e ++ fid ++ [byte x.addr])).take 8 != slice 26 8 body then d.fail c.tag .authFail
    else
      let macM := (cmac kn (ascii "MP" ++ nn ++ fid ++ [byte x.addr])).take 8
      let d := d.nodeSend x.trunk ⟨0, 6, [3] ++ fid ++ macM, none, none, some c.tag⟩
      let e0 := d.kw.epoch * 2 ^ 24
      let n : Node := { Node.empty with state := 1, type := type, trunk := x.trunk, dn := x.n.getD 1 0, kn := kn, fid := fid, cm := e0, cn := e0 }
      (d.putNode (some c.tag) x.addr n).setRun c.tag { x with stage := 1, tries := 0 }

/-- The SYNC of a pairing is acknowledged (R452): the record is ACTIVE. -/
def Dev.pairDone (c : Cmd) (x : NodeRun) (d : Dev) : Dev :=
  let n := d.node x.addr
  let d := d.putNode (some c.tag) x.addr { n with state := 2 }
  let ws := [word x.addr, word n.type, word n.trunk] ++ fit 4 0 (bytesToWords n.fid) ++ List.replicate 9 0
  d.finish c.tag ⟨.done, ws, .none, none, [nodeDraft x.addr 0 n.cn 0]⟩

/-- A rollback ends: the record is erased with a NODE record of cause ROLLBACK (R453). -/
def Dev.rollbackEnd (a : Nat) (d : Dev) : Dev :=
  let old := (d.node a).cn
  ((d.presentOn 4).eraseNode none a).note oPower (nodeDraft a old 0 1)

/-! ### NODE_UNPAIR, NODE_GRANT, NODE_REVOKE_GRANT, NODE_MSG (R454–R463) -/

/-- NODE_UNPAIR begins (R454): the node's grant ends first. -/
def nodeUnpair (tag : Nat) : Dev → Dev :=
  Dev.startCmd (isOp 0x71) tag fun c d =>
    let a := c.w 6
    if 255 < a || !c.zeroFrom 7 then d.hostError c
    else if (d.node a).state = 0 then d.fail tag .done
    else
      let d := if (d.node a).grant.isSome then (d.presentOn 4).endGrant oHost tag c.op 2 a else d
      d.setRun tag (NodeRun.new a (d.node a).trunk [] [])

def execNodeUnpair (tag : Nat) (s : State) : Host.Outcome State Fault Refusal := run (nodeUnpair tag) s

/-- UNPAIR is over: the record is erased in every case (R454). -/
def Dev.unpairEnd (st : Status) (c : Cmd) (x : NodeRun) (d : Dev) : Dev :=
  let old := (d.node x.addr).cn
  (d.eraseNode (some c.tag) x.addr).finish c.tag ⟨st, [], .none, none, [nodeDraft x.addr old 0 st.code]⟩

/-- Grants in force on a trunk. -/
def Dev.grantCount (d : Dev) (t : Nat) : Nat := ((d.nodesOn t).filter (fun c => c.2.grant.isSome)).length

/-- NODE_GRANT begins: orders 1–5 of R455. -/
def nodeGrant (tag : Nat) : Dev → Dev :=
  Dev.startCmd (isOp 0x72) tag fun c d =>
    let a := c.w 6
    let scope := c.w 7
    let bind := c.w 8
    let lapse := c.w 12
    if 255 < a || 7 < scope || (31 < bind && bind != 0xFF) || (255 < lapse && lapse != 0xFFFF) || !c.zeroFrom 13 then d.hostError c
    else
      let n := d.node a
      let expiry := near48 d.now (c.w3 9)
      let other := n.grant.any (fun g => g.binding != bind)
      if n.state != 2 || (n.type != 2 && n.type != 4) then d.fail tag .stateConflict
      else if scope = 0 || expiry ≤ d.now + 2496000 || d.now + d.kwn 1 * 124800000 < expiry then d.fail tag .stateConflict
      else if !d.trunkOk n.trunk || n.silent || !n.synced then d.fail tag .stateConflict
      else if (if bind = 0xFF then !d.energised else (d.rel.sessions.getD bind none).isNone) then d.fail tag .policyDeny
      else if other || (n.grant.isNone && 40 ≤ d.grantCount n.trunk) then d.fail tag .stateConflict
      else
        let g := if n.grant.isSome then n.gnum else (n.gnum + 1) % 65536
        let lapse := if lapse = 0xFFFF then d.kwn 2 else lapse
        d.setRun tag (NodeRun.new a n.trunk [scope, bind, expiry, lapse, g] [])

def execNodeGrant (tag : Nat) (s : State) : Host.Outcome State Fault Refusal := run (nodeGrant tag) s

/-- The grant a NODE_GRANT run asks for; its window opens at the completion. -/
def runGrant (x : NodeRun) : Grant :=
  { scope := x.n.getD 0 0, binding := x.n.getD 1 0, lapse := x.n.getD 3 0, win := ⟨0, x.n.getD 2 0, 0⟩ }

/-- The payload of a GRANT frame (R437). -/
def grantBody (isNew : Bool) (g : Grant) (num : Nat) : Bytes :=
  [byte (b2n isNew), byte g.scope, byte g.binding, byte g.lapse] ++ beBytes 2 num ++ beBytes 6 g.win.close

/-- The grant is acknowledged (R455). -/
def Dev.grantDone (c : Cmd) (x : NodeRun) (d : Dev) : Dev :=
  let g := x.n.getD 4 0
  d.finish c.tag ⟨.done, [word g, word x.addr, word (x.n.getD 1 0), word (x.n.getD 3 0)], .grant x.addr (runGrant x) g x.ended, none, []⟩

/-- The effect of a DONE NODE_GRANT in its event: the grant is in force from here, with its GRANT record (R455, R456). Where its session
has ended, or the relay it is bound to has locked, since the start, it ends behind that (R26). -/
def Dev.applyGrant (tag op a : Nat) (g : Grant) (num : Nat) (ended : Option Nat) (d : Dev) : Dev :=
  let g := { g with win := ⟨d.now, g.win.close, d.clock.unc⟩ }
  let d := (d.setNode a { d.node a with grant := some g, gnum := num, ending := none }).log oHost tag op
    (draft 0x30 0x09 a g.scope (g.win.close % 2 ^ 32) 0)
  match ended with
  | some cause => d.endGrant oHost tag op cause a
  | none => d

/-- No acknowledgement in the time of R27: NODE_SILENT, and the grant is recorded as ended with cause SILENT (R455). -/
def Dev.grantSilent (c : Cmd) (x : NodeRun) (d : Dev) : Dev :=
  let g := { runGrant x with win := ⟨d.now, (runGrant x).win.close, d.clock.unc⟩ }
  let d := d.setNode x.addr { d.node x.addr with grant := some g, gnum := x.n.getD 4 0 }
  ((d.presentOn 4).endGrant oHost c.tag c.op 4 x.addr).fail c.tag .nodeSilent

/-- The time of R27 for the acknowledgement of a GRANT has passed. -/
def Dev.grantLate (d : Dev) (c : Cmd) : Bool := c.bellTb + 2496000 < d.now

/-- A NODE_GRANT whose time has passed without an acknowledgement (R27). -/
def Dev.grantTime (d : Dev) : Dev :=
  match d.nodeRun with
  | some (c, x) => if c.op = 0x72 && d.grantLate c then d.grantSilent c x else d
  | none => d

/-- NODE_REVOKE_GRANT (R458): the grant ends at once; the command waits for the GRANT_END attempts. -/
def nodeRevokeGrant (tag : Nat) : Dev → Dev :=
  Dev.startCmd (isOp 0x73) tag fun c d =>
    let a := c.w 6
    if 255 < a || !c.zeroFrom 7 then d.hostError c
    else if (d.node a).grant.isNone then d.fail tag .done
    else ((d.presentOn 4).endGrant oHost tag c.op 2 a).setRun tag (NodeRun.new a (d.node a).trunk [] [])

def execNodeRevokeGrant (tag : Nat) (s : State) : Host.Outcome State Fault Refusal := run (nodeRevokeGrant tag) s

/-- NODE_MSG begins (R463). -/
def nodeMsg (tag : Nat) : Dev → Dev :=
  Dev.startCmd (isOp 0x74) tag fun c d =>
    let a := c.w 6
    if 255 < a || 1 < c.w 7 || 47 < c.w 8 || !c.zeroFrom 9 || c.plen != (c.w 8 + 1) / 2 then d.hostError c
    else
      let n := d.node a
      if n.state != 2 || !d.trunkOk n.trunk || !n.synced then d.fail tag .stateConflict
      else d.setRun tag (NodeRun.new a n.trunk [c.w 7] (c.bytes.take (c.w 8)))

def execNodeMsg (tag : Nat) (s : State) : Host.Outcome State Fault Refusal := run (nodeMsg tag) s

/-- MSG_UP completes NODE_MSG (R463). -/
def Dev.msgDone (c : Cmd) (body : Bytes) (d : Dev) : Dev :=
  let m := body.length - 1
  d.reply c.tag (word (m + 256 * (body.getD 0 0).toNat) :: bytesToWords (body.drop 1))

/-! ### NODE_SCAN (R465) -/

def isScan (mode : Nat) (c : Cmd) : Bool := c.op == 0x75 && c.w 6 % 4 == mode

/-- Parameters of NODE_SCAN but its mode are wrong. -/
def scanBad (c : Cmd) : Bool := c.w 6 % 256 / 4 != 0 || 512 ≤ c.w 6 || !c.zeroFrom 7

/-- The STATUS word of an address. -/
def Dev.scanWord (d : Dev) (a : Nat) : Word :=
  let n := d.node a
  word (n.state + 4 * n.type + 32 * n.trunk + 64 * b2n n.silent + 128 * b2n n.grant.isSome + 256 * b2n n.synced)

/-- NODE_SCAN mode STATUS. Mode 3 is reserved, and a host error. -/
def nodeScanStatus (tag : Nat) : Dev → Dev :=
  Dev.startCmd (fun c => isScan 0 c || isScan 3 c) tag fun c d =>
    if scanBad c || isScan 3 c then d.hostError c else d.reply tag ((List.range 255).map (fun i => d.scanWord (i + 1)))

def execNodeScanStatus (tag : Nat) (s : State) : Host.Outcome State Fault Refusal := run (nodeScanStatus tag) s

/-- NODE_SCAN mode DISCOVER begins. -/
def nodeScanDiscover (tag : Nat) : Dev → Dev :=
  Dev.startCmd (isScan 1) tag fun c d =>
    let t := b2n (bit 8 (c.w 6))
    if scanBad c then d.hostError c
    else if !d.trunkOk t then d.fail tag .stateConflict
    else d.setRun tag (NodeRun.new 0 t [0] [])

def execNodeScanDiscover (tag : Nat) (s : State) : Host.Outcome State Fault Refusal := run (nodeScanDiscover tag) s

/-- The 16 words of an uplink entry. -/
def UplinkEntry.words (u : UplinkEntry) : List Word :=
  [word (u.addr + 32768 * u.trunk), word u.code] ++ leWords 3 u.stamp ++ leWords 2 u.nodeTb ++ [word u.data.length] ++
  fit 6 0 (bytesToWords u.data) ++ leWords 2 u.esn

/-- NODE_SCAN mode UPLINKS. -/
def nodeScanUplinks (tag : Nat) : Dev → Dev :=
  Dev.startCmd (isScan 2) tag fun c d =>
    if scanBad c then d.hostError c
    else
      let out := d.kw.ring.take 32
      Dev.reply tag (out.flatMap UplinkEntry.words) { d with kw := { d.kw with ring := d.kw.ring.drop 32 } }

def execNodeScanUplinks (tag : Nat) (s : State) : Host.Outcome State Fault Refusal := run (nodeScanUplinks tag) s

/-! ### Replies and missing replies (R440, R441, R466) -/

/-- LEN suits TYPE in a node frame (R437). -/
def nodeLenOk (type n : Nat) : Bool :=
  match type with
  | 8 => n == 0
  | 9 => 5 ≤ n && n ≤ 16
  | 0xA => 1 ≤ n && n ≤ 48
  | 0xB => n == 11
  | 0xC => n == 10 || n == 34
  | 0xD => n ≤ 1
  | _ => false

/-- A reply of this type is expected to a master frame's type (R437). -/
def nodeExpects (sent type : Nat) : Bool :=
  match sent with
  | 3 => type == 8 || type == 9 || type == 0xB || type == 0xD || type == 0xA
  | 4 => type == 0xA
  | 6 => type == 0xC
  | _ => type == 8

/-- A missing reply: the node's silence (R466), and what waits for the reply. -/
def Dev.nodeMissed (r : Reply) (d : Dev) : Dev :=
  let n := d.node r.addr
  let d := if r.addr = 0 || n.state = 0 then d else
    let now := n.misses + 1
    let goes := d.kwn 3 ≤ now && !n.silent
    let d := d.setNode r.addr { n with misses := now, silent := n.silent || goes }
    if goes then Dev.alsoSignal 40 { d with kw := { d.kw with seenSilent := true } } else d
  let n := d.node r.addr
  match r.sent with
  | 0 =>
    match d.runFor 0x70 r.addr with
    | some (c, x) =>
      if d.retries < x.tries + 1 then
        (d.setNode r.addr { n with rollback := some (d.retries + 1) }).fail c.tag .nodeSilent
      else d.setRun c.tag { x with tries := x.tries + 1 }
    | none =>
      match n.rollback with
      | some k => if k ≤ 1 then d.rollbackEnd r.addr else d.setNode r.addr { n with rollback := some (k - 1) }
      | none => d
  | 1 =>
    match d.runFor 0x72 r.addr with
    | some (c, x) =>
      if d.retries < x.tries + 1 || d.grantLate c then d.grantSilent c x
      else d.setRun c.tag { x with tries := x.tries + 1 }
    | none => d
  | 2 =>
    match n.ending with
    | some (k, cause) =>
      if k ≤ 1 then
        let d := d.setNode r.addr { n with ending := none }
        match d.runFor 0x73 r.addr with
        | some (c, _) => d.fail c.tag .nodeSilent
        | none => d
      else d.setNode r.addr { n with ending := some (k - 1, cause) }
    | none => d
  | 4 =>
    match d.runFor 0x74 r.addr with
    | some (c, x) => if d.retries < x.tries + 1 then d.fail c.tag .nodeSilent else d.setRun c.tag { x with tries := x.tries + 1 }
    | none => d
  | 6 =>
    match d.nodeRun with
    | some (c, x) =>
      if c.op = 0x70 && x.stage = 0 then
        if d.retries < x.tries + 1 then d.fail c.tag .nodeSilent else d.setRun c.tag { x with tries := x.tries + 1 }
      else if c.op = 0x75 then
        if 8 ≤ x.stage then d.reply c.tag (x.found.flatMap (fun f => bytesToWords f.2 ++ [word f.1, 0])) else d
      else d
    | none => d
  | 7 =>
    match d.runFor 0x71 r.addr with
    | some (c, x) => if d.retries < x.tries + 1 then d.unpairEnd .nodeSilent c x else d.setRun c.tag { x with tries := x.tries + 1 }
    | none =>
      match n.rollback with
      | some k => if k ≤ 1 then d.rollbackEnd r.addr else d.setNode r.addr { n with rollback := some (k - 1) }
      | none => d
  | _ => d

/-- The first reply window of a trunk taken off the list. -/
def dropFirst (t : Nat) : List Reply → List Reply
  | [] => []
  | r :: rs => if r.trunk = t then rs else r :: dropFirst t rs

def Dev.closeReply (t : Nat) (d : Dev) : Dev := { d with kw := { d.kw with replies := dropFirst t d.kw.replies } }

/-- REPLY_WINDOW_CLOSE (R466): the reply window of a trunk closes without a valid reply. -/
def replyWindowClose (trunk : Nat) (d : Dev) : Dev :=
  match d.kw.replies.find? (fun r => r.trunk == trunk) with
  | some r => ((d.closeReply trunk).nodeMissed r).grantTime
  | none => d.grantTime

def execReplyWindowClose (trunk : Nat) (s : State) : Host.Outcome State Fault Refusal := run (replyWindowClose trunk) s

/-- The smallest full counter above `cn` with these low 24 bits, at most 2^16 ahead (R441). -/
def fullCounter (cn ctr : Nat) : Option Nat :=
  let step := (ctr + 2 ^ 24 - (cn + 1) % 2 ^ 24) % 2 ^ 24
  if step < 2 ^ 16 then some (cn + 1 + step) else none

/-- A frame that fails its CMAC or counter: REPLAY_REJECT (source 43), counted, and a missing reply (R441). -/
def Dev.nodeReject (r : Reply) (d : Dev) : Dev :=
  let d := d.closeReply r.trunk
  Dev.nodeMissed r (Dev.signal 43 { d with kw := { d.kw with rejects := d.kw.rejects + 1 } })

/-- A node frame of one type in the reply window of its trunk (R440, R441): `body` has the accepted reply's window, its full
counter and its payload. Every other frame is discarded; one that fails its CMAC or counter is a REPLAY_REJECT and a
missing reply. -/
def Dev.nodeFrameIn (type : Nat) (rx : NodeRx) (body : Reply → Nat → Bytes → Dev → Dev) (d : Dev) : Dev :=
  let b := rx.bytes
  let addr := (b.getD 0 0).toNat
  let n := (b.getD 2 0).toNat
  let ctr := beNat (slice 3 3 b)
  let pay := slice 6 n b
  let mac := slice (6 + n) 4 b
  match d.kw.replies.find? (fun r => r.trunk == rx.trunk) with
  | none => d
  | some r =>
    if !d.kwRuns || addr != r.addr || (b.getD 1 0).toNat != type || !nodeExpects r.sent type || !nodeLenOk type n ||
        b.length != 12 + n || beNat (b.drop (10 + n)) != crcBits (nodeFrameBits addr type ctr pay mac) then d
    else if addr = 0 then body r 0 pay (d.presentOn 4)
    else
      let node := d.node addr
      let old := !node.synced && r.sent != 0
      let cn := if old then ((node.prev.map Prod.snd).getD node.cn) else node.cn
      if type = 0xD && pay.getD 0 0 == 1 && ctr = 0 && mac == List.replicate 4 0 then
        body r 0 pay ((d.presentOn 4).closeReply rx.trunk)
      else
        match fullCounter cn ctr with
        | some full =>
          if nodeMac node.kn 0x4E addr type full pay == mac then
            let node := { node with misses := 0, silent := false }
            let node := if old then { node with prev := node.prev.map (fun p => (p.1, full)) } else { node with cn := full }
            body r full pay (((d.setNode addr node).presentOn 4).closeReply rx.trunk)
          else
            d.nodeReject r
        | none => d.nodeReject r

/-- The exchange whose STS material anchors may still be sent and acknowledge: one in progress whose POLL has not left (R258, R462). -/
def Dev.anchorRun (d : Dev) : Option RangeRun :=
  (d.cmds.findSome? (fun c => match c.phase with
    | .running (.range x) => some x
    | _ => none)).filter (fun x => x.x == d.uwb.anchorX && (x.stage ≤ 1 || (x.stage == 2 && d.now < x.base / 512)))

/-- ACK (R437, R443, R452–R458, R462). An anchor takes part whose ACK arrives before the POLL RMARKER; a grant whose time has passed is
not taken (R27). -/
def ackRow (rx : NodeRx) : Dev → Dev :=
  Dev.nodeFrameIn 8 rx fun r _ _ d =>
    let n := d.node r.addr
    match r.sent with
    | 0 =>
      let d := d.setNode r.addr { n with synced := true, prev := none, rollback := n.rollback.map (fun _ => d.retries + 1) }
      match d.runFor 0x70 r.addr with
      | some (c, x) => d.pairDone c x
      | none => d
    | 1 => match d.runFor 0x72 r.addr with | some (c, x) => if d.grantLate c then d.grantSilent c x else d.grantDone c x | none => d
    | 2 =>
      let d := d.setNode r.addr { n with ending := none }
      match d.runFor 0x73 r.addr with | some (c, _) => d.fail c.tag .done | none => d
    | 5 =>
      if d.anchorRun.isSome && d.uwb.anchorSend.contains r.addr then
        { d with uwb := { d.uwb with anchorSend := d.uwb.anchorSend.filter (· != r.addr), anchorNodes := d.uwb.anchorNodes ++ [r.addr] } }
      else d
    | 7 =>
      match d.runFor 0x71 r.addr with
      | some (c, x) => d.unpairEnd .done c x
      | none => if n.rollback.isSome then d.rollbackEnd r.addr else d
    | _ => d

def execAck (rx : NodeRx) (s : State) : Host.Outcome State Fault Refusal := run (ackRow rx) s

/-- PAIR_REPLY: Q1 of a pairing, or Q0 of a scan (R450, R452, R465). A FID is found once, with NODE_NEW (source 46). -/
def pairReply (rx : NodeRx) : Dev → Dev :=
  Dev.nodeFrameIn 0xC rx fun _ _ pay d =>
    match d.nodeRun with
    | some (c, x) =>
      if c.op = 0x70 && x.stage = 0 && pay.getD 0 0 == 0x81 && slice 1 8 pay == fidOf (x.bytes.drop 32) && pay.length = 34 then
        (d.closeReply rx.trunk).pairAnswer c x pay
      else if c.op = 0x75 && pay.getD 0 0 == 0x80 && pay.length = 10 then
        let fid := slice 1 8 pay
        if x.found.any (fun f => f.2 == fid) then d
        else (d.setRun c.tag { x with found := x.found ++ [((pay.getD 9 0).toNat, fid)] }).reach 46
      else d
    | none => d

def execPairReply (rx : NodeRx) (s : State) : Host.Outcome State Fault Refusal := run (pairReply rx) s

/-- MSG_UP (R463), decrypted under the ENC of its request. -/
def msgUp (rx : NodeRx) : Dev → Dev :=
  Dev.nodeFrameIn 0xA rx fun r full pay d =>
    match d.runFor 0x74 r.addr with
    | some (c, x) =>
      let data := pay.drop 1
      let data := if x.n.headD 0 = 1 then nodeCrypt (d.node r.addr).kn 0x4E r.addr full data else data
      d.msgDone c (pay.take 1 ++ data)
    | none => d

def execMsgUp (rx : NodeRx) (s : State) : Host.Outcome State Fault Refusal := run (msgUp rx) s

/-- UPLINK (R464): NODE_UPLINK or NODE_ALERT; UPLINK_OVERRUN where the ring is full. The frame's acceptance is the event of the source
(log 105). -/
def uplink (rx : NodeRx) : Dev → Dev :=
  Dev.nodeFrameIn 9 rx fun r _ pay d =>
    let code := (pay.getD 0 0).toNat
    if 64 ≤ d.kw.ring.length then d.reach 47
    else
      let u : UplinkEntry :=
        { addr := r.addr, trunk := rx.trunk, code := code, stamp := d.clock.evTb % 2 ^ 48, nodeTb := beNat (slice 1 4 pay),
          data := pay.drop 5, esn := d.clock.evEsn.toNat }
      Dev.reach (if bit 7 code then 42 else 41) { d with kw := { d.kw with ring := d.kw.ring ++ [u] } }

def execUplink (rx : NodeRx) (s : State) : Host.Outcome State Fault Refusal := run (uplink rx) s

/-- IDLE (R442, R464): NEED_SYNC asks for a resync bump, at most once per `KWN.RESYNC_MIN`. -/
def idleRow (rx : NodeRx) : Dev → Dev :=
  Dev.nodeFrameIn 0xD rx fun _ _ pay d =>
    if pay.getD 0 0 == 1 && d.kw.bumpAt.all (fun t => t + d.kwn 6 * 124800000 ≤ d.now) then d.kwBump else d

def execIdle (rx : NodeRx) (s : State) : Host.Outcome State Fault Refusal := run (idleRow rx) s

/-- ANCHOR_REPORT (R259, R462): source 45; of an anchor that takes part, with both scores, no flag, a DONE exchange and its window from
the POLL RMARKER open, the anchor record. -/
def anchorReport (rx : NodeRx) : Dev → Dev :=
  Dev.nodeFrameIn 0xB rx fun r _ pay d =>
    let u := d.uwb
    let min_ := u.anchorMin
    let dist : Int := (u.anchorDb : Int) + u.anchorTof + ((d.node r.addr).dn : Int) - (beNat (slice 4 4 pay) : Int)
    let ok := u.anchorDone && u.anchorNodes.contains r.addr && beNat (pay.take 2) == u.anchorX % 65536 &&
      min_ ≤ (pay.getD 2 0).toNat && min_ ≤ (pay.getD 3 0).toNat && pay.getD 10 0 == 0 && u.anchorWin.opens ≤ d.now && !d.reached u.anchorWin
    let d := Dev.reach 45 { d with uwb := { u with
      anchorPoll := u.anchorPoll.filter (· != r.addr), anchorNodes := u.anchorNodes.filter (· != r.addr) } }
    if ok then d.putEvidence ⟨.anchor r.addr dist (u.anchorX % 65536), u.anchorSlot, 0, Window.none⟩ else d

def execAnchorReport (rx : NodeRx) (s : State) : Host.Outcome State Fault Refusal := run (anchorReport rx) s

/-! ### The cycle (R444–R446) -/

/-- A SYNC whose SOF leaves at `t` (R437, R447). -/
def Dev.syncFrame (d : Dev) (ack : Bool) (t a : Nat) : KwFrame :=
  let tag := (d.runFor 0x70 a).map (fun p => p.1.tag)
  ⟨a, 0, beBytes 8 t ++ beBytes 3 d.kw.epoch ++ [byte (b2n ack)], none, if ack then some 0 else none, tag⟩

/-- Byte 2 of RANGE_ARM: channel, STS length, preamble code (R242). -/
def armByte (x : RangeRun) : Byte := byte (128 * b2n (x.chan = 9) + 32 * x.sts + (x.pcode - 9))

/-- The ANCHOR_KEY payload for the exchange in progress (R462); the STS material is its last 32 bytes. -/
def anchorKeyBody (x : RangeRun) (material : Bytes) : Bytes :=
  beBytes 2 x.x ++ [armByte x, byte (x.da / 25)] ++ beBytes 2 x.db ++ material

/-- The frames one command of its own asks for in the open part. -/
def Dev.commandFrames (d : Dev) (t : Nat) : List KwFrame × List KwFrame × List KwFrame × List KwFrame :=
  match d.nodeRun with
  | some (c, x) =>
    if x.trunk != t then ([], [], [], [])
    else if c.op = 0x72 then
      if d.grantLate c then ([], [], [], [])
      else ([⟨x.addr, 1, grantBody true (runGrant x) (x.n.getD 4 0), none, some 0, some c.tag⟩], [], [], [])
    else if c.op = 0x70 && x.stage = 0 then ([], pairFrames c.tag x, [], [])
    else if c.op = 0x71 then ([], [⟨x.addr, 7, [], none, some 0, some c.tag⟩], [], [])
    else if c.op = 0x74 then
      let enc := if x.n.headD 0 = 1 then some 1 else none
      ([], [], [⟨x.addr, 4, byte (x.n.headD 0) :: x.bytes, enc, some 48, some c.tag⟩], [])
    else if c.op = 0x75 && x.stage < 8 then
      ([], [⟨0, 6, [0, byte (x.n.headD 0), byte (x.stage % 4)], none, some 10, some c.tag⟩], [], [])
    else ([], [], [], [])
  | none => ([], [], [], [])

/-- The addresses a trunk's service POLLs go to in this cycle: a share of its usable nodes from the cursor on (R446). -/
def Dev.pollsDue (d : Dev) (t : Nat) : List Nat :=
  let all := ((d.nodesOn t).filter (fun c => c.2.usable && c.2.state == 2)).map Prod.fst
  let cur := d.kw.cursor.getD t 0
  let order := all.filter (fun a => cur < a) ++ all.filter (fun a => a ≤ cur)
  order.take (ceilDiv all.length (max 1 (d.kwn 4)))

/-- The frames of a trunk's cycle in the order of R446. `key a` is the payload of ANCHOR_KEY. -/
def Dev.cycleFrames (d : Dev) (t : Nat) (key : Bytes) : List KwFrame :=
  let on := d.nodesOn t
  let ready := on.filter (fun c => c.2.usable)
  let of_ (l : List Nat) : List Nat := l.filter (fun a => ready.any (fun c => c.1 == a))
  let own := d.commandFrames t
  let rb := (ready.filter (fun c => c.2.rollback.isSome && c.2.synced)).map (fun c => (⟨c.1, 7, [], none, some 0, none⟩ : KwFrame))
  (on.filter (fun c => !c.2.synced)).map (fun c => d.syncFrame true d.now c.1) ++
  (on.filter (fun c => c.2.synced && c.1 % 10 == d.kw.cycle % 10)).map (fun c => d.syncFrame false d.now c.1) ++
  ready.filterMap (fun c => c.2.grant.map (fun g => (⟨c.1, 1, grantBody false g c.2.gnum, none, none, none⟩ : KwFrame))) ++
  ready.filterMap (fun c => c.2.ending.map (fun e =>
    (⟨c.1, 2, beBytes 2 c.2.gnum ++ [byte e.2], none, some 0, (d.runFor 0x73 c.1).map (fun p => p.1.tag)⟩ : KwFrame))) ++
  (of_ (if d.anchorRun.isSome then d.uwb.anchorSend else [])).map (fun a => (⟨a, 5, key, some 6, some 0, none⟩ : KwFrame)) ++
  (of_ d.uwb.anchorPoll).map (fun a => (⟨a, 3, [], none, some 16, none⟩ : KwFrame)) ++
  own.1 ++ own.2.1 ++ rb ++ own.2.2.1 ++
  (d.pollsDue t).map (fun a => (⟨a, 3, [], none, some 16, none⟩ : KwFrame))

/-- Bit times of a cycle at the present depth, less the guard (R444): the largest T_b is (64,000 + 31·D)/128,000 of 500 nominal
periods. -/
def cycleBits (depth : Nat) : Nat := 1277952000 / (64000 + 31 * depth) - 16

/-- Frames are sent in order while they fit; the rest wait for the next cycle (R444). -/
def Dev.sendFrames (t : Nat) : Nat → List KwFrame → Dev → Dev
  | _, [], d => d
  | left, f :: fs, d => if f.cost ≤ left then Dev.sendFrames t (left - f.cost) fs (d.nodeSend t f) else d

/-- What a command waits for when its frame cannot be sent in a cycle, because its trunk is faulted or its node has no counters:
an attempt passes. -/
def Dev.unsent (d : Dev) : Dev :=
  match d.nodeRun with
  | some (c, x) =>
    let n := d.node x.addr
    let type := if c.op = 0x72 then 1 else if c.op = 0x73 then 2 else if c.op = 0x74 then 4 else if c.op = 0x71 then 7 else if x.stage = 0 then 6 else 0
    if !d.trunkOk x.trunk || (x.addr != 0 && type != 0 && type != 6 && !n.usable) then d.nodeMissed ⟨x.trunk, x.addr, type, some c.tag⟩ else d
  | none => d

/-- A DISCOVER cycle passes: R is drawn for each round (R465). -/
def Dev.scanDraw (d : Dev) : Dev :=
  match d.nodeRun with
  | some (c, x) =>
    if c.op = 0x75 && x.stage % 4 = 0 && x.stage < 8 then
      let r := d.draw 1
      r.2.setRun c.tag { x with n := [(r.1.getD 0 0).toNat] }
    else d
  | none => d

/-- A DISCOVER frame has had room in this cycle (R465). -/
def Dev.scanNext (d : Dev) : Dev :=
  match d.nodeRun with
  | some (c, x) =>
    if c.op = 0x75 && x.stage < 8 && d.kw.replies.any (fun r => r.tag == some c.tag) then d.setRun c.tag { x with stage := x.stage + 1 } else d
  | none => d

/-- A faulted trunk's test at a cycle start (R467): a cycle completed without a fault brings it up, with KWA_UP or KWB_UP. -/
def Dev.trunkTest (t : Nat) (d : Dev) : Dev :=
  if d.trunkFaulted t && bit t (d.kwn 0) then
    if d.kw.testing.getD t false then
      let kw := { d.kw with testing := d.kw.testing.set t false }
      if t = 0 then Dev.signal 38 { d with kw := { kw with faultA := false, upA := true } }
      else Dev.signal 39 { d with kw := { kw with faultB := false, upB := true } }
    else { d with kw := { d.kw with testing := d.kw.testing.set t true } }
  else d

/-- A trunk enabled or disabled by `KWN.TRUNKS` is up or down from this cycle on (R468). -/
def Dev.trunksUp (d : Dev) : Dev := { d with kw := { d.kw with upA := d.trunkOk 0, upB := d.trunkOk 1 } }

/-- PENDING records that no NODE_PAIR is at work on are rolled back (R453). -/
def Dev.findRollbacks (d : Dev) : Dev :=
  let f (a : Nat) (n : Node) : Node :=
    if n.state = 1 && n.rollback.isNone && (d.runFor 0x70 a).isNone then { n with rollback := some (d.retries + 1) } else n
  { d with kw := { d.kw with nodes := d.kw.nodes.map (fun c => (c.1, f c.1 c.2)) } }

/-- STS material of the current KS (R238). -/
def Dev.stsMaterial (d : Dev) : Bytes := hkdf d.ks [] (ascii "sts") 32

/-- The ANCHOR_KEY payload of the exchange in progress. -/
def Dev.anchorBody (d : Dev) : Bytes := (d.anchorRun.map (fun x => anchorKeyBody x d.stsMaterial)).getD []

/-- KWEWIN_CYCLE: the next 10 ms cycle begins (R444–R446). Windows left open in the cycle before count as missing. -/
def kwewinCycle (d : Dev) : Dev :=
  if !d.kwRuns then d
  else
    let k := d.now / 1248000 + 1
    let d := d.wait (k * 1248000)
    let left := d.kw.replies
    let d := left.foldl (fun d r => d.nodeMissed r) { d with kw := { d.kw with replies := [], cycle := k, sent := [] } }
    if !d.kw.started then d
    else
      let d := ((d.kwSample.trunksUp.trunkTest 0).trunkTest 1).grantTime.unsent.findRollbacks.scanDraw
      let d := if d.kw.nodes.any (fun c => (d.kw.epoch + 1) * 2 ^ 24 ≤ c.2.cm + 4096) && !d.nv.queue.any (fun w => w.page == 8) then d.kwBump else d
      let key := d.anchorBody
      let go (t : Nat) (d : Dev) : Dev :=
        if d.trunkOk t then
          let polls := d.pollsDue t
          let d := d.sendFrames t (cycleBits d.clock.depth) (d.cycleFrames t key)
          { d with kw := { d.kw with cursor := d.kw.cursor.set t (polls.getLastD (d.kw.cursor.getD t 0)) } }
        else d
      (go 1 (go 0 d)).scanNext

def execKwewinCycle (s : State) : Host.Outcome State Fault Refusal := run kwewinCycle s

/-- TRUNK_FAULT (R467). -/
def trunkFault (trunk : Nat) (d : Dev) : Dev :=
  let t := trunk % 2
  if !d.kwRuns then d
  else if d.trunkFaulted t then { d with kw := { d.kw with testing := d.kw.testing.set t false } }
  else
    let kw := { d.kw with replies := d.kw.replies.filter (fun r => r.trunk != t), testing := d.kw.testing.set t false }
    if t = 0 then Dev.signal 36 { d with kw := { kw with faultA := true, seenA := true, upA := false } }
    else Dev.signal 37 { d with kw := { kw with faultB := true, seenB := true, upB := false } }

def execTrunkFault (trunk : Nat) (s : State) : Host.Outcome State Fault Refusal := run (trunkFault trunk) s

/-- GRANT_EXPIRY (R456, R457): the window of a node's grant closes. -/
def grantExpiry (addr : Nat) (d : Dev) : Dev :=
  d.closes 4 ((d.node addr).grant.map Grant.win) (Dev.endGrant oPower 0xFFFF 0xFF 0 addr)

def execGrantExpiry (addr : Nat) (s : State) : Host.Outcome State Fault Refusal := run (grantExpiry addr) s

end Sys2Proof.Machine
end

