-- ==== Sys2Proof/Machine/Uwb.lean ====
section
/-!
DEFINITION. UWB ranging (chapter 11): RANGE_BOUND and its exchange, the STS and bound tests, angles, UWB_CONFIG, anchors' part in an
exchange, and the unit's faults. The exchange's telegram and RANGE_READY come with the rows of the air.
-/

namespace Sys2Proof.Machine

/-! ### Units (R8, R245) -/

/-- Ranging units of a number of µs, rounded down (R245). -/
def usRu (us : Nat) : Nat := us * 638976 / 10
/-- Ticks of a number of µs. -/
def usTicks (us : Nat) : Nat := us * 1248 / 10
/-- A timestamp: a clean time in RU, modulo 2^40 (R39, R237). -/
def stamp40 (ru : Nat) : Nat := ru % 2 ^ 40
/-- Interval of two timestamps modulo 2^40 (R237). -/
def ruSpan (a b : Nat) : Nat := (b + 2 ^ 40 - a % 2 ^ 40) % 2 ^ 40
/-- The clean time of a timestamp that lies less than 2^40 RU after that of the POLL RMARKER (R39). -/
def RangeRun.clean (x : RangeRun) (t : Nat) : Nat := x.base + ruSpan x.poll t

/-- Time advanced to the spread FABRIC edge at or before a timestamp (R39). -/
def Dev.toStamp (x : RangeRun) (t : Nat) (d : Dev) : Dev := { d with clock := d.clock.edgeAtRu d.wantDepth (x.clean t) }

/-! ### The STS (R238) -/

/-- The AES-128 STS key and the seed V0. -/
def Dev.stsKey (d : Dev) : Bytes := d.stsMaterial.take 16
def Dev.stsSeed (d : Dev) : Nat := beNat (d.stsMaterial.drop 16)

/-- The start value V of the STS generator for packet `j` of exchange `x`. -/
def Dev.stsStart (d : Dev) (x j : Nat) : Nat :=
  d.stsSeed / 2 ^ 32 * 2 ^ 32 + (d.stsSeed + (3 * x + j) * 1024) % 2 ^ 32

/-- A packet launched with its RMARKER at a clean time: by the spread edge at or before it, and a fine delay (R39, R245). -/
def Dev.launch (x : RangeRun) (j ru : Nat) (d : Dev) : Dev :=
  let e := (d.clock.edgeAtRu d.wantDepth ru).ru
  { d with uwb := { d.uwb with sent := some (j, d.stsStart x.x j, e, ru - e) } }

/-! ### The start of an exchange (R241–R243, R252) -/

def Dev.setRange (tag : Nat) (x : RangeRun) (d : Dev) : Dev := d.setPhase tag (.running (.range x))

/-- UWB_UNLOCK or UWB_RF_FAULT in force (R250 order 2). -/
def Dev.uwbBad (d : Dev) : Bool := d.uwb.unlocked || d.uwb.faulted

/-- An exchange under the settings in effect, which it keeps (R132). -/
def Dev.newRange (d : Dev) (s : TokenSession) (chan bound : Nat) : RangeRun :=
  let most := d.setting 0x040003
  { stage := 0, x := d.nextX, chan := if chan = 0 then d.setting 0x040000 else chan, sts := d.setting 0x040002,
    pcode := d.setting 0x040001, da := d.setting 0x040011, db := d.setting 0x040012,
    bound := if bound = 0 then most else min bound most, pollDly := d.setting 0x040010, pdoa := d.setting 0x040013,
    stsMin := d.setting 0x040004, fpTol := d.setting 0x040005, earlyWin := d.setting 0x040006, earlyMax := d.setting 0x040007,
    cfoMax := d.setting 0x040008, cal := d.uwb.cal, slot := s.slot, token := s.token, ks := s.ks, authEsn := s.authEsn,
    base := 0, accepted := 0, poll := 0, resp := 0, fin := 0, score := 0, fpDiff := 0, early := 0, cfo := 0, power := 0, az := 0x8000,
    el := 0x8000 }

/-- Anchors are told of the exchange (R258): every ACTIVE UWB_ANCHOR node is to be sent the material. -/
def Dev.anchorsFor (x : RangeRun) (d : Dev) : Dev :=
  let nodes := if d.setting 0x040014 = 1 then (d.kw.nodes.filter (fun c => c.2.state == 2 && c.2.type == 1)).map Prod.fst else []
  { d with uwb := { d.uwb with
      anchorSend := nodes, anchorNodes := [], anchorPoll := [], anchorX := x.x, anchorSlot := x.slot, anchorDone := false,
      anchorWin := Window.none, anchorMin := x.stsMin } }

/-- RANGE_BOUND begins: orders 1–3 of R250, and RANGE_ARM (R242). -/
def rangeBound (tag : Nat) : Dev → Dev :=
  Dev.startCmd (isOp 0x20) tag fun c d =>
    if 256 ≤ c.w 6 || (c.w 7 != 0 && c.w 7 != 5 && c.w 7 != 9) || !c.zeroFrom 9 then d.hostError c
    else
      match d.tok.session with
      | none => d.fail tag .stateConflict
      | some s =>
        let want := d.maskOf (c.w 6)
        let mask := d.usable want
        if 65535 < d.nextX then d.fail tag .stateConflict
        else if d.uwbBad then d.fail tag .hwFault
        else if mask = 0 then d.fail tag (d.noAerial want)
        else
          let x := d.newRange s (c.w 7) (c.w 8)
          let d := (d.anchorsFor x).takeLf
          let d := { d with lf := { d.lf with standbyDue := mask } }
          let data := beBytes 2 x.x ++ [armByte x, byte (x.da / 25)]
          (d.send (.command tag) mask (d.bitTime 0) 6 data).setRange tag x

def execRangeBound (tag : Nat) (s : State) : Host.Outcome State Fault Refusal := run (rangeBound tag) s

/-- RANGE_ARM has been sent: RANGE_READY is awaited in slot 0 (R241). -/
def Dev.rangeAired (tag : Nat) (x : RangeRun) (d : Dev) : Dev :=
  (d.setRange tag { x with stage := 1 }).openWindows (some tag) d.now 4 [6] [0]

/-- The exchange with POLL scheduled `UWB.POLL_DLY` after the present stamp (R241). -/
def Dev.withPoll (d : Dev) (x : RangeRun) : RangeRun :=
  let p := d.clock.ru + usRu x.pollDly
  { x with stage := 2, accepted := d.now, base := p, poll := stamp40 p }

/-- POLL is scheduled: x counts it once it has left (R240, R241). -/
def Dev.sendPoll (tag : Nat) (x : RangeRun) (d : Dev) : Dev :=
  Dev.launch x 0 x.base { d with uwb := { d.uwb with poll := some (tag, x.base / 512, false), asel := false } }

/-- The window of anchors' reports on an exchange, from its POLL RMARKER (R259). -/
def Dev.anchorsOpen (x : RangeRun) (d : Dev) : Dev :=
  { d with uwb := { d.uwb with anchorWin := ⟨x.base / 512, x.base / 512 + 2496000, d.clock.unc⟩ } }

/-- A command's deadline has closed by a tick: it sends no packet from there on (R252). -/
def Dev.closedBy (d : Dev) (tag t : Nat) : Bool := ((d.cmd tag).bind Cmd.window).any (fun w => d.closeAt w ≤ t)

/-- RANGE_READY is accepted (R243): POLL, unless the deadline closes before it, or a refusal. -/
def Dev.rangeFrame (tag : Nat) (x : RangeRun) (f : TokenFrame) (d : Dev) : Dev :=
  let d := d.closeWindows (some tag)
  if beNat (f.body.take 2) != x.x || f.body.getD 3 0 != 0 then d.fail tag .stateConflict
  else
    let y := d.withPoll x
    if d.closedBy tag (y.base / 512) then d.setRange tag { x with stage := 4 } else ((d.sendPoll tag y).anchorsOpen y).setRange tag y

/-! ### Packets (R244, R248–R251) -/

/-- A timestamp corrected for the antenna delay of the channel's first port (R245). -/
def RangeRun.corrected (x : RangeRun) (t : Nat) : Nat :=
  ruSpan (x.cal.getD (if x.chan = 5 then 0 else 2) 0).toNat t

/-- The first tick after the window that follows a timestamp (R244). -/
def RangeRun.windowEnd (x : RangeRun) (since : Nat) : Nat := x.clean since / 512 + usTicks x.da + 625

/-- An RMARKER lies in the window after another one (R244). -/
def inRangeWindow (x : RangeRun) (since t : Nat) : Bool :=
  x.clean since / 512 + usTicks x.da - 312 ≤ x.clean t / 512 && x.clean t / 512 < x.windowEnd since

/-- The score of a packet (R248). -/
def rxScore (rx : UwbRx) : Nat := min 255 (256 * rx.asts / rx.apre)

/-- π in units of 2^-64. -/
def piQ : Nat := 57952155664616982739

/-- The sine's Taylor terms for an angle `r` and its square `r2`, in units of 2^-64, from term `t` of order `n` on, with `k` to go. -/
def sineTerms (r2 : Nat) : Nat → Nat → Nat → Int
  | 0, _, _ => 0
  | k + 1, n, t => (t : Int) - sineTerms r2 k (n + 2) (t * r2 / 2 ^ 64 / ((n + 1) * (n + 2)))

/-- The sine of `v`/256 degrees, 0 to 90, in units of 2^-64. -/
def sineQ (v : Nat) : Int :=
  let r := v * piQ / 46080
  sineTerms (r * r / 2 ^ 64) 16 1 r

/-- The greatest `v` in [lo, lo + 2^k) whose sine is at most `num`/`den`, to the resolution of the sine. -/
def arcSearch (num den : Nat) : Nat → Nat → Nat
  | 0, lo => lo
  | k + 1, lo =>
    let m := lo + 2 ^ k
    if m ≤ 23040 && sineQ m * den ≤ (num : Int) * 2 ^ 64 + den * 2 ^ 12 then arcSearch num den k m else arcSearch num den k lo

/-- asin(num/den) in degrees as a signed Q8.8 value (R251). The rounding is open where the ratio is not that value's sine (log 106). -/
def arcsine (num : Int) (den : Nat) : Word :=
  let v := arcSearch num.natAbs den 15 0
  let exact := (num.natAbs : Int) * 2 ^ 64 ≤ sineQ v * den + den * 2 ^ 12
  let v := if !exact && Config.angleUp num den then v + 1 else v
  BitVec.ofInt 16 (if num < 0 then -(v : Int) else v)

/-- An angle (R251): asin(λ(Δφ − φ_ofs)/(2πd)), or 0x8000. `i` is 0 for azimuth, 1 for elevation. -/
def RangeRun.angle (x : RangeRun) (i : Nat) (phase : Int) : Word :=
  let lambda : Nat := if x.chan = 5 then 4620 else 3750
  let ofs := (x.cal.getD (4 + 2 * i + (if x.chan = 5 then 0 else 1)) 0).toInt
  let spacing := (x.cal.getD (8 + i) 0).toNat
  let num : Int := (lambda : Int) * (phase - ofs)
  let den := 65536 * spacing
  if spacing = 0 || lambda < 2 * spacing || den < num.natAbs then 0x8000 else arcsine num den

/-- The greatest energy, in percent of the first path, within `UWB.EARLY_WIN` before the STS first path (R249). -/
def RangeRun.earlyPeak (x : RangeRun) (rx : UwbRx) : Nat :=
  (rx.early.filter (fun e => 0 < e.1 && e.1 ≤ x.earlyWin)).foldl (fun m e => max m e.2) 0

/-- RESPONSE is received (R244): FINAL is scheduled Db later. -/
def takeResponse (rx : UwbRx) (x : RangeRun) : Option RangeRun :=
  let t := x.corrected rx.rmarker
  if rx.apre != 0 && inRangeWindow x x.poll t then
    some { x with stage := 3, resp := t, fin := stamp40 (t + usRu x.db), score := rxScore rx, fpDiff := rx.fpDiff, early := x.earlyPeak rx,
                  cfo := rx.cfo, power := rx.power, az := if x.pdoa = 0 then 0x8000 else x.angle 0 rx.phase }
  else none

/-- FINAL launched, and UWB_ASEL as REPORT is to be received with it (R241, R251). -/
def Dev.sendFinal (x : RangeRun) (d : Dev) : Dev :=
  let d := d.launch x 2 (x.clean x.fin)
  { d with uwb := { d.uwb with x := d.nextX, poll := d.uwb.poll.map (fun p => (p.1, p.2.1, true)), asel := x.pdoa == 2 } }

/-- The 16-bit FCS of IEEE 802.15.4 (R246). -/
def fcs16 (bs : Bytes) : Nat := bs.foldl (fun c b => crcLow 0x8408 8 (c ^^^ b.toNat)) 0

/-- The plaintext of a valid REPORT in its window (R239, R246). -/
def Dev.openReport (rx : UwbRx) (x : RangeRun) (d : Dev) : Option Bytes :=
  let p := rx.psdu
  let id := idBytes x.token
  let xs := beBytes 2 x.x
  if rx.apre != 0 && inRangeWindow x x.fin (x.corrected rx.rmarker) && p.length == 34 && fcs16 (p.take 32) == leNat (p.drop 32) &&
      p.getD 0 0 == 0xB5 && p.getD 1 0 == 1 && slice 2 4 p == id && slice 6 2 p == xs &&
      (cmac (hkdf d.ks [] (ascii "rpm") 16) (p.take 24)).take 8 == slice 24 8 p then
    some (ctrCrypt (hkdf d.ks [] (ascii "rpe") 16) ([0x52, 0x50] ++ id ++ xs ++ List.replicate 8 0) (slice 8 16 p))
  else none

/-- Time of flight (R247): rounded up, a signed 32-bit result. -/
def tofOf (ra rb da db : Nat) : Int :=
  let num : Int := (ra : Int) * rb - (da : Int) * db
  (BitVec.ofInt 32 (-((-num) / ((ra + rb + da + db : Nat) : Int)))).toInt

/-- Fields of a REPORT's plaintext (R246). -/
def repDa (m : Bytes) : Nat := beNat (m.take 4)
def repRb (m : Bytes) : Nat := beNat (slice 4 4 m)
def repCfo (m : Bytes) : Int := signed 16 (beNat (slice 10 2 m))
def repFlags (m : Bytes) : Nat := (m.getD 12 0).toNat
/-- The exchange score (R248). -/
def exchangeScore (x : RangeRun) (m : Bytes) : Nat := min x.score (min (m.getD 8 0).toNat (m.getD 9 0).toNat)

/-- Ra, and ToF of an exchange. -/
def RangeRun.ra (x : RangeRun) : Nat := ruSpan x.poll x.resp
def RangeRun.tof (x : RangeRun) (m : Bytes) : Int := tofOf x.ra (repRb m) (repDa m) (usRu x.db)

/-- A carrier offset beyond ±`UWB.CFO_MAX` ppm, in 0.01 ppm. -/
def RangeRun.cfoBad (x : RangeRun) (v : Int) : Bool := (x.cfoMax * 100 : Nat) < v.natAbs

/-- Cause of R250 of a finished exchange: 0 DONE, 1–7 STS_REJECT, 8 BOUND_EXCEEDED. -/
def RangeRun.cause (x : RangeRun) (m : Bytes) : Nat :=
  let tof := x.tof m
  let off := (repDa m : Int) - (usRu x.da : Int)
  if exchangeScore x m < x.stsMin then 1
  else if x.fpTol ≤ x.fpDiff then 2
  else if x.earlyMax ≤ x.early then 3
  else if repFlags m % 4 != 0 then 4
  else if tof < -64 then 5
  else if x.cfoBad x.cfo || x.cfoBad (repCfo m) then 6
  else if 127795 ≤ off.natAbs then 7
  else if (x.bound : Int) ≤ tof then 8
  else 0

/-- The 24 result words (R252); word 22 takes the evidence index. -/
def rangeWords (x : RangeRun) (m : Bytes) (el : Word) : List Word :=
  let tof := (BitVec.ofInt 32 (x.tof m)).toNat
  leWords 2 x.token ++ [word x.slot, word x.x] ++ leWords 2 tof ++
  [word x.bound, word (exchangeScore x m), word (x.score + 256 * (m.getD 8 0).toNat),
   word ((m.getD 9 0).toNat + 256 * repFlags m), x.az, el, x.power, word (BitVec.ofInt 16 x.cfo).toNat] ++
  leWords 2 x.ra ++ leWords 2 (repDa m) ++ leWords 2 (repRb m) ++ leWords 2 (usRu x.db) ++ [0, word (x.chan + 16 * x.sts)]

/-- The evidence of a DONE exchange (R252). -/
def rangeEvidence (x : RangeRun) (m : Bytes) (el : Word) : Evidence :=
  ⟨.uwb x.authEsn (x.tof m) (exchangeScore x m) x.az el x.power x.x, x.slot, 0, Window.none⟩

/-- What a valid REPORT leaves: `UWB.LAST_TOF` and `UWB.LAST_CAUSE`; the exchange uses UWB_ASEL no more (R250, R251, R255). -/
def Dev.rangeNoted (x : RangeRun) (m : Bytes) (d : Dev) : Dev :=
  let cause := x.cause m
  { d with uwb := { d.uwb with
      lastTof := if 1 ≤ cause && cause ≤ 4 then d.uwb.lastTof else x.tof m, lastCause := cause, asel := false } }

/-- What anchors' reports are judged by, and the anchors to be polled (R259, R462). -/
def Dev.anchorsNoted (x : RangeRun) (m : Bytes) (d : Dev) : Dev :=
  { d with uwb := { d.uwb with anchorTof := x.tof m, anchorDb := usRu x.db, anchorPoll := d.uwb.anchorNodes } }

/-- A RANGE_BOUND completes DONE: its anchors' reports may become records (R259). -/
def Dev.rangeDone (x : Nat) (d : Dev) : Dev :=
  if d.uwb.anchorX = x then { d with uwb := { d.uwb with anchorDone := true } } else d

/-- Elevation from REPORT in mode 2 (R251). -/
def RangeRun.elevation (x : RangeRun) (rx : UwbRx) : Word := if x.pdoa = 2 then x.angle 1 rx.phase else 0x8000

/-- A valid REPORT ends the exchange (R250). -/
def Dev.rangeEnd (tag : Nat) (x : RangeRun) (rx : UwbRx) (m : Bytes) (d : Dev) : Dev :=
  let el := x.elevation rx
  let cause := x.cause m
  let d := (d.rangeNoted x m).anchorsNoted x m
  if cause = 0 then d.finish tag ⟨.done, rangeWords x m el, .evidence (rangeEvidence x m el), some 22, []⟩
  else d.fail tag (if cause = 8 then .boundExceeded else .stsReject)

/-- The exchange of a RANGE_BOUND in progress. -/
def Dev.rangeRun (d : Dev) : Option (Cmd × RangeRun) :=
  d.cmds.findSome? (fun c => match c.phase with
    | .running (.range x) => some (c, x)
    | _ => none)

/-- RESPONSE (R244): FINAL follows, unless the deadline closes before it (R252). -/
def response (rx : UwbRx) (d : Dev) : Dev :=
  match d.rangeRun with
  | some (c, x) =>
    if x.stage = 2 then
      match takeResponse rx x with
      | some y =>
        let d := d.toStamp x y.resp
        if d.closedBy c.tag (x.clean y.fin / 512) then d.setRange c.tag { y with stage := 4 } else (d.sendFinal y).setRange c.tag y
      | none => d
    else d
  | none => d

def execResponse (rx : UwbRx) (s : State) : Host.Outcome State Fault Refusal := run (response rx) s

/-- REPORT (R246): one that is not valid is discarded. -/
def report (rx : UwbRx) (d : Dev) : Dev :=
  match d.rangeRun with
  | some (c, x) =>
    if x.stage = 3 then
      match d.openReport rx x with
      | some m => (d.toStamp x (x.corrected rx.rmarker)).rangeEnd c.tag x rx m
      | none => d
    else d
  | none => d

def execReport (rx : UwbRx) (s : State) : Host.Outcome State Fault Refusal := run (report rx) s

/-- The receive window of the exchange in progress: the command, and the window's close (R244). -/
def Dev.uwbWindow (d : Dev) : Option (Cmd × Nat) :=
  match d.rangeRun with
  | some (c, x) => if x.stage = 2 then some (c, x.windowEnd x.poll) else if x.stage = 3 then some (c, x.windowEnd x.fin) else none
  | none => none

/-- UWB_WINDOW_CLOSE (R244, R250): the window awaited closes, and the command completes NO_RESPONSE. -/
def uwbWindowClose (d : Dev) : Dev :=
  match d.uwbWindow with
  | some (c, t) => ((d.wait t).endExchange c.tag).fail c.tag .noResponse
  | none => d

def execUwbWindowClose (s : State) : Host.Outcome State Fault Refusal := run uwbWindowClose s

/-! ### UWB_CONFIG and the unit's events (R254, R256) -/

/-- UWB_CONFIG (R254). -/
def uwbConfig (tag : Nat) : Dev → Dev :=
  Dev.startCmd (isOp 0x21) tag fun c d =>
    if !c.zeroFrom 6 || c.plen != 16 || (c.payload.drop 10).any (· != 0) then d.hostError c
    else
      let old := d.nv.uwbCal
      let d := { d with uwb := { d.uwb with cal := c.payload }, nv := { d.nv with uwbCal := c.payload } }
      (d.recordWrite (some tag) [80] [79] (.uwbCal old)).fail tag .done

def execUwbConfig (tag : Nat) (s : State) : Host.Outcome State Fault Refusal := run (uwbConfig tag) s

/-- A fault latched during a run ends it HW_FAULT (R250 order 2). -/
def Dev.rangeFault (d : Dev) : Dev :=
  match d.rangeRun with
  | some (c, _) => (d.dropWork c.tag).fail c.tag .hwFault
  | none => d

/-- The unit is powered in RUN. -/
def Dev.uwbOn (d : Dev) : Bool := d.awake && d.domOn 7 && d.domOn 8

/-- UWB_UNLOCK (R256): source 64. -/
def uwbUnlock (d : Dev) : Dev :=
  if d.uwbOn then (Dev.signal 64 { d with uwb := { d.uwb with unlocked := true } }).rangeFault else d

def execUwbUnlock (s : State) : Host.Outcome State Fault Refusal := run uwbUnlock s

/-- UWB_JAM (R256): a receive window ends with energy at the preamble detector and no SFD; source 65. -/
def uwbJam (d : Dev) : Dev :=
  match d.uwbWindow with
  | some (_, t) => if d.uwbOn then (d.wait t).signal 65 else d
  | none => d

def execUwbJam (s : State) : Host.Outcome State Fault Refusal := run uwbJam s

/-- UWB_RF_FAULT (R256): source 67. -/
def uwbRfFault (d : Dev) : Dev :=
  if d.uwbOn then (Dev.signal 67 { d with uwb := { d.uwb with faulted := true } }).rangeFault else d

def execUwbRfFault (s : State) : Host.Outcome State Fault Refusal := run uwbRfFault s

/-- The unit's temperature in 0.125 °C: R256 names no sensor; DESIGN CHOICE (log 107) telemetry sensor 0. -/
def Dev.uwbTemp (d : Dev) : Int := signed 16 (d.bg.items.getD 0 0).toNat

/-- UWB_RETUNE (R256): after a change of 10 °C the Temper atom retunes the unit, and ends with UWB_CAL_DONE, source 66. -/
def uwbRetune : Dev → Dev := Dev.atom 0x04 fun d =>
  if 80 ≤ (d.uwbTemp - d.uwb.tuneTemp).natAbs then Dev.signal 66 { d with uwb := { d.uwb with tuneTemp := d.uwbTemp } } else d

def execUwbRetune (s : State) : Host.Outcome State Fault Refusal := run uwbRetune s

end Sys2Proof.Machine
end

