-- ==== Sys2Proof/Machine/Air.lean ====
section
/-!
DEFINITION. The rows of the air: the end of an LF emission, the token frames received on UHF, the listen windows' closes, the
backup transponder (chapter 10), and STANDBY (R384). Each carries on the command, or the poll, it belongs to.
-/

namespace Sys2Proof.Machine

/-! ### STANDBY (R384) -/

/-- A STANDBY owed after a token exchange is sent, unless an LF command may start. -/
def Dev.standby (d : Dev) : Dev :=
  let mask := d.usable d.lf.standbyDue
  let due := d.lf.standbyDue != 0
  let d := { d with lf := { d.lf with standbyDue := 0 } }
  if due && mask != 0 && !d.emitting && d.occupants 0 = 0 && d.domOn 4 && d.awake && !bit 0 d.host.fnBusy &&
      !d.cmds.any (fun c => c.occupies.contains 0 && d.unblocked c) then
    d.send .standby mask (d.bitTime 0) 7 []
  else d

/-! ### The backup transponder (R231–R234) -/

def Dev.setTp (tag : Nat) (x : TpRun) (d : Dev) : Dev := d.setPhase tag (.running (.transponder x))

/-- TRANSPONDER_READ begins: orders 1 and 2 of R233, NB, and the charge phase. -/
def transponderRead (tag : Nat) : Dev → Dev :=
  Dev.startCmd (isOp 0x16) tag fun c d =>
    if 256 ≤ c.w 6 || 30 < c.w 7 || !c.zeroFrom 10 then d.hostError c
    else if !d.aerialEn 7 || !d.domOn 3 then d.fail tag .stateConflict
    else if d.aerialShut 7 then d.fail tag .hwFault
    else
      let r := d.draw 8
      let x : TpRun :=
        { stage := 0, icode := c.w 7,
          minDepth := if c.w 6 = 0 then 20 else c.w 6, expect := c.w2 8, nb := r.1, crcEnd := 0, slot := 0, token := 0, depth := 0, turn := 0 }
      (r.2.takeLf.emit (.command tag) 0x80 32 625 (List.replicate 8 x.icode)).setTp tag x

def execTransponderRead (tag : Nat) (s : State) : Host.Outcome State Fault Refusal := run (transponderRead tag) s

/-- A device frame of the exchange at the ICODE of its charge phase: the sync, then its bytes with their CRC-8; "off" is the field at 25 %
amplitude (R232). -/
def Dev.tpFrame (tag gap : Nat) (x : TpRun) (m : Bytes) (d : Dev) : Dev :=
  let d := d.emitOn (.command tag) 0x80 gap (88 * 32) (List.replicate 8 x.icode)
  { d with lf := { d.lf with air := 0x69 :: (m ++ [byte (crc 8 0x1D 0xFF m)]), airBurst := 0 } }

/-- KT of a token slot (R232). -/
def Dev.tpKey (d : Dev) (s : Nat) : Bytes := hkdf (d.slotKey s) [] (ascii "tp") 16

/-- An emission of TRANSPONDER_READ ends (R232, R233): the load test and TP_M1, the turnaround, or DONE. -/
def Dev.tpAired (tag : Nat) (x : TpRun) (load : Bool) (d : Dev) : Dev :=
  match x.stage with
  | 0 =>
    if load then ((d.signal 61).tpFrame tag 0 x (0x10 :: x.nb)).setTp tag { x with stage := 1 }
    else d.fail tag .noResponse
  | 1 => d.setTp tag { x with stage := 2, crcEnd := d.lf.airCarriers }
  | _ =>
    let ws := leWords 2 x.token ++ [word x.slot, word x.depth, word x.turn, 0, word (d.aerial 7).ipeak] ++ List.replicate 9 0
    d.finish tag ⟨.done, ws, .evidence ⟨.transponder x.depth x.turn, x.slot, 0, Window.none⟩, some 5, []⟩

/-- The transponder exchange in progress. -/
def Dev.tpRun (d : Dev) : Option (Cmd × TpRun) :=
  d.cmds.findSome? (fun c => match c.phase with
    | .running (.transponder x) => some (c, x)
    | _ => none)

/-- TP_M2, begun `turn` ticks after TP_M1's CRC (R232, R233): orders 4–7, then TP_M3. One outside [16, 20) T_c is not
received. -/
def tpM2 (turn depth : Nat) (bytes : Bytes) (d : Dev) : Dev :=
  match d.tpRun with
  | some (c, x) => Dev.sampled c.tag (fun d =>
    let tc := turn * d.lf.airFtw / 2 ^ 27
    if x.stage != 2 || tc < 16 || 20 ≤ tc then d
    else
      let d := d.wait (d.lf.airStamp (x.crcEnd + tc + 176 * 32))
      let m := bytes.take 20
      let id := beNat (m.take 4)
      if bytes.length != 21 || crc 8 0x1D 0xFF m != (bytes.getD 20 0).toNat then (d.dropWork c.tag).fail c.tag .noResponse
      else if depth < x.minDepth then (d.dropWork c.tag).fail c.tag .noResponse
      else
        match d.slotOfToken id with
        | none => d.fail c.tag .authFail
        | some s =>
          let k := d.tpKey s
          let nt := slice 4 8 m
          if x.expect != 0xFFFFFFFF && x.expect != id then d.fail c.tag .authFail
          else if authMac k x.nb nt id != slice 12 8 m then d.fail c.tag .authFail
          else
            let d := d.tpFrame c.tag (tc + 176 * 32 + 16) x (0x11 :: authMac k nt x.nb id)
            d.setTp c.tag { x with stage := 3, slot := s, token := id, depth := depth, turn := turn }) d
  | none => d

def execTpM2 (turn depth : Nat) (bytes : Bytes) (s : State) : Host.Outcome State Fault Refusal := run (tpM2 turn depth bytes) s

/-- TURNAROUND_WINDOW_CLOSE (R233 order 4). -/
def turnaroundWindowClose (d : Dev) : Dev :=
  match d.tpRun with
  | some (c, x) => if x.stage = 2 then (d.wait (d.lf.airStamp (x.crcEnd + 20))).fail c.tag .noResponse else d
  | none => d

def execTurnaroundWindowClose (s : State) : Host.Outcome State Fault Refusal := run turnaroundWindowClose s

/-! ### EMISSION_END (R188, R196, R226) -/

/-- A peak current that shows an open aerial: below 25 % of the target applied, in an emission of at least 32 T_c, and not while VLF_LIMIT
holds (R190). -/
def Dev.openAt (d : Dev) (n peak : Nat) : Bool :=
  32 ≤ d.lf.airLen && !d.evc.cond.getD 63 false && 4 * peak < icodePeak (d.lf.airIcodes.getD n 0)

/-- Peak currents of the aerials of a mask, as the emission measured them, and the OPEN faults they show (R190). -/
def Dev.notePeaks (mask : Nat) (peaks : List Nat) (d : Dev) : Dev :=
  (bitsOf 8 mask).foldl (fun d n =>
    if n < peaks.length then
      let p := peaks.getD n 0
      let d := d.putAerial n { d.aerial n with ipeak := p }
      if d.openAt n p then d.faultOn 0 n else d
    else d) d

/-- A command's emission ends: what comes next in its work. -/
def Dev.commandAired (c : Cmd) (peaks : List Nat) (load : Bool) (d : Dev) : Dev :=
  match c.phase with
  | .running .telegram => d.fail c.tag .done
  | .running (.locate 0 mask slot target _) =>
    (d.locatePhase (.command c.tag) mask slot).setPhase c.tag (.running (.locate 1 mask slot target []))
  | .running (.locate _ mask slot target _) =>
    let seen := (List.range 8).map (fun n => if bit n mask then peaks.getD n 0 else 0)
    (d.setPhase c.tag (.running (.locate 2 mask slot target seen))).openWindows (some c.tag) d.now 24 [2]
      (if target = 0xFFFFFFFF then [0, 1] else [0])
  | .running (.transponder x) => d.tpAired c.tag x load
  | .running (.range x) => d.rangeAired c.tag x
  | .running (.token x) => d.tokenAired c.tag x
  | _ => d

/-- EMISSION_END: the emission in progress ends at its stamp; `peaks` are the coil currents, `load` the load test of a charge
phase. A fault found at A7 ends a transponder read (R233 order 2); in PARK one that leaves a poll no aerial begins stage 7 (R207). A poll
opens its listen windows (R227). -/
def emissionEnd (peaks : List Nat) (load : Bool) (d : Dev) : Dev :=
  match d.lf.emission with
  | none => d
  | some (t, e, mask) =>
    let d := d.wait t
    let d := Dev.notePeaks mask peaks { d with lf := { d.lf with emission := none } }
    let d := d.coilLost.pollLost
    match e with
    | .poll => if d.pwr.dev == .deep then d else d.openWindows none d.now 0 [1] [0, 1]
    | .standby => d
    | .stopping => d
    | .command tag => match d.cmd tag with | some c => d.sampled tag (fun d => d.commandAired c peaks load) | none => d

/-! ### Token frames (R219, R223, R226) -/

/-- LF_WAKE_LOCATE has its report (R197); a slot 1 window left awaits nothing (R226). -/
def Dev.locateDone (c : Cmd) (mask slot : Nat) (peaks : List Nat) (f : TokenFrame) (d : Dev) : Dev :=
  let s := (d.slotOfToken f.id).getD 0
  let ws := leWords 2 f.id ++ [word (f.seq + 256 * f.flags), word mask] ++ bytesToWords f.body ++ fit 8 0 (peaks.map word) ++
    [0, word slot]
  (d.releaseWindows c.tag).finish c.tag ⟨.done, ws, .evidence ⟨.lf f.body mask, s, 0, Window.none⟩, some 24, []⟩

/-- The poll that listened has its reply: BELLOWS_REPLY in RUN, the wake trigger in PARK (R200, R227). The slot 1 window is not opened. -/
def Dev.pollAnswered (d : Dev) : Dev := ((d.alsoSignal 56).closeWindows none).pollDone

/-- The command that holds a frame's window awaits it (R197, R223 test 6): a report from the target where one is named, and in an exchange
with one token a frame from that token. -/
def Cmd.awaits (c : Cmd) (f : TokenFrame) : Bool :=
  match c.phase with
  | .running (.locate _ _ _ target _) => target = 0xFFFFFFFF || target = f.id
  | .running (.token x) => f.id == x.token
  | .running (.range x) => f.id == x.token
  | _ => false

/-- An accepted frame for the command that holds its window. -/
def Dev.commandFrame (c : Cmd) (f : TokenFrame) (win : Listen) (d : Dev) : Dev :=
  match c.phase with
  | .running (.locate _ mask slot _ peaks) => d.locateDone c mask slot peaks f
  | .running (.token x) => d.tokenFrame c.tag x f win
  | .running (.range x) => d.rangeFrame c.tag x f
  | _ => d

/-- A frame passed through R223: one that is awaited is accepted, an event on the UHF port, and serves its poll or command; any other
presents UHF_FRAME (source 68). -/
def Dev.judgeFrame (rx : UhfRx) (d : Dev) : Dev :=
  match d.receive rx with
  | (d, none) => d
  | (d, some h) =>
    match h.win with
    | none => d.signal 68
    | some win =>
      let taken (d : Dev) : Dev := (d.presentOn 7).frameAccepted rx h.paths h.slot h.f
      if !win.codes.contains h.f.code then d.signal 68
      else match win.tag with
        | none => (taken d).pollAnswered
        | some t =>
          match d.cmd t with
          | some c => if c.awaits h.f then (taken d).commandFrame c h.f win else d.signal 68
          | none => d.signal 68

/-- A frame received: in a command's window under the settings the command sampled (R132). -/
def Dev.airFrame (rx : UhfRx) (d : Dev) : Dev :=
  match ((d.windowOn rx 0).orElse (fun _ => d.windowOn rx 1)).bind Listen.tag with
  | some t => d.sampled t (Dev.judgeFrame rx)
  | none => d.judgeFrame rx

/-- A frame of one code (R219). -/
def Dev.airCode (code : Nat) (rx : UhfRx) (d : Dev) : Dev := if frameCode rx.bytes = code then d.airFrame rx else d

def execUhfFrame (rx : UhfRx) (s : State) : Host.Outcome State Fault Refusal := run (Dev.airFrame rx) s
/-- POLL_REPLY. -/
def execPollReply (rx : UhfRx) (s : State) : Host.Outcome State Fault Refusal := run (Dev.airCode 1 rx) s
/-- LOCATE_REPORT. -/
def execLocateReport (rx : UhfRx) (s : State) : Host.Outcome State Fault Refusal := run (Dev.airCode 2 rx) s
/-- AUTH_M2. -/
def execAuthM2 (rx : UhfRx) (s : State) : Host.Outcome State Fault Refusal := run (Dev.airCode 3 rx) s
/-- MEM_DATA. -/
def execMemData (rx : UhfRx) (s : State) : Host.Outcome State Fault Refusal := run (Dev.airCode 5 rx) s
/-- RANGE_READY. -/
def execRangeReady (rx : UhfRx) (s : State) : Host.Outcome State Fault Refusal := run (Dev.airCode 6 rx) s

/-- A command's window closes with no frame: NO_RESPONSE where none is left, or a token exchange's own next step. -/
def Dev.commandMissed (c : Cmd) (d : Dev) : Dev :=
  if d.uhf.windows.any (fun w => w.tag == some c.tag) then d
  else
    match c.phase with
    | .running (.locate _ _ _ _ _) => d.fail c.tag .noResponse
    | .running (.range _) => d.fail c.tag .noResponse
    | .running (.token x) => d.tokenMissed c.tag x
    | _ => d

/-- LISTEN_WINDOW_CLOSE (R226, R227): the window that closes first. -/
def listenWindowClose (d : Dev) : Dev :=
  match leastBy Listen.close 0 d.uhf.windows with
  | none => d
  | some (i, t) =>
    let tag := (d.uhf.windows.getD i ⟨none, 0, 0, 0, [], 0, 0⟩).tag
    let d := d.wait t
    let d := { d with uhf := { d.uhf with windows := d.uhf.windows.eraseIdx i } }
    match tag with
    | none => if d.uhf.windows.any (fun w => w.tag.isNone) then d else d.pollDone
    | some n => match d.cmd n with | some c => d.sampled n (fun d => d.commandMissed c) | none => d

def execListenWindowClose (s : State) : Host.Outcome State Fault Refusal := run listenWindowClose s

end Sys2Proof.Machine
end

