-- ==== Sys2Proof/Machine/Crucible.lean ====
section
/-!
DEFINITION. The Crucible's commands (chapter 14): KEY_GENERATE, KEY_DERIVE, the four actions of KEY_UPDATE, the two attestations,
and REMASK.
-/

namespace Sys2Proof.Machine

/-- Block protection covers KEYSLOT and UPDJ (R475). -/
def Dev.keysProtected (d : Dev) : Bool := 2 ≤ d.setting 0x0A0000

/-- Material of a fresh key of a TYPE (R332). -/
def Dev.freshKey (ty : Nat) (d : Dev) : Bytes × Dev := if ty = 3 then d.drawScalar else d.draw (materialLen ty)

/-- The reseed that KEY_GENERATE and a KIND 2 PREPARE wait for (R373); none while the source is FAILED. -/
def Dev.freshReseed (d : Dev) : Option Dev :=
  if d.anvil.failed then none
  else
    let b := d.freshBlock
    some (b.2.reseedWith b.1)

/-- The public key of a slot that has one (R326). -/
def KeySlot.pub (k : KeySlot) : Bytes :=
  if attrType k.attr = 3 then ecPub k.material else if attrType k.attr = 5 then k.material else []

/-- KEY_GENERATE (R332). -/
def keyGenerate (tag : Nat) : Dev → Dev :=
  Dev.startCmd (isOp 0x49) tag fun c d =>
    let t := c.w 6
    let a := c.w3 7 + 2 ^ 48 * c.w 10
    let ty := attrType a
    if 256 ≤ t || (64 ≤ t && t ≤ 253) || attrReserved a || !c.zeroFrom 11 || c.plen != 0 then d.hostError c
    else
      let slot := if t = 0xFE then d.lowestEmpty 6 48 else if t = 0xFF then d.lowestEmpty 48 64
        else if d.keyEmpty t then some t else none
      if t < 6 then d.fail tag .protected_
      else if ty = 0 || ty = 5 || !usesOk a then d.fail tag .stateConflict
      else match slot with
        | none => d.fail tag .slotExhausted
        | some n =>
          if n < 48 && d.keysProtected then d.fail tag .protected_
          else match d.freshReseed with
            | none => d.fail tag .entropyTimeout
            | some d =>
              let attr := attrOf (attrUse a) ty 0 false (expireFor n (attrExpire a)) (attrSecure a) (attrLocked a) 0 (attrLimit a)
              let m := d.freshKey ty
              m.2.childDone tag n attr m.1
                ([word n, 0] ++ leWords 4 attr ++ [0, 0] ++ bytesToWords (fit 64 0 (if ty = 3 then ecPub m.1 else [])))

def execKeyGenerate (tag : Nat) (s : State) : Host.Outcome State Fault Refusal := run (keyGenerate tag) s

/-- Attributes of a derived child, or none where R323 forbids them. -/
def childAttr (parent pa slot a : Nat) : Option Nat :=
  let ty := attrType a
  let use := attrUse a
  if !(ty = 1 || ty = 2 || ty = 4) || !usesOk a then none
  else if parent = 0 && use &&& 0x130 != 0 then none
  else if parent != 0 && use &&& attrUse pa != use then none
  else some (attrOf use ty 2 (attrExport a && attrExport pa) (expireFor slot (attrExpire a || attrExpire pa))
    (attrSecure a || attrSecure pa) (attrLocked a) parent (attrLimit a))

/-- Material of a derived child (R322). -/
def Dev.childKey (d : Dev) (parent attr : Nat) (label : Bytes) : Bytes :=
  let n := materialLen (attrType attr)
  if parent = 0 then d.branchKey "usr" (label ++ leBytes 8 attr) n
  else hkdf (d.key parent).material [] (ascii "drv" ++ label ++ leBytes 8 attr) n

/-- KEY_DERIVE (R322, R323, R333). -/
def keyDerive (tag : Nat) : Dev → Dev :=
  Dev.startCmd (isOp 0x4A) tag fun c d =>
    let p := c.w 6
    let t := c.w 7
    let a := c.w3 8 + 2 ^ 48 * c.w 11
    let n := c.w 12
    if 64 ≤ p || 64 ≤ t || attrReserved a || n = 0 || 128 < n || c.plen != (n + 1) / 2 || !c.zeroFrom 13 then d.hostError c
    else
      let pk := d.key p
      if d.keyBad p then d.slotFail tag p
      else if attrType pk.attr = 0 || !bit 6 (attrUse pk.attr) || (attrSecure pk.attr && p != 0) || t < 6 then
        d.fail tag .protected_
      else match childAttr p pk.attr t a with
        | none => d.fail tag .stateConflict
        | some attr =>
          if !d.keyEmpty t then d.fail tag .slotExhausted
          else if t < 48 && d.keysProtected then d.fail tag .protected_
          else match d.useKey (some tag) p with
            | (some st, d) => d.fail tag st
            | (none, d) => d.childDone tag t attr (d.childKey p attr (c.bytes.take n)) []

def execKeyDerive (tag : Nat) (s : State) : Host.Outcome State Fault Refusal := run (keyDerive tag) s

/-! ### KEY_UPDATE (R334–R341) -/

/-- A row of KEY_UPDATE, by its action. -/
def isUpdate (action : Nat) (c : Cmd) : Bool := c.op == 0x48 && c.w 6 % 4 == action

/-- A PREPARE has not completed. -/
def Dev.preparing (d : Dev) : Bool := d.cmds.any (fun c => isUpdate 1 c && c.executing)

/-- A PREPARE has completed DONE and its update is not over: `KSSTAT.UPD_OPEN` (R338, R339). -/
def Dev.updOpen (d : Dev) : Bool := d.cru.prepared.isSome && !d.preparing

/-- State of an update before its commit: 0 IDLE, 1 STAGING, 2 PREPARED (R341). -/
def Dev.updState (d : Dev) : Nat := if d.updOpen then 2 else if d.cru.staging || d.cru.prepared.isSome then 1 else 0

/-- The slots assigned to the entries, two to a word, 0xFF where none (R337). -/
def assignedWords (l : List Nat) : List Word :=
  (List.range 8).map (fun i => word (l.getD (2 * i) 0xFF + 256 * l.getD (2 * i + 1) 0xFF))

/-- The result of KEY_UPDATE (R337). -/
def Dev.updResult (d : Dev) (st : Nat) (p : Option Prepared) : List Word :=
  leWords 2 d.updCounter ++ [word st, word d.cru.stage.length, word ((p.map (fun x => x.shadows.length)).getD 0)] ++
  assignedWords ((p.map Prepared.assigned).getD []) ++ [0, 0, 0]

def Dev.clearStage (d : Dev) : Dev := { d with cru := { d.cru with stage := [], staging := false } }

/-- STAGE (R337). -/
def keyUpdateStage (tag : Nat) : Dev → Dev :=
  Dev.startCmd (isUpdate 0) tag fun c d =>
    if 4 ≤ c.w 6 || !c.zeroFrom 8 then d.hostError c
    else
      let base := if c.w 7 = 0 then [] else d.cru.stage
      if d.cru.prepared.isSome || c.w 7 != base.length || 1024 < base.length + c.plen then d.fail tag .stateConflict
      else
        let d := { d with cru := { d.cru with stage := base ++ c.payload, staging := true } }
        d.reply tag (d.updResult 1 none)

def execKeyUpdateStage (tag : Nat) (s : State) : Host.Outcome State Fault Refusal := run (keyUpdateStage tag) s

/-- Zero bytes of a string in [o, o + n). -/
def zeroAt (o n : Nat) (bs : Bytes) : Bool := (slice o n bs).all (· == 0)

/-- The header and the body of a message stand as R334 requires (R338 order 2). -/
def Dev.updateSound (d : Dev) (m : Bytes) : Bool :=
  let kind := (m.getD 6 0).toNat
  let n := (m.getD 7 0).toNat
  let blen := leNat (slice 108 4 m)
  leNat (m.take 4) = 0x314D554B && leNat (slice 4 2 m) = 1 && slice 8 16 m = d.cru.uid && zeroAt 28 4 m && zeroAt 112 16 m &&
  ((kind = 1 && 1 ≤ n && n ≤ 16 && blen = 96 * n) ||
   (kind = 2 && n = 0 && blen = 256 && zeroAt 32 76 m))

/-- The length in bytes a header implies (R334). -/
def updateLen (m : Bytes) : Nat :=
  128 + leNat (slice 108 4 m) + (if (m.getD 6 0).toNat = 2 then 0 else 16) + 64

/-- An entry's own fields are valid (R335). -/
def entryOk (e : Bytes) : Bool :=
  let slot := (e.getD 0 0).toNat
  let op := (e.getD 1 0).toNat
  let a := leNat (slice 8 8 e)
  let mat := slice 16 (materialLen (attrType a)) e
  zeroAt 2 6 e && zeroAt 80 16 e && (slot = 1 || slot = 3 || slot = 4 || (6 ≤ slot && slot < 48) || (slot = 0xFF && op = 1)) &&
  (if op = 1 then
     !attrReserved a && attrType a != 0 && field 21 20 a = 1 && usesOk a &&
     ((slot < 6 && attrType a = 5) || (6 ≤ slot && attrType a != 5)) &&
     (attrType a != 3 || (1 ≤ beNat mat && beNat mat < p256n)) && (attrType a != 5 || (ecPoint mat).isSome)
   else op = 2 && a = 0 && slot != 1)

/-- The entries of a body. -/
def entries : Nat → Bytes → List Bytes
  | 0, _ => []
  | n + 1, b => b.take 96 :: entries n (b.drop 96)

/-- No two entries name one slot. -/
def distinctSlots : List Nat → Bool
  | [] => true
  | s :: ss => (s = 0xFF || !ss.contains s) && distinctSlots ss

/-- The shadow of an entry in its slot: fixed slots are LOCKED and WORLD_SECURE (R325), K48–K63 are never named. -/
def entryShadow (slot : Nat) (e : Bytes) : Shadow :=
  let a := leNat (slice 8 8 e)
  if (e.getD 1 0).toNat = 2 then ⟨slot, 0, []⟩
  else ⟨slot, if slot < 6 then a ||| 0x3000000 else a, slice 16 (materialLen (attrType a)) e⟩

/-- The slots of entries in order, 0xFF taking the lowest empty slot of K06–K47 that is not taken; none where there is none
(R335, R338). -/
def Dev.assign (d : Dev) : List Nat → List Nat → Option (List Nat)
  | _, [] => some []
  | taken, s :: ss =>
    if s = 0xFF then
      match (List.range 48).find? (fun n => 6 ≤ n && d.keyEmpty n && !taken.contains n) with
      | none => none
      | some n => (d.assign (n :: taken) ss).map (n :: ·)
    else (d.assign taken ss).map (s :: ·)

/-- PREPARE ends with a failure: the staged message is discarded (R341). -/
def Dev.prepareFail (tag : Nat) (st : Status) (d : Dev) : Dev := d.clearStage.fail tag st

/-- The shadows are written, 4 pages to an entry (R338); AUTO commits at once (R337). -/
def Dev.prepared (tag : Nat) (auto : Bool) (p : Prepared) (d : Dev) : Dev :=
  let pages := (indexedFrom 0 p.shadows).flatMap (fun x => [736 + 2 * x.1, 737 + 2 * x.1, 704 + 2 * x.1, 705 + 2 * x.1])
  let d := d.clearStage
  let d := Dev.nvQueue (devWrites (some tag) (if auto then pages ++ p.pages else pages)) { d with cru := { d.cru with prepared := some p } }
  let rec_ := keyDraft (p.assigned.headD 0) d.updCounter d.updCounter
  if auto then
    let d := d.writeCommit p
    d.finish tag ⟨.done, d.updResult 0 (some p), .commit, none, [rec_]⟩
  else d.finish tag ⟨.done, d.updResult 2 (some p), .none, none, [rec_]⟩

/-- PREPARE of a KIND 1 message from its fifth test on (R336, R338). -/
def Dev.prepareUpdate (tag : Nat) (auto : Bool) (m : Bytes) (d : Dev) : Dev :=
  let n := (m.getD 7 0).toNat
  let counter := leNat (slice 24 4 m)
  let body := slice 128 (96 * n) m
  let gtag := slice (128 + 96 * n) 16 m
  if d.keyBad 1 then d.clearStage.slotFail tag 1
  else if !ecdsaVerify (d.key 1).material (sha256 (m.take (144 + 96 * n))) (slice (144 + 96 * n) 64 m) then
    d.prepareFail tag .authFail
  else if counter ≤ d.updCounter then d.prepareFail tag .counterStale
  else if d.keyBad 5 then d.clearStage.slotFail tag 5
  else match ecdh (d.key 5).material (slice 32 64 m) with
    | none => d.prepareFail tag .authFail
    | some z =>
      let kek := hkdf z d.cru.uid (ascii "kum" ++ slice 24 4 m) 32
      let iv := slice 96 12 m
      if gcmTag kek iv (m.take 128) body != gtag then d.prepareFail tag .authFail
      else
        let es := entries n (gcmCrypt kek iv body)
        let slots := es.map (fun e => (e.getD 0 0).toNat)
        if !es.all entryOk || !distinctSlots slots then d.prepareFail tag .imageInvalid
        else match d.assign slots slots with
          | none => d.prepareFail tag .slotExhausted
          | some ss =>
            if d.keysProtected then d.prepareFail tag .protected_
            else d.prepared tag auto ⟨1, counter, List.zipWith entryShadow ss es, ss, [], []⟩

/-- A provisioning body is valid (R342). -/
def provisionOk (b : Bytes) : Bool :=
  let opt (o : Nat) : Bool := (slice o 64 b).all (· == 0) || (ecPoint (slice o 64 b)).isSome
  (ecPoint (b.take 64)).isSome && opt 64 && opt 128 && leNat (slice 192 3 b) != 0 && zeroAt 195 1 b &&
  (b.getD 196 0).toNat < 16 && zeroAt 197 59 b

/-- PREPARE of a KIND 2 message from its fifth test on (R338, R342–R344). -/
def Dev.prepareProvision (tag : Nat) (auto : Bool) (m : Bytes) (d : Dev) : Dev :=
  let counter := leNat (slice 24 4 m)
  let b := slice 128 256 m
  let pub := b.take 64
  if !ecdsaVerify pub (sha256 (m.take 384)) (slice 384 64 m) || d.cru.pak.any (· != sha256 pub) then d.prepareFail tag .authFail
  else if counter ≤ d.updCounter then d.prepareFail tag .counterStale
  else if !provisionOk b then d.prepareFail tag .imageInvalid
  else match d.freshReseed with
    | none => d.prepareFail tag .entropyTimeout
    | some d =>
      let r := d.draw 32
      let k2 := r.2.drawScalar
      let k5 := k2.2.drawScalar
      let d := k5.2
      let anchor (n o : Nat) : Shadow :=
        if zeroAt o 64 b then ⟨n, 0, []⟩ else ⟨n, attrOf 0 5 1 false false true true 0 0, slice o 64 b⟩
      let shadows : List Shadow :=
        [⟨0, attrOf 0x40 4 2 false false true true 0 0, []⟩, anchor 1 0, ⟨2, attrOf 0x10 3 0 false false true true 0 0, k2.1⟩,
         anchor 3 64, anchor 4 128, ⟨5, attrOf 0x100 3 0 false false true true 0 0, k5.1⟩]
      let d := { d with cru := { d.cru with pak := some (d.cru.pak.getD (sha256 pub)) } }
      d.prepared tag auto ⟨2, counter, shadows, [], r.1, b⟩

/-- PREPARE (R338). -/
def keyUpdatePrepare (tag : Nat) : Dev → Dev :=
  Dev.startCmd (isUpdate 1) tag fun c d =>
    if 8 ≤ c.w 6 || c.w 7 != 0 || !c.zeroFrom 8 || c.plen != 0 then d.hostError c
    else
      let m := wordsToBytes d.cru.stage
      let kind := (m.getD 6 0).toNat
      let auto := bit 2 (c.w 6)
      if d.cru.prepared.isSome then d.fail tag .stateConflict
      else if m.length < 128 || m.length != updateLen m then d.prepareFail tag .stateConflict
      else if !d.updateSound m then d.prepareFail tag .imageInvalid
      else if kind = 1 && !d.cru.provisioned then d.prepareFail tag .notProvisioned
      else if kind = 2 && d.cru.provisioned && !d.cru.tampered then d.prepareFail tag .stateConflict
      else if kind = 1 then d.prepareUpdate tag auto m
      else d.prepareProvision tag auto m

def execKeyUpdatePrepare (tag : Nat) (s : State) : Host.Outcome State Fault Refusal := run (keyUpdatePrepare tag) s

/-- COMMIT (R339): the commit record is written, and the page writes of steps 2 and 3 asked for. -/
def keyUpdateCommit (tag : Nat) : Dev → Dev :=
  Dev.startCmd (isUpdate 2) tag fun c d =>
    if 4 ≤ c.w 6 || !c.zeroFrom 7 || c.plen != 0 then d.hostError c
    else match d.cru.prepared with
      | none => d.fail tag .stateConflict
      | some p =>
        let d := d.writeCommit p
        let d := d.nvQueue (devWrites (some tag) p.pages)
        d.finish tag ⟨.done, d.updResult 0 (some p), .commit, none, []⟩

def execKeyUpdateCommit (tag : Nat) (s : State) : Host.Outcome State Fault Refusal := run (keyUpdateCommit tag) s

/-- DISCARD (R337, R340). -/
def keyUpdateDiscard (tag : Nat) : Dev → Dev :=
  Dev.startCmd (isUpdate 3) tag fun c d =>
    if 4 ≤ c.w 6 || !c.zeroFrom 7 || c.plen != 0 then d.hostError c
    else
      let drafts := match d.cru.prepared with
        | some p => [keyDraft (p.assigned.headD 0) d.updCounter d.updCounter]
        | none => []
      let d := d.clearStage
      let d := { d with cru := { d.cru with prepared := none } }
      d.finish tag ⟨.done, d.updResult 0 none, .none, none, drafts⟩

def execKeyUpdateDiscard (tag : Nat) (s : State) : Host.Outcome State Fault Refusal := run (keyUpdateDiscard tag) s

/-! ### Attestation (R345) -/

def Dev.revid (d : Dev) : Nat := d.ident.minor % 16 + 16 * (d.ident.major % 16) + 256 * (d.ident.romrev % 256)
def Dev.capsA (d : Dev) : Nat :=
  b2n d.ident.grade0 + 2 * b2n d.ident.refsel + 4 * b2n d.ident.lfsrc + 8 * b2n d.ident.dbgFused

/-- Bytes 0–127 of a statement (R345). -/
def Dev.statementHead (d : Dev) (ty start : Nat) (challenge : Bytes) : Bytes :=
  leBytes 4 0x31545341 ++ leBytes 2 1 ++ leBytes 1 ty ++ leBytes 1 0 ++ d.cru.uid ++ leBytes 2 0x7256 ++ leBytes 2 d.revid ++
  leBytes 2 d.capsA ++ leBytes 2 0 ++ leBytes 4 d.nv.bootEpoch ++ leBytes 8 start ++ leBytes 4 d.updCounter ++
  leBytes 4 d.cru.wakeId ++
  leBytes 2 (b2n d.cru.provisioned + 2 * b2n d.cru.dbgSeen + 4 * b2n d.host.degraded + 8 * b2n d.cru.pak.isSome) ++
  leBytes 10 0 ++ fit 32 0 challenge ++ d.cru.pak.getD (List.replicate 32 0)

/-- A statement signed by K02 (R345). -/
def Dev.attest (tag : Nat) (body : Bytes) (d : Dev) : Dev :=
  let k := d.drawScalar
  if d.keyBad 2 then d.slotFail tag 2
  else k.2.reply tag (bytesToWords (body ++ ecdsaSign (d.key 2).material (sha256 body) k.1))

/-- ATTEST_IDENTITY (R345). -/
def attestIdentity (tag : Nat) : Dev → Dev :=
  Dev.startCmd (isOp 0x4B) tag fun c d =>
    if c.plen != 16 || !c.zeroFrom 6 then d.hostError c
    else if d.keyBad 5 then d.slotFail tag 5
    else d.attest tag (d.statementHead 1 c.startTb c.bytes ++ (d.key 2).pub ++ (d.key 5).pub)

def execAttestIdentity (tag : Nat) (s : State) : Host.Outcome State Fault Refusal := run (attestIdentity tag) s

/-- ATTEST_KEY (R345). -/
def attestKey (tag : Nat) : Dev → Dev :=
  Dev.startCmd (isOp 0x4C) tag fun c d =>
    let n := c.w 6
    if c.plen != 16 || 64 ≤ n || !c.zeroFrom 7 then d.hostError c
    else if d.keyBad n then d.slotFail tag n
    else if attrType (d.key n).attr = 0 then d.fail tag .stateConflict
    else
      let k := d.key n
      d.attest tag (d.statementHead 2 c.startTb c.bytes ++ leBytes 8 n ++ leBytes 8 k.attr ++ leBytes 4 (d.usesOf n) ++
        leBytes 4 k.keyset ++ leBytes 8 0 ++ fit 64 0 k.pub ++ leBytes 32 0)

def execAttestKey (tag : Nat) (s : State) : Host.Outcome State Fault Refusal := run (attestKey tag) s

/-! ### REMASK (R318) -/

/-- REMASK (R318): in RUN and DOZE both shares take one fresh mask; none once the Quench has been raised, and the draw waits for
the DRBG. -/
def remask (d : Dev) : Dev :=
  if d.awake && d.anvil.ready && !d.cru.tampered && d.domOn 10 then
    let d := d.wait (d.anvil.remaskAt + 1248000)
    let m := d.draw 32
    { m.2 with cru := { m.2.cru with shareA := xorBytes m.2.cru.shareA m.1, shareB := xorBytes m.2.cru.shareB m.1 },
               anvil := { m.2.anvil with remaskAt := m.2.now } }
  else d

def execRemask (s : State) : Host.Outcome State Fault Refusal := run remask s

end Sys2Proof.Machine
end

