-- ==== Sys2Proof/Machine/Anvil.lean ====
section
/-!
DEFINITION. The Anvil (chapter 15): the operations of CRYPTO_OP, RANDOM, and the entropy source's events.
-/

namespace Sys2Proof.Machine

/-! ### CRYPTO_OP parameters (R359, R361, R362) -/

def isCrypto (o : Nat) (c : Cmd) : Bool := c.op == 0x4D && c.w 6 % 256 == o

def Cmd.keyN (c : Cmd) : Nat := field 13 8 (c.w 6)
def Cmd.ctx (c : Cmd) : Nat := c.w 7 % 8
def Cmd.first (c : Cmd) : Bool := bit 3 (c.w 7)
def Cmd.last (c : Cmd) : Bool := bit 4 (c.w 7)
def Cmd.dlen (c : Cmd) : Nat := c.w 8
def Cmd.alen (c : Cmd) : Nat := c.w 9
def Cmd.tlen (c : Cmd) : Nat := c.w 10
def Cmd.target (c : Cmd) : Nat := c.w 11 % 64
def Cmd.ivgen (c : Cmd) : Bool := bit 8 (c.w 11)
def Cmd.hashed (c : Cmd) : Bool := bit 9 (c.w 11)
/-- Attributes in words 12–15. -/
def Cmd.attrs (c : Cmd) : Nat := c.w3 12 + 2 ^ 48 * c.w 15

/-- Which words and bits an operation uses (R359). -/
structure CryptoUse where
  multi : Bool := false
  alen : Bool := false
  tlen : Bool := false
  slot : Bool := false
  ivgen : Bool := false
  hashed : Bool := false
  len : Bool := false
  attrs : Bool := false

/-- A bit or word that the operation does not use is set (R359). -/
def Cmd.cryptoReserved (c : Cmd) (u : CryptoUse) : Bool :=
  0x4000 ≤ c.w 6 || 32 ≤ c.w 7 || (!u.multi && c.ctx != 0) || (!u.alen && c.alen != 0) || (!u.tlen && c.tlen != 0) ||
  (!u.slot && c.target != 0) || field 7 6 (c.w 11) != 0 || (!u.ivgen && c.ivgen) || (!u.hashed && c.hashed) ||
  1024 ≤ c.w 11 || (!u.attrs && (c.w3 13 != 0 || (!u.len && c.w 12 != 0)))

/-- The context of a part. -/
def Dev.context (d : Dev) (c : Cmd) : Option Context := d.anvil.contexts.getD c.ctx none
def Dev.setContext (c : Cmd) (x : Option Context) (d : Dev) : Dev :=
  { d with anvil := { d.anvil with contexts := d.anvil.contexts.set c.ctx x } }

/-- The key a context is bound to: none for SHA256, which ignores KEY (R359). -/
def Cmd.boundKey (c : Cmd) : Nat := if c.w 6 % 256 = 1 then 0 else c.keyN

/-- A context bound to a part's operation and key, with nothing in it. -/
def Cmd.newContext (c : Cmd) : Context := ⟨c.w 6 % 256, c.boundKey, [], [], [], 0⟩

/-- The context that a part works on: a new one at FIRST, else one bound to the same OP and KEY (R362). -/
def Dev.partContext (d : Dev) (c : Cmd) : Option Context :=
  if c.first then some c.newContext
  else match d.context c with
    | some x => if x.op = c.w 6 % 256 && x.key = c.boundKey then some x else none
    | none => none

/-- A part fails: a FIRST has abandoned the earlier operation, and a LAST leaves the context idle (R362). -/
def Dev.partFail (c : Cmd) (st : Status) (d : Dev) : Dev :=
  (if c.first || c.last then d.setContext c none else d).fail c.tag st

/-- A part is done: its context, and its result (R366). -/
def Dev.partDone (c : Cmd) (x : Context) (verdict : Nat) (out : Bytes) (d : Dev) : Dev :=
  (d.setContext c (if c.last then none else some x)).reply c.tag
    ([word out.length, word verdict] ++ bytesToWords out)

/-- A single-part operation's result (R366). -/
def Dev.cryptoDone (c : Cmd) (verdict : Nat) (out : Bytes) (d : Dev) : Dev :=
  d.reply c.tag ([word out.length, word verdict] ++ bytesToWords out)

/-- The verdict word of a check. -/
def verdictOf (ok : Bool) : Nat := if ok then 1 else 0
/-- The verdict word of an operation that verifies nothing. -/
def noVerdict : Nat := 0xFFFF

/-- Orders 2–5 of R363 for a key of one of the types and with the USE bit; the use is counted when the operation goes on. -/
def Dev.keyGate (c : Cmd) (types : List Nat) (use : Nat) (d : Dev) : Option Status :=
  let a := (d.key c.keyN).attr
  if d.keyBad c.keyN then some .slotBad
  else if !types.contains (attrType a) then some .stateConflict
  else if !bit use (attrUse a) || attrSecure a || c.keyN < 6 then some .protected_
  else if attrLimit a != 0 && attrLimit a ≤ d.usesOf c.keyN then some .limitReached
  else none

/-- A failed gate, with SLOT_BAD's own event (R331). -/
def Dev.gateFail (c : Cmd) (st : Status) (d : Dev) : Dev :=
  (if st = .slotBad then d.slotBadEvent (some c.keyN) else d).partFail c st

/-- A part of a multi-part operation: lengths, context, key, then `body` with the context and the key's material. -/
def multiPart (o : Nat) (u : CryptoUse) (lenOk : Cmd → Context → Bool) (total : Cmd → Nat) (types : List Nat) (use : Nat)
    (body : Cmd → Context → Bytes → Dev → Dev) (tag : Nat) : Dev → Dev :=
  Dev.startCmd (isCrypto o) tag fun c d =>
    if c.cryptoReserved u then d.hostError c
    else match d.partContext c with
      | none => d.fail tag .stateConflict
      | some x =>
        if (!c.last && (c.dlen = 0 || c.dlen % 64 != 0)) || !lenOk c x then d.partFail c .stateConflict
        else if c.plen != (total c + 1) / 2 then d.hostError c
        else if types.isEmpty then body c x [] d
        else match d.keyGate c types use with
          | some st => d.gateFail c st
          | none => body c x (d.key c.keyN).material (d.useKey (some tag) c.keyN).2

/-- A single-part operation under a slot key, or under none where no type is named. -/
def singlePart (o : Nat) (u : CryptoUse) (lenOk : Cmd → Bool) (total : Cmd → Option Nat) (types : List Nat) (use : Nat)
    (body : Cmd → Bytes → Dev → Dev) (tag : Nat) : Dev → Dev :=
  Dev.startCmd (isCrypto o) tag fun c d =>
    if c.cryptoReserved u then d.hostError c
    else if !c.first || !c.last || !lenOk c then d.fail tag .stateConflict
    else if (total c).any (fun n => c.plen != (n + 1) / 2) then d.hostError c
    else if types.isEmpty then body c [] d
    else match d.keyGate c types use with
      | some st => (if st = .slotBad then d.slotBadEvent (some c.keyN) else d).fail tag st
      | none => body c (d.key c.keyN).material d

/-- The key of a single-part operation that reaches its work is used once (R328). -/
def Dev.useIt (c : Cmd) (d : Dev) : Dev := (d.useKey (some c.tag) c.keyN).2

/-! ### Hashes and MACs -/

/-- SHA256 (R360). -/
def sha256Op : Nat → Dev → Dev :=
  multiPart 0x01 { multi := true } (fun c _ => c.dlen ≤ 2048) (fun c => c.dlen) [] 0 fun c x _ d =>
    let m := x.data ++ c.bytes.take c.dlen
    d.partDone c { x with data := m } noVerdict (if c.last then sha256 m else [])

def execSha256 (tag : Nat) (s : State) : Host.Outcome State Fault Refusal := run (sha256Op tag) s

/-- A tag is generated on the LAST part (R355, R360). -/
def macGen (o : Nat) (types lens : List Nat) (f : Bytes → Bytes → Bytes) : Nat → Dev → Dev :=
  multiPart o { multi := true, tlen := true } (fun c _ => c.dlen ≤ 2048 && (!c.last || lens.contains c.tlen)) (fun c => c.dlen) types 2
    fun c x k d =>
      let m := x.data ++ c.bytes.take c.dlen
      d.partDone c { x with data := m } noVerdict (if c.last then (f k m).take c.tlen else [])

/-- A tag is verified on the LAST part (R355, R360, R363). -/
def macVer (o : Nat) (types lens : List Nat) (f : Bytes → Bytes → Bytes) : Nat → Dev → Dev :=
  multiPart o { multi := true, tlen := true }
    (fun c _ => c.dlen + (if c.last then c.tlen else 0) ≤ 2048 && (!c.last || lens.contains c.tlen))
    (fun c => c.dlen + (if c.last then c.tlen else 0)) types 3
    fun c x k d =>
      let m := x.data ++ c.bytes.take c.dlen
      let t := slice c.dlen c.tlen c.bytes
      d.partDone c { x with data := m } (if c.last then verdictOf ((f k m).take c.tlen == t) else noVerdict) []

/-- HMAC_GEN (R360). -/
def hmacGen : Nat → Dev → Dev := macGen 0x02 [4] [16, 32] hmac
/-- HMAC_VER (R360). -/
def hmacVer : Nat → Dev → Dev := macVer 0x03 [4] [16, 32] hmac
/-- CMAC_GEN (R360). -/
def cmacGen : Nat → Dev → Dev := macGen 0x04 [1, 2] [4, 8, 16] cmac
/-- CMAC_VER (R360). -/
def cmacVer : Nat → Dev → Dev := macVer 0x05 [1, 2] [4, 8, 16] cmac

def execHmacGen (tag : Nat) (s : State) : Host.Outcome State Fault Refusal := run (hmacGen tag) s
def execHmacVer (tag : Nat) (s : State) : Host.Outcome State Fault Refusal := run (hmacVer tag) s
def execCmacGen (tag : Nat) (s : State) : Host.Outcome State Fault Refusal := run (cmacGen tag) s
def execCmacVer (tag : Nat) (s : State) : Host.Outcome State Fault Refusal := run (cmacVer tag) s

/-! ### Ciphers -/

/-- The IV of a part: drawn under IVGEN or taken from the payload at FIRST, else the context's (R359, R360). -/
def Dev.partIv (c : Cmd) (n : Nat) (x : Context) (d : Dev) : Bytes × Dev :=
  if !c.first then (x.iv, d) else if c.ivgen then d.draw n else (c.bytes.take n, d)

/-- Bytes of the IV in the payload. -/
def Cmd.ivBytes (c : Cmd) (n : Nat) : Nat := if c.first && !c.ivgen then n else 0

/-- A part of CBC or CTR: `f` gives the output and the next chaining value from the key, the present one and the data
(R355). -/
def blockMode (o : Nat) (gen : Bool) (use : Nat) (whole : Bool) (f : Bytes → Bytes → Bytes → Bytes × Bytes) : Nat → Dev → Dev :=
  multiPart o { multi := true, ivgen := gen }
    (fun c x => c.dlen ≤ 960 && (!whole || !c.last || (x.count + c.dlen) % 16 = 0))
    (fun c => c.ivBytes 16 + c.dlen) [1, 2] use
    fun c x k d =>
      let iv := d.partIv c 16 x
      let r := f k iv.1 (slice (c.ivBytes 16) c.dlen c.bytes)
      iv.2.partDone c { x with iv := r.2, count := x.count + c.dlen } noVerdict
        ((if c.first && c.ivgen then iv.1 else []) ++ r.1)

/-- The last 16 bytes of a string, or another where it is shorter. -/
def lastBlock (iv bs : Bytes) : Bytes := if bs.length < 16 then iv else bs.drop (bs.length - 16)

def cbcEncPart (k iv m : Bytes) : Bytes × Bytes := let r := cbcEnc k (m.length / 16) iv m; (r, lastBlock iv r)
def cbcDecPart (k iv m : Bytes) : Bytes × Bytes := (cbcDec k (m.length / 16) iv m, lastBlock iv m)
/-- CTR: the counter block moves on by the blocks used, modulo 2^128 (R355). -/
def ctrPart (k iv m : Bytes) : Bytes × Bytes :=
  (ctrCrypt k iv m, beBytes 16 ((beNat iv + ceilDiv m.length 16) % 2 ^ 128))

/-- CBC_ENC (R360). -/
def cbcEncOp : Nat → Dev → Dev := blockMode 0x06 true 0 true cbcEncPart
/-- CBC_DEC (R360). -/
def cbcDecOp : Nat → Dev → Dev := blockMode 0x07 false 1 true cbcDecPart
/-- CTR_ENC (R360). -/
def ctrEncOp : Nat → Dev → Dev := blockMode 0x08 true 0 false ctrPart
/-- CTR_DEC (R360). -/
def ctrDecOp : Nat → Dev → Dev := blockMode 0x09 false 1 false ctrPart

def execCbcEnc (tag : Nat) (s : State) : Host.Outcome State Fault Refusal := run (cbcEncOp tag) s
def execCbcDec (tag : Nat) (s : State) : Host.Outcome State Fault Refusal := run (cbcDecOp tag) s
def execCtrEnc (tag : Nat) (s : State) : Host.Outcome State Fault Refusal := run (ctrEncOp tag) s
def execCtrDec (tag : Nat) (s : State) : Host.Outcome State Fault Refusal := run (ctrDecOp tag) s

/-- GCM_ENC (R355, R360): the blocks count on from the parts before. -/
def gcmEncOp : Nat → Dev → Dev :=
  multiPart 0x0A { multi := true, alen := true, tlen := true, ivgen := true }
    (fun c _ => c.dlen ≤ 960 && (c.first || c.alen = 0) && (!c.last || c.tlen = 12 || c.tlen = 16))
    (fun c => c.ivBytes 12 + c.alen + c.dlen) [1, 2] 0
    fun c x k d =>
      let iv := d.partIv c 12 x
      let aad := if c.first then slice (c.ivBytes 12) c.alen c.bytes else x.aad
      let m := slice (c.ivBytes 12 + c.alen) c.dlen c.bytes
      let ct := xorBytes m (gctrStream k iv.1 (ceilDiv m.length 16) (2 + x.count / 16))
      let all := x.data ++ ct
      iv.2.partDone c { x with iv := iv.1, aad := aad, data := all, count := x.count + m.length } noVerdict
        ((if c.first && c.ivgen then iv.1 else []) ++ ct ++ (if c.last then (gcmTag k iv.1 aad all).take c.tlen else []))

def execGcmEnc (tag : Nat) (s : State) : Host.Outcome State Fault Refusal := run (gcmEncOp tag) s

/-- GCM_DEC (R360, R363): plaintext only where the tag is valid. -/
def gcmDecOp : Nat → Dev → Dev :=
  singlePart 0x0B { alen := true, tlen := true } (fun c => c.dlen ≤ 960 && (c.tlen = 12 || c.tlen = 16))
    (fun c => some (12 + c.alen + c.dlen + c.tlen)) [1, 2] 1
    fun c k d =>
      let iv := c.bytes.take 12
      let aad := slice 12 c.alen c.bytes
      let ct := slice (12 + c.alen) c.dlen c.bytes
      let ok := (gcmTag k iv aad ct).take c.tlen == slice (12 + c.alen + c.dlen) c.tlen c.bytes
      (d.useIt c).cryptoDone c (verdictOf ok) (if ok then gcmCrypt k iv ct else [])

def execGcmDec (tag : Nat) (s : State) : Host.Outcome State Fault Refusal := run (gcmDecOp tag) s

/-! ### Derivation and public keys -/

/-- HKDF (R360, R361). -/
def hkdfOp : Nat → Dev → Dev :=
  singlePart 0x0C { alen := true, tlen := true, len := true }
    (fun c => c.dlen ≤ 256 && c.alen ≤ 256 && c.tlen ≤ 256 && 1 ≤ c.w 12 && c.w 12 ≤ 1020)
    (fun c => some (c.alen + c.dlen + c.tlen)) [] 0
    fun c _ d =>
      d.cryptoDone c noVerdict (hkdf (slice c.alen c.dlen c.bytes) (c.bytes.take c.alen) (slice (c.alen + c.dlen) c.tlen c.bytes)
        (c.w 12))

def execHkdf (tag : Nat) (s : State) : Host.Outcome State Fault Refusal := run (hkdfOp tag) s

/-- The digest a signature is over: the payload's, or that of its message (R359, R361). -/
def digestOf (c : Cmd) (m : Bytes) : Bytes := if c.hashed then m else sha256 m
def digestLenOk (c : Cmd) : Bool := if c.hashed then c.dlen = 32 else c.dlen ≤ 1880

/-- ECDSA_SIGN (R355, R360). -/
def ecdsaSignOp : Nat → Dev → Dev :=
  singlePart 0x10 { hashed := true } digestLenOk (fun c => some c.dlen) [3] 4
    fun c k d =>
      let r := (d.useIt c).drawScalar
      r.2.cryptoDone c noVerdict (ecdsaSign k (digestOf c (c.bytes.take c.dlen)) r.1)

def execEcdsaSign (tag : Nat) (s : State) : Host.Outcome State Fault Refusal := run (ecdsaSignOp tag) s

/-- ECDSA_VERIFY (R360). -/
def ecdsaVerifyOp : Nat → Dev → Dev :=
  singlePart 0x11 { hashed := true } digestLenOk (fun c => some (128 + c.dlen)) [] 0
    fun c _ d =>
      let pub := c.bytes.take 64
      if (ecPoint pub).isNone then d.fail c.tag .stateConflict
      else d.cryptoDone c (verdictOf (ecdsaVerify pub (digestOf c (slice 128 c.dlen c.bytes)) (slice 64 64 c.bytes))) []

def execEcdsaVerify (tag : Nat) (s : State) : Host.Outcome State Fault Refusal := run (ecdsaVerifyOp tag) s

/-- A target slot may be written (R363 order 6). -/
def Dev.targetOk (d : Dev) (n : Nat) : Bool := 6 ≤ n && d.keyEmpty n

/-- A new key stored in a target, with its KEY record for a persistent one (R364, R365). -/
def Dev.storeChild (c : Cmd) (attr : Nat) (m : Bytes) (verdict : Nat) (d : Dev) : Dev :=
  d.childDone c.tag c.target attr m [0, word verdict]

/-- ECDH_DERIVE (R364). -/
def ecdhDeriveOp : Nat → Dev → Dev :=
  singlePart 0x12 { alen := true, tlen := true, slot := true, attrs := true }
    (fun c => c.alen ≤ 256 && c.tlen ≤ 256) (fun c => some (64 + c.alen + c.tlen)) [3] 5
    fun c k d =>
      let a := c.attrs
      let ty := attrType a
      if attrReserved a then d.hostError c
      else if !d.targetOk c.target then d.fail c.tag .stateConflict
      else if !(ty = 1 || ty = 2 || ty = 4) || attrUse a &&& 0x130 != 0 || !usesOk a then d.fail c.tag .stateConflict
      else match ecdh k (c.bytes.take 64) with
        | none => d.fail c.tag .stateConflict
        | some z =>
          if c.target < 48 && d.keysProtected then d.fail c.tag .protected_
          else
            let attr := attrOf (attrUse a) ty 2 (attrExport a && attrExport (d.key c.keyN).attr)
              (expireFor c.target (attrExpire a)) (attrSecure a) (attrLocked a) c.keyN (attrLimit a)
            (d.useIt c).storeChild c attr
              (hkdf z (slice 64 c.alen c.bytes) (slice (64 + c.alen) c.tlen c.bytes) (materialLen ty)) noVerdict

def execEcdhDerive (tag : Nat) (s : State) : Host.Outcome State Fault Refusal := run (ecdhDeriveOp tag) s

/-- KEY_WRAP (R365): `word 11` names the SUBJECT. -/
def keyWrapOp : Nat → Dev → Dev :=
  singlePart 0x14 { slot := true } (fun _ => true) (fun _ => some 0) [2] 7
    fun c k d =>
      let sub := d.key c.target
      if d.keyBad c.target then (d.slotBadEvent (some c.target)).fail c.tag .slotBad
      else if !attrExport sub.attr || attrSecure sub.attr then d.fail c.tag .protected_
      else
        let iv := (d.useIt c).draw 12
        let aad := ascii "BKW1" ++ leBytes 8 sub.attr
        let ct := gcmCrypt k iv.1 sub.material
        iv.2.cryptoDone c noVerdict (leBytes 8 sub.attr ++ iv.1 ++ ct ++ gcmTag k iv.1 aad ct)

def execKeyWrap (tag : Nat) (s : State) : Host.Outcome State Fault Refusal := run (keyWrapOp tag) s

/-- KEY_UNWRAP (R365). -/
def keyUnwrapOp : Nat → Dev → Dev :=
  singlePart 0x15 { slot := true } (fun _ => true)
    (fun c => some (36 + materialLen (attrType (leNat (c.bytes.take 8))))) [2] 8
    fun c k d =>
      let a := leNat (c.bytes.take 8)
      let n := materialLen (attrType a)
      let iv := slice 8 12 c.bytes
      let ct := slice 20 n c.bytes
      if !d.targetOk c.target then d.fail c.tag .stateConflict
      else if attrReserved a || attrType a = 0 || !usesOk a then d.fail c.tag .stateConflict
      else if gcmTag k iv (ascii "BKW1" ++ c.bytes.take 8) ct != slice (20 + n) 16 c.bytes then (d.useIt c).cryptoDone c 0 []
      else
        let m := gcmCrypt k iv ct
        if attrType a = 3 && (beNat m = 0 || p256n ≤ beNat m) then d.fail c.tag .stateConflict
        else if c.target < 48 && d.keysProtected then d.fail c.tag .protected_
        else
          (d.useIt c).storeChild c (attrOf (attrUse a) (attrType a) 1 (attrExport a) (expireFor c.target (attrExpire a))
            (attrSecure a) (attrLocked a) 0 (attrLimit a)) m 1

def execKeyUnwrap (tag : Nat) (s : State) : Host.Outcome State Fault Refusal := run (keyUnwrapOp tag) s

/-! ### RANDOM (R367) -/

/-- RANDOM (R367). -/
def randomOp (tag : Nat) : Dev → Dev :=
  Dev.startCmd (isOp 0x4E) tag fun c d =>
    if c.w 6 = 0 || 1020 < c.w 6 || !c.zeroFrom 7 then d.hostError c
    else
      let r := d.draw (c.w 6)
      r.2.reply tag (word (c.w 6) :: bytesToWords r.1)

def execRandom (tag : Nat) (s : State) : Host.Outcome State Fault Refusal := run (randomOp tag) s

/-! ### The entropy source (R369–R377) -/

/-- Samples pass the health tests, or the first that fails one discards the block in progress, sets `ENTSTAT.HFAIL` with ENT_HFAIL
(source 148), restarts the start-up test and opens the entropy timeout window (R369, R370, R377). -/
def Dev.takeSamples (samples : List Nat) (d : Dev) : Dev :=
  match d.anvil.health.feedAll samples with
  | some h => { d with anvil := { d.anvil with health := h } }
  | none =>
    let d := Dev.signal 148 { d with anvil := { d.anvil with hfail := true, health := Health.reset } }
    { d with anvil := { d.anvil with failWin := if d.anvil.failed then none else some (d.anvil.failWin.getD (d.opened 6240000)) } }

/-- BLOCK_ACCEPTED (R369, R370, R377): with these samples 640 of a block have passed, after the 1,024 of the start-up test. The entropy
timeout window closes without effect, FAILED ends, and a cold instantiation gathers the block. -/
def blockAccepted (samples : List Nat) (d : Dev) : Dev :=
  if !d.domOn 10 then d
  else
    let d := d.takeSamples samples
    let h := d.anvil.health
    if h.passed < 1024 || h.gathered < 640 then d
    else
      let b := d.freshBlock
      let d := b.2
      { d with anvil := { d.anvil with
          health := { h with gathered := h.gathered - 640 }, failWin := none, failed := false,
          blocks := if !d.anvil.ready && d.anvil.cold && d.anvil.blocks.length < 2 then d.anvil.blocks ++ [b.1] else d.anvil.blocks } }

def execBlockAccepted (s : State) (samples : List Nat := []) : Host.Outcome State Fault Refusal := run (blockAccepted samples) s

/-- DRBG_READY (R372, R375): a cold instantiation from two blocks, 256 bits of entropy input and 128 of nonce; held commands
leave the hold. -/
def drbgReady (d : Dev) : Dev :=
  if d.anvil.ready || d.anvil.blocks.length < 2 then d
  else
    let d := d.instantiate ((d.anvil.blocks.flatten).take 48)
    let r := d.draw 32
    { r.2 with cru := { r.2.cru with scramble10 := r.1 } }

/-- HEALTH_TEST_FAIL (R369, R370, R377): samples the last of which fails a test. -/
def healthTestFail (samples : List Nat) (d : Dev) : Dev := if d.domOn 10 then d.takeSamples samples else d

def execHealthTestFail (s : State) (samples : List Nat := []) : Host.Outcome State Fault Refusal := run (healthTestFail samples) s

/-- The entropy timeout window has closed (R377): the source is FAILED, and every held command completes, DEADLINE where its own window
has closed too. -/
def Dev.entropyClosed (d : Dev) : Dev :=
  let d := Dev.alsoSignal 150 { d with anvil := { d.anvil with failed := true, failWin := none, etime := true } }
  (d.cmds.filter (fun c => c.phase = .held)).foldl
    (fun d c => if d.late c then d.expire c else d.fail c.tag .entropyTimeout) d

/-- ENTROPY_WINDOW_CLOSE (R377). -/
def entropyWindowClose (d : Dev) : Dev := d.closes 13 d.anvil.failWin Dev.entropyClosed

def execEntropyWindowClose (s : State) : Host.Outcome State Fault Refusal := run entropyWindowClose s

/-- The stamp of the next scheduled reseed (R373): now where one is due, else 60 s after the last seeding. -/
def Dev.reseedStamp (d : Dev) : Nat := if d.anvil.reseedDue || !d.anvil.ready then d.now else d.anvil.seededAt + 7488000000

/-- RESEED (R373): at its time, from a fresh block. It takes a hold on PD10, so none starts while a POWER_OFF of PD10 is deferred, but one
whose hold stands already ends (R72). A DRBG stopped at its hard limit is ready again. -/
def reseed (d : Dev) : Dev :=
  if !d.domOn 10 || (d.domDeferred 10 && !d.pwr.holds.contains ⟨5, 10⟩) || !d.awake || d.anvil.failed ||
    (!d.anvil.ready && d.anvil.requests < 2 ^ 20) then d
  else
    let d := d.wait d.reseedStamp
    let b := d.freshBlock
    let was := b.2.anvil.ready
    let d := b.2.reseedWith b.1
    let d := { d with anvil := { d.anvil with ready := true } }
    if was then d
    else Dev.signal 149 { d with cmds := d.cmds.map (fun c => if c.phase = .held then { c with phase := .queued } else c) }

def execReseed (s : State) : Host.Outcome State Fault Refusal := run reseed s

end Sys2Proof.Machine
end

