-- ==== Sys2Proof/Machine/Release.lean ====
section
/-!
DEFINITION. Evidence to release (chapter 13): PROX_DECIDE and its policy table, POLICY_LOAD, START_RELEASE, START_LOCK, sessions, the
relay's hold, its diagnostics and its off-state test.
-/

namespace Sys2Proof.Machine

/-! ### Selecting evidence (R296) -/

/-- A record's window contains the present instant, cut to `len` ticks (R296, R300, R45). -/
def Dev.freshFor (d : Dev) (len : Nat) (e : Evidence) : Bool := !d.reached { e.win with close := min e.win.close (e.win.opens + len) }

/-- Evidence records by index. -/
def Dev.evidenceList (d : Dev) : List (Nat × Evidence) :=
  (indexedFrom 0 d.rel.evidence).filterMap (fun p => p.2.map (fun e => (p.1, e)))

/-- The newest eligible record of a slot that meets `p`, with its index. -/
def Dev.newest (d : Dev) (s : Nat) (p : EvKind → Bool) : Option (Nat × Evidence) :=
  (d.evidenceList.filter (fun c => c.2.slot == s && p c.2.kind && d.freshFor freshTicks c.2)).foldl
    (fun b c => if b.any (fun x => age c.2.win.opens c.2.esn < age x.2.win.opens x.2.esn) then b else some c) none

/-- What is selected for a slot (R296). -/
structure Chosen where
  auth : Option (Nat × Evidence)
  lf : Option (Nat × Evidence)
  uwb : Option (Nat × Evidence)
  atlas : Option (Nat × Evidence)
  tp : Option (Nat × Evidence)
  anchors : List (Nat × Evidence)
deriving DecidableEq, Repr

def isAuth (k : EvKind) : Bool := match k with | .auth => true | _ => false
def isLf (k : EvKind) : Bool := match k with | .lf _ _ => true | _ => false
def isTp (k : EvKind) : Bool := match k with | .transponder _ _ => true | _ => false

/-- The record that still stands at an index with an ESN. -/
def Dev.recordAt (d : Dev) (i esn : Nat) : Option (Nat × Evidence) :=
  match d.rel.evidence.getD i none with
  | some e => if e.esn.toNat = esn && d.freshFor freshTicks e then some (i, e) else none
  | none => none

/-- Selection for slot `s` (R296). -/
def Dev.choose (d : Dev) (s : Nat) : Chosen :=
  let auth := d.newest s isAuth
  let uwb := match auth with
    | some (_, a) => d.newest s (fun k => match k with | .uwb e _ _ _ _ _ _ => e == a.esn.toNat | _ => false)
    | none => none
  let uesn := uwb.map (fun u => u.2.esn.toNat)
  let atlas := d.newest s (fun k => match k with | .atlas _ _ _ u _ _ _ => u.isNone || u == uesn | _ => false)
  let lf := match atlas with
    | some (_, ⟨.atlas i _ e _ _ _ _, _, _, _⟩) => d.recordAt i e
    | _ => d.newest s isLf
  let x := match uwb with | some (_, ⟨.uwb _ _ _ _ _ _ x, _, _, _⟩) => some x | _ => none
  { auth := auth, lf := lf, uwb := uwb, atlas := atlas, tp := d.newest s isTp,
    anchors := d.evidenceList.filter (fun c => d.freshFor freshTicks c.2 &&
      (match c.2.kind with | .anchor _ _ y => x == some y | _ => false)) }

/-- Bits of the kinds selected, each within `len` ticks of its stamp (R300, R303). -/
def Dev.kinds (d : Dev) (len : Nat) (c : Chosen) : Nat :=
  let on (o : Option (Nat × Evidence)) : Bool := o.any (fun p => d.freshFor len p.2)
  bitsNat [on c.auth, on c.lf, on c.uwb, on c.atlas, on c.tp, c.anchors.any (fun p => d.freshFor len p.2)]

/-! ### The policy (R299–R302) -/

/-- A rule of 32 bytes (R299). -/
def ruleOf (b : Bytes) : Rule :=
  let n (i : Nat) := (b.getD i 0).toNat
  { valid := bit 0 (n 0), allow := bit 1 (n 0), prio := n 0 / 16, require := n 1, absent := n 2, minSts := n 3,
    zones := leNat (slice 4 2 b), maxAge := leNat (slice 6 2 b), maxTof := leNat (slice 8 2 b), minSupport := n 10,
    minAnchors := n 11, maxD := leNat (slice 12 4 b), tokens := leNat (slice 16 4 b), azMin := leNat (slice 20 2 b),
    azMax := leNat (slice 22 2 b) }

/-- The policy of a verified image (R305). -/
def policyOf (ws : List Word) : Policy :=
  let m := wordsToBytes ws
  { image := leNat (slice 8 4 m), seq := leNat (slice 12 4 m), rules := (List.range 64).map (fun i => ruleOf (slice (64 + 32 * i) 32 m)) }

/-- The first neighbour, and the zone of a label (R264). -/
def zoneOf (label : Nat) : Nat := label % 16
def nearest (e : Evidence) : Option Neighbour := match e.kind with | .atlas _ _ _ _ _ _ ns => ns.head? | _ => none
/-- Neighbours of an atlas record in a zone. -/
def support (z : Nat) (e : Evidence) : Nat :=
  match e.kind with | .atlas _ _ _ _ _ _ ns => (ns.filter (fun n => zoneOf n.label == z)).length | _ => 0

/-- An azimuth lies in [lo, hi) (R300); 0x8000 in both limits means no test, and an absent azimuth fails. -/
def azimuthOk (lo hi : Nat) (az : Word) : Bool :=
  if lo = 0x8000 && hi = 0x8000 then true
  else az != 0x8000 && signed 16 lo ≤ az.toInt && az.toInt < signed 16 hi

/-- A required kind meets its tests (R300). -/
def Dev.meets (d : Dev) (r : Rule) (z : Nat) (c : Chosen) (kind : Nat) : Bool :=
  let len := r.maxAge * 124800
  bit kind (d.kinds len c) &&
  match kind with
  | 2 => c.uwb.any (fun p => match p.2.kind with
    | .uwb _ tof score az _ _ _ =>
      (r.maxTof = 0 || tof < (r.maxTof : Int)) && r.minSts ≤ score && azimuthOk r.azMin r.azMax az
    | _ => false)
  | 3 => c.atlas.any (fun p => match p.2.kind with
    | .atlas _ _ _ _ _ plausible ns =>
      plausible && ns.head?.any (fun n => zoneOf n.label == z && (r.maxD == 0 || n.dist < r.maxD)) && r.minSupport ≤ support z p.2
    | _ => false)
  | 4 => z = 0
  | 5 => max 1 r.minAnchors ≤ (c.anchors.filter (fun p => d.freshFor len p.2)).length
  | _ => true

/-- A rule matches a candidate (R300). -/
def Dev.matches_ (d : Dev) (r : Rule) (s z : Nat) (c : Chosen) : Bool :=
  r.valid && bit z r.zones && bit s r.tokens && (bitsOf 6 r.require).all (d.meets r z c) &&
  d.kinds (r.maxAge * 124800) c &&& r.absent % 64 == 0

/-- The rule requires what R302 asks for an ALLOW of Z0. -/
def Rule.startOk (r : Rule) : Bool := r.require &&& 13 == 13 || bit 4 r.require

/-- Effect, deciding rule with its index, and the matching rules at its PRIO (R301, R302). -/
def Dev.decide (d : Dev) (p : Policy) (s z : Nat) (c : Chosen) : Bool × Option (Nat × Rule) × Nat :=
  let ms := (indexedFrom 0 p.rules).filter (fun r => d.matches_ r.2 s z c)
  match leastBy (fun r : Nat × Rule => r.2.prio) 0 ms with
  | none => (false, none, 0)
  | some (_, prio) =>
    let top := ms.filter (fun r => r.2.prio == prio)
    match top.find? (fun r => !r.2.allow) with
    | some r => (false, some r, top.length)
    | none =>
      match top.head? with
      | some r => (z != 0 || r.2.startOk, some r, top.length)
      | none => (false, none, 0)

/-- The candidate zone (R297). -/
def candidateZone (zone : Nat) (c : Chosen) : Option Nat :=
  if zone < 16 then some zone
  else if c.tp.isSome then some 0
  else match c.atlas with
    | some (_, e) =>
      match e.kind with
      | .atlas _ _ _ _ _ true (n :: _) => some (zoneOf n.label)
      | _ => none
    | none => none

/-- One candidate's decision: the record and the words of R303. -/
def Dev.evaluate (d : Dev) (p : Policy) (zone s : Nat) : Decision × List Word :=
  let c := d.choose s
  let z := candidateZone zone c
  let v := match z with | some z => d.decide p s z c | none => (false, none, 0)
  let len := match v.2.1 with | some r => r.2.maxAge * 124800 | none => freshTicks
  let kinds := d.kinds len c
  let use_ (k : Nat) (o : Option (Nat × Evidence)) : Option (Nat × Evidence) := if bit k kinds then o else none
  let used := [use_ 0 c.auth, use_ 1 c.lf, use_ 2 c.uwb, use_ 3 c.atlas, use_ 4 c.tp]
  let anchors := c.anchors.filter (fun a => d.freshFor len a.2)
  let oldest := (used.filterMap id ++ anchors).foldl (fun m a => max m (d.now - a.2.win.opens)) 0
  let rule := match v.2.1 with | some r => r.1 | none => 0xFF
  let zn := z.getD 0
  let rec_ : Decision := { allow := v.1, zone := zn, zvalid := z.isSome, slot := s, rule := rule, mask := kinds, esn := 0, win := Window.none }
  (rec_, [word (b2n v.1 + 2 * b2n z.isSome + 16 * zn + 256 * rule), word s, 0, word kinds] ++
    used.map (fun o => match o with | some a => word a.1 | none => 0xFFFF) ++
    [word anchors.length, word (oldest / 124800), word (((use_ 3 c.atlas).map (fun a => support zn a.2)).getD 0), word v.2.2, 0, 0, 0])

/-- Slots in token rank: by priority, then by number. -/
def Dev.tokenRank (d : Dev) (slots : List Nat) : List Nat :=
  (List.range 16).flatMap (fun p => slots.filter (fun s => (d.slotRec s).prio % 16 == p))

/-- A slot has a selected record (R298). -/
def Dev.hasEvidence (d : Dev) (s : Nat) : Bool :=
  let c := d.choose s
  c.auth.isSome || c.lf.isSome || c.uwb.isSome || c.atlas.isSome || c.tp.isSome || !c.anchors.isEmpty

/-- PROX_DECIDE (R294–R304). -/
def proxDecide (tag : Nat) : Dev → Dev :=
  Dev.startCmd (isOp 0x30) tag fun c d =>
    let s := c.w 6 % 256
    let z := c.w 6 / 256
    if (32 ≤ s && s != 0xFF) || (16 ≤ z && z != 0xFF) || !c.zeroFrom 7 then d.hostError c
    else
      match d.rel.policy with
      | none => d.fail tag .stateConflict
      | some p =>
        let cands := if s = 0xFF then d.tokenRank ((List.range 32).filter (fun s => d.enrolled s && d.hasEvidence s)) else [s]
        if s != 0xFF && !d.enrolled s then d.fail tag .stateConflict
        else if d.atlas.active.isNone && !cands.any (fun s => (d.choose s).tp.isSome) then d.fail tag .atlasAbsent
        else
          let vs := cands.map (d.evaluate p z)
          let none_ : Decision × List Word :=
            ({ allow := false, zone := 0, zvalid := false, slot := 0xFF, rule := 0xFF, mask := 0, esn := 0, win := Window.none },
             [word 0xFF00, 0xFF, 0, 0, 0xFFFF, 0xFFFF, 0xFFFF, 0xFFFF, 0xFFFF, 0, 0, 0, 0, 0, 0, 0])
          let v := ((vs.find? (fun v => v.1.allow)).orElse (fun _ => vs.head?)).getD none_
          d.finish tag ⟨.done, v.2, .decision v.1, some 2, []⟩

def execProxDecide (tag : Nat) (s : State) : Host.Outcome State Fault Refusal := run (proxDecide tag) s

/-! ### POLICY_LOAD (R305, R306) -/

/-- A rule's fields lie in their ranges and its reserved bits are 0; an unused rule is all zero (R299, R305, R306). -/
def ruleOk (b : Bytes) : Bool :=
  let r := ruleOf b
  b.all (· == 0) ||
  (r.valid && (b.getD 0 0).toNat / 4 % 4 == 0 && r.require < 64 && r.absent < 64 && 1 ≤ r.maxAge && r.maxAge ≤ 2000 &&
    r.minSupport ≤ 32 && r.minAnchors ≤ 16 && (b.drop 24).all (· == 0) &&
    (!(r.allow && bit 0 r.zones) || r.startOk))

/-- A staged image passes every check of R306. -/
def Dev.policyOk (d : Dev) (ws : List Word) : Bool :=
  let m := wordsToBytes ws
  let id := leNat (slice 8 4 m)
  ws.length == 1088 && leNat (m.take 4) == 0x314C4F50 && leNat (slice 4 2 m) == 1 && leNat (slice 6 2 m) == 2048 &&
  1 ≤ id && id ≤ 0xFFFFFFFE && ((d.rel.policy.map Policy.seq).getD 0 < leNat (slice 12 4 m) || d.rel.policy.isNone) &&
  leNat (slice 16 4 m) == d.cru.wakeId && zeroAt 20 44 m && (List.range 64).all (fun i => ruleOk (slice (64 + 32 * i) 32 m)) &&
  ecdsaVerify (d.key 1).material (sha256 (m.take 2112)) (m.drop 2112)

/-- POLICY_LOAD (R306). The POLICY partition's two copies are written, B first. -/
def policyLoad (tag : Nat) : Dev → Dev :=
  Dev.startCmd (isOp 0x35) tag fun c d =>
    if 1088 ≤ c.w 6 || 1 < c.w 7 || !c.zeroFrom 8 then d.hostError c
    else if c.w 6 != 0 && c.w 6 != d.rel.policyStage.length then d.fail tag .stateConflict
    else
      let ws := (if c.w 6 = 0 then [] else d.rel.policyStage) ++ c.payload
      let stage (l : List Word) (d : Dev) : Dev := { d with rel := { d.rel with policyStage := l } }
      if c.w 7 = 0 then (stage ws d).fail tag .done
      else if d.keyBad 1 then (stage [] d).slotFail tag 1
      else if d.policyOk ws then
        ((stage [] d).recordWrite (some tag) ((List.range 34).map (fun i => 221 + i)) ((List.range 34).map (fun i => 187 + i)) .select).finish
          tag ⟨.done, [], .policy ws, none, []⟩
      else (stage [] d).fail tag .imageInvalid

def execPolicyLoad (tag : Nat) (s : State) : Host.Outcome State Fault Refusal := run (policyLoad tag) s

/-- The effect of a DONE POLICY_LOAD: the new table applies (R306). -/
def Dev.applyPolicy (ws : List Word) (d : Dev) : Dev :=
  { d with rel := { d.rel with policy := some (policyOf ws) }, nv := { d.nv with policy := some ws } }

/-! ### START_RELEASE and the relay (R307–R311) -/

/-- Governing decisions with ALLOW for a zone and a window that contains now, in token rank, with their indices (R304, R307). -/
def Dev.governing (d : Dev) (zone : Nat) : List (Nat × Decision) :=
  let all := (indexedFrom 0 d.rel.decisions).filterMap (fun p => p.2.map (fun x => (p.1, x)))
  let ok := all.filter (fun p => p.2.allow && p.2.zvalid && p.2.zone == zone && p.2.slot < 32 && !d.reached p.2.win)
  (d.tokenRank (List.range 32)).flatMap (fun s => ok.filter (fun p => p.2.slot == s))

/-- A relay fault latches: `REL.DIAG`, `RELSTAT.FAULT`, and RELAY_FAULT (source 34) at the first latch (R311). -/
def Dev.latchRelay (b : Nat) (d : Dev) : Dev :=
  if bit b d.rel.diag then d
  else Dev.signal 34 { d with rel := { d.rel with diag := d.rel.diag + 2 ^ b, fault := true } }

/-- Relay faults latch, and the relay locks with cause 7 in the event of the last one (R311). -/
def Dev.faultLock (bs : List Nat) (tag op : Nat) (d : Dev) : Dev :=
  let x := bs.foldl (fun d b => d.latchRelay b) d
  (if bs.all (fun b => bit b d.rel.diag) then x.presentOn 3 else x).lockRelay oPower tag op 7 5

/-- START_RELEASE (R307, R308): the checks at the execution stamp, the switch-on, and the settle check of coil current `coil`; DONE
takes effect with the completion. -/
def startRelease (tag coil : Nat) : Dev → Dev :=
  Dev.startCmd (isOp 0x31) tag fun c d =>
    let old := d.relstat.toNat
    if !c.zeroFrom 6 then d.hostError c
    else if !d.harm then d.fail tag .stateConflict
    else
      match d.governing 0 with
      | [] => d.fail tag .policyDeny
      | (i, x) :: _ =>
        let rec_ := draft 0x20 0x06 x.esn.toNat old old 0
        let bad (st : Status) (d : Dev) : Dev := d.finish tag ⟨st, [], .none, none, [rec_]⟩
        let ws := [word i, word x.slot, word coil, word (d.setting 0x060000)]
        if d.rel.diag != 0 then bad .hwFault d
        else if d.energised then
          if d.setting 0x060001 ≤ coil && coil < d.setting 0x060002 then d.finish tag ⟨.done, ws, .relay, none, [rec_]⟩
          else bad .hwFault d
        else
          let d := Dev.signal 32 { (d.wait (d.now + 24960)) with rel := { d.rel with relay := .closing tag } }
          let d := d.wait (d.now + d.setting 0x060003 * 124800)
          if d.setting 0x060001 ≤ coil && coil < d.setting 0x060002 then d.finish tag ⟨.done, ws, .relay, none, [rec_]⟩
          else bad .hwFault (d.faultLock [if coil < d.setting 0x060001 then 0 else 1] tag c.op)

def execStartRelease (tag coil : Nat) (s : State) : Host.Outcome State Fault Refusal := run (startRelease tag coil) s

/-- The effect of a DONE START_RELEASE: the hold window of `hold` seconds, sampled at its start, opens at its stamp (R132, R309). -/
def Dev.applyRelay (hold : Nat) (d : Dev) : Dev := { d with rel := { d.rel with relay := .held (d.opened (hold * 124800000)) } }

/-- START_LOCK (R310). -/
def startLock (tag : Nat) : Dev → Dev :=
  Dev.startCmd (isOp 0x32) tag fun c d =>
    if c.zeroFrom 6 then ((d.presentOn 3).lockRelay oHost tag c.op 3 5).fail tag .done else d.hostError c

def execStartLock (tag : Nat) (s : State) : Host.Outcome State Fault Refusal := run (startLock tag) s

/-- RELAY_HOLD_CLOSE (R309): with ENGINE_RUN not asserted the relay locks, else it is held by the engine. -/
def relayHoldClose (d : Dev) : Dev :=
  let hold := match d.rel.relay with
    | .held w => some w
    | _ => none
  d.closes 3 hold (fun d =>
    if d.engineRun then { d with rel := { d.rel with relay := .engineHeld } } else d.lockRelay oPower 0xFFFF 0xFF 1 5)

def execRelayHoldClose (s : State) : Host.Outcome State Fault Refusal := run relayHoldClose s

/-- RELAY_FAULT (R311): `diag` are the fault bits found; OPEN is START_RELEASE's own, the two of a stuck switch are found while the relay
is LOCKED, and an overcurrent or a dropout while it is energised. Any fault found while it is energised locks it. -/
def relayFault (diag : Nat) (d : Dev) : Dev :=
  if !d.domOn 19 || !d.awake then d
  else
    let found := (bitsOf 7 diag).filter (fun b =>
      if b = 1 || b = 5 then d.energised else if b = 3 || b = 4 then !d.energised else b != 0)
    if d.energised && !found.isEmpty then d.faultLock found 0xFFFF 0xFF else found.foldl (fun d b => d.latchRelay b) d

def execRelayFault (diag : Nat) (s : State) : Host.Outcome State Fault Refusal := run (relayFault diag) s

/-- OFF_STATE_TEST (R311, R525): both switches are tested while the relay is LOCKED; one found conducting latches its bit. -/
def offStateTest (hsOk lsOk : Bool) (d : Dev) : Dev :=
  if !d.domOn 19 || d.energised then d
  else
    Dev.atom 0x06 (fun d =>
      let d := if hsOk then d else d.latchRelay 3
      if lsOk then d else d.latchRelay 4) d

def execOffStateTest (hsOk lsOk : Bool) (s : State) : Host.Outcome State Fault Refusal := run (offStateTest hsOk lsOk) s

/-! ### Sessions (R312–R314) -/

/-- SESSION_OPEN (R312). -/
def sessionOpen (tag : Nat) : Dev → Dev :=
  Dev.startCmd (isOp 0x33) tag fun c d =>
    if 16 ≤ c.w 6 || 3600 < c.w 7 || !c.zeroFrom 8 then d.hostError c
    else
      match d.governing (c.w 6), d.rel.sessions.findIdx? Option.isNone with
      | [], _ => d.fail tag .policyDeny
      | _, none => d.fail tag .limitReached
      | (_, x) :: _, some n =>
        let t := if c.w 7 = 0 then d.setting 0x060004 else c.w 7
        d.finish tag ⟨.done, [word n, word x.slot], .session ⟨c.w 6, x.slot, ⟨0, t * 124800000, 0⟩⟩, some 0, []⟩

def execSessionOpen (tag : Nat) (s : State) : Host.Outcome State Fault Refusal := run (sessionOpen tag) s

/-- The effect of a DONE SESSION_OPEN: the lowest free number takes the session, and its SESSION record (R312, R138). DESIGN CHOICE
(log 108): the record's new value, an end cause, is 0xFF at the open, where there is none yet. -/
def Dev.applySession (tag op : Nat) (x : Session) (d : Dev) : Dev :=
  match d.rel.sessions.findIdx? Option.isNone with
  | none => d
  | some n =>
    let d := { d with rel := { d.rel with sessions := d.rel.sessions.set n (some { x with win := d.opened x.win.close }) } }
    d.log oHost tag op (draft 0x22 0x06 n x.zone 0xFF 0)

/-- SESSION_CLOSE (R314). -/
def sessionClose (tag : Nat) : Dev → Dev :=
  Dev.startCmd (isOp 0x34) tag fun c d =>
    if 32 ≤ c.w 6 || !c.zeroFrom 7 then d.hostError c
    else if (d.rel.sessions.getD (c.w 6) none).isNone then d.fail tag .done
    else ((d.presentOn 3).endSession oHost tag c.op 1 2 (c.w 6)).fail tag .done

def execSessionClose (tag : Nat) (s : State) : Host.Outcome State Fault Refusal := run (sessionClose tag) s

/-- SESSION_TIMEOUT (R313). -/
def sessionTimeout (num : Nat) (d : Dev) : Dev :=
  d.closes 3 ((d.rel.sessions.getD num none).map Session.win) (Dev.endSession oPower 0xFFFF 0xFF 1 1 num)

def execSessionTimeout (num : Nat) (s : State) : Host.Outcome State Fault Refusal := run (sessionTimeout num) s

/-- EVIDENCE_EXPIRY (R292): the record's window closes and it is freed. -/
def evidenceExpiry (index : Nat) (d : Dev) : Dev :=
  d.closes 3 ((d.rel.evidence.getD index none).map Evidence.win)
    (fun d => { d with rel := { d.rel with evidence := d.rel.evidence.set index none } })

def execEvidenceExpiry (index : Nat) (s : State) : Host.Outcome State Fault Refusal := run (evidenceExpiry index) s

end Sys2Proof.Machine
end

