-- ==== Sys2Proof/Machine/Atlas.lean ====
section
/-!
DEFINITION. The field atlas engine (chapter 12): the image format, the query vector, distances and their order, ATLAS_QUERY,
ATLAS_LOAD with its checkpoints, ATLAS_COMMIT, ATLAS_INFO and the reload.
-/

namespace Sys2Proof.Machine

/-! ### The image (R281, R282) -/

def le2 (m : Bytes) (o : Nat) : Nat := leNat (slice o 2 m)
def le4 (m : Bytes) (o : Nat) : Nat := leNat (slice o 4 m)
def s16 (m : Bytes) (o : Nat) : Int := signed 16 (le2 m o)

def imgId (m : Bytes) : Nat := le4 m 8
def imgSeq (m : Bytes) : Nat := le4 m 12
def imgN (m : Bytes) : Nat := le4 m 20
def imgLa (m : Bytes) : Nat := (m.getD 24 0).toNat + 1
def imgLb (m : Bytes) : Nat := (m.getD 25 0).toNat + 1
def imgL (m : Bytes) : Nat := imgLa m * imgLb m
def imgShift (m : Bytes) : Nat := (m.getD 26 0).toNat
def imgLimit (m : Bytes) : Nat := le4 m 32
def imgC (m : Bytes) : Nat := le4 m 36
def imgZones (m : Bytes) : Nat := le2 m 40
/-- Weight W_d (R261). -/
def imgWeight (m : Bytes) (i : Nat) : Int := s16 m (48 + 2 * i)
/-- Offset of the body. -/
def bodyAt (m : Bytes) : Nat := 320 + 32 * imgC m
/-- Offsets in the body of half-codebooks A and B, of the directory and of the entries. -/
def halfA : Nat := 16384
def halfB (m : Bytes) : Nat := halfA + 32 * imgLa m
def dirAt (m : Bytes) : Nat := halfB m + 32 * imgLb m
def entriesAt (m : Bytes) : Nat := dirAt m + 4 * (imgL m + 1)
def bodyLen (m : Bytes) : Nat := entriesAt m + 16 * imgN m
/-- Length of the image, known once its header is. -/
def imgLen (m : Bytes) : Nat := bodyAt m + bodyLen m
/-- Bytes of a chunk of the body. -/
def chunkBytes : Nat := 4194304
/-- start[l] of the directory, read in the body. -/
def startOf (m body : Bytes) (l : Nat) : Nat := le4 body (dirAt m + 4 * l)
/-- Entry `e` of the body (R264), with its reserved flags. -/
def entryAt (m body : Bytes) (e : Nat) : AtlasEntry × Nat :=
  let b := slice (entriesAt m + 16 * e) 16 body
  (⟨(b.take 8).map (·.toNat), le4 b 8, le2 b 12⟩, le2 b 14)

/-! ### Distances (R260, R261, R265, R266) -/

/-- A raw value that is not absent, kept off the value that means absent (R261). -/
def present16 (v : Int) : Option Int := some (if v = -32768 then -32767 else v)

/-- A word copied from evidence; 0x8000 stays absent. -/
def rawWord (w : Word) : Option Int := if w = 0x8000 then none else some w.toInt

/-- The raw vector of an LF record and, where there is one, a RANGE_BOUND record (R260). -/
def rawVector (rssi : Bytes) (uwb : Option (Int × Word × Word × Word)) : List (Option Int) :=
  (fit 24 0 rssi).map (fun b => some ((b.toNat * 128 : Nat) : Int)) ++
  (match uwb with
   | none => [none, none, none, none]
   | some (tof, az, el, power) =>
     [present16 (min 32767 ((max tof 0 * 1201 + 500) / 1000)), rawWord az, rawWord el, present16 power.toInt]) ++
  List.replicate 4 (some 0)

/-- The query vector (R261). -/
def queryVector (m : Bytes) (raw : List (Option Int)) : List (Option Int) :=
  (indexedFrom 0 raw).map (fun p => p.2.map (fun v => max (-32767) (min 32767 (v * imgWeight m p.1 / 256))))

/-- Σ (q_d − c_d)² over the dimensions that are not absent. -/
def squares : List (Option Int) → List Int → Nat
  | some q :: qs, c :: cs => ((q - c) * (q - c)).toNat + squares qs cs
  | none :: qs, _ :: cs => squares qs cs
  | _, _ => 0

/-- `n` int16 of the body from an offset. -/
def ints (body : Bytes) (o n : Nat) : List Int := (List.range n).map (fun i => s16 body (o + 2 * i))

/-- T[sub][j] (R265). -/
def tableAt (m body : Bytes) (q : List (Option Int)) (sub j : Nat) : Nat :=
  min 0xFFFF (squares (slice (4 * sub) 4 q) (ints body ((sub * 256 + j) * 8) 4) / 2 ^ imgShift m)

/-- D of an entry (R266). -/
def entryDist (m body : Bytes) (q : List (Option Int)) (e : AtlasEntry) : Nat :=
  (indexedFrom 0 e.code).foldl (fun a p => a + tableAt m body q p.1 p.2) 0

/-- δA[a] + δB[b] of list l (R266). -/
def coarse (m body : Bytes) (q : List (Option Int)) (l : Nat) : Nat :=
  squares (q.take 16) (ints body (halfA + 32 * (l / imgLb m)) 16) +
  squares (q.drop 16) (ints body (halfB m + 32 * (l % imgLb m)) 16)

/-! ### Order (R267, R268) -/

/-- Lexicographic order of keys. -/
def keyLt : List Nat → List Nat → Bool
  | a :: as, b :: bs => a < b || (a == b && keyLt as bs)
  | [], _ :: _ => true
  | _, [] => false

def insertKey (x : List Nat × α) : List (List Nat × α) → List (List Nat × α)
  | [] => [x]
  | y :: ys => if keyLt x.1 y.1 then x :: y :: ys else y :: insertKey x ys

def sortKeys (xs : List (List Nat × α)) : List (List Nat × α) := xs.foldr insertKey []

/-- The lists a query probes: the `nprobe` of smallest coarse distance, ties by list number (R267). -/
def probes (m body : Bytes) (q : List (Option Int)) (nprobe : Nat) : List Nat :=
  ((sortKeys ((List.range (imgL m)).map (fun l => ([coarse m body q l, l], l)))).take nprobe).map Prod.snd

/-- Entries of list l. -/
def listSize (m body : Bytes) (l : Nat) : Nat := startOf m body (l + 1) - startOf m body l

/-- A query's neighbours: the first k candidates by (D, ID, l, position) (R268). -/
def neighbours (m body : Bytes) (q : List (Option Int)) (k nprobe : Nat) : List Neighbour :=
  let cands := (probes m body q nprobe).flatMap (fun l => (List.range (listSize m body l)).map (fun i =>
    let e := (entryAt m body (startOf m body l + i)).1
    let dist := entryDist m body q e
    ([dist, e.id, l, i], (⟨e.id, e.label, dist⟩ : Neighbour))))
  ((sortKeys cands).take k).map Prod.snd

/-! ### ATLAS_QUERY (R272–R275) -/

/-- One query entry of the payload. -/
structure QueryEntry where
  k : Nat
  nprobe : Nat
  fromEvidence : Bool
  lf : Nat
  uwb : Option Nat
  limit : Nat
  raw : List (Option Int)
deriving DecidableEq, Repr

/-- The entries of a payload, and whether they fill it exactly with no reserved bit set. -/
def queryEntries : Nat → List Word → Option (List QueryEntry)
  | 0, [] => some []
  | 0, _ => none
  | n + 1, ws =>
    let w (i : Nat) := (ws.getD i 0).toNat
    let src := bit 13 (w 0)
    let len := if src then 4 else 36
    let reserved := w 0 / 2 ^ 14 != 0 || field 7 6 (w 1) != 0 || bit 14 (w 1)
    if ws.length < len || reserved then none
    else
      (queryEntries n (ws.drop len)).map (fun es =>
        { k := w 0 % 32 + 1, nprobe := field 12 5 (w 0) + 1, fromEvidence := src, lf := w 1 % 64,
          uwb := if bit 15 (w 1) then some (field 13 8 (w 1)) else none, limit := w 2 + 65536 * w 3,
          raw := if src then [] else (slice 4 32 ws).map rawWord } :: es)

/-- The LF record at an index. -/
def Dev.lfAt (d : Dev) (i : Nat) : Option (Evidence × Bytes) :=
  match d.rel.evidence.getD i none with
  | some e => (match e.kind with | .lf r _ => some (e, r) | _ => none)
  | none => none

/-- The RANGE_BOUND record at an index. -/
def Dev.uwbAt (d : Dev) (i : Nat) : Option (Evidence × (Int × Word × Word × Word)) :=
  match d.rel.evidence.getD i none with
  | some e => (match e.kind with | .uwb _ t _ az el p _ => some (e, (t, az, el, p)) | _ => none)
  | none => none

/-- The evidence indices of a query are good (R273 order 4). -/
def Dev.queryOk (d : Dev) (e : QueryEntry) : Bool :=
  !e.fromEvidence || (match d.lfAt e.lf, e.uwb with
    | some (l, _), some i => (d.uwbAt i).any (fun u => u.1.slot == l.slot)
    | some _, none => true
    | none, _ => false)

/-- A query's raw vector. -/
def Dev.rawOf (d : Dev) (e : QueryEntry) : List (Option Int) :=
  if e.fromEvidence then rawVector (((d.lfAt e.lf).map Prod.snd).getD []) (e.uwb.bind (fun i => (d.uwbAt i).map Prod.snd)) else e.raw

/-- One query's result: neighbours, plausible (R269). -/
def runQuery (m : Bytes) (raw : List (Option Int)) (e : QueryEntry) : List Neighbour × Bool :=
  let ns := neighbours m (m.drop (bodyAt m)) (queryVector m raw) e.k e.nprobe
  let limit := if e.limit = 0 then imgLimit m else e.limit
  (ns, ns.head?.any (fun n => n.dist < limit))

/-- Words of a result (R274), word 1 left for the evidence index. -/
def resultWords (src : Bool) (ns : List Neighbour) (plaus : Bool) : List Word :=
  word (ns.length + 64 * b2n plaus + 256 * ((ns.head?.map (fun n => zoneOf n.label)).getD 0)) ::
  (if src then 0 else 0xFFFF) :: ns.flatMap (fun n => leWords 2 n.id ++ [word n.label] ++ leWords 2 n.dist)

/-- The atlas evidence record of a query (R275). -/
def Dev.atlasRecord (d : Dev) (m : Bytes) (e : QueryEntry) (ns : List Neighbour) (plaus : Bool) : Evidence :=
  let lf := d.lfAt e.lf
  ⟨.atlas e.lf e.uwb ((lf.map (fun p => p.1.esn.toNat)).getD 0) (e.uwb.bind (fun i => (d.uwbAt i).map (fun p => p.1.esn.toNat)))
    (imgId m) plaus ns, (lf.map (fun p => p.1.slot)).getD 0, 0, Window.none⟩

/-- Results and evidence of the queries, from payload word `at_` on. -/
def Dev.runQueries (d : Dev) (m : Bytes) : Nat → List QueryEntry → List Word × List (Nat × Evidence) × Bool
  | _, [] => ([], [], true)
  | at_, e :: es =>
    let r := runQuery m (d.rawOf e) e
    let ws := resultWords e.fromEvidence r.1 r.2
    let rest := Dev.runQueries d m (at_ + ws.length) es
    (ws ++ rest.1, (if e.fromEvidence then [(at_ + 1, d.atlasRecord m e r.1 r.2)] else []) ++ rest.2.1, r.2 && rest.2.2)

/-- Whole entries the list cache holds (R276). -/
def cacheRoom (m : Bytes) : Nat := (4194304 - 4 * (imgL m + 1)) / 16

/-- Lists that fit the room, most recent first. -/
def cacheFit (size : Nat → Nat) : Nat → List Nat → List Nat
  | _, [] => []
  | room, l :: ls => if size l ≤ room then l :: cacheFit size (room - size l) ls else []

/-- The lists cached: none while `ATL.CACHE_MODE` is 0 (R276). -/
def Dev.listCache (d : Dev) : List Nat := if d.setting 0x080001 = 0 then [] else d.atlas.cache

/-- Lists probed by the queries, each once. -/
def Dev.probed (d : Dev) (m : Bytes) (es : List QueryEntry) : List Nat :=
  (es.flatMap (fun e => probes m (m.drop (bodyAt m)) (queryVector m (d.rawOf e)) e.nprobe)).dedup

/-- The lists of the queries are read (R273 orders 5–7, R276, R279): the status that stops them, or the cache they leave. -/
def Dev.scanLists (d : Dev) (m : Bytes) (dl : Bool) (es : List QueryEntry) (nand : NandRead) : Option Status × Dev :=
  if d.atlas.reloadFailed then (some .mediaUncorrectable, d)
  else
    let body := m.drop (bodyAt m)
    let size := listSize m body
    let lists := d.probed m es
    let streamed := lists.filter (fun l => size l != 0 && !d.listCache.contains l)
    let each := es.flatMap (fun e => probes m body (queryVector m (d.rawOf e)) e.nprobe)
    let ec := (each.filter d.listCache.contains).foldl (fun a l => a + size l) 0
    let en := streamed.foldl (fun a l => a + size l) 0
    if dl && d.setting 0x080000 = 1 && (1200000 < ec || 16000 < en) then (some .stateConflict, d)
    else if d.nandLost nand && !streamed.isEmpty then (some .mediaUncorrectable, d.nandMet nand)
    else
      let d := if streamed.isEmpty then d else d.nandMet { nand with lost := false }
      let kept := if d.setting 0x080001 = 0 then [] else
        cacheFit size (cacheRoom m) ((lists.filter (fun l => size l ≤ cacheRoom m)) ++ d.atlas.cache.filter (fun l => !lists.contains l))
      (none, { d with atlas := { d.atlas with cache := kept } })

/-- ATLAS_QUERY (R272–R276): a query that starts during the reload waits for its end (R280). -/
def atlasQuery (tag : Nat) (nand : NandRead) (d : Dev) : Dev :=
  if d.atlas.active.isSome && !d.atlas.loaded && !d.atlas.reloadFailed &&
      (d.cmd tag).any (fun c => (d.check c (d.recordClass c)).isNone && !d.late c) then d
  else
    Dev.startCmd (isOp 0x60) tag (fun c d =>
      let n := c.w 7
      match d.atlas.active, queryEntries n c.payload with
      | _, none => d.hostError c
      | none, some _ => if 1 < c.w 6 || !c.zeroFrom 8 then d.hostError c else d.fail tag .atlasAbsent
      | some (_, m), some es =>
        let dl := c.w 6 = 1
        if 1 < c.w 6 || !c.zeroFrom 8 then d.hostError c
        else if n = 0 || 64 < n || (dl && 4 < n) then d.fail tag .stateConflict
        else if 512 < es.foldl (fun a e => a + 2 + 5 * e.k) 0 then d.fail tag .stateConflict
        else if !es.all d.queryOk then d.fail tag .stateConflict
        else
          match d.scanLists m dl es nand with
          | (some st, d) => d.fail tag st
          | (none, d) =>
            let r := d.runQueries m 0 es
            d.finish tag ⟨if r.2.2 then .done else .notPlausible, r.1, .atlasEvidence r.2.1, none, []⟩) d

def execAtlasQuery (tag : Nat) (nand : NandRead) (s : State) : Host.Outcome State Fault Refusal := run (atlasQuery tag nand) s

/-! ### ATLAS_LOAD (R283–R287) -/

/-- Code of the active volume in an ATLAS record: 0 V0, 1 V1, 0xFF none. -/
def Dev.activeVol (d : Dev) : Nat := (d.atlas.active.map Prod.fst).getD 0xFF

/-- The load is abandoned by a command of opcode `op`, with its ATLAS record (R138, R285). -/
def Dev.abandonLoad (tag op : Nat) (d : Dev) : Dev :=
  if d.atlas.load.state = 0 then d
  else
    let d := (d.presentOn 11).log oHost tag op (draft 0x72 0x08 d.atlas.load.image d.activeVol d.activeVol 0)
    { d with atlas := { d.atlas with load := AtlasLoad.idle } }

/-- The header's own requirements (R282). -/
def Dev.headerOk (d : Dev) (m : Bytes) : Bool :=
  le4 m 0 == 0x314C5441 && le2 m 4 == 1 && le2 m 6 == 256 && 1 ≤ imgId m && imgId m ≤ 0xFFFFFFFE && imgId m == d.atlas.load.image &&
  (d.atlas.active.isNone || (d.atlas.active.map (fun a => imgSeq a.2)).getD 0 < imgSeq m) &&
  le4 m 16 == d.cru.wakeId && 1 ≤ imgN m && imgL m ≤ 65536 && imgShift m ≤ 31 && 1 ≤ imgLimit m &&
  imgC m == ceilDiv (bodyLen m) chunkBytes && imgC m ≤ 16385 && zeroAt 27 1 m && zeroAt 42 6 m && zeroAt 112 144 m

/-- The signature over header and hash table (R283). -/
def Dev.imageSigned (d : Dev) (m : Bytes) : Bool :=
  let n := 256 + 32 * imgC m
  ecdsaVerify (d.key 4).material (sha256 (m.take n)) (slice n 64 m)

/-- The directory is well formed (R283). -/
def directoryOk (m body : Bytes) : Bool :=
  let l := imgL m
  startOf m body 0 == 0 && startOf m body l == imgN m &&
  (List.range l).all (fun i => startOf m body i ≤ startOf m body (i + 1)) &&
  (List.range l).foldl (fun a i => max a (listSize m body i)) 0 == le4 m 28

/-- Entries of [lo, hi) body bytes are well formed (R283). -/
def entriesOk (m body : Bytes) (hi : Nat) : Bool :=
  let n := min (imgN m) ((hi - entriesAt m) / 16)
  (List.range n).all (fun i =>
    let e := entryAt m body i
    e.1.id != 0xFFFFFFFF && e.2 == 0 && bit (zoneOf e.1.label) (imgZones m))

/-- End of chunk i in the body. -/
def chunkEnd (m : Bytes) (i : Nat) : Nat := min (bodyLen m) ((i + 1) * chunkBytes)

/-- What the chunks that are complete bring about: none left, a verified one, or the status of a failure with the load it
leaves. -/
def advanceLoad : Nat → AtlasLoad → AtlasLoad × Option Status
  | 0, l => (l, none)
  | f + 1, l =>
    let m := l.bytes
    let body := m.drop (bodyAt m)
    let i := l.chunks
    let hi := chunkEnd m i
    if imgC m ≤ i || body.length < hi then (l, none)
    else
      let lo := i * chunkBytes
      if sha256 (slice lo (hi - lo) body) != slice (256 + 32 * i) 32 m then ({ l with bytes := m.take (bodyAt m + lo) }, some .imageInvalid)
      else if (lo < entriesAt m && entriesAt m ≤ hi && !directoryOk m body) || !entriesOk m body hi then (AtlasLoad.idle, some .imageInvalid)
      else advanceLoad f { l with chunks := i + 1, state := if i + 1 = imgC m then 3 else 2 }

/-- The 8 result words (R287). -/
def AtlasLoad.words (l : AtlasLoad) : List Word :=
  leWords 3 l.bytes.length ++ [word l.state] ++ leWords 2 l.chunks ++ leWords 2 (if 256 ≤ l.bytes.length then imgC l.bytes else 0)

def Dev.setLoad (l : AtlasLoad) (d : Dev) : Dev := { d with atlas := { d.atlas with load := l } }

/-- Bytes taken by the load in progress (R284–R286). -/
def Dev.takeImage (tag : Nat) (data : Bytes) (d : Dev) : Dev :=
  let l := d.atlas.load
  let m := l.bytes ++ data
  if 256 ≤ m.length && imgLen m < m.length then d.fail tag .stateConflict
  else
    let sigNow := !l.verified && 256 ≤ m.length && bodyAt m ≤ m.length
    if sigNow && d.keyBad 4 then (Dev.abandonLoad tag 0x61 { d with atlas := { d.atlas with load := { l with bytes := m } } }).slotFail tag 4
    else if sigNow && !(d.headerOk m && d.imageSigned m) then
      (Dev.abandonLoad tag 0x61 { d with atlas := { d.atlas with load := { l with bytes := m } } }).fail tag .imageInvalid
    else if sigNow && d.med.atlasMib * 1048576 < imgLen m then (d.abandonLoad tag 0x61).fail tag .stateConflict
    else
      let l := { l with bytes := m, verified := l.verified || sigNow, state := if l.verified || sigNow then 2 else 1,
                        seq := imgSeq m, total := imgLen m }
      let r := if l.verified then advanceLoad 3 l else (l, none)
      let moved := sigNow || r.1.chunks != l.chunks
      let d := if moved then d.recordWrite (some tag) [78] [77] (.checkpoint d.atlas.load.verified d.atlas.load.chunks) else d
      match r.2 with
      | some st => if r.1.state = 0 then (d.abandonLoad tag 0x61).fail tag st else (d.setLoad r.1).fail tag st
      | none =>
        let d := d.setLoad r.1
        let d := if r.1.state = 3 && l.state != 3 then d.signal 143 else d
        d.reply tag r.1.words

/-- ATLAS_LOAD (R284). -/
def atlasLoad (tag : Nat) : Dev → Dev :=
  Dev.startCmd (isOp 0x61) tag fun c d =>
    let id := c.w2 6
    let off := c.w3 8
    let begin_ := bit 0 (c.w 11)
    let l := d.atlas.load
    if 1 < c.w 11 || !c.zeroFrom 12 then d.hostError c
    else if !d.med.ready then d.fail tag .stateConflict
    else if begin_ && (l.state = 0 || id != l.image) then
      if off != 0 then d.fail tag .stateConflict
      else
        let d := (d.abandonLoad tag 0x61).setLoad { AtlasLoad.idle with state := 1, image := id }
        Dev.takeImage tag c.bytes { d with atlas := { d.atlas with former := [] } }
    else if begin_ then
      if c.plen != 0 then d.fail tag .stateConflict
      else if l.state = 4 then
        let l := { l with state := if l.verified then 2 else 1, bytes := if l.verified then l.bytes else [] }
        (d.setLoad l).reply tag l.words
      else d.reply tag l.words
    else if l.state = 0 || l.state = 3 || l.state = 4 || id != l.image || off != l.bytes.length then d.fail tag .stateConflict
    else d.takeImage tag c.bytes

def execAtlasLoad (tag : Nat) (s : State) : Host.Outcome State Fault Refusal := run (atlasLoad tag) s

/-- A load in HEADER or BODY is SUSPENDED, back at its checkpoint (R286). -/
def AtlasLoad.suspend (l : AtlasLoad) : AtlasLoad :=
  if l.state = 1 || l.state = 2 then
    { l with state := 4, bytes := if l.verified then l.bytes.take (bodyAt l.bytes + chunkBytes * l.chunks) else [] }
  else l

/-! ### ATLAS_COMMIT, ATLAS_INFO, the reload (R280, R288, R289) -/

/-- Once no ATLAS_QUERY executes, ATLSEL is rewritten to name the shadow volume, copy B first, and the completion with its ATLAS record
follows the page writes (R288, R473). -/
def Dev.commitWrites (tag : Nat) (d : Dev) : Dev :=
  if d.cmds.any (fun b => b.op == 0x60 && b.executing) then d
  else
    let l := d.atlas.load
    let vol := if d.activeVol = 0 then 1 else 0
    (d.recordWrite (some tag) [76] [75] .select).finish tag
      ⟨.done, leWords 2 l.image ++ leWords 2 (imgSeq l.bytes) ++ [word vol, 0, 0, 0], .atlasCommit, none,
        [draft 0x72 0x08 l.image d.activeVol vol 0]⟩

/-- ATLAS_COMMIT (R288): `nand` is the re-read of the shadow. -/
def atlasCommit (tag : Nat) (nand : NandRead) : Dev → Dev :=
  Dev.startCmd (isOp 0x62) tag fun c d =>
    let l := d.atlas.load
    if !c.zeroFrom 6 then d.hostError c
    else if l.state != 3 then d.fail tag .atlasAbsent
    else if d.nandLost nand then (d.nandMet nand).fail tag .mediaUncorrectable
    else if d.keyBad 4 then (d.nandMet nand).slotFail tag 4
    else if !(d.headerOk l.bytes && d.imageSigned l.bytes) then (d.abandonLoad tag 0x62).fail tag .imageInvalid
    else ((d.nandMet nand).setPhase tag (.running .commit)).commitWrites tag

def execAtlasCommit (tag : Nat) (nand : NandRead) (s : State) : Host.Outcome State Fault Refusal := run (atlasCommit tag nand) s

/-- The effect of a DONE ATLAS_COMMIT: the shadow becomes the active volume and the former active volume the shadow, and the reload is
due (R280, R288). -/
def Dev.applyCommitAtlas (d : Dev) : Dev :=
  let m := d.atlas.load.bytes
  let vol := if d.activeVol = 0 then 1 else 0
  { d with
    atlas := { d.atlas with
      active := some (vol, m), load := AtlasLoad.idle, loaded := false, reloadFailed := false, cache := [],
      former := (d.atlas.active.map Prod.snd).getD [] },
    nv := { d.nv with atlSel := some (vol, imgId m, imgSeq m) } }

/-- Entries cached. -/
def Dev.cacheEntries (d : Dev) : Nat :=
  match d.atlas.active with
  | some (_, m) => d.listCache.foldl (fun a l => a + listSize m (m.drop (bodyAt m)) l) 0
  | none => 0

/-- ATLAS_INFO (R289). -/
def atlasInfo (tag : Nat) : Dev → Dev :=
  Dev.startCmd (isOp 0x63) tag fun c d =>
    let l := d.atlas.load
    if !c.zeroFrom 6 then d.hostError c
    else
      match d.atlas.active with
      | none => d.fail tag .atlasAbsent
      | some (vol, m) =>
        d.reply tag (leWords 2 (imgId m) ++ leWords 2 (imgSeq m) ++ leWords 2 (imgN m) ++
          [word (imgLa m), word (imgLb m), word (imgShift m)] ++ leWords 2 (le4 m 28) ++ leWords 2 (imgLimit m) ++
          [word (imgZones m), word vol, word l.state] ++ leWords 2 l.image ++ leWords 3 l.bytes.length ++ leWords 2 l.chunks ++
          leWords 2 (if 256 ≤ l.bytes.length then imgC l.bytes else 0) ++ leWords 2 d.cacheEntries ++ leWords 2 d.atlas.queries ++
          [word (b2n d.atlas.loaded)] ++ List.replicate 34 0)

def execAtlasInfo (tag : Nat) (s : State) : Host.Outcome State Fault Refusal := run (atlasInfo tag) s

/-- The reload becomes due (R280). -/
def Dev.reloadDue (d : Dev) : Dev := { d with atlas := { d.atlas with loaded := false, reloadFailed := false, cache := [] } }

/-- ATLAS_RELOAD (R280): a reload that cannot read its data, from a medium that cannot be used among them, presents ATLAS_EVENT
(source 143). -/
def atlasReload (nand : NandRead) (d : Dev) : Dev :=
  if d.atlas.active.isNone || d.atlas.loaded || d.atlas.reloadFailed || (d.mediumOk && !d.med.ready) || !d.domOn 13 || !d.domOn 14 || !d.awake then d
  else if d.nandLost nand || !d.mediumOk then
    let d := if d.mediumOk then d.nandMet nand else d
    Dev.signal 143 { d with atlas := { d.atlas with reloadFailed := true } }
  else { d.nandMet nand with atlas := { d.atlas with loaded := true, reloadFailed := false, cache := [] } }

def execAtlasReload (nand : NandRead) (s : State) : Host.Outcome State Fault Refusal := run (atlasReload nand) s

end Sys2Proof.Machine
end

