-- ==== Sys2Proof/Machine/Hammer.lean ====
section
/-!
DEFINITION. The Hammer sequencers (chapter 17): instruction words and their decoding, the data space, a script's start and end, the
short instruction classes, waits, and event entries. The unit operations stand in HammerUnit; images in HammerLoad.
-/

namespace Sys2Proof.Machine

/-! ### Instruction words (R406) -/

/-- An instruction word's fields. -/
structure HWord where
  cls : Nat
  op : Nat
  d : Nat
  a : Nat
  b : Nat
  x : Bool
  i : Int
  imm : BitVec 32
deriving DecidableEq, Repr

/-- The unsigned bits of field I. -/
def HWord.iBits (h : HWord) : Nat := (h.i % 2048).toNat

def hWordOf (w imm : Nat) : HWord :=
  { cls := field 31 28 w, op := field 27 24 w, d := field 23 20 w, a := field 19 16 w, b := field 15 12 w, x := bit 11 w,
    i := signed 11 (w % 2048), imm := BitVec.ofNat 32 imm }

/-- Class, operation and parameter values are not reserved, and fields not used are 0 (R406–R413). -/
def HWord.legal (h : HWord) : Bool :=
  let d0 := h.d == 0
  let a0 := h.a == 0
  let b0 := h.b == 0
  let i0 := h.i == 0
  let x0 := !h.x
  let imm := !h.x || i0
  match h.cls with
  | 0 => h.op ≤ 12 && (d0 || (h.op != 10 && h.op != 11)) && (a0 || (h.op != 9 && h.op != 12)) && x0 && i0
  | 1 => h.op ≤ 12 && (d0 || (h.op != 10 && h.op != 11)) && (a0 || (h.op != 9 && h.op != 12)) && b0 && imm
  | 2 => h.op ≤ 2 && b0 && imm
  | 3 => h.op ≤ 2 && b0 && imm
  | 4 => if h.op ≤ 9 then d0 && a0 && b0 && imm else if h.op = 10 then d0 && a0 && b0 && x0 && i0
         else h.op = 11 && d0 && b0 && x0 && i0
  | 5 => if h.op = 0 then a0 && x0 && h.iBits < 160 else h.op = 1 && d0 && b0 && x0 && i0
  | 6 => h.op ≤ 10 && b0 && x0 && i0
  | 7 =>
    match h.op with
    | 0 => d0 && b0 && x0 && h.iBits < 4
    | 1 => d0 && a0 && b0 && x0 && i0
    | 2 => d0 && a0 && b0 && x0 && h.iBits < 2
    | 3 => d0 && a0 && b0 && x0 && h.iBits < 4
    | 4 => a0 && b0 && x0 && i0
    | 5 => b0 && x0 && i0
    | 6 => x0 && i0
    | 7 => x0 && i0
    | 8 => a0 && b0 && x0 && i0
    | 9 => d0 && a0 && b0 && x0 && i0
    | _ => false
  | _ => false

/-- Bytes of the instruction. -/
def HWord.len (h : HWord) : Nat := if h.x then 8 else 4

/-! ### Sequencer state -/

def Dev.seqr (d : Dev) (q : Nat) : Seqr := if q = 0 then d.ham.a else d.ham.b
def Seqr.reg (s : Seqr) (n : Nat) : BitVec 32 := s.w.getD (n % 16) 0
def Seqr.num (s : Seqr) (n : Nat) : Nat := (s.reg n).toNat
def Seqr.setReg (s : Seqr) (n : Nat) (v : BitVec 32) : Seqr := { s with w := s.w.set (n % 16) v }
def Seqr.flag (s : Seqr) (n : Nat) : Bool := bit n s.flags
def Seqr.secure (s : Seqr) : Bool := s.flag 5
/-- Z, N, C and V replaced; the other flags stay. -/
def Seqr.setFlags (s : Seqr) (z n c v : Bool) : Seqr := { s with flags := s.flags / 16 * 16 + bitsNat [z, n, c, v] }
def Seqr.setZ (s : Seqr) (z : Bool) : Seqr := { s with flags := s.flags / 2 * 2 + b2n z }
def Seqr.codeLen (s : Seqr) : Nat := (s.image.map Script.codeLen).getD 0
/-- A word of instruction RAM. -/
def Seqr.codeWord (s : Seqr) (a : Nat) : Nat := leNat (cellsRead (0 : Byte) a 4 s.iram)
/-- The instruction at PC. -/
def Seqr.fetch (s : Seqr) : HWord := hWordOf (s.codeWord s.pc) (s.codeWord (s.pc + 4))

/-! ### Data space (R404) -/

/-- Every byte of [a, a + n) is in reach of the script. -/
def Seqr.inData (s : Seqr) (a n : Nat) : Bool :=
  (a + n ≤ 0x4000 && (List.range 4).all (fun b => bit b s.claimed || a + n ≤ 0x1000 * b || 0x1000 * (b + 1) ≤ a)) ||
  (0x10000 ≤ a && a + n ≤ 0x10800)

/-- `n` bytes of the data space. -/
def Dev.dataRead (d : Dev) (q a n : Nat) : Bytes :=
  if a < 0x10000 then cellsRead (0 : Byte) a n d.ham.banks else slice (a - 0x10000) n ((d.seqr q).ib ++ (d.seqr q).ob)

/-- Bytes written to the data space. -/
def Dev.dataWrite (q a : Nat) (bs : Bytes) (d : Dev) : Dev :=
  if a < 0x10000 then { d with ham := { d.ham with banks := cellsWrite (0 : Byte) a bs d.ham.banks } }
  else d.onSeq q (fun s => { s with ob := overwrite s.ob (a - 0x10400) bs })

/-- What an instruction comes to: it goes on, faults with an end cause of R426, or waits with nothing done. -/
inductive HOut where
  | go (d : Dev)
  | fault (cause : Nat)
  | stay
deriving DecidableEq, Repr

/-- Bytes read from a pointer, or a BOUNDS fault. -/
def Dev.need (d : Dev) (q a n : Nat) (k : Bytes → HOut) : HOut :=
  if (d.seqr q).inData a n then k (d.dataRead q a n) else .fault 3

/-- Bytes written at a pointer: a BOUNDS fault outside the data space, an IB_WRITE fault in IB. -/
def Dev.put (d : Dev) (q a : Nat) (bs : Bytes) (k : Dev → HOut) : HOut :=
  if !(d.seqr q).inData a bs.length then .fault 3
  else if 0x10000 ≤ a && a < 0x10400 && bs != [] then .fault 4
  else k (d.dataWrite q a bs)

/-! ### The end of a script (R405, R425, R426) -/

/-- Bytes of a claimed bank are cleared. -/
def clearBanks (claimed : Nat) (cs : List Host.Cell) : List Host.Cell :=
  (bitsOf 4 claimed).foldl (fun cs b => cellsClear (0x1000 * b) 0x1000 cs) cs

/-- A script's state zeroised (R405); instruction RAM and the resident image stay. -/
def Dev.zeroiseSeq (q : Nat) (d : Dev) : Dev :=
  let s := d.seqr q
  let d := { d with ham := { d.ham with banks := clearBanks s.claimed d.ham.banks } }
  let d := d.onSeq q (fun s => { s with
    w := List.replicate 16 0, flags := 0, prog := 0, frames := [], claimed := 0, ib := List.replicate 1024 0,
    ob := List.replicate 1024 0, running := none, rom := false, wait := none })
  { d with evc := if q = 0 then { d.evc with actA := [] } else { d.evc with actB := [] } }

/-- The loaded script of a sequencer ends with a cause of R426, and its SCRIPT_RUN with a result. -/
def Dev.endScript (q cause : Nat) (r : Result) (d : Dev) : Dev :=
  let s := d.seqr q
  let d := (d.zeroiseSeq q).onSeq q (fun t => { t with endCause := cause, endPc := s.pc })
  match s.running with
  | some tag => d.finish tag r
  | none => d

/-- A loaded script runs on the sequencer and is not halted. -/
def Dev.scriptRuns (d : Dev) (q : Nat) : Bool :=
  let s := d.seqr q
  s.running.isSome && !s.rom && !s.halted && d.domOn (11 + q) && !d.domGated (11 + q) && d.awake

/-- An instruction row: when the word at PC is of the class and operations named, `body` carries it out. An illegal word faults
whatever the row, and nothing runs at a breakpoint (R429); a PC at or beyond CODE_LEN is a CODE_RANGE fault (R409). -/
def Dev.instr (q cls : Nat) (ops : List Nat) (body : HWord → Seqr → Dev → HOut) (d : Dev) : Dev :=
  let q := q % 2
  if !d.scriptRuns q || (d.seqr q).breakpoints.contains (d.seqr q).pc then d
  else
    let s := d.seqr q
    let h := s.fetch
    let out := if s.codeLen ≤ s.pc then HOut.fault 7
      else if !h.legal || s.codeLen < s.pc + h.len then .fault 1
      else if h.cls = cls && ops.contains h.op then body h s d else .stay
    match out with
    | .go d => d
    | .fault c => d.endScript q c (Result.plain .stateConflict)
    | .stay => d

/-- The instruction is complete: registers as `f` leaves them, and PC at the next one. -/
def Dev.next (q : Nat) (h : HWord) (f : Seqr → Seqr) (d : Dev) : HOut :=
  .go (d.onSeq q (fun s => { f s with pc := s.pc + h.len, prog := 0, wait := none }))

/-! ### ALU (R407) -/

/-- Result, carry and overflow of an ALU operation. -/
def alu (op : Nat) (a s : BitVec 32) : BitVec 32 × Bool × Bool :=
  let n := s.toNat % 32
  match op with
  | 0 => (a + s, 2 ^ 32 ≤ a.toNat + s.toNat, a.msb == s.msb && (a + s).msb != a.msb)
  | 1 => (a - s, s.toNat ≤ a.toNat, a.msb != s.msb && (a - s).msb != a.msb)
  | 2 => (a &&& s, false, false)
  | 3 => (a ||| s, false, false)
  | 4 => (a ^^^ s, false, false)
  | 5 => (a <<< n, n != 0 && a.getLsbD (32 - n), false)
  | 6 => (a >>> n, n != 0 && a.getLsbD (n - 1), false)
  | 7 => (a.sshiftRight n, n != 0 && a.getLsbD (n - 1), false)
  | 8 => (a * s, false, false)
  | 9 => (s, false, false)
  | 10 => (a - s, s.toNat ≤ a.toNat, a.msb != s.msb && (a - s).msb != a.msb)
  | 11 => (a &&& s, false, false)
  | _ => (~~~s, false, false)

/-- Operand S: W[B], or the immediate (R407). -/
def Seqr.operand (s : Seqr) (h : HWord) : BitVec 32 :=
  if h.cls = 0 then s.reg h.b else if h.x then h.imm else BitVec.ofInt 32 h.i

/-- An ALU operation, with a register or an immediate. -/
def aluOp (q op : Nat) (d : Dev) : Dev :=
  let q := q % 2
  let h := (d.seqr q).fetch
  Dev.instr q (if h.cls = 1 then 1 else 0) [op] (fun h s d =>
    let r := alu op (s.reg h.a) (s.operand h)
    d.next q h (fun s =>
      (if op = 10 || op = 11 then s else s.setReg h.d r.1).setFlags (r.1 == 0) r.1.msb r.2.1 r.2.2)) d

def execAdd (seq : Nat) (s : State) : Host.Outcome State Fault Refusal := run (aluOp seq 0) s
def execSub (seq : Nat) (s : State) : Host.Outcome State Fault Refusal := run (aluOp seq 1) s
def execAnd (seq : Nat) (s : State) : Host.Outcome State Fault Refusal := run (aluOp seq 2) s
def execOr (seq : Nat) (s : State) : Host.Outcome State Fault Refusal := run (aluOp seq 3) s
def execXor (seq : Nat) (s : State) : Host.Outcome State Fault Refusal := run (aluOp seq 4) s
def execShl (seq : Nat) (s : State) : Host.Outcome State Fault Refusal := run (aluOp seq 5) s
def execShr (seq : Nat) (s : State) : Host.Outcome State Fault Refusal := run (aluOp seq 6) s
def execSar (seq : Nat) (s : State) : Host.Outcome State Fault Refusal := run (aluOp seq 7) s
def execMul (seq : Nat) (s : State) : Host.Outcome State Fault Refusal := run (aluOp seq 8) s
def execMov (seq : Nat) (s : State) : Host.Outcome State Fault Refusal := run (aluOp seq 9) s
def execCmp (seq : Nat) (s : State) : Host.Outcome State Fault Refusal := run (aluOp seq 10) s
def execTst (seq : Nat) (s : State) : Host.Outcome State Fault Refusal := run (aluOp seq 11) s
def execNot (seq : Nat) (s : State) : Host.Outcome State Fault Refusal := run (aluOp seq 12) s

/-! ### LOAD, STORE, BRANCH (R408, R409) -/

def widthOf (op : Nat) : Nat := if op = 0 then 4 else if op = 1 then 2 else 1
/-- Address of a LOAD or STORE. -/
def Seqr.address (s : Seqr) (h : HWord) : Nat := (s.reg h.a + (if h.x then h.imm else BitVec.ofInt 32 h.i)).toNat

/-- LOAD (R408). -/
def loadOp (q : Nat) : Dev → Dev :=
  Dev.instr q 2 [0, 1, 2] fun h s d =>
    let a := s.address h
    let n := widthOf h.op
    if a % n != 0 then .fault 2
    else d.need (q % 2) a n (fun bs => d.next (q % 2) h (fun s => s.setReg h.d (BitVec.ofNat 32 (leNat bs))))

def execLoad (seq : Nat) (s : State) : Host.Outcome State Fault Refusal := run (loadOp seq) s

/-- STORE (R408). -/
def storeOp (q : Nat) : Dev → Dev :=
  Dev.instr q 3 [0, 1, 2] fun h s d =>
    let a := s.address h
    let n := widthOf h.op
    if a % n != 0 then .fault 2
    else d.put (q % 2) a (leBytes n (s.num h.d)) (fun d => d.next (q % 2) h id)

def execStore (seq : Nat) (s : State) : Host.Outcome State Fault Refusal := run (storeOp seq) s

/-- A branch condition (R409). -/
def Seqr.holds (s : Seqr) (op : Nat) : Bool :=
  let z := s.flag 0
  let n := s.flag 1
  let c := s.flag 2
  let v := s.flag 3
  match op with
  | 1 => z
  | 2 => !z
  | 3 => n != v
  | 4 => n == v
  | 5 => !c
  | 6 => c
  | 7 => n
  | 8 => !n
  | _ => true

/-- A jump to a target, or a CODE_RANGE fault (R409). -/
def Dev.jump (q : Nat) (t : Nat) (f : Seqr → Seqr) (d : Dev) : HOut :=
  if (d.seqr q).codeLen ≤ t || t % 4 != 0 then .fault 7
  else .go (d.onSeq q (fun s => { f s with pc := t, prog := 0, wait := none }))

/-- Target of a branch: PC + 4·I, or the immediate. -/
def Seqr.target (s : Seqr) (h : HWord) : Nat := if h.x then h.imm.toNat else (BitVec.ofInt 32 (s.pc + 4 * h.i)).toNat

/-- BRANCH, OPs 0–8 (R409). -/
def branchOp (q : Nat) : Dev → Dev :=
  Dev.instr q 4 [0, 1, 2, 3, 4, 5, 6, 7, 8] fun h s d =>
    if s.holds h.op then d.jump (q % 2) (s.target h) id else d.next (q % 2) h id

def execBranch (seq : Nat) (s : State) : Host.Outcome State Fault Refusal := run (branchOp seq) s

/-- CALL (R409). -/
def callOp (q : Nat) : Dev → Dev :=
  Dev.instr q 4 [9] fun h s d => d.jump (q % 2) (s.target h) (fun t => t.setReg 15 (BitVec.ofNat 32 (s.pc + h.len)))

def execCall (seq : Nat) (s : State) : Host.Outcome State Fault Refusal := run (callOp seq) s

/-- RET (R409). -/
def retOp (q : Nat) : Dev → Dev := Dev.instr q 4 [10] fun _ s d => d.jump (q % 2) (s.num 15) id

def execRet (seq : Nat) (s : State) : Host.Outcome State Fault Refusal := run (retOp seq) s

/-- JR (R409). -/
def jrOp (q : Nat) : Dev → Dev := Dev.instr q 4 [11] fun h s d => d.jump (q % 2) (s.num h.a) id

def execJr (seq : Nat) (s : State) : Host.Outcome State Fault Refusal := run (jrOp seq) s

/-! ### Pending sources of a sequencer (R154–R158) -/

def Dev.pendOf (d : Dev) (q : Nat) : List (Option Nat) := if q = 0 then d.evc.pendA else d.evc.pendB
def Dev.actOf (d : Dev) (q : Nat) : List Nat := if q = 0 then d.evc.actA else d.evc.actB

/-- A pending bit cannot be cleared while the condition of its kind L source, or the active level of an input with TRIG = 3,
holds (R156). -/
def Dev.sticks (d : Dev) (n : Nat) : Bool :=
  match sourceKind n with
  | .level => d.evc.cond.getD n false
  | .input => field 8 7 (d.srcCfg n) = 3 && d.active n
  | .event => false

/-- A source's pending bit for a sequencer cleared, where R156 lets it. -/
def Dev.clearPend (q n : Nat) (d : Dev) : Dev :=
  if d.sticks n then d
  else if q = 0 then { d with evc := { d.evc with pendA := d.evc.pendA.set n none } }
  else { d with evc := { d.evc with pendB := d.evc.pendB.set n none } }

/-- Priority of a source, and its group (R154). -/
def Dev.prio (d : Dev) (n : Nat) : Nat := d.srcCfg n % 16
def Dev.group (d : Dev) (n : Nat) : Nat := d.prio n / 2 ^ (4 - min 4 d.evc.prigroup)

/-- The best of some sources: lowest priority, then lowest number (R154). -/
def Dev.best (d : Dev) (ns : List Nat) : Option Nat := (leastBy d.prio 0 ns).bind (fun p => ns[p.1]?)

/-- The source offered to a sequencer (R158). -/
def Dev.offered (d : Dev) (q : Nat) : Option Nat :=
  if 4 ≤ (d.actOf q).length then none
  else d.best ((List.range 160).filter (fun n =>
    ((d.pendOf q).getD n none).isSome && (d.actOf q).all (fun a => d.group n < d.group a)))

/-! ### WAIT (R410) -/

/-- WAITEV (R410): an awaited source that is pending, with a stamp before the close as R45 has it reached, ends the wait. -/
def waitevOp (q : Nat) : Dev → Dev :=
  Dev.instr q 5 [0] fun h s d =>
    let q := q % 2
    let n := h.iBits
    let w := s.wait.getD (if s.num h.b = 0 then ⟨d.now, 2 ^ 64, d.clock.unc⟩ else d.opened (s.num h.b))
    match (d.pendOf q).getD n none with
    | some t =>
      if t < d.closeAt w then (d.clearPend q n).next q h (fun s => (s.setReg h.d (BitVec.ofNat 32 n)).setZ false)
      else .go (d.onSeq q (fun s => { s with wait := some w }))
    | none => .go (d.onSeq q (fun s => { s with wait := some w }))

def execWaitev (seq : Nat) (s : State) : Host.Outcome State Fault Refusal := run (waitevOp seq) s

/-- WAITEV_TIMEOUT (R410): the window of the wait closes. The wait stands in the sequencer, so its close is no event of the arbiter (log
109). -/
def waitevTimeout (q : Nat) : Dev → Dev :=
  Dev.instr q 5 [0] fun h s d =>
    match s.wait with
    | some w =>
      if w.close = 2 ^ 64 then .stay
      else (d.toClose w).next (q % 2) h (fun s => (s.setReg h.d (BitVec.ofNat 32 0xFFFFFFFF)).setZ true)
    | none => .stay

def execWaitevTimeout (seq : Nat) (s : State) : Host.Outcome State Fault Refusal := run (waitevTimeout seq) s

/-- WAITT (R410) begins its wait. -/
def waittOp (q : Nat) : Dev → Dev :=
  Dev.instr q 5 [1] fun h s d =>
    if s.wait.isSome then .stay else .go (d.onSeq (q % 2) (fun t => { t with wait := some (d.opened (s.num h.a)) }))

def execWaitt (seq : Nat) (s : State) : Host.Outcome State Fault Refusal := run (waittOp seq) s

/-- WAITT_END (R410). -/
def waittEnd (q : Nat) : Dev → Dev :=
  Dev.instr q 5 [1] fun h s d => match s.wait with | some w => (d.toClose w).next (q % 2) h id | none => .stay

def execWaittEnd (seq : Nat) (s : State) : Host.Outcome State Fault Refusal := run (waittEnd seq) s

/-! ### SYS (R411) -/

/-- HALT (R411, R425): the status it selects, with RLEN words of OB for DONE. -/
def haltOp (q : Nat) : Dev → Dev :=
  Dev.instr q 7 [0] fun h s d =>
    let q := q % 2
    let n := s.num h.a
    match h.iBits with
    | 0 => if 512 < n then .fault 3 else .go (d.endScript q 0 ⟨.done, bytesToWords (s.ob.take (2 * n)), .none, none, []⟩)
    | 1 => .go (d.endScript q 0 (Result.plain .authFail))
    | 2 => .go (d.endScript q 0 (Result.plain .noResponse))
    | _ => .go (d.endScript q 0 (Result.plain .stateConflict))

def execHalt (seq : Nat) (s : State) : Host.Outcome State Fault Refusal := run (haltOp seq) s

/-- RETI (R411, R416): the newest frame is restored and its source is no longer active. -/
def retiOp (q : Nat) : Dev → Dev :=
  Dev.instr q 7 [1] fun _ s d =>
    let q := q % 2
    match s.frames with
    | [] => .fault 6
    | f :: fs =>
      let d := d.onSeq q (fun s => { s with
        pc := f.pc, flags := f.flags, prog := f.prog, w := s.w.take 12 ++ f.w12, frames := fs, wait := f.wait })
      .go { d with evc := if q = 0 then { d.evc with actA := d.evc.actA.erase f.source } else { d.evc with actB := d.evc.actB.erase f.source } }

def execReti (seq : Nat) (s : State) : Host.Outcome State Fault Refusal := run (retiOp seq) s

/-- IEN (R411). -/
def ienOp (q : Nat) : Dev → Dev :=
  Dev.instr q 7 [2] fun h _ d =>
    d.next (q % 2) h (fun s => { s with flags := s.flags % 16 + 16 * (h.iBits % 2) + 32 * (s.flags / 32) })

def execIen (seq : Nat) (s : State) : Host.Outcome State Fault Refusal := run (ienOp seq) s

/-- SIGNAL (R411): source HA_SIGn 128 + n or HB_SIGn 132 + n, on the sequencer's own port. -/
def signalOp (q : Nat) : Dev → Dev :=
  Dev.instr q 7 [3] fun h _ d => (d.signal (128 + 4 * (q % 2) + h.iBits)).next (q % 2) h id

def execSignal (seq : Nat) (s : State) : Host.Outcome State Fault Refusal := run (signalOp seq) s

/-- TBREAD (R411). -/
def tbreadOp (q : Nat) : Dev → Dev :=
  Dev.instr q 7 [4] fun h _ d =>
    d.next (q % 2) h (fun s => (s.setReg h.d (BitVec.ofNat 32 d.now)).setReg (h.d + 1) (BitVec.ofNat 32 (d.now / 2 ^ 32)))

def execTbread (seq : Nat) (s : State) : Host.Outcome State Fault Refusal := run (tbreadOp seq) s

/-- GETSRC (R411). -/
def getsrcOp (q : Nat) : Dev → Dev :=
  Dev.instr q 7 [8] fun h s d =>
    let n := match s.frames with | f :: _ => f.source | [] => 0xFFFFFFFF
    d.next (q % 2) h (fun s => s.setReg h.d (BitVec.ofNat 32 n))

def execGetsrc (seq : Nat) (s : State) : Host.Outcome State Fault Refusal := run (getsrcOp seq) s

/-- NOP (R411). -/
def sysNopOp (q : Nat) : Dev → Dev := Dev.instr q 7 [9] fun h _ d => d.next (q % 2) h id

def execSysNop (seq : Nat) (s : State) : Host.Outcome State Fault Refusal := run (sysNopOp seq) s

/-! ### Entries (R415, R416) -/

/-- The source a WAITEV in progress waits on: it is the wait's, not an entry's (R415). -/
def Seqr.awaits (s : Seqr) : Option Nat :=
  let h := s.fetch
  if s.wait.isSome && h.cls = 5 && h.op = 0 then some h.iBits else none

/-- HAMMER_ENTRY (R416): the offered source is entered. -/
def hammerEntry (q : Nat) (d : Dev) : Dev :=
  let q := q % 2
  let s := d.seqr q
  match s.image.bind Script.handler, d.offered q with
  | some hd, some n =>
    if !d.scriptRuns q || !s.flag 4 || s.awaits = some n then d
    else
      let f : Frame := { pc := s.pc, flags := s.flags, prog := s.prog, w12 := fit 4 0 (s.w.drop 12), source := n, wait := s.wait }
      let d := (d.wait (d.now + 3)).onSeq q (fun s => Seqr.setReg { s with
        frames := f :: s.frames, flags := s.flags % 16 + 32 * (s.flags / 32), pc := hd, prog := 0, wait := none } 12 (BitVec.ofNat 32 n))
      let d := d.clearPend q n
      { d with evc := if q = 0 then { d.evc with actA := n :: d.evc.actA } else { d.evc with actB := n :: d.evc.actB } }
  | _, _ => d

def execHammerEntry (seq : Nat) (s : State) : Host.Outcome State Fault Refusal := run (hammerEntry seq) s

end Sys2Proof.Machine
end

