-- ==== Sys2Proof/Machine/Timers.lean ====
section
/-!
DEFINITION. The timer channels (chapter 8): the count as a function of TB, snapshots, the compare, captures, outputs, freezes, and
what a standby and a reset do to a channel.
-/

namespace Sys2Proof.Machine

/-! ### The count (R164–R166) -/

def Dev.chan (d : Dev) (n : Nat) : Channel := d.tmr.getD n Channel.reset
def Dev.putChan (n : Nat) (c : Channel) (d : Dev) : Dev := { d with tmr := d.tmr.set n c }
/-- First address of a channel's settings (R167). -/
def tmrBase (n : Nat) : Nat := 0x0C0000 + 0x20 * n
/-- Ticks of one count (R164). -/
def Dev.tmrP (d : Dev) (n : Nat) : Nat := d.setting (tmrBase n + 2) + 1
/-- The lap Λ (R164). -/
def Dev.tmrLap (d : Dev) (n : Nat) : Nat := if d.setting (tmrBase n + 8) = 0 then 2 ^ 48 else d.setting (tmrBase n + 8)
/-- The channel counts now. DESIGN CHOICE (log 110): a gated PD21 lets it count, match and capture as before. -/
def Channel.counts (c : Channel) : Bool := c.run && !c.frozen && !c.dead
/-- The count of an interval at stamp `t`. -/
def Span.u (x : Span) (t : Nat) : Nat := if x.counted then x.base + (t - x.start) / x.p else x.base
/-- The interval in which the channel stands, ending at `w`. -/
def Dev.tmrSpan (d : Dev) (n w : Nat) : Span :=
  let c := d.chan n
  ⟨w, c.start, c.base, c.counts, d.tmrP n⟩
/-- U(t) (R165), also at a stamp before the present interval began. -/
def Dev.tmrU (d : Dev) (n t : Nat) : Nat :=
  (((d.chan n).past.filter (fun x => t < x.until_)).getLast?.getD (d.tmrSpan n t)).u t
/-- C(t) (R165). -/
def Dev.tmrC (d : Dev) (n t : Nat) : Nat := d.tmrU n t % d.tmrLap n

/-- The longest filter of an input, in ticks (R149). -/
def filterMax : Nat := 4177920

/-- A channel as `c` has it from stamp `w` on; the interval it leaves is kept for the longest filter. -/
def Dev.newSpan (n w : Nat) (c : Channel) (d : Dev) : Dev :=
  d.putChan n { c with past := d.tmrSpan n w :: (d.chan n).past.filter (fun x => d.now ≤ x.until_ + filterMax) }

/-- U held from now on. -/
def Dev.holdU (n : Nat) (d : Dev) : Dev :=
  let c := d.chan n
  d.newSpan n d.now { c with base := d.tmrU n d.now, start := d.now, stale := c.stale || (c.counts && c.snapAt < d.now) }

/-- A snapshot (R169). -/
def Dev.snapChan (n : Nat) (d : Dev) : Dev :=
  d.putChan n { d.chan n with snap := d.tmrC n d.now, snapAt := d.now, stale := false }

/-- RUN set to 1 (R166, R175, R176). -/
def Dev.startChan (n : Nat) (d : Dev) : Dev :=
  let c := d.chan n
  if c.run then d else d.newSpan n d.now { c with run := true, start := d.now, edges := 0, prevCap := none }

/-- RUN set to 0, with a snapshot (R166). -/
def Dev.stopChan (n : Nat) (d : Dev) : Dev :=
  if (d.chan n).run then
    let d := (d.holdU n).snapChan n
    d.putChan n { d.chan n with run := false }
  else d

/-! ### The compare (R171–R173) -/

/-- A compare armed against the count at stamp `w` (R171). -/
def Dev.armAt (n w : Nat) (d : Dev) : Dev :=
  let c := d.chan n
  let k := d.tmrC n w
  d.putChan n { c with target := some (d.tmrU n w - k + (if k < c.cmp then 0 else d.tmrLap n) + c.cmp) }

/-- U set to 0 at stamp `w`, which re-arms an armed compare (R165, R171, R176). An interval that began after `w` goes on from what it has
counted beyond U(w). -/
def Dev.clearAt (n w : Nat) (d : Dev) : Dev :=
  let c := d.chan n
  let d := if c.past.any (fun x => w < x.until_) then d.putChan n { c with base := c.base - d.tmrU n w, prevCap := none }
    else d.newSpan n w { c with base := 0, start := w, prevCap := none }
  if c.target.isSome then d.armAt n w else d

/-- Ball TINn is driven from the channel's output (R178), with PD21 on (R183). -/
def Dev.driven (d : Dev) (n : Nat) : Bool := bit 14 (d.setting (tmrBase n + 1)) && !(d.chan n).dead

/-- A driven ball is at the output's level (R178). -/
def Dev.driveBall (n : Nat) (d : Dev) : Dev :=
  if d.driven n then { d with evc := { d.evc with ball := d.evc.ball.set (104 + n) (d.chan n).out } } else d

/-- The output takes a level. -/
def Dev.setOut (n : Nat) (o : Bool) (d : Dev) : Dev :=
  let c := d.chan n
  (d.putChan n { c with out := o, outAt := if o = c.out then c.outAt else d.now }).driveBall n

/-- The output acts at a match (R172). -/
def Dev.outAct (n : Nat) (d : Dev) : Dev :=
  let c := d.chan n
  let o := match field 13 12 (d.setting (tmrBase n + 1)) with
    | 1 => true
    | 2 => false
    | 3 => !c.out
    | _ => c.out
  d.setOut n o

/-- CMPMODE applies after a match of target `x` (R172); `next` is the target of mode 2. -/
def Dev.afterMatch (n next : Nat) (d : Dev) : Dev :=
  let c := d.chan n
  match c.cmpMode with
  | 2 => d.putChan n { c with target := some next }
  | 3 => (d.putChan n { c with target := none }).stopChan n
  | _ => d.putChan n { c with target := none }

/-- The first stamp whose U reaches a target. -/
def Dev.matchStamp (d : Dev) (n x : Nat) : Nat := (d.chan n).start + (x - (d.chan n).base) * d.tmrP n

/-- GPT_COMPARE_MATCH (R172, R181): the armed target of channel `n` is reached; in a continuation only a watcher entry latches
it. -/
def gptCompareMatch (n : Nat) (d : Dev) : Dev :=
  let c := d.chan n
  match c.target with
  | none => d
  | some x =>
    if 16 ≤ n || !c.counts then d
    else if d.clock.rootOn then
      let d := (d.wait (d.matchStamp n x)).signal (72 + n)
      let d := d.putChan n { d.chan n with late := false }
      (d.outAct n).afterMatch n (x + d.tmrLap n)
    else if n < 4 && bit 9 (d.evc.wcfg.getD (19 + n) 0).toNat then
      ((d.wait (d.matchStamp n x)).latch (19 + n)).afterMatch n (x + d.tmrLap n)
    else d

def execGptCompareMatch (n : Nat) (s : State) : Host.Outcome State Fault Refusal := run (gptCompareMatch n) s

/-- The first X + kΛ above U (R181). -/
def Dev.nextAbove (d : Dev) (n x : Nat) : Nat :=
  let u := d.tmrU n d.now
  if u < x then x else x + ((u - x) / d.tmrLap n + 1) * d.tmrLap n

/-- A watcher entry latched a match of the channel in this standby. -/
def Dev.tmrLatched (d : Dev) (n : Nat) : Bool :=
  n < 4 && bit 9 (d.evc.wcfg.getD (19 + n) 0).toNat && (d.evc.latched.getD (19 + n) none).isSome

/-- The armed target of a channel that counts has been reached by now. -/
def Dev.tmrPast (d : Dev) (n : Nat) : Bool := (d.chan n).counts && (d.chan n).target.any (fun x => x ≤ d.tmrU n d.now)

/-- The late match of a target reached in a continuation that no watcher entry latched (R182), its event accepted. -/
def Dev.tmrLateMatch (n : Nat) (d : Dev) : Dev :=
  let x := (d.chan n).target.getD 0
  let d := d.setPending (72 + n)
  (d.putChan n { d.chan n with late := true }).afterMatch n (d.nextAbove n x)

/-- A repeat compare whose match was latched goes on from the count at the re-anchor (R181). -/
def Dev.tmrReanchor (d : Dev) : Dev :=
  (List.range 16).foldl (fun d n =>
    let c := d.chan n
    if d.tmrPast n && d.tmrLatched n then d.putChan n { c with target := some (d.nextAbove n (c.target.getD 0)) } else d) d

/-! ### Capture (R174–R176) -/

def pwSat (v : Nat) : Nat := min 0xFFFFFFFF v

/-- The armed targets reached by now match first, in ascending channel: compares go before captures, changes of GPIO balls and host
writes of the same stamp (R173, R177). -/
def Dev.dueMatches (d : Dev) : Dev :=
  (List.range 16).foldl (fun d n => if d.clock.rootOn && d.tmrPast n then gptCompareMatch n d else d) d

/-- Width from one unwrapped count to another (R176). DESIGN CHOICE (log 118): open where a clear has fallen between. -/
def Dev.width (d : Dev) (u v : Nat) : Nat × Dev :=
  if u ≤ v then (pwSat (v - u), d) else let r := d.freeNat; (pwSat r.1, r.2)

/-- A completed capture: CAPSEQ and the event GPTn_CAP, source 88 + n (R176). -/
def Dev.captured (n : Nat) (d : Dev) : Dev :=
  let c := d.chan n
  (d.putChan n { c with capSeq := (c.capSeq + 1) % 256 }).signal (88 + n)

/-- A filtered change of ball TINn reaches the channel (R174): `rise`, and the stamp `s` of its first sample. DEDUCED (log 111): the channel
runs at the filter's output, where the edge is recognised. -/
def Dev.tmrEdge (n : Nat) (rise : Bool) (s : Nat) (d : Dev) : Dev :=
  let m := d.setting (tmrBase n + 1)
  let c := d.chan n
  let mode := m % 8
  let nth := field 11 4 m + 1
  let clr (d : Dev) : Dev := if bit 3 m then d.clearAt n s else d
  let u := d.tmrU n s
  let k := d.tmrC n s
  if !c.counts then d
  else if 1 ≤ mode && mode ≤ 3 then
    if (mode == 1 && !rise) || (mode == 2 && rise) then d
    else if c.edges + 1 < nth then d.putChan n { c with edges := c.edges + 1 }
    else
      let pw := match c.prevCap with
        | some p => d.width p u
        | none => (0, d)
      (clr (pw.2.putChan n { c with edges := 0, capA := k, capB := c.capA, pw := pw.1, prevCap := some u })).captured n
  else if 4 ≤ mode && mode ≤ 5 then
    if rise == (mode == 4) then
      if c.edges + 1 < nth then d.putChan n { c with edges := c.edges + 1 }
      else clr (d.putChan n { c with edges := 0, lead := some (k, if bit 3 m then 0 else u) })
    else
      match c.lead with
      | none => d
      | some (ka, ua) =>
        let pw := d.width ua u
        (pw.2.putChan n { c with lead := none, capA := ka, capB := k, pw := pw.1 }).captured n
  else d

/-! ### Settings of a channel (R166–R168) -/

/-- Words of `CTL` and `STAT` (R167). -/
def Channel.ctl (c : Channel) : Nat := b2n c.run + 8 * b2n c.cosnap + 16 * c.frz + 64 * c.cmpMode

def Dev.tmrStat (d : Dev) (n : Nat) : Nat :=
  let c := d.chan n
  let lap := d.tmrLap n
  let stale := c.stale || (c.counts && c.snapAt < d.now)
  bitsNat [c.run && !c.frozen, stale, c.target.isSome, c.target.any (fun x => d.tmrU n d.now / lap < x / lap), c.frozen, c.out,
           c.late, c.lead.isSome] + 256 * c.capSeq

/-- A Hammer sequencer is halted that FRZ selects (R179). -/
def Dev.frzHalted (d : Dev) (frz : Nat) : Bool := (bit 0 frz && d.ham.a.halted) || (bit 1 frz && d.ham.b.halted)

/-- Freezes begin and end as the halts stand (R179). -/
def Dev.tmrFreeze (d : Dev) : Dev :=
  (List.range 16).foldl (fun d n =>
    let f := d.frzHalted (d.chan n).frz
    if f = (d.chan n).frozen then d
    else
      let d := d.holdU n
      d.putChan n { d.chan n with frozen := f }) d

/-- An accepted write of CTL (R166, R169, R171, R173). -/
def Dev.writeCtl (n v : Nat) (d : Dev) : Dev :=
  let d := if bit 1 v then d.clearAt n d.now else d
  let d := if bit 0 v then d.startChan n else d.stopChan n
  let old := (d.chan n).cmpMode
  let mode := field 7 6 v
  let c := d.chan n
  let d := d.putChan n { c with
    cosnap := bit 3 v, frz := field 5 4 v, cmpMode := mode, target := if mode = 0 then none else c.target }
  let d := if old = 0 && mode != 0 then d.armAt n d.now else d
  (if bit 2 v then d.snapChan n else d).tmrFreeze

/-- An accepted write of MODE, its value `v` already in effect and `old` before it (R175, R178). -/
def Dev.writeMode (n old v : Nat) (d : Dev) : Dev :=
  let c := d.chan n
  let on := bit 14 v && !bit 14 old
  (d.putChan n { c with
    edges := 0, prevCap := none, lead := none, out := if on then bit 15 v else c.out, outAt := if on then d.now else c.outAt }).driveBall n

/-- An accepted write of the high word of CMP: the compare value, and its arming (R168, R171). -/
def Dev.writeCmp (n v : Nat) (d : Dev) : Dev :=
  let c := d.chan n
  let d := d.putChan n { c with cmp := v, cmpHiHeld := none }
  if c.cmpMode = 0 then d else d.armAt n d.now

/-- GO and HALT (R166). -/
def Dev.tmrGoMask (mask : Nat) (d : Dev) : Dev := (bitsOf 16 mask).foldl (fun d n => d.startChan n) d
def Dev.tmrHaltMask (mask : Nat) (d : Dev) : Dev := (bitsOf 16 mask).foldl (fun d n => d.stopChan n) d

/-- The co-snapshot of a TB snapshot (R169). -/
def Dev.coSnap (d : Dev) : Dev := (List.range 16).foldl (fun d n => if (d.chan n).cosnap then d.snapChan n else d) d

/-! ### Standby, resets and power (R180, R183) -/

/-- Entry to a standby: a pair half captured is discarded (R180). -/
def Dev.tmrStandby (d : Dev) : Dev := { d with tmr := d.tmr.map (fun c => { c with lead := none }) }

/-- PD21 is off by request or by a hard loss: no channel counts until its reset, and every driven ball is released to input (R183); it
keeps its level until the outside gives it another (log 112). -/
def Dev.tmrOff (d : Dev) : Dev :=
  (List.range 16).foldl (fun d n =>
    let d := d.holdU n
    d.putChan n { d.chan n with dead := true }) d

/-- A channel reset (R183): the settings stay, a running channel starts again from 0, and an armed compare is re-armed; with PD21 off the
channel does not count. FROZEN is cleared also where the sequencer that FRZ selects is still halted, until the next write of CTL or change
of a halt (log 112). A held `CMP_HI` stays (log 112). -/
def Dev.tmrReset (d : Dev) : Dev :=
  (List.range 16).foldl (fun d n =>
    let c := d.chan n
    let d := d.newSpan n d.now { c with
      base := 0, start := d.now, snap := 0, snapAt := d.now, stale := false, capA := 0, capB := 0, pw := 0, capSeq := 0,
      lead := none, prevCap := none, edges := 0, late := false, frozen := false, dead := !d.domOn 21 }
    let d := d.setOut n (bit 15 (d.setting (tmrBase n + 1)))
    if c.target.isSome then d.armAt n d.now else d) d

/-- POWER_ON of PD21 after a POWER_OFF or a hard loss is a channel reset; a wake is not (R180, R183). -/
def Dev.tmrUp (d : Dev) : Dev := if d.tmr.any Channel.dead then d.tmrReset else d

end Sys2Proof.Machine
end

