-- ==== Sys2Proof/Machine/Nv.lean ====
section
/-!
DEFINITION. The NV parameter store (chapter 19): errors met by a read, the two copies of a record, the host partition table and its
modes, the NV commands, page writes and scrub.
-/

namespace Sys2Proof.Machine

/-! ### Errors met by a read (R470, R478) -/

/-- A rewrite of a page that a read asked for (R470). -/
def Dev.rewritePage (p : Nat) (d : Dev) : Dev :=
  if d.nv.queue.any (fun w => w.page == p && w.owner.isNone) then d else d.nvQueue (devWrites none [p])

/-- Key and token slot copies that lie in a page: slot of a key, slot of a token, copy B (R473). -/
def slotAt (p : Nat) : Option (Bool × Nat × Bool) :=
  if 512 ≤ p && p < 704 then some (true, (p - 512) % 96 / 2, 608 ≤ p)
  else if 123 ≤ p && p < 187 then some (false, (p - 123) % 32, 155 ≤ p)
  else none

/-- A key or token slot's copy in a page is readable or not (R331). -/
def Dev.slotCopy (p : Nat) (ok : Bool) (d : Dev) : Dev :=
  match slotAt p with
  | some (true, n, b) =>
    let k := d.key n
    let k := if b then { k with okB := ok } else { k with okA := ok }
    { d with cru := { d.cru with slots := d.cru.slots.set n k } }
  | some (false, n, b) =>
    let t := d.slotRec n
    let t := if b then { t with okB := ok } else { t with okA := ok }
    { d with cru := { d.cru with tokens := d.cru.tokens.set n t } }
  | none => d

/-- A group met in error (R470): CORR and a rewrite, or UNCORR and its NV record. -/
def Dev.nvMet (e : NvError) (d : Dev) : Dev :=
  let g := e.addr / 4 * 4
  let p := g / 64
  if 65536 ≤ g then d
  else if e.fatal then
    let d := { d with nv := { d.nv with uncorr := true, lastBad := p, bad := if d.nv.bad.contains g then d.nv.bad else d.nv.bad ++ [g] } }
    ((d.slotCopy p false).signal 146).note oPower (draft 0x61 0x0A p 0 0 0x10)
  else (Dev.signal 145 { d with nv := { d.nv with corr := true } }).rewritePage p

/-- The errors a read of [a, a + n) meets. -/
def Dev.nvMetIn (errors : List NvError) (a n : Nat) (d : Dev) : Dev :=
  (errors.filter (fun e => a < e.addr / 4 * 4 + 4 && e.addr / 4 * 4 < a + n)).foldl (fun d e => d.nvMet e) d

/-- The CRC of a trailer (R474). -/
def crc32 (bs : Bytes) : Nat := 0xFFFFFFFF - bs.foldl (fun c b => crcLow 0xEDB88320 8 (c ^^^ b.toNat)) 0xFFFFFFFF

/-! ### Records in two copies (R477–R479) -/

def Dev.nvBytes (d : Dev) (a n : Nat) : Bytes := cellsRead (0xFF : Byte) a n d.nv.cells
def Dev.nvReadable (d : Dev) (a n : Nat) : Bool := !d.nv.bad.any (fun g => a < g + 4 && g < a + n)

/-- SEQ of a record's trailer. -/
def recSeq (bs : Bytes) : Nat := leNat (slice (bs.length - 8) 4 bs)
def recSound (bs : Bytes) : Bool := crc32 (bs.take (bs.length - 8)) == leNat (bs.drop (bs.length - 4))
/-- A record's bytes with their trailer. -/
def recBytes (payload : Bytes) (seq : Nat) : Bytes := payload ++ leBytes 4 seq ++ leBytes 4 (crc32 payload)

/-- A copy at `a` is valid: readable, sound, and its SEQ is one its place may hold (R477). -/
def Dev.copyOk (d : Dev) (a n : Nat) (place : Nat → Bool) : Bool :=
  d.nvReadable a n && recSound (d.nvBytes a n) && place (recSeq (d.nvBytes a n))

/-- SEQ `a` is newer than `b` (R477). -/
def seqNewer (a b : Nat) : Bool := let x := (a + 2 ^ 32 - b % 2 ^ 32) % 2 ^ 32; 1 ≤ x && x < 2 ^ 31

/-- The chosen copy of a record with copies at `a` and `b`: its address and the other's (R477). -/
def Dev.chooseCopy (d : Dev) (a b n : Nat) (place : Nat → Bool) : Option (Nat × Nat) :=
  match d.copyOk a n place, d.copyOk b n place with
  | true, true => if seqNewer (recSeq (d.nvBytes b n)) (recSeq (d.nvBytes a n)) then some (b, a) else some (a, b)
  | true, false => some (a, b)
  | false, true => some (b, a)
  | false, false => none

/-- The page writes that program bytes from an address on, page by page (R471). -/
def pageWrites (owner : Option Nat) (a : Nat) (bs : Bytes) : List PageWrite :=
  ((List.range 1024).filter (fun p => a < 64 * p + 64 && 64 * p < a + bs.length)).map (fun p =>
    let lo := max a (64 * p)
    ⟨owner, p, indexedFrom lo (slice (lo - a) (min (64 * p + 64) (a + bs.length) - lo) bs)⟩)

/-- The comparison of a record's copies (R478). -/
def Dev.compare (n : Nat) (c : Option (Nat × Nat)) (d : Dev) : Dev :=
  match c with
  | none => d
  | some (x, y) =>
    if d.nvReadable y n && d.nvBytes y n == d.nvBytes x n then d
    else if d.nv.counted.contains (y, n) then d
    else
      let d := { d with nv := { d.nv with mismatch := min 255 (d.nv.mismatch + 1), counted := d.nv.counted ++ [(y, n)] } }
      let old := if d.nvReadable y n then recSeq (d.nvBytes y n) else 0
      let d := (d.signal 147).note oPower (draft 0x61 0x0A (y / 64) old (recSeq (d.nvBytes x n)) 0)
      d.nvQueue (pageWrites none y (d.nvBytes x n))

/-! ### The host partition table (R486, R487) -/

/-- An entry of the host partition table (R486): mode 0 RAW, 1 TWIN, 2 RECORD, 3 COUNTER. -/
structure Partition where
  id : Nat
  mode : Nat
  wrap : Bool
  setimg : Bool
  base : Nat
  pages : Nat
  rsize : Nat
deriving DecidableEq, Repr

def partitionOf (e : Bytes) : Partition :=
  let m := (e.getD 1 0).toNat
  ⟨(e.getD 0 0).toNat, m % 4, bit 2 m, bit 3 m, leNat (slice 2 2 e), leNat (slice 4 2 e), (e.getD 6 0).toNat⟩

/-- The used entries of a table's payload. -/
def partitionsOf (t : Bytes) : List Partition :=
  ((List.range 7).map (fun i => partitionOf (slice (8 * i) 8 t))).filter (fun p => p.id != 0)

/-- Bytes of one copy of a TWIN record, of a RECORD record, and positions of a ring (R481, R486). -/
def Partition.size (p : Partition) : Nat := if p.mode = 2 then 16 * 2 ^ p.rsize else 32 * p.pages
def Partition.ring (p : Partition) : Nat := 32 * p.pages / p.size
def Partition.addr (p : Partition) : Nat := 64 * p.base

/-- One entry keeps the rules of R486 and R487. -/
def Partition.ok (p : Partition) : Bool :=
  0x20 ≤ p.id && p.id ≤ 0x3F && 768 ≤ p.base && 1 ≤ p.pages && p.base + p.pages ≤ 1024 &&
  !((p.mode == 1 || p.mode == 2) && p.pages % 2 == 1) && (p.rsize == 0 || (p.mode == 2 && p.rsize ≤ 6)) &&
  !(p.mode == 2 && 32 * p.pages < p.size) && (!p.wrap || p.mode == 0) && (!p.setimg || p.mode == 1)

/-- Two entries neither overlap nor share an ID. -/
def Partition.apart (p q : Partition) : Bool := p.id != q.id && (p.base + p.pages ≤ q.base || q.base + q.pages ≤ p.base)

def apartAll : List Partition → Bool
  | [] => true
  | p :: ps => ps.all (Partition.apart p) && apartAll ps

/-- A table's payload is valid (R487). -/
def tableOk (t : Bytes) : Bool :=
  let ps := partitionsOf t
  (List.range 7).all (fun i => (t.getD (8 * i + 1) 0).toNat < 16 && t.getD (8 * i + 7) 0 == 0) &&
  ps.all Partition.ok && apartAll ps && (ps.filter Partition.setimg).length ≤ 1

/-- Formatting of a new or changed partition (R487). -/
def Partition.format (owner : Option Nat) (p : Partition) : List PageWrite :=
  let n := p.size
  match p.mode with
  | 0 => pageWrites owner p.addr (List.replicate (64 * p.pages) 0)
  | 1 =>
    let r := recBytes (List.replicate (n - 8) 0) 0
    pageWrites owner (p.addr + n) r ++ pageWrites owner p.addr r
  | 2 => pageWrites owner p.addr (List.replicate (64 * p.pages) 0xFF)
  | _ => pageWrites owner p.addr ((List.range p.pages).flatMap (fun _ => List.replicate 4 0 ++ List.replicate 60 0xFF))

def Dev.partitions (d : Dev) : List Partition := partitionsOf (d.nv.table.getD [])
/-- The host partition with an ID. -/
def Dev.partition (d : Dev) (id : Nat) : Option Partition := d.partitions.find? (fun p => p.id == id)
/-- A device partition (R473). -/
def devPartition (id : Nat) : Bool := id ≤ 0x13
/-- Host partitions lie in a protected range (R475). -/
def Dev.hostProtected (d : Dev) : Bool := 1 ≤ d.setting 0x0A0000

/-! ### COUNTER (R483–R485) -/

def Dev.cell (d : Dev) (a i : Nat) : Option Nat :=
  if d.nvReadable (a + 4 * (i % 16)) 4 then
    let v := leNat (d.nvBytes (a + 4 * (i % 16)) 4)
    if v = 0xFFFFFFFF then none else some v
  else none

/-- The value of the counter in the page at `a` (R483). -/
def Dev.counter (d : Dev) (a : Nat) : Option Nat :=
  let good (i : Nat) : Option Nat :=
    match d.cell a i with
    | some v => if v % 16 = i && (v = 0 || d.cell a (v - 1) = some (v - 1)) then some v else none
    | none => none
  ((List.range 16).filterMap good).foldl (fun b v => match b with | some x => some (max x v) | none => some v) none

/-- The counter as a command reads it: the increments that the NV start completes have been completed (R485). -/
def Dev.counterNow (d : Dev) (a : Nat) : Option Nat :=
  let ws := (d.nv.queue.filter (fun w => w.owner.isNone && 64 * w.page == a)).flatMap PageWrite.cells
  Dev.counter { d with nv := { d.nv with
    cells := ws.foldl (fun cs c => cellPut 0xFF c.1 c.2 cs) d.nv.cells,
    bad := d.nv.bad.filter (fun g => !ws.any (fun c => c.1 / 4 == g / 4)) } } a

/-- Completion of an interrupted increment of a host counter at an NV start (R485). -/
def Dev.counterStart (a : Nat) (d : Dev) : Dev :=
  match d.counter a with
  | none => d
  | some v =>
    let n := a + 4 * ((v + 1) % 16)
    let want := if 15 ≤ v then leBytes 4 (v - 15) else List.replicate 4 0xFF
    if d.nvReadable n 4 && d.nvBytes n 4 == want then d else d.nvQueue (pageWrites none n (leBytes 4 (v + 1)))

/-! ### RECORD (R482) -/

def Partition.copyA (p : Partition) (r : Nat) : Nat := p.addr + (r - 1) % p.ring * p.size
def Partition.copyB (p : Partition) (r : Nat) : Nat := p.addr + p.ring * p.size + (r - 1) % p.ring * p.size

/-- The newest record's number, 0 where there is none (R482). -/
def Dev.newestRec (d : Dev) (p : Partition) : Nat :=
  (List.range p.ring).foldl (fun m i =>
    let place (s : Nat) : Bool := 1 ≤ s && (s - 1) % p.ring == i
    [p.copyA (i + 1), p.copyB (i + 1)].foldl (fun m a =>
      if d.copyOk a p.size place then max m (recSeq (d.nvBytes a p.size)) else m) m) 0

/-! ### Device records (R473, R477, R478) -/

/-- The page writes of a device record's copy at [a, a + n). -/
def copyPages (a n : Nat) : List Nat := (List.range 1024).filter (fun p => a < 64 * p + 64 && 64 * p < a + n)

/-- SEQ of the device record whose copy A lies at `a` (R474): of its slot, of its place in the ring of chain heads, of its node, of the
policy's header, of the slot a shadow is for, or as counted. The numbers of REVLIST's records are not kept: open (log 113). -/
def Dev.recordSeq (d : Dev) (a : Nat) : Nat × Dev :=
  if 0x8000 ≤ a && a < 0xB000 then ((d.key ((a - 0x8000) / 128)).seq, d)
  else if 0x1EC0 ≤ a && a < 0x2EC0 then ((d.slotRec ((a - 0x1EC0) / 64)).seq, d)
  else if 0x0CC0 ≤ a && a < 0x12C0 then (d.jrnl.headSeq - (d.jrnl.headSeq + 23 - (a - 0x0CC0) / 32) % 24, d)
  else if 0x3FC0 ≤ a && a < 0x7F80 then ((d.node ((a - 0x3FC0) / 32 + 1)).seq, d)
  else if a = 0x2EC0 then (((d.nv.policy.map policyOf).map Policy.seq).getD 0, d)
  else if 0xB000 ≤ a then
    (((d.cru.prepared.bind (fun p => p.shadows[(a - 0xB000) / 128]?)).map (fun x => (d.key x.slot).seq + 1)).getD 0, d)
  else if seqPages.contains (a / 64) then (cellGet 0 (a / 64) d.nv.seqs, d)
  else let f := d.freeNat; (f.1 % 2 ^ 32, f.2)

/-- A copy of a device record, at `y`, is not the chosen one's equal: it is rewritten, counted, presented and journalled (R478). `old` is
its SEQ, 0 where it cannot be read, and `new` the chosen copy's. -/
def Dev.mismatched (y n old new : Nat) (d : Dev) : Dev :=
  if d.nv.counted.contains (y, n) then d
  else
    let d := { d with nv := { d.nv with
      mismatch := min 255 (d.nv.mismatch + 1), counted := d.nv.counted ++ [(y, n)], stale := d.nv.stale.filter (· != (y, n)) } }
    ((d.signal 147).note oPower (draft 0x61 0x0A (y / 64) old new 0)).nvQueue (devWrites none (copyPages y n))

/-- The comparison of a device record's copies A at `a` and B at `b` (R478, R479): a copy cannot be read, or was left behind by a rewrite
that was cut off. What remains of a copy B that was cut off holds a SEQ that is open. -/
def Dev.compareTwin (a b n : Nat) (d : Dev) : Dev :=
  let s := d.recordSeq a
  match d.nvReadable a n, d.nvReadable b n with
  | true, false => s.2.mismatched b n 0 s.1
  | false, true => s.2.mismatched a n 0 s.1
  | false, false => d
  | true, true =>
    if d.nv.stale.contains (a, n) then s.2.mismatched a n ((s.1 + 2 ^ 32 - 1) % 2 ^ 32) s.1
    else if d.nv.stale.contains (b, n) then let f := s.2.freeNat; f.2.mismatched b n (f.1 % 2 ^ 32) s.1
    else d

/-- The device's partitions of records in two copies but the slots' (R473): first page, pages, bytes of a record. -/
def twinPartitions : List (Nat × Nat × Nat) :=
  [(0, 2, 64), (2, 2, 64), (51, 24, 32), (75, 2, 64), (77, 2, 64), (79, 2, 64), (81, 2, 64), (83, 8, 256), (91, 32, 8), (187, 68, 2176),
   (255, 255, 32), (704, 64, 128)]

/-- The device's records with a copy in a page are compared (R478, R490). -/
def Dev.compareDevice (p : Nat) (d : Dev) : Dev :=
  match twinPartitions.find? (fun x => x.1 ≤ p && p < x.1 + x.2.1) with
  | some (base, pages, n) =>
    let half := 32 * pages
    (List.range (half / n)).foldl (fun d i =>
      let a := 64 * base + i * n
      let in_ (x : Nat) : Bool := x < 64 * p + 64 && 64 * p < x + n
      if in_ a || in_ (a + half) then d.compareTwin a (a + half) n else d) d
  | none => d

/-- An access that completes NV_UNCORRECTABLE (R477), with `NVSTAT.UNCORR` (chapter 4). -/
def Dev.nvFail (tag : Nat) (d : Dev) : Dev := Dev.fail tag .nvUncorrectable { d with nv := { d.nv with uncorr := true } }

/-! ### The commands (R488, R489) -/

/-- NV_READ (R488). -/
def nvRead (tag : Nat) (errors : List NvError) : Dev → Dev :=
  Dev.startCmd (isOp 0x80) tag fun c d =>
    let id := c.w 6
    let off := c.w2 7
    let len := c.w 9
    if 256 ≤ id || !c.zeroFrom 10 || c.plen != 0 then d.hostError c
    else if id = 0 then
      if len = 0 || 56 < off + len then d.fail tag .stateConflict
      else
        let d := d.nvMetIn errors 0 128
        match d.nv.table with
        | none => d.nvFail tag
        | some t =>
          if d.nvReadable 0 64 || d.nvReadable 64 64 then (d.compareTwin 0 64 64).reply tag (bytesToWords (slice off len t))
          else d.nvFail tag
    else match d.partition id with
      | none => d.fail tag .stateConflict
      | some p =>
        match p.mode with
        | 0 =>
          if len = 0 || 1024 < len || 64 * p.pages < off + len then d.fail tag .stateConflict
          else
            let d := d.nvMetIn errors (p.addr + off) len
            if d.nvReadable (p.addr + off) len then d.reply tag (bytesToWords (d.nvBytes (p.addr + off) len))
            else d.nvFail tag
        | 1 =>
          if len = 0 || 1024 < len || p.size - 8 < off + len then d.fail tag .stateConflict
          else
            let d := d.nvMetIn errors p.addr (64 * p.pages)
            let ch := d.chooseCopy p.addr (p.addr + p.size) p.size (fun _ => true)
            match ch with
            | none => d.nvFail tag
            | some (x, _) => (d.compare p.size ch).reply tag (bytesToWords (d.nvBytes (x + off) len))
        | 3 =>
          if len = 0 || 256 < len || p.pages < off + len then d.fail tag .stateConflict
          else
            let d := d.nvMetIn errors (p.addr + 64 * off) (64 * len)
            let vs := (List.range len).map (fun i => d.counterNow (p.addr + 64 * (off + i)))
            if vs.any Option.isNone then d.nvFail tag
            else d.reply tag (vs.flatMap (fun v => leWords 2 (v.getD 0)))
        | _ => d.fail tag .stateConflict

def execNvRead (tag : Nat) (errors : List NvError) (s : State) : Host.Outcome State Fault Refusal := run (nvRead tag errors) s

/-- Bytes already staged for a partition (R481). -/
def Dev.staged (d : Dev) (id : Nat) : Bytes := match d.nv.staging with | some (i, bs) => if i = id then bs else [] | none => []

/-- A command whose page writes have been asked for: DONE after the last (R488). -/
def Dev.writeDone (tag : Nat) (ws : List PageWrite) (payload : List Word) (d : Dev) : Dev :=
  (d.nvQueue ws).reply tag payload

/-- A record written: copy B whole, then copy A (R479). -/
def recWrites (tag a b : Nat) (bs : Bytes) : List PageWrite := pageWrites (some tag) b bs ++ pageWrites (some tag) a bs

/-- NV_WRITE staging for a TWIN record of `size` bytes (R481); `finish` takes the whole payload at LAST. -/
def Dev.stageTwin (c : Cmd) (id size : Nat) (prot : Bool) (finish : Bytes → Dev → Dev) (d : Dev) : Dev :=
  let off := c.w2 7
  let len := c.w 9
  let have_ := if off = 0 then [] else d.staged id
  let all := have_ ++ c.bytes.take len
  let last := c.w 10 = 1
  if len = 0 || size - 8 < off + len || off != have_.length then d.fail c.tag .stateConflict
  else if prot then
    if last && all.length != size - 8 then d.fail c.tag .stateConflict else d.fail c.tag .protected_
  else
    let d := { d with nv := { d.nv with staging := some (id, all) } }
    if !last then d.fail c.tag .done
    else if all.length != size - 8 then d.fail c.tag .stateConflict
    else finish all { d with nv := { d.nv with staging := none } }

/-- NV_WRITE (R480, R481, R487). -/
def nvWrite (tag : Nat) : Dev → Dev :=
  Dev.startCmd (isOp 0x81) tag fun c d =>
    let id := c.w 6
    let off := c.w2 7
    let len := c.w 9
    if 256 ≤ id || 1 < c.w 10 || !c.zeroFrom 11 || c.plen != (len + 1) / 2 then d.hostError c
    else if id = 0 then
      d.stageTwin c 0 64 (d.setting 0x0A0000 = 3) (fun t d =>
        if !tableOk t then d.fail tag .stateConflict
        else
          let old := d.partitions
          let fresh := (partitionsOf t).filter (fun p => !old.contains p)
          let d := (d.nvQueue (fresh.flatMap (Partition.format (some tag)))).recordWrite (some tag) [1] [0] .select
          d.finish tag ⟨.done, [], .partitions t, none, []⟩)
    else match d.partition id with
      | none => d.fail tag (if devPartition id then .protected_ else .stateConflict)
      | some p =>
        match p.mode with
        | 0 =>
          if len = 0 || 1024 < len || 64 * p.pages ≤ off then d.fail tag .stateConflict
          else if d.hostProtected then d.fail tag .protected_
          else
            let page := (p.addr + off) / 64
            let at_ := (p.addr + off) % 64
            let bs := indexedFrom at_ (c.bytes.take len)
            let kept := if p.wrap then bs.map (fun x => (64 * page + x.1 % 64, x.2))
              else (bs.filter (fun x => x.1 < 64)).map (fun x => (64 * page + x.1, x.2))
            d.writeDone tag [⟨some tag, page, kept⟩] []
        | 1 =>
          d.stageTwin c id p.size d.hostProtected (fun m d =>
            let ch := d.chooseCopy p.addr (p.addr + p.size) p.size (fun _ => true)
            match ch with
            | none => d.nvFail tag
            | some (x, _) =>
              let seq := (recSeq (d.nvBytes x p.size) + 1) % 2 ^ 32
              d.writeDone tag (recWrites tag p.addr (p.addr + p.size) (recBytes m seq)) [])
        | _ => d.fail tag .stateConflict

def execNvWrite (tag : Nat) (s : State) : Host.Outcome State Fault Refusal := run (nvWrite tag) s

/-- NV_RECORD_APPEND (R482). -/
def nvRecordAppend (tag : Nat) : Dev → Dev :=
  Dev.startCmd (isOp 0x82) tag fun c d =>
    let id := c.w 6
    if 256 ≤ id || !c.zeroFrom 7 then d.hostError c
    else match d.partition id with
      | none => d.fail tag (if devPartition id && id != 0 then .protected_ else .stateConflict)
      | some p =>
        if p.mode != 2 then d.fail tag .stateConflict
        else if c.plen != (p.size - 8) / 2 then d.hostError c
        else if d.hostProtected then d.fail tag .protected_
        else
          let r := d.newestRec p + 1
          d.writeDone tag (recWrites tag (p.copyA r) (p.copyB r) (recBytes c.bytes r)) (leWords 2 r)

def execNvRecordAppend (tag : Nat) (s : State) : Host.Outcome State Fault Refusal := run (nvRecordAppend tag) s

/-- Records read from number `r` on, `n` of them: their words, or nothing where one has no valid copy. -/
def Dev.readRecords (p : Partition) : Nat → Nat → Dev → Dev × Option (List Word)
  | 0, _, d => (d, some [])
  | n + 1, r, d =>
    let ch := d.chooseCopy (p.copyA r) (p.copyB r) p.size (fun s => s == r)
    match ch with
    | none => (d, none)
    | some (x, _) =>
      let ws := leWords 2 r ++ bytesToWords (d.nvBytes x (p.size - 8))
      let rest := Dev.readRecords p n (r + 1) (d.compare p.size ch)
      (rest.1, rest.2.map (fun l => ws ++ l))

/-- NV_RECORD_READ (R482, R488). -/
def nvRecordRead (tag : Nat) (errors : List NvError) : Dev → Dev :=
  Dev.startCmd (isOp 0x83) tag fun c d =>
    let id := c.w 6
    let r := c.w2 7
    let n := c.w 9
    if 256 ≤ id || !c.zeroFrom 10 || c.plen != 0 then d.hostError c
    else match d.partition id with
      | none => d.fail tag .stateConflict
      | some p =>
        if p.mode != 2 || n = 0 || 256 < n then d.fail tag .stateConflict
        else
          let d := d.nvMetIn errors p.addr (64 * p.pages)
          let top := d.newestRec p
          let from_ := if r = 0xFFFFFFFF then top else r
          if from_ = 0 || top < from_ || from_ + p.ring ≤ top then d.fail tag .stateConflict
          else
            let count := min (if r = 0xFFFFFFFF then 1 else n) (min (top + 1 - from_) (512 / (2 + (p.size - 8) / 2)))
            let x := d.readRecords p count from_
            match x.2 with
            | none => x.1.nvFail tag
            | some ws => x.1.reply tag ws

def execNvRecordRead (tag : Nat) (errors : List NvError) (s : State) : Host.Outcome State Fault Refusal :=
  run (nvRecordRead tag errors) s

/-- NV_COUNTER_INC (R484, R489). -/
def nvCounterInc (tag : Nat) : Dev → Dev :=
  Dev.startCmd (isOp 0x84) tag fun c d =>
    let id := c.w 6
    if 256 ≤ id || !c.zeroFrom 8 || c.plen != 0 then d.hostError c
    else match d.partition id with
      | none => d.fail tag .stateConflict
      | some p =>
        if p.mode != 3 || p.pages ≤ c.w 7 then d.fail tag .stateConflict
        else
          let a := p.addr + 64 * c.w 7
          match d.counterNow a with
          | none => d.nvFail tag
          | some v =>
            if v = 0xFFFFFFFE then d.fail tag .limitReached
            else d.writeDone tag (pageWrites (some tag) (a + 4 * ((v + 1) % 16)) (leBytes 4 (v + 1))) (leWords 2 (v + 1))

def execNvCounterInc (tag : Nat) (s : State) : Host.Outcome State Fault Refusal := run (nvCounterInc tag) s

/-! ### Page writes (R471, R472) -/

/-- A page write of a command has ended: its records whose copy B is whole now are no longer undone (R479). -/
def undoEnded (owner : Option Nat) (us : List Undo) : List Undo :=
  us.filterMap (fun u => if owner = u.owner then (if u.left ≤ 1 then none else some { u with left := u.left - 1 }) else some u)

/-- The old record of a rewrite that was dropped before its copy B was whole is the one chosen (R479); after the Quench no key of it can be
decrypted any more (R347). -/
def Dev.restoreRecord (r : OldRecord) (d : Dev) : Dev :=
  match r with
  | .key n k => { d with cru := { d.cru with slots := d.cru.slots.set n (if d.cru.tampered then { k with material := [] } else k) } }
  | .token n t => { d with cru := { d.cru with tokens := d.cru.tokens.set n t } }
  | .uwbCal ws => { d with nv := { d.nv with uwbCal := ws } }
  | .checkpoint v c => { d with atlas := { d.atlas with load := { d.atlas.load with verified := v, chunks := c } } }
  | .select => d
  | .node a n =>
    let m := d.node a
    d.setNode a (if n.state = 0 then Node.empty else
      { m with state := n.state, type := n.type, trunk := n.trunk, dn := n.dn, seq := n.seq, fid := n.fid,
               kn := if d.cru.tampered then [] else n.kn })
  | .head h s => { d with jrnl := { d.jrnl with head := h, headSeq := s } }
  | .admission a => { d with tok := { d.tok with adm := a } }
  | .revoked ids => { d with tok := { d.tok with revlist := ids } }
  | .scripts k s => { d with ham := { d.ham with seqK03 := k, seqDas := s } }

/-- A rewrite of PTABLE, POLICY or ATLSEL that is dropped with its copy B whole has written the new record, though its command has no DONE
completion (R288, R479). -/
def Dev.keepRecord (c : Cmd) (d : Dev) : Dev :=
  let kept (e : Effect) : Dev := match e with
    | .atlasCommit => d.applyCommitAtlas
    | .policy ws => { d with nv := { d.nv with policy := some ws } }
    | .partitions t => { d with nv := { d.nv with table := some t } }
    | _ => d
  match c.phase with
  | .done r | .waiting r => kept r.effect
  | _ => d

/-- What a page write has programmed: its bytes, and its groups are sound again. A device partition's page is written whole. -/
def Dev.programmed (w : PageWrite) (d : Dev) : Dev :=
  let hit (g : Nat) : Bool := if w.cells.isEmpty then g / 64 == w.page else w.cells.any (fun c => c.1 / 4 == g / 4)
  let d := d.slotCopy w.page true
  { d with nv := { d.nv with
      cells := w.cells.foldl (fun cs c => cellPut 0xFF c.1 c.2 cs) d.nv.cells, bad := d.nv.bad.filter (fun g => !hit g) } }

/-- NV_PAGE_WRITE_END (R472): the write in progress ends, and the next begins; NV_IDLE (source 144) where none waits. -/
def nvPageWriteEnd (d : Dev) : Dev :=
  match d.nv.queue with
  | [] => d
  | w :: ws =>
    if !d.nv.busy || d.domGated 16 then d
    else
      let d := d.programmed w
      let open_ (c : Nat × Nat) : Bool := ws.any (fun x => c.1 < 64 * x.page + 64 && 64 * x.page < c.1 + c.2)
      let d := { d with nv := { d.nv with
        queue := ws, busy := false, undo := undoEnded w.owner d.nv.undo, writes := (d.nv.writes + 1) % 2 ^ 32, counted := d.nv.counted.filter open_,
        torn := d.nv.torn.filter (· != w.page) } }
      let d := if w.page = 8 then d.kwEpochWritten else d
      let d := match w.owner with
        | some t => d.learnWritten t
        | none => d
      if ws.isEmpty then d.signal 144 else d.nvKick

def execNvPageWriteEnd (s : State) : Host.Outcome State Fault Refusal := run nvPageWriteEnd s

/-! ### Scrub (R490) -/

/-- Ticks of RUN and DOZE between passes. -/
def scrubTicks : Nat := 10782720000000
/-- RUN and DOZE ticks counted towards the next pass. -/
def Dev.scrubCount (d : Dev) : Nat := d.nv.scrubRan + (if d.awake then d.now - d.nv.scrubFrom else 0)
/-- `NVS.SCRUB_LEFT`. -/
def Dev.scrubLeft (d : Dev) : Nat := if d.nv.scrub.isSome then 0 else ceilDiv (scrubTicks - d.scrubCount) 7488000000

/-- SCRUB_PASS: a pass begins when its time has come (R490). -/
def scrubPass (d : Dev) : Dev :=
  if !d.awake || d.nv.scrub.isSome then d
  else
    let d := d.wait (d.now + (scrubTicks - d.scrubCount))
    { d with nv := { d.nv with scrub := some 0 } }

def execScrubPass (s : State) : Host.Outcome State Fault Refusal := run scrubPass s

/-- The records of host partitions with a copy in a page are compared (R478). -/
def Dev.comparePage (p : Nat) (d : Dev) : Dev :=
  d.partitions.foldl (fun d q =>
    let n := q.size
    if q.base ≤ p && p < q.base + q.pages then
      match q.mode with
      | 1 => d.compare n (d.chooseCopy q.addr (q.addr + n) n (fun _ => true))
      | 2 =>
        (List.range q.ring).foldl (fun d i =>
          let a := q.copyA (i + 1)
          let b := q.copyB (i + 1)
          let in_ (x : Nat) : Bool := x < 64 * p + 64 && 64 * p < x + n
          if in_ a || in_ b then d.compare n (d.chooseCopy a b n (fun s => 1 ≤ s && (s - 1) % q.ring == i)) else d) d
      | _ => d
    else d) d

/-- A slot record with one copy lost is rewritten from the other, and the mismatch counted (R478). -/
def Dev.compareSlot (p : Nat) (d : Dev) : Dev :=
  let one (a b n seq : Nat) (okA okB : Bool) : Dev :=
    match okA, okB with
    | true, false => d.mismatched b n 0 seq
    | false, true => d.mismatched a n 0 seq
    | _, _ => d.compareTwin a b n
  match slotAt p with
  | some (true, n, _) => one (64 * (512 + 2 * n)) (64 * (608 + 2 * n)) 128 (d.key n).seq (d.key n).okA (d.key n).okB
  | some (false, n, _) => one (64 * (123 + n)) (64 * (155 + n)) 64 (d.slotRec n).seq (d.slotRec n).okA (d.slotRec n).okB
  | none => d

/-- SCRUB_ATOM (R490): one page of the pass. -/
def scrubAtom (errors : List NvError) (d : Dev) : Dev :=
  match d.nv.scrub with
  | none => d
  | some p => Dev.atom 0x0A (fun d =>
      let d := (((d.nvMetIn errors (64 * p) 64).compareSlot p).compareDevice p).comparePage p
      if p + 1 < 1024 then { d with nv := { d.nv with scrub := some (p + 1) } }
      else { d with nv := { d.nv with scrub := none, scrubRan := 0, scrubFrom := d.now } }) d

def execScrubAtom (errors : List NvError) (s : State) : Host.Outcome State Fault Refusal := run (scrubAtom errors) s

/-! ### Power and resets (R57, R472, R485, R493) -/

/-- The supply of PD16 is lost: the write in progress is cut off, which leaves its groups as written or uncorrectable, and the
writes of commands that have not started are dropped. -/
def Dev.nvCut (d : Dev) : Dev :=
  match d.nv.busy, d.nv.queue with
  | true, w :: ws =>
    let r := d.freeBool
    let d := if r.1 then r.2.programmed w
      else
        let gs := if w.cells.isEmpty then (if counterPage w.page then [] else [64 * w.page]) else (w.cells.map (fun c => c.1 / 4 * 4)).dedup
        let torn := if counterPage w.page then [w.page] else []
        let d := if w.cells.isEmpty then r.2.slotCopy w.page false else r.2
        { d with nv := { d.nv with bad := (d.nv.bad ++ gs).dedup, torn := d.nv.torn ++ torn } }
    { d with nv := { d.nv with busy := false, queue := ws, undo := if r.1 then undoEnded w.owner d.nv.undo else d.nv.undo } }
  | _, _ => d

/-- An NV start completes every interrupted increment (R485): the host's counters, and the device's own. -/
def Dev.nvStart (d : Dev) : Dev :=
  let d := (d.partitions.filter (fun p => p.mode == 3)).foldl
    (fun d p => (List.range p.pages).foldl (fun d i => d.counterStart (p.addr + 64 * i)) d) d
  d.nvQueue (devWrites none d.nv.torn)

/-- Copies of device records on pages of their own that dropping the page writes `gone` leaves behind: copy A where copy B is whole, or a
copy B of which some pages are written (R479). -/
def staleCopies (gone : List PageWrite) : List (Nat × Nat) :=
  let out (p : Nat) : Bool := gone.any (fun w => w.page == p && w.cells.isEmpty)
  let one (a b n : Nat) : List (Nat × Nat) :=
    let pa := copyPages a n
    let pb := copyPages b n
    if pb.all out then [] else if pb.any out then [(b, n)] else if pa.any out then [(a, n)] else []
  (twinPartitions.filter (fun x => x.2.2 % 64 = 0)).flatMap (fun x =>
    (List.range (32 * x.2.1 / x.2.2)).flatMap (fun i => one (64 * x.1 + i * x.2.2) (64 * x.1 + 32 * x.2.1 + i * x.2.2) x.2.2)) ++
  (List.range 48).flatMap (fun n => one (64 * (512 + 2 * n)) (64 * (608 + 2 * n)) 128) ++
  (List.range 32).flatMap (fun n => one (64 * (123 + n)) (64 * (155 + n)) 64)

/-- The page writes of the owners `p` picks out that have not started are dropped, but for counts; a record whose copy B does not become
whole is the old one again, and one whose copy B is whole is the new one (R476, R479, R493). -/
def Dev.nvDrop (p : Option Nat → Bool) (d : Dev) : Dev :=
  let b := if d.nv.busy then 1 else 0
  let first := d.nv.queue.take b
  let lost := (d.nv.queue.drop b).filter (fun w => p w.owner && !counterPage w.page)
  let ends (u : Undo) : Bool := u.left ≤ (first.filter (fun w => w.owner == u.owner)).length
  let gone := d.nv.undo.filter (fun u => p u.owner && !ends u)
  let whole := d.cmds.filter (fun c => p (some c.tag) && !gone.any (fun u => u.owner == some c.tag))
  let d := { d with nv := { d.nv with
    queue := d.nv.without p, undo := d.nv.undo.filter (fun u => !p u.owner || ends u), stale := (d.nv.stale ++ staleCopies lost).dedup } }
  let d := gone.reverse.foldl (fun d u =>
    Dev.restoreRecord u.record { d with nv := d.nv.seqStep u.page (2 ^ 32 - 1) }) d
  whole.foldl (fun d c => d.keepRecord c) d

/-- What an NVSTORE reset leaves (R493); it waits for the write in progress and no other. -/
def Dev.nvReset (d : Dev) : Dev :=
  { d with nv := { d.nv with staging := none, mismatch := 0, corr := false, uncorr := false } }

end Sys2Proof.Machine
end

