-- ==== Sys2Proof/Machine/Flush.lean ====
section
/-!
DEFINITION. The journal's way from its buffer to V2 and its chain head in EEPROM (R142, R143), the warning level, and the exit from
journal hold (R144).
-/

namespace Sys2Proof.Machine

/-- Records in one erase unit of V2 (R142). -/
def v2Unit : Nat := 21760

/-- The JOURNAL warning holds at `SYS.JRNL_WARN` percent of V2 (R142). -/
def Dev.jrnlFull (d : Dev) : Bool := d.setting 0x000020 * v2Capacity ≤ 100 * d.jrnl.v2.length

/-- The warning's condition begins or ends. -/
def Dev.jrnlWarn (d : Dev) : Dev := if d.jrnlFull then d.starts 154 else d.ends 154

/-- The chain head is written to EEPROM (R143). -/
def Dev.writeHead (flushed : Bool) (d : Dev) : Dev :=
  if d.jrnl.nextNumber = 0 then d
  else
    let n := d.jrnl.headSeq + 1
    let old : OldRecord := .head d.jrnl.head d.jrnl.headSeq
    let d := { d with jrnl := { d.jrnl with
      head := some (d.jrnl.nextNumber - 1, d.jrnl.lastEsn, d.nv.bootEpoch, d.jrnl.lastTag, flushed), headAt := d.now,
      headDue := false, headSeq := n } }
    d.recordWrite none ((headPages n).take 1) ((headPages n).drop 1) old

/-- V2 makes room: its oldest erase unit is erased, the anchor keeps the newest record erased, and the wrap is an event with a
JOURNAL record (R142, R577). -/
def Dev.v2Room (d : Dev) : Dev :=
  if d.jrnl.v2.length + d.jrnl.buf.length + 1 ≤ v2Capacity then d
  else
    let d := d.present
    let last := (d.jrnl.v2.take v2Unit).getLast?
    let n := d.jrnl.buf.length
    let d := { d with jrnl := { d.jrnl with
      v2 := d.jrnl.v2.drop v2Unit,
      anchor := match last with | some r => some (r.number, r.tag) | none => d.jrnl.anchor } }
    d.append (d.recordOf oPower 0xFFFF 0xFF (draft 0x7F 0xFF (d.jrnl.nextNumber % 2 ^ 32) n (n + 1) 2))

/-- A summary record (R138, R144). -/
def summaryDraft (f : Nat × Nat × Nat × Nat) : Draft :=
  { draft 0x7E 0xFF (f.1 + f.2.1 % 2 ^ 24 * 256) f.2.2.1 f.2.2.2 0 with detail := f.2.1 / 2 ^ 24 % 2 ^ 32 }

/-- Journal hold ends below 512 records buffered: one event, its summary records and then the record of the exit (R144,
R577). -/
def Dev.holdExit (d : Dev) : Dev :=
  if d.jrnl.hold && d.jrnl.buf.length < 512 then
    let d := d.present.ends 155
    let fs := d.jrnl.folded
    let d := { d with jrnl := { d.jrnl with hold := false, folded := [] } }
    let d := fs.foldl (fun d f => d.append (d.recordOf oPower 0xFFFF 0xFF (summaryDraft f))) d
    let n := d.jrnl.buf.length
    d.append (d.recordOf oPower 0xFFFF 0xFF (draft 0x7F 0xFF (d.jrnl.nextNumber % 2 ^ 32) n (n + 1) 1))
  else d

/-- V2 can be written: the media is ready, and PD15 on with its clocks running. -/
def Dev.mediaUp (d : Dev) : Bool := d.med.ready && d.dom 15 == .on

/-- Every buffered record is on V2 (R142). -/
def Dev.flushBuffer (d : Dev) : Dev :=
  if !d.mediaUp || d.jrnl.buf.isEmpty then d
  else
    let d := d.v2Room
    (Dev.jrnlWarn { d with jrnl := { d.jrnl with v2 := d.jrnl.v2 ++ d.jrnl.buf, buf := [] } }).holdExit

/-- Classes whose batch is followed by a chain-head write (R143). -/
def headClass (r : Record) : Bool := [0x10, 0x11, 0x20, 0x21, 0x30, 0x31, 0x40, 0x50].contains r.cls

/-- Stamp at which the present batch is due: 85 records, or 100 ms after the oldest record; 100 µs under `MEDSTAT.WT` (R142). -/
def Dev.batchAt (d : Dev) : Nat :=
  if 85 ≤ d.jrnl.buf.length then d.now
  else d.jrnl.oldestAt + (if d.med.state == .writeThrough then 12480 else 12480000)

/-- JOURNAL_FLUSH (R142): a batch is written to V2, and the chain head after it where R143 asks for it. -/
def journalFlush (d : Dev) : Dev :=
  if !d.mediaUp || d.jrnl.buf.isEmpty || !d.awake then d
  else
    let d := d.wait d.batchAt
    let head := d.jrnl.buf.any headClass
    let d := d.flushBuffer
    if head then d.writeHead false else d

def execJournalFlush (s : State) : Host.Outcome State Fault Refusal := run journalFlush s

/-- CHAIN_HEAD_WRITE (R143): the head is written at least once a second while records are appended. -/
def chainHeadWrite (d : Dev) : Dev :=
  if !d.jrnl.headDue || !d.awake then d else (d.wait (d.jrnl.headAt + 124800000)).writeHead false

def execChainHeadWrite (s : State) : Host.Outcome State Fault Refusal := run chainHeadWrite s

end Sys2Proof.Machine
end

