-- ==== Sys2Proof/Machine/System.lean ====
section
/-!
DEFINITION. The system commands: NOP, SLEEP_ENTER, SELFTEST, TELEMETRY_READ (chapters 3 and 5), LOG_READ and LOG_VERIFY
(chapter 6).
-/

namespace Sys2Proof.Machine

/-- NOP (R122): the result is a copy of the payload. -/
def nop (tag : Nat) : Dev → Dev :=
  Dev.startCmd (isOp 0x00) tag fun c d => if c.zeroFrom 6 then d.reply tag c.payload else d.hostError c

def execNop (tag : Nat) (s : State) : Host.Outcome State Fault Refusal := run (nop tag) s

/-- What stands against SLEEP_ENTER (R64). -/
def Dev.sleepConflict (d : Dev) (tag target : Nat) : Bool :=
  d.cmds.any (fun b => b.tag != tag) || !d.store.isEmpty ||
  (target != 1 && (d.energised || d.anyGrant || d.cru.prepared.isSome || !d.pwr.holds.isEmpty))

/-- SLEEP_ENTER (R64): DONE, or STATE_CONFLICT with the state as it was. -/
def sleepEnter (tag : Nat) : Dev → Dev :=
  Dev.startCmd (isOp 0x01) tag fun c d =>
    let t := c.w 6
    if t = 0 || 4 < t || 1 < c.w 7 || !c.zeroFrom 8 then d.hostError c
    else if d.sleepConflict tag t then d.fail tag .stateConflict
    else d.finish tag ⟨.done, [], .sleep t (c.w 7 = 1), none, []⟩

def execSleepEnter (tag : Nat) (s : State) : Host.Outcome State Fault Refusal := run (sleepEnter tag) s

/-- The domain of a function is off, so SELFTEST skips it (R123); the RELEASE test checks the drivers of PD19. -/
def Dev.fnOff (d : Dev) (f : Nat) : Bool := ((fnDomains f) ++ (if f = 11 then [19] else [])).any (fun n => !d.domOn n)

/-- A mask of the functions that meet `p`. -/
def fnMask (p : Nat → Bool) : Nat := bitsNat ((List.range 14).map p)

/-- SELFTEST (R123): `failing` is the set of functions whose hardware is bad. -/
def selftest (tag failing : Nat) : Dev → Dev :=
  Dev.startCmd (isOp 0x02) tag fun c d =>
    if 0x4000 ≤ c.w 6 || !c.zeroFrom 7 then d.hostError c
    else
      let skip := fnMask (fun f => bit f (c.w 6) && d.fnOff f)
      let bad := fnMask (fun f => bit f (c.w 6) && !bit f skip && bit f failing)
      let pass := fnMask (fun f => bit f (c.w 6) && !bit f skip && !bit f failing)
      let d := { d with host := { d.host with degraded := d.host.degraded || bad != 0 },
                        rel := { d.rel with diag := if bit 11 pass then 0 else d.rel.diag } }
      d.finish tag ⟨if bad = 0 then .done else .hwFault, [word pass, word bad, word skip], .none, none, []⟩

def execSelftest (tag failing : Nat) (s : State) : Host.Outcome State Fault Refusal := run (selftest tag failing) s

/-- Telemetry items 0–31 at one instant (R124): 0–7, and 16 as the ninth of `items`, are measured, the others stand in the state. -/
def Dev.telemetry (d : Dev) (items : List Word) : List Word :=
  fit 8 0 items ++ fit 8 0 (d.lf.aerials.map (fun a => word a.ipeak)) ++ [items.getD 8 0, word (min 65535 d.pwr.wakes)] ++
  List.replicate 14 0

/-- TELEMETRY_READ (R124). -/
def telemetryRead (tag : Nat) (items : List Word) : Dev → Dev :=
  Dev.startCmd (isOp 0x03) tag fun c d =>
    if c.w 7 = 0 || 32 < c.w 6 + c.w 7 || !c.zeroFrom 8 then d.hostError c
    else d.reply tag (slice (c.w 6) (c.w 7) (d.telemetry items))

def execTelemetryRead (tag : Nat) (items : List Word) (s : State) : Host.Outcome State Fault Refusal :=
  run (telemetryRead tag items) s

/-- Every record kept, oldest first (R142). -/
def Dev.records (d : Dev) : List Record := d.jrnl.v2 ++ d.jrnl.buf

/-- Number of the oldest record kept. -/
def Dev.oldest (d : Dev) : Nat := (d.records.head?.map Record.number).getD d.jrnl.nextNumber

/-- One of `count` records from `first` on is read from V2. -/
def Dev.onMedium (d : Dev) (first count : Nat) : Bool := d.jrnl.v2.any (fun r => first ≤ r.number && r.number < first + count)

/-- LOG_READ (R145). -/
def logRead (tag : Nat) (nand : NandRead) : Dev → Dev :=
  Dev.startCmd (isOp 0x08) tag fun c d =>
    let first := c.w3 6
    let count := c.w 9
    if 21 < count || !c.zeroFrom 10 then d.hostError c
    else if !d.med.ready then d.fail tag .stateConflict
    else if count = 0 then
      d.reply tag (leWords 3 d.oldest ++ leWords 3 d.jrnl.nextNumber ++ leWords 2 v2Capacity)
    else
      let rs := (d.records.filter (fun r => first ≤ r.number)).take count
      if first < d.oldest || d.jrnl.nextNumber ≤ first then d.fail tag .stateConflict
      else if !d.onMedium first count then d.reply tag (rs.flatMap (fun r => bytesToWords r.all))
      else if d.nandLost nand then (d.nandMet nand).fail tag .mediaUncorrectable
      else (d.nandMet nand).reply tag (rs.flatMap (fun r => bytesToWords r.all))

def execLogRead (tag : Nat) (nand : NandRead) (s : State) : Host.Outcome State Fault Refusal := run (logRead tag nand) s

/-- Tag of a kept record, or of the anchor (R142). -/
def Dev.tagOf (d : Dev) (number : Nat) : Bytes :=
  match d.records.find? (fun r => r.number == number) with
  | some r => r.tag
  | none =>
    match d.jrnl.anchor with
    | some (n, t) => if n = number then t else zeroTag
    | none => zeroTag

/-- Aux cause of a JOURNAL record: 0 hold entry, 1 hold exit, 2 V2 wrap, 3 genesis. -/
def genesisCause : Nat := 3

/-- The number that the subject of a record, its low 32 bits, names: the greatest below the record's own (R143). -/
def Record.named (r : Record) : Nat :=
  let n := r.number - r.number % 2 ^ 32 + r.subject % 2 ^ 32
  if n < r.number then n else n - 2 ^ 32

/-- A BOOT record that names no record: V2 held none (R143). -/
def Record.orphan (r : Record) : Bool := r.subject == 0xFFFFFFFF

/-- The tag a record is chained from (R141, R143, R146). -/
def Dev.predecessor (d : Dev) (r : Record) : Bytes :=
  if r.cls = 0x7F && r.auxCause = genesisCause then zeroTag
  else if r.cls = 0x42 then if r.orphan then zeroTag else d.tagOf r.named
  else if r.number = 0 then zeroTag
  else d.tagOf (r.number - 1)

/-- A number lies between a BOOT record of these and the record its subject names, outside the chain (R143, R146). -/
def outsideChain (rs : List Record) (n : Nat) : Bool :=
  rs.any (fun b => b.cls == 0x42 && n < b.number && (b.orphan || b.named < n))

def Dev.outside (d : Dev) (n : Nat) : Bool := outsideChain d.records n

/-- (BOOT_EPOCH, TB, ESN) does not go back from one record to the next (R140, R146). -/
def inOrder (a b : Record) : Bool :=
  a.epoch < b.epoch || (a.epoch == b.epoch && (a.tb < b.tb || (a.tb == b.tb && a.esn ≤ b.esn)))

/-- The first of `count` numbers from `n` on that fails, with its reason: 1 tag, 2 order, 3 zero tag (R146). A number that no record
bears, and one outside the chain, fails with reason 1. -/
def Dev.verifyRange (d : Dev) (n count : Nat) : Option Record → List Record → Option (Nat × Nat)
  | _, [] => if count = 0 then none else some (n, 1)
  | prev, r :: rs =>
    if count = 0 then none
    else if r.number ≠ n || d.outside n then some (n, 1)
    else if r.tag = zeroTag then some (n, 3)
    else if d.chainTag r (d.predecessor r) ≠ r.tag then some (n, 1)
    else if prev.any (fun p => !inOrder p r) then some (n, 2)
    else d.verifyRange (n + 1) (count - 1) (some r) rs

/-- LOG_VERIFY (R146). -/
def logVerify (tag : Nat) (nand : NandRead) : Dev → Dev :=
  Dev.startCmd (isOp 0x09) tag fun c d =>
    let first := c.w3 6
    let count := c.w2 9
    if count = 0 || !c.zeroFrom 11 then d.hostError c
    else if !d.med.ready || !d.cru.provisioned || first < d.oldest || d.jrnl.nextNumber < first + count then
      d.fail tag .stateConflict
    else if d.onMedium first count && d.nandLost nand then (d.nandMet nand).fail tag .mediaUncorrectable
    else
      let rs := d.records.filter (fun r => first ≤ r.number)
      let d := if d.onMedium first count then d.nandMet nand else d
      match d.verifyRange first count (d.records.find? (fun r => r.number + 1 == first)) rs with
      | some (n, why) =>
        d.finish tag ⟨.authFail, leWords 3 n ++ [word why, 0, 0, 0, 0], .none, none, []⟩
      | none => d.reply tag (leWords 3 (first + count - 1) ++ bytesToWords (d.tagOf (first + count - 1)) ++ [0])

def execLogVerify (tag : Nat) (nand : NandRead) (s : State) : Host.Outcome State Fault Refusal := run (logVerify tag nand) s

end Sys2Proof.Machine
end

