-- ==== Sys2Proof/Machine/Media.lean ====
section
/-!
DEFINITION. The media manager (chapter 20): volumes and their bytes, the media commands, mapping, the manager's states, the hold-up test,
die loss and rebuild, and the background rows of the function MEDIA.
-/

namespace Sys2Proof.Machine

/-! ### Capacity and volumes (R497, R498, R509) -/

def mib : Nat := 1048576
/-- Units of 256 KiB of user capacity that `n` of the dies with `raw` MiB in all give (R498). -/
def userCapacity (raw n : Nat) : Nat := raw * 4 * 93 * (if n = 1 then 1 else n - 1) / (100 * (if n = 1 then 1 else n))
/-- Raw capacity of the dies in use, MiB. -/
def Dev.rawMib (d : Dev) : Nat := (d.med.dies.filter (fun x => x.state == 1)).foldl (fun a x => a + x.mib) 0

/-- Units that V7, V5, V2, V3, V0, V1 and V4 take (R497). -/
def Media.fixedUnits (m : Media) : Nat := 4 * (128 + 1 + 64 + 16 + 2 * m.atlasMib + m.profMib)

/-- Size of a volume in bytes (R497). -/
def Media.size (m : Media) (v : Nat) : Nat :=
  match v with
  | 0 => m.atlasMib * mib
  | 1 => m.atlasMib * mib
  | 2 => 64 * mib
  | 3 => 16 * mib
  | 4 => m.profMib * mib
  | 5 => mib
  | 6 => (m.userUnits - m.fixedUnits) * 262144
  | 7 => 128 * mib
  | _ => 0

/-- Bytes of an image on an atlas volume. -/
def Dev.atlasBytes (d : Dev) (v : Nat) : Bytes :=
  let shadow := if d.atlas.load.state = 0 then d.atlas.former else d.atlas.load.bytes
  match d.atlas.active with
  | some (a, m) => if a = v then m else shadow
  | none => if v = 0 then shadow else []

/-- Mapped user data in units of 256 KiB. -/
def Dev.mappedUnits (d : Dev) : Nat :=
  d.med.mapped.length + ceilDiv (d.atlasBytes 0).length 262144 + ceilDiv (d.atlasBytes 1).length 262144 +
  ceilDiv (d.jrnl.v2.length * 4096) (85 * 262144) + ceilDiv (d.med.tel.length * 64) 262144 +
  (if d.ham.storedA.isSome || d.ham.storedB.isSome || !d.ham.stage.isEmpty then 4 else 0)

/-- Fill f in 0.1 %. -/
def Dev.fill (d : Dev) : Nat := if d.med.userUnits = 0 then 0 else d.mappedUnits * 1000 / d.med.userUnits

/-- Size of the SLC buffer in MiB of raw capacity (R509). -/
def Dev.slcMib (d : Dev) : Nat :=
  let u := d.med.userUnits
  let m := d.mappedUnits
  if u = 0 then 0
  else if 100 * m < 95 * u then d.rawMib * (11400 * u - 11500 * m) / (95000 * u)
  else d.rawMib * 5 / 1000

/-! ### Bytes of a volume (R499, R501) -/

/-- Buffered bytes lie over the durable ones, later writes over earlier ones. -/
def overlay (off n : Nat) (bs : Bytes) (w : Buffered) : Bytes :=
  (List.range n).map (fun i =>
    if w.off ≤ off + i && off + i < w.off + w.bytes.length then w.bytes.getD (off + i - w.off) 0 else bs.getD i 0)

/-- The page of 85 records, padded to 4 KiB, that V2's ring holds at a page number (R142). -/
def Dev.v2Byte (d : Dev) (off : Nat) : Byte :=
  let page := off / 4096
  let at_ := off % 4096
  if 4080 ≤ at_ then 0
  else
    let pos := page * 85 + at_ / 48
    match d.jrnl.v2.find? (fun r => r.number % v2Capacity == pos) with
    | some r => r.all.getD (at_ % 48) 0
    | none => 0

/-- A byte of V3: record i lies at place i modulo the ring. -/
def Dev.v3Byte (d : Dev) (off : Nat) : Byte :=
  let first := d.med.telCount - d.med.tel.length
  let pos := off / 64
  let i := first + (pos + 262144 - first % 262144) % 262144
  (d.med.tel.getD (i - first) []).getD (off % 64) 0

/-- `n` bytes of a volume from an offset; how V5 lays its images out is not stated. -/
def Dev.volRead (d : Dev) (v off n : Nat) : Bytes × Dev :=
  match v with
  | 2 => ((List.range n).map (fun i => d.v2Byte (off + i)), d)
  | 3 => ((List.range n).map (fun i => d.v3Byte (off + i)), d)
  | 4 => ((d.med.buf.filter (fun w => w.vol == 4)).foldl (overlay off n) (cellsRead (0 : Byte) off n d.med.v4), d)
  | 5 => if d.ham.storedA.isNone && d.ham.storedB.isNone && d.ham.stage.isEmpty then (List.replicate n 0, d) else d.freeBytes n
  | 6 => ((d.med.buf.filter (fun w => w.vol == 6)).foldl (overlay off n) (cellsRead (0 : Byte) off n d.med.v6), d)
  | _ => (fit n 0 (slice off n (d.atlasBytes v)), d)

/-- The write buffer is made durable (R502). -/
def Dev.durable (d : Dev) : Dev :=
  let put (v : Nat) (cs : List Host.Cell) : List Host.Cell :=
    (d.med.buf.filter (fun w => w.vol == v)).foldl (fun cs w => cellsWrite (0 : Byte) w.off w.bytes cs) cs
  { d with med := { d.med with v4 := put 4 d.med.v4, v6 := put 6 d.med.v6, buf := [] } }

/-- Media age now, in ticks (R505). -/
def Dev.mediaAge (d : Dev) : Nat := d.med.age + (d.now - d.med.ageAt)

/-- A map checkpoint saves the media age clock (R505). -/
def Dev.checkpoint (d : Dev) : Dev := { d with med := { d.med with ageSaved := d.mediaAge } }

/-! ### The manager's states (R519) -/

/-- WRITE_THROUGH is entered once the write buffer is durable (R519). -/
def Dev.enterThrough (d : Dev) : Dev :=
  if d.med.state == .writeBack then
    let old := d.medstat
    let d := d.durable
    (Dev.starts 137 { d with med := { d.med with state := .writeThrough } }).noteMedia 0xFF old
  else d

/-- WRITE_BACK is entered: a test passes with VHOLD_LOW not holding (R519). -/
def Dev.enterBack (d : Dev) : Dev :=
  if d.med.state == .writeThrough && !d.pwr.vholdLow then
    let old := d.medstat
    let d := d.presentOn 11
    (Dev.ends 137 { d with med := { d.med with state := .writeBack } }).noteMedia 0xFF old
  else d

/-- `MEDSTAT.READY` sets, with MED_READY (source 136); write-through, whose entry is journalled, holds until the READY test passes
(R519, R521). -/
def Dev.mediaOpen (d : Dev) : Dev :=
  let d := Dev.signal 136 { d with med := { d.med with ready := true } }
  let old := d.medstat
  let d := (Dev.starts 137 { d with med := { d.med with state := .writeThrough } }).noteMedia 0xFF old
  if d.lowSpare then d.starts 141 else d

/-! ### Mapping (R508) -/

/-- Fine units. -/
def Dev.fineUnits (d : Dev) : Nat := (d.med.units.filter UnitMap.fine).length

/-- The fine unit longest idle is demoted when no more may be fine (R508). -/
def demoteOldest (us : List UnitMap) : List UnitMap :=
  if (us.filter UnitMap.fine).length < 4096 then us
  else match leastBy (fun u : UnitMap => if u.fine then u.lastWrite else 2 ^ 64) 0 us with
    | some (i, _) => us.eraseIdx i
    | none => us

/-- A write of [off, off + n) of a volume reaches one unit (R508). -/
def Dev.unitWrite (v off n u : Nat) (d : Dev) : Dev :=
  let lo := 262144 * u
  let partly := !(off ≤ lo && lo + 262144 ≤ off + n) && d.med.mapped.contains (v, u)
  let x := (d.med.units.find? (fun x => x.vol == v && x.unit == u)).getD ⟨v, u, false, [], d.now⟩
  let rest := d.med.units.filter (fun x => !(x.vol == v && x.unit == u))
  let rs := if partly && !x.fine then (x.rewrites.filter (fun t => d.now < t + 74880000000)) ++ [d.now] else x.rewrites
  let fine := x.fine || 4 ≤ rs.length
  let keep := fine || !rs.isEmpty
  let rest := if fine && !x.fine then demoteOldest rest else rest
  let y : UnitMap := { x with fine := fine, rewrites := if fine then [] else rs, lastWrite := d.now }
  { d with med := { d.med with
      units := if keep then rest ++ [y] else rest,
      mapped := if d.med.mapped.contains (v, u) then d.med.mapped else d.med.mapped ++ [(v, u)] } }

/-- Units that [off, off + n) touches. -/
def unitsOf (off n : Nat) : List Nat := if n = 0 then [] else (List.range ((off + n - 1) / 262144 - off / 262144 + 1)).map (· + off / 262144)

/-! ### The media commands (R499, R500) -/

/-- Word 6 and the offset of a media command. -/
def Cmd.vol (c : Cmd) : Nat := c.w 6
def Cmd.off (c : Cmd) : Nat := c.w3 7

/-- MEDIA_READ (R499–R501). -/
def mediaRead (tag : Nat) (nand : NandRead) : Dev → Dev :=
  Dev.startCmd (isOp 0x88) tag fun c d =>
    let n := c.w 10
    if 8 ≤ c.vol || c.off % 2 != 0 || n < 2 || 1024 < n || n % 2 != 0 || !c.zeroFrom 11 || c.plen != 0 then d.hostError c
    else if !d.med.ready then d.fail tag .stateConflict
    else if c.vol = 7 then d.fail tag .protected_
    else if d.med.size c.vol < c.off + n then d.fail tag .stateConflict
    else
      let held := c.vol != 4 && c.vol != 6 || (unitsOf c.off n).any (fun u => d.med.mapped.contains (c.vol, u))
      let lost := d.nandLost nand
      let d := if held then d.nandMet nand else d
      if held && lost then d.fail tag .mediaUncorrectable
      else
        let r := d.volRead c.vol c.off n
        r.2.reply tag (bytesToWords r.1)

def execMediaRead (tag : Nat) (nand : NandRead) (s : State) : Host.Outcome State Fault Refusal := run (mediaRead tag nand) s

/-- The mapped data fits the capacity of the dies in use (R500 order 4, R514). -/
def Dev.roomFor (d : Dev) (fresh : Nat) : Bool :=
  d.mappedUnits + fresh ≤ min d.med.userUnits (userCapacity d.rawMib d.diesUsed)

/-- MEDIA_WRITE (R499–R502). -/
def mediaWrite (tag : Nat) : Dev → Dev :=
  Dev.startCmd (isOp 0x89) tag fun c d =>
    let n := c.w 10
    if 8 ≤ c.vol || c.off % 512 != 0 || n = 0 || 2048 < n || n % 512 != 0 || 1 < c.w 11 || !c.zeroFrom 12 || c.plen != n / 2 then
      d.hostError c
    else if !d.med.ready then d.fail tag .stateConflict
    else if c.vol != 4 && c.vol != 6 then d.fail tag .protected_
    else if d.med.size c.vol < c.off + n then d.fail tag .stateConflict
    else
      let us := unitsOf c.off n
      if !d.roomFor (us.filter (fun u => !d.med.mapped.contains (c.vol, u))).length then d.fail tag .limitReached
      else if d.diesUsed = 0 then d.fail tag .hwFault
      else
        let d : Dev := us.foldl (fun d u => d.unitWrite c.vol c.off n u) d
        let held := d.med.buf.foldl (fun a w => a + w.bytes.length) 0
        let d := if mib < held + n then d.durable else d
        let bin := tempBin (signed 16 (d.bg.items.getD 2 0).toNat)
        let d : Dev := { d with med := { d.med with
          buf := d.med.buf ++ [⟨c.vol, c.off, c.bytes⟩], slc := d.med.slc + n,
          dies := d.med.dies.map (fun (x : Die) => if x.state = 1 then { x with tempBin := bin } else x) } }
        (if c.w 11 = 1 || d.med.state == .writeThrough then d.durable else d).fail tag .done

def execMediaWrite (tag : Nat) (s : State) : Host.Outcome State Fault Refusal := run (mediaWrite tag) s

/-- A range is unmapped, in the write buffer too (R515). -/
def Dev.unmap (v off n : Nat) (d : Dev) : Dev :=
  let d := d.durable
  let whole := (unitsOf off n).filter (fun u => off ≤ 262144 * u && 262144 * (u + 1) ≤ off + n)
  let gone (w u : Nat) : Bool := w == v && whole.contains u
  { d with med := { d.med with
      v4 := if v = 4 then cellsClear off n d.med.v4 else d.med.v4, v6 := if v = 6 then cellsClear off n d.med.v6 else d.med.v6,
      mapped := d.med.mapped.filter (fun x => !gone x.1 x.2), units := d.med.units.filter (fun x => !gone x.vol x.unit) } }

/-- Length of a discard; 0 runs to the end of the volume. -/
def Dev.discardLen (d : Dev) (c : Cmd) : Nat := if c.w3 10 = 0 then d.med.size c.vol - c.off else c.w3 10

/-- MEDIA_DISCARD (R515). -/
def mediaDiscard (tag : Nat) : Dev → Dev :=
  Dev.startCmd (isOp 0x8A) tag fun c d =>
    if 8 ≤ c.vol || c.off % 4096 != 0 || c.w3 10 % 4096 != 0 || !c.zeroFrom 13 || c.plen != 0 then d.hostError c
    else if !d.med.ready then d.fail tag .stateConflict
    else if c.vol != 4 && c.vol != 6 then d.fail tag .protected_
    else if d.med.size c.vol < c.off + d.discardLen c then d.fail tag .stateConflict
    else (d.unmap c.vol c.off (d.discardLen c)).fail tag .done

def execMediaDiscard (tag : Nat) (s : State) : Host.Outcome State Fault Refusal := run (mediaDiscard tag) s

/-- Every volume is erased and the medium formatted (R498, R515): spare blocks at or above the warning level, as nothing
determines. -/
def Dev.format (d : Dev) : Dev :=
  let atlas := d.setting 0x0B0010
  let prof := d.setting 0x0B0012
  let u := userCapacity d.rawMib d.diesUsed
  let spares (x : Die) (k : Nat) : Die :=
    let least := ceilDiv (d.setting 0x0B0051 * x.blocks) 100
    if x.state = 1 then { x with spare := least + Config.freeNat (d.free + k) % (x.blocks - least + 1), retired := 0, refresh := 0 } else x
  let dies := (indexedFrom 0 d.med.dies).map (fun p => spares p.2 p.1)
  let m : Media := { d.med with
    userUnits := u, atlasMib := atlas, profMib := prof, v4 := [], v6 := [], mapped := [], buf := [], units := [], slc := 0,
    ladder := [], tel := [], telCount := 0, foreign := false, dies := dies }
  let ok := m.fixedUnits + 1 ≤ u
  { d with
    free := d.free + 8, med := { m with formatted := ok, failed := !ok, ready := false },
    jrnl := { d.jrnl with v2 := [], anchor := none },
    atlas := { d.atlas with active := none, loaded := false, cache := [], load := AtlasLoad.idle, former := [] },
    ham := { d.ham with stage := [], storedA := none, storedB := none } }

/-- MEDIA_SECURE_DISCARD (R515); REFORMAT runs on a foreign or failed medium too (R498, R500). -/
def mediaSecureDiscard (tag : Nat) : Dev → Dev :=
  Dev.startCmd (isOp 0x8B) tag fun c d =>
    let reformat := c.w 13 = 1
    if (if reformat then c.vol != 0xF || !c.zeroFrom 14 else 8 ≤ c.vol || !c.zeroFrom 13) || c.off % 4096 != 0 ||
        c.w3 10 % 4096 != 0 || c.plen != 0 then d.hostError c
    else if reformat then
      if d.diesUsed = 0 then d.fail tag .stateConflict
      else if !d.med.ready && !d.med.foreign && !d.med.failed then d.fail tag .stateConflict
      else if d.cru.provisioned && !d.med.foreign && !d.med.failed then d.fail tag .stateConflict
      else
        let was := d.med.ready
        let d := d.format
        if d.med.failed then d.fail tag .done
        else (if was then Dev.ends 141 { d with med := { d.med with ready := true } } else d.mediaOpen).fail tag .done
    else if !d.med.ready then d.fail tag .stateConflict
    else if c.vol != 4 && c.vol != 6 then d.fail tag .protected_
    else if d.med.size c.vol < c.off + d.discardLen c then d.fail tag .stateConflict
    else (d.unmap c.vol c.off (d.discardLen c)).fail tag .done

def execMediaSecureDiscard (tag : Nat) (s : State) : Host.Outcome State Fault Refusal := run (mediaSecureDiscard tag) s

/-- The words of a die in MEDIA_HEALTH (R522); its erase counts follow the manager's own arrangement, which nothing states. -/
def Dev.dieWords (d : Dev) (k : Nat) : List Word :=
  match d.med.dies[k]? with
  | none => List.replicate 12 0
  | some x =>
    if x.state = 0 then List.replicate 12 0
    else
      [word x.state, word (min 65535 x.blocks), word (min 65535 x.spare), word (min 65535 x.retired)] ++
      (List.range 4).map (fun i => Config.freeWord (d.free + 4 * k + i)) ++
      leWords 2 (min 0xFFFFFFFF x.refresh) ++ [word x.tempBin, 0]

/-- MEDIA_HEALTH (R522). -/
def mediaHealth (tag : Nat) : Dev → Dev :=
  Dev.startCmd (isOp 0x8C) tag fun c d =>
    if !c.zeroFrom 6 || c.plen != 0 then d.hostError c
    else if !d.med.ready && !d.med.foreign then d.fail tag .stateConflict
    else
      let sat (v : Nat) : List Word := leWords 2 (min 0xFFFFFFFF v)
      let m := d.med
      let e := m.dies.foldl (fun a x => if x.state = 1 then (if a = 0 then x.endurance else min a x.endurance) else a) 0
      let progress := if m.rebuild then Config.freeWord (d.free + 32) else 0
      let ws := [word d.diesUsed, word (m.nif + 16 * m.sdrMode)] ++ sat (m.userUnits / 4) ++ sat (d.mappedUnits / 4) ++
        [word d.fill, word d.slcMib, word d.fineUnits, word m.state.code, word (b2n m.testPass + 2 * m.testC), word e] ++
        sat (d.mediaAge / 449280000000) ++ sat m.unflushed ++ sat m.ladderHits ++ sat m.rebuilt ++ sat m.uncorrReads ++
        [word (min 65535 m.mapMismatch), progress] ++ List.replicate 8 0 ++ (List.range 8).flatMap d.dieWords
      Dev.reply tag ws { d with free := d.free + 33 }

def execMediaHealth (tag : Nat) (s : State) : Host.Outcome State Fault Refusal := run (mediaHealth tag) s

/-- MEDIA_FLUSH (R502). -/
def mediaFlush (tag : Nat) : Dev → Dev :=
  Dev.startCmd (isOp 0x8D) tag fun c d =>
    if !c.zeroFrom 6 || c.plen != 0 then d.hostError c
    else if !d.med.ready then d.fail tag .stateConflict
    else (d.flushBuffer.durable.checkpoint.writeHead false).fail tag .done

def execMediaFlush (tag : Nat) (s : State) : Host.Outcome State Fault Refusal := run (mediaFlush tag) s

/-! ### The background rows -/

/-- MEDIA's atoms run where the media is ready. -/
def Dev.mediaAtom (body : Dev → Dev) (d : Dev) : Dev := if d.med.ready then d.atom 0x0B body else d

/-- FOLD (R509): the SLC buffer's data is copied into TLC, unless an atlas reload runs (R507). -/
def fold (d : Dev) : Dev :=
  if d.atlas.active.isSome && !d.atlas.loaded && !d.atlas.reloadFailed then d
  else d.mediaAtom (fun d => { d.durable with med := { d.durable.med with slc := 0 } })

def execFold (s : State) : Host.Outcome State Fault Refusal := run fold s

/-- GARBAGE_COLLECTION (R513): blocks that hold no live data are erased; no byte a command can read changes (R506). -/
def garbageCollection : Dev → Dev := Dev.mediaAtom id

def execGarbageCollection (s : State) : Host.Outcome State Fault Refusal := run garbageCollection s

/-- DEMOTION (R508): fine units idle for 24 h are merged back. -/
def demotion : Dev → Dev := Dev.mediaAtom fun d =>
  { d with med := { d.med with units := d.med.units.filter (fun u => !(u.fine && u.lastWrite + 10782720000000 ≤ d.now)) } }

def execDemotion (s : State) : Host.Outcome State Fault Refusal := run demotion s

/-- One more block of a die is rewritten by its read count (R510). -/
def Dev.refreshDie (die : Nat) (d : Dev) : Dev :=
  match d.med.dies[die]? with
  | some x => if x.state = 1 then { d with med := { d.med with dies := d.med.dies.set die { x with refresh := x.refresh + 1 } } } else d
  | none => d

/-- REFRESH (R510). -/
def refresh (die : Nat) : Dev → Dev := Dev.mediaAtom (Dev.refreshDie die)

def execRefresh (die : Nat) (s : State) : Host.Outcome State Fault Refusal := run (refresh die) s

/-- PROTECTION_REWRITE (R510, R529): it waits for no idle function. -/
def protectionRewrite (die : Nat) (d : Dev) : Dev := if d.med.ready && d.awake then d.refreshDie die else d

def execProtectionRewrite (die : Nat) (s : State) : Host.Outcome State Fault Refusal := run (protectionRewrite die) s

/-- SAMPLE_READ (R511). -/
def sampleRead (nand : NandRead) : Dev → Dev := Dev.mediaAtom (Dev.nandMet nand)

def execSampleRead (nand : NandRead) (s : State) : Host.Outcome State Fault Refusal := run (sampleRead nand) s

/-- Length of a window of RUN time for the hold-up test, in ticks (R518). -/
def Dev.testPeriod (d : Dev) : Nat := d.setting 0x0B0021 * 449280000000

/-- The window of RUN time that is current (R518). -/
def Dev.testWindow (d : Dev) : Nat := d.runTime / max 1 d.testPeriod

/-- HOLDUP_TEST (R518): VHOLD and the droop in mV; C = 50 mA × 1 ms / ΔV, and P_flush is 0.90 W. It runs at READY, and then once in each
window of RUN time. -/
def holdupTest (vhold droop : Nat) (d : Dev) : Dev := if d.med.testIn == some d.testWindow then d else d.mediaAtom fun d =>
  let vm := d.setting 0x0B0020
  let pass := decide (vm ≤ vhold) && decide (750 * 900 * droop ≤ vhold * vhold - vm * vm)
  let c := if droop = 0 then 32767 else min 32767 (50000 / droop)
  let d := d.wait (d.now + 124800)
  let d := { d with med := { d.med with testPass := pass, testC := c, holdupOk := pass, testIn := some d.testWindow } }
  if pass then d.enterBack else (d.signal 138).enterThrough

def execHoldupTest (vhold droop : Nat) (s : State) : Host.Outcome State Fault Refusal := run (holdupTest vhold droop) s

/-- TELEMETRY_RECORD (R497): one 64-byte record of V3, every `MED.TEL_PERIOD` minutes of RUN time. -/
def telemetryRecord (d : Dev) : Dev :=
  if !d.med.ready || d.pwr.dev != .run || !d.domOn 15 then d
  else
    let d := d.wait (d.now + (d.med.telAt + d.setting 0x0B0050 * 7488000000 - d.runTime))
    let bs := leBytes 8 d.now ++ leBytes 4 d.nv.bootEpoch ++ List.replicate 4 0 ++ wordsToBytes (fit 24 0 d.bg.items)
    let all := d.med.tel ++ [bs]
    { d with med := { d.med with
        tel := if 262144 < all.length then all.drop 1 else all, telCount := d.med.telCount + 1, telAt := d.runTime } }

def execTelemetryRecord (s : State) : Host.Outcome State Fault Refusal := run telemetryRecord s

/-- DIE_LOST (R514): source 139 and its MEDIA record; a rebuild starts where a stripe still holds the data. -/
def dieLost (k : Nat) (d : Dev) : Dev :=
  if !d.dieList.contains k || !d.awake then d else ((d.dieGone k).presentOn 11).dieNoted k d.medstat

def execDieLost (k : Nat) (s : State) : Host.Outcome State Fault Refusal := run (dieLost k) s

/-- REBUILD_DONE (R514): source 140; a rebuild goes on only while the mapped data fits the reduced capacity. -/
def rebuildDone (d : Dev) : Dev :=
  if d.med.rebuild && d.roomFor 0 then
    let old := d.medstat
    let lost := (d.med.dies.findIdx? (fun x => x.state == 2)).getD 0xFF
    (Dev.signal 140 { d with med := { d.med with rebuild := false } }).noteMedia lost old
  else d

def execRebuildDone (s : State) : Host.Outcome State Fault Refusal := run rebuildDone s

/-- The two copies of the map are read and compared (R520); whether they differ nothing determines. -/
def Dev.mapRead (d : Dev) : Dev :=
  let r := d.freeBool
  { r.2 with med := { r.2.med with mapMismatch := r.2.med.mapMismatch + b2n r.1 } }

/-- MEDIA_READY (R519, R521): the replay of a usable medium ends. -/
def mediaReady (d : Dev) : Dev :=
  if d.replaying then d.mapRead.mediaOpen else d

def execMediaReady (s : State) : Host.Outcome State Fault Refusal := run mediaReady s

/-! ### Cold power-up and losses (R495, R498, R519, R521) -/

/-- The dies found at cold power-up that are used, with what was known of them (R494, R495). -/
def Dev.findDies (found : List DieFound) (d : Dev) : Dev :=
  let used := (found.filter DieFound.usable).take 8
  let keep := d.med.formatted && used.length = d.med.dies.length
  let die (p : Nat × DieFound) : Die :=
    let f := p.2
    let fresh : Die := ⟨1, f.mib, f.blocks, 0, 0, 0, [], 0, f.endurance⟩
    if keep then { d.med.dies.getD p.1 fresh with mib := f.mib, blocks := f.blocks, endurance := f.endurance, retirals := [] } else fresh
  let mode := d.setting 0x0B0000
  let ddr := used.all DieFound.ddr && mode != 1
  let sdr := used.foldl (fun m f => min m f.sdr) (d.setting 0x0B0001)
  let none_ := used.isEmpty || (mode == 2 && !ddr)
  let d := { d with med := { d.med with
    dies := if none_ then [] else (indexedFrom 0 used).map die, nif := if none_ then 0 else if ddr then 2 else 1,
    sdrMode := if none_ || ddr then 0 else sdr, foreign := used.any DieFound.foreign, formatted := keep, state := .replay,
    ready := false, through := true, holdupOk := false, flush := false, uncorr := false, testPass := false, testC := 0,
    units := (d.med.units.filter UnitMap.fine).map (fun u => { u with lastWrite := d.now }),
    age := d.med.ageSaved, ageAt := d.now, offWin := none, offDone := false, telAt := 0, testIn := none } }
  if none_ || d.med.foreign || d.med.formatted then d else { d.format with med := { d.format.med with state := .replay } }

/-- The main supply is gone before the write buffer was durable: only durable data is kept (R519). -/
def Dev.mediaDown (flushed : Bool) (d : Dev) : Dev :=
  let d := if flushed then d.durable.checkpoint else d
  { d with med := { d.med with buf := [], state := .down, ready := false } }

/-- Entry to and wake from PARKED (R519). -/
def Dev.mediaPark (d : Dev) : Dev :=
  let d := d.durable.checkpoint
  if d.med.state == .writeBack || d.med.state == .writeThrough then
    { d with med := { d.med with through := d.med.state == .writeThrough, state := .parked } }
  else d
def Dev.mediaWake (d : Dev) : Dev :=
  if d.med.state == .parked then
    let d := d.mapRead
    { d with med := { d.med with state := if d.med.through then .writeThrough else .writeBack } }
  else d

end Sys2Proof.Machine
end

