-- ==== Sys2Proof/Machine/Background.lean ====
section
/-!
DEFINITION. Background work and loops (chapter 21): the sensor sweep, temperature derating, starvation windows, loop pins and the
parity sweep.
-/

namespace Sys2Proof.Machine

/-- A telemetry reading in 0.125 °C. -/
def Dev.sensor (d : Dev) (n : Nat) : Int := signed 16 (d.bg.items.getD n 0).toNat
/-- A setting in °C, in 0.125 °C. -/
def Dev.celsius (d : Dev) (addr : Nat) : Int := ((8 * d.setting addr : Nat) : Int)

/-- The highest of telemetry sensors 0–3 (R534). -/
def Dev.hottest (d : Dev) : Int := max (max (d.sensor 0) (d.sensor 1)) (max (d.sensor 2) (d.sensor 3))

/-- Estimates of loops 11 and 12 at temperature `t` against Td, both in 0.125 °C (R534). -/
def rateEst (td t : Int) : Nat := if t ≤ td - 160 then 400 else if td ≤ t then 0 else (20 * (td - t) / 8).toNat
def periodEst (td t : Int) : Nat :=
  if t ≤ td - 160 then 1000 else if td ≤ t then 10 else 1000 / 2 ^ ((t - td + 160) / 40).toNat

/-- TEL_LIMIT (source 20) of one sensor, and its re-arming 2 °C below (R534). -/
def Dev.warnSensor (n : Nat) (d : Dev) : Dev :=
  let w := d.celsius 0x0D0001
  let armed := d.bg.warnArmed.getD n true
  if w ≤ d.sensor n then
    let d := { d with bg := { d.bg with warnArmed := d.bg.warnArmed.set n false } }
    if armed then d.signal 20 else d
  else if d.sensor n ≤ w - 16 then { d with bg := { d.bg with warnArmed := d.bg.warnArmed.set n true } }
  else d

/-- SENSOR_SWEEP (R124, R534): every item is sampled at the period of loop 12, and the estimates of loops 11 and 12 move. -/
def sensorSweep (items : List Word) (d : Dev) : Dev :=
  let d := d.wait (d.bg.sweepAt + d.loopApplied 12 * 124800)
  d.atom 0x0D (fun d =>
    let d := { d with bg := { d.bg with items := d.telemetry items, sweepAt := d.now } }
    let d := [0, 1, 2, 3].foldl (fun d n => d.warnSensor n) d
    let td := d.celsius 0x0D0000
    (d.setEst 11 (rateEst td d.hottest)).setEst 12 (periodEst td d.hottest))

def execSensorSweep (items : List Word) (s : State) : Host.Outcome State Fault Refusal := run (sensorSweep items) s

/-- TEMP_DERATE (R534): a sensor at or above Td; loops 11 and 12 apply their floors. -/
def tempDerate (sensor : Nat) (reading : Word) (d : Dev) : Dev :=
  if !d.awake || !d.domOn 22 || 4 ≤ sensor || d.bg.derate || signed 16 reading.toNat < d.celsius 0x0D0000 then d
  else
    let d := { d with bg := { d.bg with items := d.bg.items.set sensor reading, derate := true } }
    ((d.starts 19).overrideCheck 11).overrideCheck 12

def execTempDerate (sensor : Nat) (reading : Word) (s : State) : Host.Outcome State Fault Refusal :=
  run (tempDerate sensor reading) s

/-- TEMP_DERATE_CLEAR (R534): every sensor is 2 °C below Td, and pinned values apply again. -/
def tempDerateClear (d : Dev) : Dev :=
  if d.bg.derate then ((Dev.ends 19 { d with bg := { d.bg with derate := false } }).overrideCheck 11).overrideCheck 12 else d

def execTempDerateClear (s : State) : Host.Outcome State Fault Refusal := run tempDerateClear s

/-- STARVATION_CLOSE (R527): the due atom of a unit becomes owed, and the close's event is BG_OWED
(source 156); the second close of a deferred atom moves nothing but the order in which it starts. -/
def starvationClose (unit : Nat) (d : Dev) : Dev :=
  d.closes (sourcePort 156) ((d.dueOf unit).map Due.win) fun d =>
    if (d.dueOf unit).any Due.owed then d
    else
      Dev.reach 156 { d with bg := { d.bg with
        due := d.bg.due.map (fun (b : Due) => if b.unit = unit then { b with owed := true } else b) } }

def execStarvationClose (unit : Nat) (s : State) : Host.Outcome State Fault Refusal := run (starvationClose unit) s

/-- LOOP_PIN_EXPIRY (R532): a pin's window closes, and the loop continues from the pinned value. -/
def loopPinExpiry (n : Nat) (d : Dev) : Dev :=
  d.closes (loopPort n) (if (d.loop n).pinned then (d.loop n).win else none) (fun d => d.unpinLoop n (d.pinValue n))

def execLoopPinExpiry (n : Nat) (s : State) : Host.Outcome State Fault Refusal := run (loopPinExpiry n) s

/-- PARITY_SWEEP (R278): 64 KiB of the search SRAM are swept; what a parity error brings about is not stated. -/
def paritySweep : Dev → Dev := Dev.atom 0x08 id

def execParitySweep (s : State) : Host.Outcome State Fault Refusal := run paritySweep s

end Sys2Proof.Machine
end

