-- ==== Sys2Proof/Machine/Settings.lean ====
section
/-!
DEFINITION. The settings space (chapter 6): the value of every setting, the judgement of a write, and what an accepted write brings
about.
-/

namespace Sys2Proof.Machine

/-! ### Values (R130, R133) -/

/-- The number whose bit `i` says whether `p i` holds. -/
def bitsWhere (n : Nat) (p : Nat → Bool) : Nat := bitsNat ((List.range n).map p)

/-- Two's complement of 32 bits. -/
def int32 (v : Int) : Nat := (BitVec.ofInt 32 v).toNat

/-- A read-only setting of LF, UHF or UWB (R212, R229, R255). -/
def Dev.radioValue (d : Dev) (a : Nat) : Nat :=
  if a = 0x020000 then d.cru.wakeId
  else if a = 0x020200 then
    d.lf.stage + 8 * b2n d.bellows + 16 * b2n (d.loop 0).pinned + 32 * b2n (d.loopProtected 0)
  else if a = 0x020201 then d.loopApplied 0
  else if a = 0x020202 then d.lf.pollCount
  else if 0x020100 ≤ a && a < 0x020180 then
    let n := (a - 0x020100) / 0x10
    match a % 0x10 with
    | 1 => d.trim n
    | 6 => (d.aerial n).diag
    | 7 => (d.aerial n).ipeak
    | _ => 0
  else match a with
    | 0x030010 => d.uhf.lastRssi
    | 0x030011 => d.uhf.lastId
    | 0x030013 => d.uhf.lastCode
    | 0x030014 => d.uhf.framesOk
    | 0x030016 => d.uhf.framesBad
    | 0x040020 => int32 d.uwb.lastTof
    | 0x040022 => d.uwb.lastCause
    | 0x040023 => d.nextX
    | _ => 0

/-- A read-only setting of KEY or TMP (R351). -/
def Dev.keyValue (d : Dev) (a : Nat) : Nat :=
  let used := bitsWhere 64 (fun n => !d.keyEmpty n)
  if 0x070000 ≤ a && a < 0x070008 then leNat (slice (2 * (a - 0x070000)) 2 d.cru.uid)
  else if 0x070020 ≤ a && a < 0x070024 then used / 65536 ^ (a - 0x070020)
  else if 0x070026 ≤ a && a < 0x07002A then d.cru.slotBad / 65536 ^ (a - 0x070026)
  else match a with
    | 0x070010 => d.updCounter
    | 0x070012 => if d.cru.commit.isSome then 3 else d.updState
    | 0x070024 => bitsWhere 32 d.enrolled
    | 0x070030 => b2n d.cru.pak.isSome
    | 0x100000 => d.cru.tinCfg
    | 0x100001 => (BitVec.ofInt 16 d.cru.dieTemp).toNat
    | 0x100002 => d.cru.trips
    | _ => 0

/-- A read-only setting of HAM for a sequencer (R431). -/
def Seqr.value (s : Seqr) (o : Nat) : Nat :=
  match o with
  | 0 => (if s.halted then 2 else if s.running.isSome then 1 else 0) + 4 * (s.flags / 32 % 2) + 8 * b2n s.image.isSome +
      16 * b2n s.restoring + 32 * s.frames.length + 256 * s.claimed
  | 1 => (s.image.map Script.id).getD 0
  | 3 => (s.image.map Script.seq).getD 0
  | 5 => s.endCause
  | _ => s.endPc

/-- A read-only setting of the other units. -/
def Dev.otherValue (d : Dev) (a : Nat) : Nat :=
  if 0x0E0100 ≤ a && a < 0x0E010D then d.loopApplied (a - 0x0E0100)
  else if 0x0F0010 ≤ a && a < 0x0F0018 then d.ham.a.value (a - 0x0F0010)
  else if 0x0F0020 ≤ a && a < 0x0F0028 then d.ham.b.value (a - 0x0F0020)
  else match a with
    | 0x050000 => (d.rel.policy.map Policy.image).getD 0
    | 0x050002 => (d.rel.policy.map Policy.seq).getD 0
    | 0x050004 => (d.rel.evidence.filter Option.isSome).length
    | 0x050005 => d.rel.last
    | 0x060020 => d.rel.diag
    | 0x080010 => (d.atlas.active.map (fun p => imgId p.2)).getD 0
    | 0x080012 => (d.atlas.active.map (fun p => imgSeq p.2)).getD 0
    | 0x080014 => (d.atlas.active.map Prod.fst).getD 0xFFFF
    | 0x080015 => d.atlas.load.state
    | 0x080016 => d.cacheEntries
    | 0x090010 => d.kw.epoch
    | 0x090012 => d.grantCount 0 + 256 * d.grantCount 1
    | 0x090013 => d.kw.rejects
    | 0x0A0010 => d.nv.writes
    | 0x0A0012 => d.nv.lastBad
    | 0x0A0013 => d.scrubLeft
    | 0x0B0100 => d.med.userUnits / 4
    | 0x0B0102 => d.fill
    | 0x0B0103 => d.slcMib
    | 0x0B0105 => d.med.state.code
    | 0x0F0002 => d.ham.seqK03
    | 0x0F0004 => d.ham.seqDas
    | _ => 0

/-- Channel and offset of a timer setting (R167). -/
def tmrAt (a : Nat) : Nat × Nat := ((a - 0x0C0000) / 0x20, a % 0x20)

/-- A setting of TMR (R166–R169). -/
def Dev.timerValue (d : Dev) (a : Nat) : Nat :=
  if 0x0C0200 ≤ a then 0
  else
    let c := d.chan (tmrAt a).1
    match (tmrAt a).2 with
    | 0x00 => c.ctl
    | 0x03 => d.tmrStat (tmrAt a).1
    | 0x04 => c.cmp % 2 ^ 32
    | 0x06 => c.cmp / 2 ^ 32
    | 0x0C => c.snap
    | 0x0D => c.snap / 2 ^ 16
    | 0x0E => c.snap / 2 ^ 32
    | 0x10 => c.capA
    | 0x11 => c.capA / 2 ^ 16
    | 0x12 => c.capA / 2 ^ 32
    | 0x14 => c.capB
    | 0x15 => c.capB / 2 ^ 16
    | 0x16 => c.capB / 2 ^ 32
    | 0x18 => c.pw
    | _ => d.setting a

/-- Value in effect of the setting of a row (R130). -/
def Dev.value (d : Dev) (r : SettingRow) : Nat :=
  let u := r.addr / 0x10000
  (if u = 0x0C then d.timerValue r.addr
   else if r.lock ≠ 1 then d.setting r.addr
   else if 2 ≤ u && u ≤ 4 then d.radioValue r.addr
   else if u = 0x07 || u = 0x10 then d.keyValue r.addr
   else d.otherValue r.addr) % 65536 ^ r.words

/-- What a read of a settings address returns (R129, R131, R133). -/
def Dev.readSetting (d : Dev) (a : Nat) : Word :=
  match settingRow a with
  | none => 0
  | some r => word (d.value r / 65536 ^ (a - r.addr))

/-! ### Judgement (R131, R134) -/

/-- The pending low word of a two-word setting (R131). -/
def Dev.pendingLow (d : Dev) (r : SettingRow) : Option Nat := (d.setLow.find? (fun p => p.1 == r.addr)).map Prod.snd

/-- The low word of a two-word setting is written. -/
def lowWord (r : SettingRow) (a : Nat) : Bool := r.words = 2 && a = r.addr

/-- The value a write would give (R131, R135): the low word stands with the present high word. -/
def Dev.attempt (d : Dev) (r : SettingRow) (a w : Nat) : Nat :=
  let cur := d.value r
  let v := if r.words = 1 then w
    else if a = r.addr then cur / 65536 * 65536 + w
    else w * 65536 + (d.pendingLow r).getD (cur % 65536)
  if r.lock = 2 then v ||| cur else v

/-- A loop of which this is a bound, and the value its pin would have. -/
def pinOf (n v : Nat) : Option Nat :=
  if 1 ≤ n && n ≤ 8 then (if bit 15 v then some (v % 32) else none) else if v = 0 then none else some v

/-- The loop and the place, 0 floor, 1 ceiling, 2 pin, that an address sets. -/
def loopAt (a : Nat) : Option (Nat × Nat) :=
  (List.range 13).findSome? (fun n => if loopBase n ≤ a && a < loopBase n + 3 then some (n, a - loopBase n) else none)

/-- The bounds and pins of a loop stay in order (R212, R532). -/
def Dev.loopOrder (d : Dev) (n place v : Nat) : Bool :=
  let lo := if place = 0 then v else d.loopFloor n
  let hi := if place = 1 then v else d.loopCeil n
  let pin := if place = 2 then pinOf n v else if (d.loop n).pinned then some (d.pinValue n) else none
  lo ≤ hi && pin.all (fun p => lo ≤ p && p ≤ hi)

/-- What R212, R255, R315, R168 and R535 ask of a value beside its range. -/
def Dev.valueOk (d : Dev) (a v : Nat) : Bool :=
  match loopAt a with
  | some (n, place) => d.loopOrder n place v
  | none =>
    if 0x020050 ≤ a && a ≤ 0x02005D && a % 2 = 1 then
      (a = 0x020051 || d.setting (a - 2) < v) && (a = 0x02005D || v < d.setting (a + 2))
    else if a = 0x020006 then v % 8 = 0
    else if 0x020100 ≤ a && a < 0x020180 && a % 0x10 = 0 then
      let i := field 5 1 v
      1 ≤ i && i ≤ 30 && field 7 6 v != 3
    else if a = 0x040000 then v = 5 || v = 9
    else if a = 0x040011 then v % 25 = 0
    else if a = 0x060001 then v < d.setting 0x060002
    else if a = 0x060002 then d.setting 0x060001 < v
    else if a = 0x0D0000 then d.setting 0x0D0001 < v
    else if a = 0x0D0001 then v < d.setting 0x0D0000
    else if 0x0C0000 ≤ a && a < 0x0C0200 then
      let n := (tmrAt a).1
      match (tmrAt a).2 with
      | 0x01 => v % 8 ≤ 5
      | 0x04 =>
        let c := d.chan n
        let p := d.setting (tmrBase n + 8)
        p = 0 || c.cmpHiHeld.getD (c.cmp / 2 ^ 32) * 2 ^ 32 + v < p
      | _ => true
    else true

/-- A protection named in the unit's chapter (R168, R468, R505). -/
def Dev.settingProtected (d : Dev) (r : SettingRow) (v : Nat) : Bool :=
  let a := r.addr
  if a = 0x090000 then (List.range 2).any (fun t => !bit t v && 0 < d.grantCount t)
  else if a = 0x0B0030 then d.med.offDone || !d.med.offWin.any (fun w => !d.reached w)
  else if 0x0C0000 ≤ a && a < 0x0C0200 && ((tmrAt a).2 = 2 || (tmrAt a).2 = 8) then (d.chan (tmrAt a).1).run
  else false

/-- The journal cause of a write, by the first test that applies (R134): 4 host error, 5 hold, 1 locked, 2 protected, 3 range,
0 accepted. A script without the SETTINGS flag may not write (R411). -/
def Dev.judge (d : Dev) (forbidden : Bool) (a w : Nat) : Nat :=
  match settingRow a with
  | none => 4
  | some r =>
    let at_ := w * 65536 ^ (a - r.addr)
    let v := d.attempt r a w
    if r.lock ≠ 1 && at_ &&& r.mask ≠ at_ then 4
    else if d.jrnl.hold then 5
    else if r.lock = 0 && bit (r.addr / 0x10000) (d.setting 0x000000) then 1
    else if r.lock = 1 || forbidden || d.settingProtected r v then 2
    else if !lowWord r a && (v < r.lo || r.hi < v || !d.valueOk r.addr v) then 3
    else 0

/-! ### Effects of an accepted write -/

/-- The stored value of a setting. -/
def Dev.putSetting (a v : Nat) (d : Dev) : Dev := { d with sets := cellPut (settingDefault a) a v d.sets }

/-- A bound or a pin of a loop takes effect (R532). -/
def Dev.loopWritten (n place v : Nat) (d : Dev) : Dev :=
  let old := d.pinValue n
  let d := d.putSetting (loopBase n + place) v
  if place = 2 then (if (pinOf n v).isSome then d.pinLoop n else d.unpinLoop n old) else d.satCheck.overrideCheck n

/-- What an accepted write of the value `v` brings about at its stamp (R132). -/
def Dev.settingWritten (a v : Nat) (d : Dev) : Dev :=
  match loopAt a with
  | some (n, place) => d.loopWritten n place v
  | none =>
    if a = 0x0C0200 then d.tmrGoMask v
    else if a = 0x0C0201 then d.tmrHaltMask v
    else if 0x0C0000 ≤ a && a < 0x0C0200 then
      let n := (tmrAt a).1
      let c := d.chan n
      match (tmrAt a).2 with
      | 0x00 => d.writeCtl n v
      | 0x01 => (d.putSetting a v).writeMode n (d.setting a) v
      | 0x04 => d.writeCmp n (c.cmpHiHeld.getD (c.cmp / 2 ^ 32) * 2 ^ 32 + v)
      | 0x06 => d.putChan n { c with cmpHiHeld := some v }
      | _ => d.putSetting a v
    else if a = 0x0B0030 then
      let d := d.putSetting a v
      { d with med := { d.med with age := d.med.age + v * 7488000000, offDone := true } }
    else if a = 0x000020 then
      let d := d.putSetting a v
      if d.jrnlFull then d.alsoStarts 154 else d.ends 154
    else if a = 0x0B0051 then
      let d := d.putSetting a v
      if !d.med.ready then d else if d.lowSpare then d.alsoStarts 141 else d.ends 141
    else if a = 0x030000 || a = 0x030001 then (d.putSetting a v).retuneWindows
    else if a = 0x080001 && v = 0 then
      let d := d.putSetting a v
      { d with atlas := { d.atlas with cache := [] } }
    else d.putSetting a v

/-- A write of a timer's setting finds the compares that are due by its stamp presented before it (R173, R177). -/
def Dev.dueBefore (a : Nat) (d : Dev) : Dev := if a / 0x10000 = 0x0C then d.dueMatches else d

/-- Every write of the high word ends the pending state, and a refused one discards a held `CMP_HI` (R131, R168). -/
def Dev.dropLow (r : SettingRow) (refused : Bool) (d : Dev) : Dev :=
  let d := { d with setLow := d.setLow.filter (fun p => p.1 != r.addr) }
  if refused && r.addr / 0x10000 = 0x0C && r.addr < 0x0C0200 && (tmrAt r.addr).2 = 4 then
    d.putChan (tmrAt r.addr).1 { d.chan (tmrAt r.addr).1 with cmpHiHeld := none }
  else d

/-- A write of a setting in the present event (R134, R138): its record, its effect, and its journal cause. -/
def Dev.writeSetting (origin : Nat) (forbidden : Bool) (a w : Nat) (d : Dev) : Nat × Dev :=
  let cause := d.judge forbidden a w
  let unit := a / 0x10000 % 256
  match settingRow a with
  | none => (cause, d.noteRefused origin (draft 0x02 unit a 0 w cause))
  | some r =>
    let cur := d.value r
    let v := d.attempt r a w
    if cause ≠ 0 then
      let d := d.noteRefused origin (draft 0x02 unit a cur v cause)
      (cause, if r.words = 2 && a ≠ r.addr then d.dropLow r true else d)
    else if lowWord r a then
      let d := d.note origin { draft 0x01 unit a cur v 0 with detail := 1 }
      (0, { d with setLow := d.setLow.filter (fun p => p.1 != r.addr) ++ [(r.addr, w)] })
    else
      let d := d.note origin (draft 0x01 unit a cur v 0)
      (0, (d.settingWritten r.addr v).dropLow r false)

/-- The function that a host error in a unit makes unpredictable (R13, R134). -/
def unitPoison (unit : Nat) : Nat :=
  match unit with
  | 0x02 => 2 ^ 0
  | 0x03 => 2 ^ 1
  | 0x04 => 2 ^ 2
  | 0x05 => 2 ^ 11
  | 0x06 => 2 ^ 11
  | 0x07 => 2 ^ 4
  | 0x08 => 2 ^ 7
  | 0x09 => 2 ^ 10
  | 0x0A => 2 ^ 9
  | 0x0B => 2 ^ 8
  | 0x0C => 2 ^ 12
  | 0x0D => 2 ^ 13
  | 0x0F => 2 ^ 5 + 2 ^ 6
  | 0x10 => 2 ^ 4
  | _ => 2 ^ 14

end Sys2Proof.Machine
end

