-- ==== Sys2Proof/Machine/HammerUnit.lean ====
section
/-!
DEFINITION. The unit operations of the sequencers (R413, R414) and the SYS operations that reach settings and the DRBG (R411). An
instruction is carried out whole in its row; what the radios and the NAND give it are the row's operands.
-/

namespace Sys2Proof.Machine

/-! ### Common parts -/

/-- What ends a unit operation: the status in W[D] (R413). -/
def Dev.unitEnd (q : Nat) (h : HWord) (st : Status) (d : Dev) : HOut :=
  d.next q h (fun s => s.setReg h.d (BitVec.ofNat 32 st.code))

/-- A secure script holds PD09 and PD10 while it uses them, which is within one row; no new hold is granted on a domain whose POWER_OFF is
deferred (R67, R72). -/
def Dev.newHoldBarred (d : Dev) (k : Nat) : Bool := (k = 9 || k = 10) && d.domDeferred k

/-- A unit operation (R413): `n` parameter words at W[A]; it waits while a domain of its unit is gated or its function is busy,
and gives STATE_CONFLICT where a domain is off or denies the hold it needs. -/
def unitOp (q op n : Nat) (doms fns : List Nat) (body : (Status → Dev → HOut) → (Nat → Nat) → Seqr → Dev → HOut) : Dev → Dev :=
  Dev.instr q 6 [op] fun h s d =>
    let q := q % 2
    let a := s.num h.a
    if a % 4 != 0 then .fault 2
    else d.need q a (4 * n) fun bs =>
      if doms.any (fun k => !d.domOn k || (s.secure && d.newHoldBarred k)) then d.unitEnd q h .stateConflict
      else if doms.any d.domGated || fns.any (fun f => 0 < d.occupants f || bit f d.host.fnBusy) then .stay
      else body (fun st d => d.unitEnd q h st) (fun i => leNat (slice (4 * i) 4 bs)) s d

/-- A random-consuming operation waits for the DRBG (R376, R413). -/
def Dev.entropy (d : Dev) (fin : Status → Dev → HOut) (k : HOut) : HOut :=
  if d.anvil.ready then k else if d.anvil.failed then fin .entropyTimeout d else .stay

/-- A key operand (R414): the status that refuses it, or its material and its slot. `use` is the USE bit asked of a slot key. -/
def Dev.hammerKey (d : Dev) (s : Seqr) (v : Nat) (types : List Nat) (use : Option Nat) : Status ⊕ (Bytes × Option Nat) :=
  let signed := (s.image.map Script.signer).getD 0 = 1
  let token (i : Nat) (f : Bytes → Bytes) : Status ⊕ (Bytes × Option Nat) :=
    let t := d.slotRec i
    if !signed then .inl .protected_
    else if !t.okA && !t.okB then .inl .slotBad
    else if t.state != 1 || !types.contains 1 then .inl .stateConflict
    else .inr (f (d.slotKey i), none)
  if v ≤ 5 then .inl .protected_
  else if v < 64 then
    let a := (d.key v).attr
    if d.keyBad v then .inl .slotBad
    else if !types.contains (attrType a) then .inl .stateConflict
    else if use.any (fun u => !bit u (attrUse a)) || (attrSecure a && !s.secure) then .inl .protected_
    else if attrLimit a != 0 && attrLimit a ≤ d.usesOf v then .inl .limitReached
    else .inr ((d.key v).material, some v)
  else if 0x100 ≤ v && v < 0x120 then token (v - 0x100) id
  else if 0x140 ≤ v && v < 0x160 then token (v - 0x140) wakeKey
  else if 0x160 ≤ v && v < 0x180 then token (v - 0x160) (fun k => hkdf k [] (ascii "tp") 16)
  else if 0x180 ≤ v && v ≤ 0x182 then
    if !signed then .inl .protected_
    else if d.tok.session.isNone || !types.contains (if v = 0x180 then 2 else 1) then .inl .stateConflict
    else .inr (if v = 0x180 then d.ks else if v = 0x181 then d.kme else d.kmm, none)
  else if v = 0x190 then .inl .protected_
  else .inl .stateConflict

/-- A key is named: refused with its status, or used once (R328, R413) and handed on. -/
def Dev.withKey (d : Dev) (s : Seqr) (v : Nat) (types : List Nat) (use : Option Nat) (fin : Status → Dev → HOut)
    (k : Bytes → Option Nat → Dev → HOut) : HOut :=
  match d.hammerKey s v types use with
  | .inl .slotBad => fin .slotBad (if v < 64 then d.slotBadEvent (some v) else d.slotBadEvent none)
  | .inl st => fin st d
  | .inr (m, n) => d.entropy fin (k m n (match n with | some i => (d.useKey none i).2 | none => d))

/-- The TB value nearest to the present whose low 32 bits these are. -/
def near32 (tb low : Nat) : Nat :=
  let v := tb - tb % 2 ^ 32 + low % 2 ^ 32
  if tb + 2 ^ 31 ≤ v then v - 2 ^ 32 else if v + 2 ^ 31 < tb then v + 2 ^ 32 else v

/-! ### LFTX, UHFRX, UWBRANGE -/

/-- The emission in progress runs to its end. -/
def Dev.airOut (d : Dev) : Dev :=
  match d.lf.emission with
  | some (t, _, _) =>
    let d := d.wait t
    { d with lf := { d.lf with emission := none } }
  | none => d

/-- A command code that R194 reserves. -/
def codeReserved (code : Nat) : Bool := code = 0 || (8 ≤ code && code < 0x40) || 0x51 ≤ code

/-- LFTX (R413): one telegram, with the locate phase where a slot length is given; p4 takes the end of the last emission. -/
def lftx (q : Nat) : Dev → Dev :=
  unitOp q 0 5 [4] [0] fun fin p s d =>
    let q := q % 2
    let mask := p 0 % 256
    let rate := field 9 8 (p 0)
    let code := field 23 16 (p 0)
    let slot := p 3
    if field 15 10 (p 0) != 0 || 2 ^ 24 ≤ p 0 || rate = 3 || 16 < p 2 || codeReserved code ||
        (slot != 0 && (slot < 32 || 128 < slot || slot % 8 != 0)) then .fault 1
    else d.need q (p 1) (p 2) fun data =>
      let want := d.maskOf mask
      let use := d.usable want
      if 3 ≤ code && code ≤ 5 && (s.image.map Script.signer).getD 0 != 1 then fin .protected_ d
      else if use = 0 then fin (d.noAerial want) d
      else
        let d := (d.takeLf.send (.command noTag) use (d.bitTime rate) code data).airOut
        let d := if slot = 0 then d else (d.locatePhase (.command noTag) use slot).airOut
        d.put q (s.num s.fetch.a + 16) (leBytes 4 d.now) (fin .done)

def execLftx (seq : Nat) (s : State) : Host.Outcome State Fault Refusal := run (lftx seq) s

/-- Body bytes of a frame of a code (R219); the longest where the code leaves it open. -/
def codeBody (code : Nat) : Nat := match code with | 1 => 0 | 2 => 24 | 3 => 16 | 5 => 64 | 6 => 4 | _ => 64

/-- A window for one frame: the frame awaited, where `rx` is it and lies in the window, or the window's close (R226). -/
def Dev.listenOnce (w : Listen) (rx : Option UhfRx) (wanted : TokenFrame → Bool) (d : Dev) : Option TokenFrame × Dev :=
  let shut (d : Dev) : Dev := { d with uhf := { d.uhf with windows := d.uhf.windows.filter (fun x => !(x == w)) } }
  let opened : Dev := { d with uhf := { d.uhf with windows := w :: d.uhf.windows } }
  match rx with
  | none => (none, d.wait w.close)
  | some r =>
    if rxEarliest r (opened.delivering r).1 < d.now then (none, d.wait w.close)
    else
      match opened.receive r with
      | (e, some h) =>
        if h.win == some w && w.codes.contains h.f.code && wanted h.f then
          (some h.f, ((shut e).presentOn 7).frameAccepted r h.paths h.slot h.f)
        else (none, ((shut e).signal 68).wait w.close)
      | (e, none) => (none, (shut e).wait w.close)

/-- UHFRX (R413): one window of R226; the frame's bytes go to p3, its codes to p4 and its stamp to p5. -/
def uhfrx (q : Nat) (rx : Option UhfRx) : Dev → Dev :=
  unitOp q 1 6 [5] [1] fun fin p s d =>
    let q := q % 2
    let code := p 0 % 256
    if 512 ≤ p 0 then .fault 1
    else if !d.anyPath then fin .hwFault d
    else if !(d.seqr q).inData (p 3) 80 then .fault 3
    else
      let w := d.listenAt (some noTag) (near32 d.now (p 2)) (codeBody code) [code] (field 8 8 (p 0))
      match d.listenOnce w rx (fun f => p 1 = 0xFFFFFFFF || f.id = p 1) with
      | (none, d) => fin .noResponse d
      | (some f, d) =>
        let bs := ((rx.map UhfRx.bytes).getD []).take (8 + f.body.length)
        d.put q (p 3) bs fun d => d.put q (s.num s.fetch.a + 16) (leBytes 4 d.uhf.lastRssi ++ leBytes 4 d.now) (fin .done)

def execUhfrx (seq : Nat) (rx : Option UhfRx) (s : State) : Host.Outcome State Fault Refusal := run (uhfrx seq rx) s

/-- The exchange of R241 from the POLL on: its status and, when DONE, the 24 result words. -/
def Dev.rangeRest (x : RangeRun) (resp rep : Option UwbRx) (d : Dev) : Status × List Word × Dev :=
  let x := d.withPoll x
  let d := d.sendPoll noTag x
  match resp.bind (fun r => takeResponse r x) with
  | none => (.noResponse, [], (d.wait (x.windowEnd x.poll)).endExchange noTag)
  | some y =>
    let d := (d.toStamp y y.resp).sendFinal y
    match rep.bind (fun r => (d.openReport r y).map (fun m => (r, m))) with
    | none => (.noResponse, [], (d.wait (y.windowEnd y.fin)).endExchange noTag)
    | some (r, m) =>
      let d := (((d.toStamp y (y.corrected r.rmarker)).rangeNoted y m)).endExchange noTag
      let cause := y.cause m
      (if cause = 0 then .done else if cause = 8 then .boundExceeded else .stsReject, rangeWords y m (y.elevation r), d)

/-- UWBRANGE (R413): the exchange under the current KS, on every enabled aerial and without anchors; word 22, the evidence
index of R252, has no record to name. -/
def uwbrange (q : Nat) (ready : Option UhfRx) (resp rep : Option UwbRx) : Dev → Dev :=
  unitOp q 2 3 [4, 5, 7, 8, 9, 10] [0, 1, 2] fun fin p _ d =>
    let q := q % 2
    let chan := p 0 % 16
    let sts := field 5 4 (p 0)
    if 512 ≤ p 0 || field 7 6 (p 0) != 0 || sts = 3 || (chan != 0 && chan != 5 && chan != 9) then .fault 1
    else if !(d.seqr q).inData (p 2) 48 then .fault 3
    else
      match d.tok.session with
      | none => fin .stateConflict d
      | some t => d.entropy fin (
          let want := d.maskOf 0
          let mask := d.usable want
          if 65535 < d.nextX then fin .stateConflict d
          else if d.uwbBad then fin .hwFault d
          else if mask = 0 then fin (d.noAerial want) d
          else
            let x := { d.newRange t chan (p 1 % 65536) with sts := sts }
            let d := (d.takeLf.send (.command noTag) mask (d.bitTime 0) 6 (beBytes 2 x.x ++ [armByte x, byte (x.da / 25)])).airOut
            let d := { d with lf := { d.lf with standbyDue := mask } }
            let w := d.listenAt (some noTag) d.now 4 [6] 0
            match d.listenOnce w ready (fun f => f.id = x.token) with
            | (none, d) => fin .noResponse d.standby
            | (some f, d) =>
              if beNat (f.body.take 2) != x.x || f.body.getD 3 0 != 0 then fin .stateConflict d.standby
              else
                match d.rangeRest x resp rep with
                | (.done, ws, d) =>
                  let r := d.freeWord
                  r.2.put q (p 2) (wordsToBytes (ws.set 22 r.1)) (fun d => fin .done d.standby)
                | (st, _, d) => fin st d.standby)

def execUwbrange (seq : Nat) (ready : Option UhfRx) (resp rep : Option UwbRx) (s : State) : Host.Outcome State Fault Refusal :=
  run (uwbrange seq ready resp rep) s

/-! ### The Anvil's operations -/

/-- AESN (R413): CBC or CTR over whole blocks; the IV or counter is updated. -/
def aesn (q : Nat) : Dev → Dev :=
  unitOp q 3 6 [9, 10] [3] fun fin p s d =>
    let q := q % 2
    let n := 16 * p 4
    if 2 < p 1 || p 4 = 0 || 256 < p 4 then .fault 1
    else d.need q (p 2) n fun m => d.need q (p 5) 16 fun iv =>
      d.withKey s (p 0) [1, 2] (some (if p 1 = 1 then 1 else 0)) fin fun k _ d =>
        let r := if p 1 = 0 then cbcEncPart k iv m else if p 1 = 1 then cbcDecPart k iv m else ctrPart k iv m
        d.put q (p 3) r.1 fun d => d.put q (p 5) r.2 (fin .done)

def execAesn (seq : Nat) (s : State) : Host.Outcome State Fault Refusal := run (aesn seq) s

/-- CMACN (R413): a tag generated, or verified. -/
def cmacn (q : Nat) : Dev → Dev :=
  unitOp q 4 5 [9, 10] [3] fun fin p s d =>
    let q := q % 2
    let t := p 4 % 32
    let ver := bit 8 (p 4)
    if 4096 < p 2 || !(t = 4 || t = 8 || t = 16) || p 4 / 32 % 8 != 0 || 512 ≤ p 4 then .fault 1
    else d.need q (p 1) (p 2) fun m => d.need q (p 3) t fun tag =>
      d.withKey s (p 0) [1, 2] (some (if ver then 3 else 2)) fin fun k _ d =>
        let out := (cmac k m).take t
        if ver then fin (if out == tag then .done else .authFail) d else d.put q (p 3) out (fin .done)

def execCmacn (seq : Nat) (s : State) : Host.Outcome State Fault Refusal := run (cmacn seq) s

/-- HKDF's output to a slot: its attributes, as R364 has them for a derived key. -/
def Dev.hkdfSlot (fin : Status → Dev → HOut) (slot a : Nat) (parent : Option Nat) (f : Nat → Bytes) (d : Dev) : HOut :=
  let ty := attrType a
  if 63 < slot || attrReserved a || !d.targetOk slot || !(ty = 1 || ty = 2 || ty = 4) || !usesOk a then fin .stateConflict d
  else if slot < 48 && d.keysProtected then fin .protected_ d
  else
    let expo := attrExport a && parent.all (fun n => attrExport (d.key n).attr)
    let attr := attrOf (attrUse a) ty 2 expo (expireFor slot (attrExpire a)) (attrSecure a) (attrLocked a) (parent.getD 0) (attrLimit a)
    fin .done (d.putKey none slot attr (f (materialLen ty)))

/-- HKDF (R413): input key material from a key or from memory, output to a slot or to memory; a key's never to memory. -/
def unitHkdf (q : Nat) : Dev → Dev :=
  unitOp q 5 8 [9, 10] [3] fun fin p s d =>
    let q := q % 2
    let keyed := bit 31 (p 0)
    let slot := bit 31 (p 6)
    let lo (v : Nat) : Nat := v % 2 ^ 31
    if 256 < p 3 || 256 < p 5 || (!keyed && 256 < p 1) || (!slot && 64 < p 7) then .fault 1
    else d.need q (p 2) (p 3) fun salt => d.need q (p 4) (p 5) fun info =>
      if keyed then
        if !slot then fin .stateConflict d
        else d.need q (p 7) 8 fun attr =>
          d.withKey s (lo (p 0)) [1, 2, 4] (some 6) fin fun k n d =>
            d.hkdfSlot fin (lo (p 6)) (leNat attr) n (fun len => hkdf k salt info len)
      else d.need q (p 0) (p 1) fun ikm =>
        if slot then d.need q (p 7) 8 fun attr =>
          d.hkdfSlot fin (lo (p 6)) (leNat attr) none (fun len => hkdf ikm salt info len)
        else d.put q (p 6) (hkdf ikm salt info (p 7)) (fin .done)

def execUnitHkdf (seq : Nat) (s : State) : Host.Outcome State Fault Refusal := run (unitHkdf seq) s

/-- What ECMUL does with its scalar: the public point to memory, or the shared secret to a volatile slot as HMAC256 with USE
DERIVE. -/
def Dev.ecmulOut (q : Nat) (fin : Status → Dev → HOut) (k peer : Bytes) (p3 : Nat) (d : Dev) : HOut :=
  if peer.isEmpty then d.put q p3 (ecPub k) (fin .done)
  else if p3 < 48 || 63 < p3 || !d.keyEmpty p3 then fin .stateConflict d
  else match ecdh k peer with
    | none => fin .stateConflict d
    | some z => fin .done (d.putKey none p3 (attrOf 0x40 4 2 false true false false 0 0) z)

/-- ECMUL (R413). -/
def ecmul (q : Nat) : Dev → Dev :=
  unitOp q 6 4 [9, 10] [3] fun fin p s d =>
    let q := q % 2
    d.need q (p 2) (if p 2 = 0 then 0 else 64) fun peer =>
      if p 2 = 0 && !(d.seqr q).inData (p 3) 64 then .fault 3
      else if p 0 = 0xFF then
        if p 1 < 48 || 63 < p 1 || !d.keyEmpty (p 1) then fin .stateConflict d
        else d.entropy fin (
          let r := d.drawScalar
          (r.2.putKey none (p 1) (attrOf 0x20 3 0 false true false false 0 0) r.1).ecmulOut q fin r.1 peer (p 3))
      else d.withKey s (p 0) [3] (some 5) fin fun k _ d => d.ecmulOut q fin k peer (p 3)

def execEcmul (seq : Nat) (s : State) : Host.Outcome State Fault Refusal := run (ecmul seq) s

/-- ECDSA (R413): a signature over a digest, or its verification under a slot's public key or one in memory. -/
def ecdsa (q : Nat) : Dev → Dev :=
  unitOp q 7 4 [9, 10] [3] fun fin p s d =>
    let q := q % 2
    let ver := p 0 = 1
    let ptr := bit 31 (p 1)
    let verdict (pub dig sig : Bytes) (d : Dev) : HOut :=
      if (ecPoint pub).isNone then fin .stateConflict d else fin (if ecdsaVerify pub dig sig then .done else .authFail) d
    if 1 < p 0 || (!ver && ptr) then .fault 1
    else d.need q (p 2) 32 fun dig => d.need q (p 3) 64 fun sig =>
      if ptr then d.need q (p 1 % 2 ^ 31) 64 fun pub => verdict pub dig sig d
      else if ver then d.withKey s (p 1) [5] none fin fun k _ d => verdict k dig sig d
      else d.withKey s (p 1) [3] (some 4) fin fun k _ d =>
        let r := d.drawScalar
        r.2.put q (p 3) (ecdsaSign k dig r.1) (fin .done)

def execEcdsa (seq : Nat) (s : State) : Host.Outcome State Fault Refusal := run (ecdsa seq) s

/-! ### ATLASQ, COPY, CRC -/

/-- ATLASQ (R413): one query with a raw vector. -/
def atlasq (q : Nat) (nand : NandRead) : Dev → Dev :=
  unitOp q 8 3 [13, 14] [] fun fin p _ d =>
    let q := q % 2
    d.need q (p 0) 72 fun bs =>
      match queryEntries 1 (bytesToWords bs) with
      | some [e] =>
        if e.fromEvidence || 1 < p 2 then .fault 1
        else if !(d.seqr q).inData (p 1) (4 + 10 * e.k) then .fault 3
        else
          match d.atlas.active with
          | none => fin .atlasAbsent d
          | some (_, m) =>
            if !d.atlas.loaded && !d.atlas.reloadFailed || bit 7 d.host.fnBusy then .stay
            else
              match d.scanLists m (p 2 = 1) [e] nand with
              | (some st, d) => fin st d
              | (none, d) =>
                let r := d.runQueries m 0 [e]
                d.put q (p 1) (wordsToBytes r.1) (fin (if r.2.2 then .done else .notPlausible))
      | _ => .fault 1

def execAtlasq (seq : Nat) (nand : NandRead) (s : State) : Host.Outcome State Fault Refusal := run (atlasq seq nand) s

/-- COPY (R413). -/
def copy (q : Nat) : Dev → Dev :=
  unitOp q 9 3 [] [] fun fin p _ d =>
    let q := q % 2
    if 16384 < p 2 then .fault 1
    else if p 0 < p 1 + p 2 && p 1 < p 0 + p 2 then .fault 5
    else d.need q (p 0) (p 2) fun bs => d.put q (p 1) bs (fin .done)

def execCopy (seq : Nat) (s : State) : Host.Outcome State Fault Refusal := run (copy seq) s

/-- CRC (R413): CRC-8 of R193 in one byte, or CRC-16 of R221 in two, low byte first. -/
def crcOp (q : Nat) : Dev → Dev :=
  unitOp q 10 4 [] [] fun fin p _ d =>
    let q := q % 2
    if 1 < p 0 then .fault 1
    else d.need q (p 1) (p 2) fun m =>
      d.put q (p 3) (if p 0 = 0 then leBytes 1 (crc 8 0x1D 0xFF m) else leBytes 2 (crc 16 0x1021 0xFFFF m)) (fin .done)

def execCrc (seq : Nat) (s : State) : Host.Outcome State Fault Refusal := run (crcOp seq) s

/-! ### SETR, SETW, DRAW (R411) -/

/-- SETR (R411). -/
def setr (q : Nat) : Dev → Dev :=
  Dev.instr q 7 [5] fun h s d =>
    let v := (d.readSetting (s.num h.a % 2 ^ 24)).toNat
    d.next (q % 2) h (fun s => s.setReg h.d (BitVec.ofNat 32 v))

def execSetr (seq : Nat) (s : State) : Host.Outcome State Fault Refusal := run (setr seq) s

/-- SETW (R411): judged and journalled with the sequencer's origin; W[D] takes the journal cause. -/
def setw (q : Nat) : Dev → Dev :=
  Dev.instr q 7 [6] fun h s d =>
    let w := s.num h.a % 2 ^ 24
    let r := (d.dueBefore w).presentOn (9 + q % 2) |>.writeSetting (oHammer (q % 2)) (!(s.image.map Script.settings).getD false) w
      (s.num h.b % 65536)
    r.2.next (q % 2) h (fun s => s.setReg h.d (BitVec.ofNat 32 r.1))

def execSetw (seq : Nat) (s : State) : Host.Outcome State Fault Refusal := run (setw seq) s

/-- DRAW (R411). -/
def drawOp (q : Nat) : Dev → Dev :=
  Dev.instr q 7 [7] fun h s d =>
    let q := q % 2
    let n := s.num h.b
    if n = 0 || 256 < n then .fault 1
    else if !s.inData (s.num h.a) n then .fault 3
    else if [9, 10].any (fun k => !d.domOn k || (s.secure && d.newHoldBarred k)) then d.unitEnd q h .stateConflict
    else if d.domGated 9 || d.domGated 10 || bit 3 d.host.fnBusy then .stay
    else d.entropy (fun st d => d.unitEnd q h st) (
      let r := d.draw n
      r.2.put q (s.num h.a) r.1 (fun d => d.unitEnd q h .done))

def execDraw (seq : Nat) (s : State) : Host.Outcome State Fault Refusal := run (drawOp seq) s

end Sys2Proof.Machine
end

