-- ==== Sys2Proof/Machine/HammerLoad.lean ====
section
/-!
DEFINITION. Script images (R420–R424) and the commands SCRIPT_LOAD, SCRIPT_RUN and SCRIPT_STOP.
-/

namespace Sys2Proof.Machine

/-! ### Images (R420–R422) -/

/-- The script of an image for sequencer `q`, where its header meets R420. -/
def scriptOf (wake q : Nat) (m : Bytes) : Option Script :=
  let b (i : Nat) : Nat := (m.getD i 0).toNat
  let w (i : Nat) : Nat := leNat (slice i 4 m)
  let code := w 20
  let data := w 24
  let addr (v : Nat) : Bool := v < code && v % 4 = 0
  if w 0 = 0x31435348 && leNat (slice 4 2 m) = 1 && leNat (slice 6 2 m) = 64 && 1 ≤ w 8 && w 8 ≤ 0xFFFFFFFE &&
      (w 16 = 0 || w 16 = wake) && 4 ≤ code && code ≤ 32768 && code % 4 = 0 && data ≤ 4096 && addr (w 28) &&
      (w 32 = 0xFFFFFFFF || addr (w 32)) && b 36 < 4 && b 37 < 16 && !bit (1 - q) (b 37) && 1 ≤ b 38 && b 38 < 4 && bit q (b 38) &&
      b 39 ≤ 1 && zeroAt 40 24 m then
    some { id := w 8, seq := w 12, signer := b 39, secure := bit 0 (b 36), settings := bit 1 (b 36), banks := b 37, entry := w 28,
           handler := if w 32 = 0xFFFFFFFF then none else some (w 32), codeLen := code, data := slice (64 + code) data m }
  else none

/-- Bytes of an image by its header. -/
def imageBytes (m : Bytes) : Nat := 128 + leNat (slice 20 4 m) + leNat (slice 24 4 m)

/-- The public key of a signer: K03, or the script anchor (R421). -/
def Dev.signerKey (d : Dev) (signer : Nat) : Bytes :=
  if signer = 0 then (if d.keyEmpty 3 then [] else (d.key 3).material) else (List.range 64).map Config.scriptAnchor

/-- Highest SEQ accepted from a signer (R422). -/
def Dev.signerSeq (d : Dev) (signer : Nat) : Nat := if signer = 0 then d.ham.seqK03 else d.ham.seqDas

/-- An image verified against R420–R422 for sequencer `q`. -/
def Dev.verifyScript (d : Dev) (q : Nat) (m : Bytes) : Option Script :=
  let n := imageBytes m
  match scriptOf d.cru.wakeId q m with
  | some s =>
    if m.length = n + n % 2 && d.signerSeq s.signer ≤ s.seq &&
        ecdsaVerify (d.signerKey s.signer) (sha256 (m.take (n - 64))) (slice (n - 64) 64 m) then some s else none
  | none => none

/-- The image stored in V5 for a sequencer. -/
def Dev.stored (d : Dev) (q : Nat) : Option Bytes := if q = 0 then d.ham.storedA else d.ham.storedB
def Dev.setStored (q : Nat) (m : Option Bytes) (d : Dev) : Dev :=
  { d with ham := if q = 0 then { d.ham with storedA := m } else { d.ham with storedB := m } }

/-- Instruction RAM as an image fills it. -/
def imageRam (m : Bytes) (s : Script) : List Host.Cell := (indexedFrom 0 (slice 64 s.codeLen m)).filter (fun c => c.2 != 0)

/-- A verified image in a sequencer's instruction RAM. -/
def Dev.installScript (q : Nat) (m : Bytes) (s : Script) (d : Dev) : Dev :=
  d.onSeq q (fun t => { t with image := some s, iram := imageRam m s, restoring := false, restoreFailed := false, dirty := false })

/-- A SCRIPT record (R138). -/
def scriptDraft (id q : Nat) (st : Status) : Draft := draft 0x71 0x0F id q st.code st.code

/-- A loaded script runs on the sequencer, halted or not. -/
def Dev.loadedRuns (d : Dev) (q : Nat) : Bool := (d.seqr q).running.isSome && !(d.seqr q).rom

/-! ### SCRIPT_LOAD (R423) -/

/-- The outcome of a LAST over the whole staged image (R423 orders 2–4). -/
def Dev.loadLast (tag q : Nat) (words : List Word) (d : Dev) : Dev :=
  let m := wordsToBytes words
  let id := leNat (slice 8 4 m)
  let d := { d with ham := { d.ham with stage := [] } }
  if (m.getD 39 0).toNat = 0 && d.keyBad 3 then
    (d.slotBadEvent (some 3)).finish tag ⟨.slotBad, [], .none, none, [scriptDraft id q .slotBad]⟩
  else match d.verifyScript q m with
  | none => d.finish tag ⟨.imageInvalid, [], .none, none, [scriptDraft id q .imageInvalid]⟩
  | some s =>
    if !d.med.ready then
      Dev.finish tag ⟨.mediaUncorrectable, [], .none, none, [scriptDraft id q .mediaUncorrectable]⟩
        { d with ham := { d.ham with stage := words } }
    else
      let d := (d.setStored q (some m)).installScript q m s
      let old : OldRecord := .scripts d.ham.seqK03 d.ham.seqDas
      let d := { d with ham := if s.signer = 0 then { d.ham with seqK03 := s.seq } else { d.ham with seqDas := s.seq } }
      (d.recordWrite (some tag) [82] [81] old).finish tag
        ⟨.done, leWords 2 s.id ++ leWords 2 s.seq, .none, none, [scriptDraft id q .done]⟩

/-- SCRIPT_LOAD (R423). -/
def scriptLoad (tag : Nat) : Dev → Dev :=
  Dev.startCmd (isOp 0x90) tag fun c d =>
    let q := c.w 6
    let off := c.w 7
    let last := c.w 8 = 1
    if 1 < q || 1 < c.w 8 || !c.zeroFrom 9 then d.hostError c
    else
      let id (ws : List Word) : Nat := leNat (slice 8 4 (wordsToBytes ws))
      let refuse (ws : List Word) : Dev :=
        if last then d.finish tag ⟨.stateConflict, [], .none, none, [scriptDraft (id ws) q .stateConflict]⟩ else d.fail tag .stateConflict
      let words := (if off = 0 then [] else d.ham.stage) ++ c.payload
      if off != 0 && off != d.ham.stage.length then refuse d.ham.stage
      else if last && d.loadedRuns q then refuse words
      else
        if last then d.loadLast tag q words
        else if !d.med.ready then d.fail tag .mediaUncorrectable
        else Dev.fail tag .done { d with ham := { d.ham with stage := words } }

def execScriptLoad (tag : Nat) (s : State) : Host.Outcome State Fault Refusal := run (scriptLoad tag) s

/-! ### SCRIPT_RUN (R425) and SCRIPT_STOP (R427) -/

/-- SCRIPT_RUN waits while the image is restored, and a secure script while the sequencer is halted (R424, R429). -/
def Dev.runWaits (d : Dev) (q : Nat) : Bool :=
  (d.seqr q).restoring || ((d.seqr q).halted && (d.seqr q).image.any Script.secure)

/-- A script starts (R403, R405): its banks claimed and filled, its input copied, W0 and W1 set. -/
def Dev.startScript (c : Cmd) (q : Nat) (s : Script) (d : Dev) : Dev :=
  let claimed := s.banks ||| 2 ^ q
  let banks := cellsWrite (0 : Byte) (0x1000 * q) s.data (clearBanks claimed d.ham.banks)
  let w := ([BitVec.ofNat 32 c.plen, BitVec.ofNat 32 (c.w2 7)] : List (BitVec 32)) ++ List.replicate 14 0
  let d := { d with ham := { d.ham with banks := banks } }
  let d := d.onSeq q (fun t => { t with
    w := w, flags := if s.secure then 32 else 0, pc := s.entry, prog := 0, frames := [], ib := fit 1024 0 c.bytes,
    ob := List.replicate 1024 0, running := some c.tag, rom := false, claimed := claimed, wait := none })
  let d := if s.secure then { d with pwr := { d.pwr with holds := d.pwr.holds ++ [⟨1 + q, 11 + q⟩] } } else d
  d.setPhase c.tag (.running (.script q))

/-- SCRIPT_RUN (R425). -/
def scriptRun (tag : Nat) (d : Dev) : Dev :=
  if (d.cmd tag).any (fun c => isOp 0x91 c && d.runWaits (c.w 6 % 2)) then d
  else
    Dev.startCmd (isOp 0x91) tag (fun c d =>
      let q := c.w 6
      if 1 < q || !c.zeroFrom 9 then d.hostError c
      else
        let s := d.seqr q
        if (d.stored q).isNone then d.fail tag .stateConflict
        else if s.restoreFailed then d.fail tag .mediaUncorrectable
        else match s.image with
          | none => d.fail tag .stateConflict
          | some i =>
            if i.secure && i.signer = 0 && d.setting 0x0F0000 = 0 then d.fail tag .protected_
            else if (i.banks &&& (d.seqr (1 - q)).claimed) != 0 then d.fail tag .stateConflict
            else if i.secure && d.domDeferred (11 + q) then d.fail tag .stateConflict
            else d.startScript c q i) d

def execScriptRun (tag : Nat) (s : State) : Host.Outcome State Fault Refusal := run (scriptRun tag) s

/-- SCRIPT_STOP (R427): a loaded script ends with cause STOPPED. -/
def scriptStop (tag : Nat) : Dev → Dev :=
  Dev.startCmd (isOp 0x92) tag fun c d =>
    let q := c.w 6
    if 1 < q || !c.zeroFrom 7 then d.hostError c
    else if d.loadedRuns q then (d.endScript q 8 (Result.plain .stateConflict)).fail tag .done
    else d.fail tag .done

def execScriptStop (tag : Nat) (s : State) : Host.Outcome State Fault Refusal := run (scriptStop tag) s

/-! ### Restores (R424) -/

/-- A restore of the resident image is due (R424). -/
def Dev.restoreDue (q : Nat) (d : Dev) : Dev :=
  let has := (d.stored q).isSome
  d.onSeq q (fun s => { s with image := none, iram := [], dirty := false, restoring := has, restoreFailed := false })

/-- SCRIPT_RESTORE (R424): the image is read from V5 and verified again; one that fails is cleared, with its SCRIPT record. -/
def scriptRestore (q : Nat) (nand : NandRead) (d : Dev) : Dev :=
  let q := q % 2
  if !(d.seqr q).restoring || !d.awake || !d.domOn (11 + q) || d.replaying then d
  else
    let d := if d.med.ready then d.nandMet nand else d
    if !d.med.ready || d.nandLost nand then d.onSeq q (fun s => { s with restoring := false, restoreFailed := true })
    else match d.stored q with
      | none => d.onSeq q (fun s => { s with restoring := false })
      | some m =>
        match d.verifyScript q m with
        | some s => d.installScript q m s
        | none =>
          let d := (d.setStored q none).onSeq q (fun s => { s with restoring := false })
          (d.presentOn (9 + q)).note oPower (scriptDraft (leNat (slice 8 4 m)) q .imageInvalid)

def execScriptRestore (q : Nat) (nand : NandRead) (s : State) : Host.Outcome State Fault Refusal := run (scriptRestore q nand) s

end Sys2Proof.Machine
end

