-- ==== Sys2Proof/Machine/Evc.lean ====
section
/-!
DEFINITION. The event controller and the wake watcher (chapter 7): the host's summary and claims, the filtered changes of the
external inputs and what they act on, and the standby latches.
-/

namespace Sys2Proof.Machine

/-! ### Summary and claims (R95, R154–R157) -/

/-- Class of a source, 0 for none (R152, R584). -/
def Dev.classOf (d : Dev) (n : Nat) : Nat := field 13 10 (d.srcCfg n)

/-- A source is pending for the host. -/
def Dev.pendingH (d : Dev) (n : Nat) : Bool := (d.evc.pendH.getD n none).isSome

/-- `IRQ_SUM` (R95). -/
def Dev.irqSum (d : Dev) : Nat :=
  bitsNat ((List.range 16).map (fun c =>
    if c = 0 then !d.store.isEmpty else (List.range 160).any (fun n => d.pendingH n && d.classOf n == c)))

/-- HIRQ_N line `n` is driven low (R96). -/
def Dev.irqLine (d : Dev) (n : Nat) : Bool :=
  d.host.irqEn && (List.range 16).any (fun c =>
    bit c d.irqSum && bit c d.host.irqMask.toNat && d.host.routes.getD c 0 == n)

/-- The source that a claim on a line returns (R157). -/
def Dev.claimable (d : Dev) (line : Nat) : Option Nat :=
  d.best ((List.range 160).filter (fun n =>
    let c := d.classOf n
    d.pendingH n && c != 0 && bit c d.host.irqMask.toNat && d.host.routes.getD c 0 == line))

/-- The word of a claim or a peek (R157). -/
def Dev.claimWord (d : Dev) (line : Nat) : Word :=
  match d.claimable line with
  | none => 0x8000
  | some n => word (n + 256 * d.prio n + 16384 * b2n (d.sticks n))

/-- A claim clears the host pending bit of the source it returns, except under R156. -/
def Dev.claimed (line : Nat) (d : Dev) : Dev :=
  match d.claimable line with
  | none => d
  | some n => if d.sticks n then d else { d with evc := { d.evc with pendH := d.evc.pendH.set n none } }

/-! ### The map (R151) -/

/-- Word k of a set of sources. -/
def srcWord (p : Nat → Bool) (k : Nat) : Word := word (bitsNat ((List.range 16).map (fun b => p (16 * k + b))))

/-- Bit n of `FLT_LEVEL`: the active level of an external input, or HARM (R151). -/
def Dev.fltLevel (d : Dev) (n : Nat) : Bool :=
  if n = 24 then d.harm else if sourceKind n = .input then d.active n else false

/-- `EVC_STAT` (R153). -/
def Dev.evcStat (d : Dev) : Nat := bitsNat [d.evc.statOk, d.evc.statLocked, d.evc.statHold]

/-- Index `i` is a word of the map (R151). -/
def evcAssigned (i : Nat) : Bool :=
  i < 0xA0 || (0x100 ≤ i && i < 0x1A0 && sourceKind (i - 0x100) == .input) || (0x200 ≤ i && i < 0x20A) ||
  (0x210 ≤ i && i < 0x21A) || (0x220 ≤ i && i < 0x22A) || (0x230 ≤ i && i < 0x23A) || (0x240 ≤ i && i < 0x24A) ||
  (0x250 ≤ i && i < 0x258) || (0x300 ≤ i && i < 0x440) || (0x500 ≤ i && i < 0x560) || i = 0xF00 ||
  (0xF10 ≤ i && i < 0xF1A) || i = 0xFFE || i = 0xFFF

/-- What a read of an index returns, a claim's side effect apart (R151). -/
def Dev.readEvc (d : Dev) (i : Nat) : Word :=
  let e := d.evc
  if !evcAssigned i then 0
  else if i < 0xA0 then e.srcCfg.getD i 0
  else if i < 0x1A0 then e.srcFilt.getD (i - 0x100) 0
  else if i < 0x210 then srcWord (fun n => (e.pendH.getD n none).isSome) (i - 0x200)
  else if i < 0x220 then srcWord (fun n => (e.pendA.getD n none).isSome) (i - 0x210)
  else if i < 0x230 then srcWord (fun n => (e.pendB.getD n none).isSome) (i - 0x220)
  else if i < 0x240 then srcWord (fun n => e.actA.contains n) (i - 0x230)
  else if i < 0x250 then srcWord (fun n => e.actB.contains n) (i - 0x240)
  else if i < 0x258 then d.claimWord (i % 4)
  else if i < 0x440 then word ((e.lastEsn.getD ((i - 0x300) / 2) 0).toNat / 65536 ^ (i % 2))
  else if i < 0x520 then e.wcfg.getD (i - 0x500) 0
  else if i < 0x540 then e.wfilt.getD (i - 0x520) 0
  else if i < 0x560 then word (e.wcount.getD (i - 0x540) 0)
  else if i = 0xF00 then word e.prigroup
  else if i < 0xF1A then srcWord d.fltLevel (i - 0xF10)
  else if i = 0xFFE then word d.evcStat
  else word (b2n e.lock)

/-- Bits of an index that a write may set to 1 without a host error (R152, R153, R154, R161). -/
def evcMask (i : Nat) : Nat :=
  if i < 0xA0 then (if sourceKind i = .input then 0x3FFF else 0x3C7F)
  else if i < 0x1A0 then (if i = 0x106 || i = 0x107 then 0xFFFF else 0x07FF)
  else if 0x500 ≤ i && i < 0x520 then 0x03FF
  else if 0x520 ≤ i && i < 0x540 then (if i ≤ 0x528 then 0xFFFF else 0x00FF)
  else if i = 0xF00 then 0x0007
  else if i = 0xFFE then 0x0007
  else if i = 0xFFF then 0x0001
  else 0xFFFF

/-- Index `i` holds configuration that `EVC_LOCK` locks (R153). -/
def evcLockable (i : Nat) : Bool := i < 0x1A0 || (0x500 ≤ i && i < 0x540) || i = 0xF00

/-- The journal cause of an `EVC_DATA` write (R134, R153). -/
def Dev.judgeEvc (d : Dev) (i w : Nat) : Nat :=
  if !evcAssigned i || w &&& evcMask i != w || (i = 0xF00 && 5 ≤ w) then 4
  else if d.jrnl.hold then 5
  else if d.evc.lock && evcLockable i then 1
  else 0

/-- Pending of a word cleared by a write of 1s: only what was set before the write's stamp, and not under R156 (R155). -/
def Dev.clearWord (k w : Nat) (l : List (Option Nat)) (d : Dev) : List (Option Nat) :=
  (bitsOf 16 w).foldl (fun l b =>
    let n := 16 * k + b
    if (l.getD n none).any (fun t => t < d.clock.evTb) && !d.sticks n then l.set n none else l) l

/-- `SRC_CFG[n]` written: read-only fields stay, and an EN bit that falls clears its target's pending bit (R152, R155). -/
def Dev.writeSrcCfg (n w : Nat) (d : Dev) : Dev :=
  let old := d.srcCfg n
  let v := if sourceProg n then w % 16384 else w % 1024 + field 13 10 old * 1024
  let drop (b : Nat) (l : List (Option Nat)) := if bit b old && !bit b v then l.set n none else l
  { d with evc := { d.evc with
      srcCfg := d.evc.srcCfg.set n (word v), pendH := drop 4 d.evc.pendH, pendA := drop 5 d.evc.pendA,
      pendB := drop 6 d.evc.pendB } }

/-- What an accepted write of an index does; a read-only word has no effect (R151). -/
def Dev.evcWritten (i w : Nat) (d : Dev) : Dev :=
  let e := d.evc
  if i < 0xA0 then d.writeSrcCfg i w
  else if i < 0x1A0 then
    let n := i - 0x100
    if n = 6 || n = 7 then d
    else { d with evc := { e with
        srcFilt := e.srcFilt.set n (word w),
        filtWas := (n, d.clock.evTb, e.srcFilt.getD n 0) :: e.filtWas.filter (fun x => d.now ≤ x.2.1 + filterMax) } }
  else if 0x200 ≤ i && i < 0x20A then { d with evc := { e with pendH := d.clearWord (i - 0x200) w e.pendH } }
  else if 0x210 ≤ i && i < 0x21A then { d with evc := { e with pendA := d.clearWord (i - 0x210) w e.pendA } }
  else if 0x220 ≤ i && i < 0x22A then { d with evc := { e with pendB := d.clearWord (i - 0x220) w e.pendB } }
  else if 0x509 ≤ i && i < 0x520 then
    { d with evc := { e with wcfg := e.wcfg.set (i - 0x500) (word (watcherSource (i - 0x500) + w / 256 % 4 * 256)) } }
  else if 0x529 ≤ i && i < 0x540 then { d with evc := { e with wfilt := e.wfilt.set (i - 0x520) (word w) } }
  else if i = 0xF00 then { d with evc := { e with prigroup := w } }
  else if i = 0xFFE then { d with evc := { e with statLocked := e.statLocked && !bit 1 w, statHold := e.statHold && !bit 2 w } }
  else if i = 0xFFF then { d with evc := { e with lock := e.lock || bit 0 w } }
  else d

/-- A write of an index in the present event: its record, its effect and `EVC_STAT`, and its journal cause (R97, R153). -/
def Dev.writeEvc (i w : Nat) (d : Dev) : Nat × Dev :=
  let cause := d.judgeEvc i w
  let old := (d.readEvc i).toNat
  if cause = 0 then
    let d := d.evcWritten i w
    let x := draft 0x03 0xFF i old (if evcAssigned i && (i < 0x250 || 0x258 ≤ i) then (d.readEvc i).toNat else old) 0
    (0, Dev.note oHost x { d with evc := { d.evc with statOk := true } })
  else
    let d := d.noteRefused oHost (draft 0x03 0xFF i old w cause)
    (cause, { d with evc := { d.evc with
        statOk := false, statLocked := d.evc.statLocked || cause = 1, statHold := d.evc.statHold || cause = 5 } })

/-! ### Inputs (R83, R148, R149) -/

/-- The filter word of a source as it stood at stamp `s`: one replaced since is that of the first write after `s` (R149). -/
def Dev.filterWord (d : Dev) (n s : Nat) : Nat :=
  let later := d.evc.filtWas.filter (fun x => x.1 == n && s < x.2.1)
  ((later.getLast?.map (fun x => x.2.2)).getD (d.evc.srcFilt.getD n 0)).toNat

/-- Ticks for which a level that is new at `s` must hold before the filtered level changes (R83, R149, R150). -/
def Dev.filterTicks (d : Dev) (n s : Nat) : Nat :=
  if n = 24 then 128 else let f := d.filterWord n s; f % 256 * 4 ^ field 10 8 f

/-- The inputs are sampled: ROOT runs and the device is not held in reset (R582). -/
def Dev.samples (d : Dev) : Bool := d.clock.rootOn && (d.awake || d.start.entropy)

/-- The unit of an input acts on its change (R148): ENGINE_RUN going inactive ends an engine-held relay (R309), and a door that
opens ends the sessions of its zones (R313). -/
def Dev.acted (n : Nat) (on : Bool) (d : Dev) : Dev :=
  if n = 25 then
    match d.rel.relay with
    | .engineHeld => if on then d else d.lockRelay oPower 0xFFFF 0xFF 1 5
    | _ => d
  else if 26 ≤ n && n ≤ 31 && on then
    d.endSessions oPower 0xFFFF 0xFF 1 0 (fun x => bit x.zone (d.setting (0x060010 + (n - 26))))
  else d

/-- The change sets pending (R152, R155): HARM's does in both directions. -/
def Dev.trigHit (d : Dev) (n : Nat) (on : Bool) : Bool :=
  sourceKind n != .input ||
  (match field 8 7 (d.srcCfg n) with
   | 1 => !on
   | 2 => true
   | _ => on)

/-- The accepted event of a change of an input: pending as TRIG says, `LAST_ESN`, and what its unit does (R148, R155). -/
def Dev.inputEvent (n : Nat) (on : Bool) (d : Dev) : Dev :=
  Dev.acted n on
    (if d.trigHit n on then d.setPending n
     else { d with evc := { d.evc with lastEsn := d.evc.lastEsn.set n d.clock.evEsn } })

/-- A level is the active one, under INV (R152); HARM has none. -/
def Dev.activeAt (d : Dev) (n : Nat) (high : Bool) : Bool := if n = 24 then high else high != bit 9 (d.srcCfg n)

/-- The device stands by, with its watcher at work (R162, R582). -/
def Dev.watching (d : Dev) : Bool := (d.pwr.dev == .park || d.pwr.dev == .deep) && !d.clock.rootOn && !d.start.waitHrst

/-- The filtered level of an input. -/
def Dev.setLevel (n : Nat) (high : Bool) (d : Dev) : Dev := { d with evc := { d.evc with level := d.evc.level.set n high } }

/-- The LF edge at which a change at `s` is first seen: an edge that falls on it may show either level, which is open (R162). -/
def Dev.seenAt (s : Nat) (d : Dev) : Nat × Dev :=
  let k := d.clock.cycleAt s
  if d.clock.continued k = s then let r := d.freeBool; (k + b2n r.1, r.2) else (k, d)

/-- A standby filter accepts a change that was new at `s` at its `WCOUNT_MIN`-th edge; a change to active is latched (R161, R162). -/
def Dev.standbyChange (n w : Nat) (high : Bool) (s : Nat) (d : Dev) : Dev :=
  if !bit 9 (d.evc.wcfg.getD w 0).toNat || d.evc.level.getD n false == high then d
  else
    let r := d.seenAt s
    let k := r.1 + (max 1 ((d.evc.wfilt.getD w 0).toNat % 256) - 1)
    let d := Dev.setLevel n high { r.2 with clock := { r.2.clock with lfCycles := max r.2.clock.lfCycles k } }
    if d.activeAt n high then d.latchAt w (d.clock.continued k) else d

/-- A change of an input comes out of its filter (R149): `f` is what else the edge does, before the input's own event. -/
def Dev.runChange (n : Nat) (high : Bool) (s : Nat) (f : Dev → Dev) (d : Dev) : Dev :=
  if d.evc.level.getD n false == high then d
  else
    let d := f (d.wait (s + d.filterTicks n s))
    (((d.setLevel n high).undoze).acceptOn (sourcePort n) false).inputEvent n (d.activeAt n high)

/-- The ball of an input changes at `s` and keeps its level for the filter's length (R149), or in standby for `WCOUNT_MIN` LF edges
(R162). -/
def Dev.inputChange (n : Nat) (high : Bool) (s : Nat) (d : Dev) : Dev :=
  let d := { d with evc := { d.evc with ball := d.evc.ball.set n high } }
  if d.samples then d.runChange n high s id
  else if d.watching then
    match sourceWatcher n with
    | none => d
    | some w => d.standbyChange n w high s
  else d

/-- HARM_CHANGE (R83). -/
def harmChange (level : Bool) (s : Nat) : Dev → Dev := Dev.inputChange 24 level s

def execHarmChange (level : Bool) (t : Nat) (s : State) : Host.Outcome State Fault Refusal := run (harmChange level t) s

/-- ENGINE_RUN_CHANGE (R309). -/
def engineRunChange (level : Bool) (s : Nat) : Dev → Dev := Dev.inputChange 25 level s

def execEngineRunChange (level : Bool) (t : Nat) (s : State) : Host.Outcome State Fault Refusal := run (engineRunChange level t) s

/-- DOOR_CHANGE (R313). -/
def doorChange (n : Nat) (level : Bool) (s : Nat) (d : Dev) : Dev := if n < 6 then d.inputChange (26 + n) level s else d

def execDoorChange (n : Nat) (level : Bool) (t : Nat) (s : State) : Host.Outcome State Fault Refusal := run (doorChange n level t) s

/-- WAKE_INPUT_CHANGE (R148). -/
def wakeInputChange (n : Nat) (level : Bool) (s : Nat) (d : Dev) : Dev := if n < 8 then d.inputChange (120 + n) level s else d

def execWakeInputChange (n : Nat) (level : Bool) (t : Nat) (s : State) : Host.Outcome State Fault Refusal :=
  run (wakeInputChange n level t) s

/-- GPIO_CHANGE (R148): the ball is shared with TINn, whose channel takes the edge at the stamp of its first sample (R174), behind the
compares that are due (R177). A ball that its channel drives has the output's level, from the stamp at which that last moved (R178). -/
def gpioChange (n : Nat) (level : Bool) (s : Nat) (d : Dev) : Dev :=
  let s := if d.driven n then max s (d.chan n).outAt else s
  let edge (d : Dev) : Dev := d.dueMatches.tmrEdge n level s
  if 16 ≤ n || (d.driven n && (d.chan n).out != level) then d
  else if d.samples then
    Dev.runChange (104 + n) level s edge { d with evc := { d.evc with ball := d.evc.ball.set (104 + n) level } }
  else d.inputChange (104 + n) level s

def execGpioChange (n : Nat) (level : Bool) (t : Nat) (s : State) : Host.Outcome State Fault Refusal := run (gpioChange n level t) s

/-- WATCHER_LATCH (R162): an entry's event is latched while ROOT is stopped; an input is then at its active level. -/
def watcherLatch (entry : Nat) (d : Dev) : Dev :=
  if !d.watching || 32 ≤ entry || !bit 9 (d.evc.wcfg.getD entry 0).toNat then d
  else
    let n := watcherSource entry
    let high := d.activeAt n true
    let d := if sourceKind n = .input || n = 24 then
        { d with evc := { d.evc with level := d.evc.level.set n high, ball := d.evc.ball.set n high } }
      else d
    d.latch entry

def execWatcherLatch (entry : Nat) (s : State) : Host.Outcome State Fault Refusal := run (watcherLatch entry) s

/-- The filters start again from the balls' present levels, with no event (R160, R582). -/
def Dev.resample (p : Nat → Bool) (d : Dev) : Dev :=
  { d with evc := { d.evc with
      level := (List.range 160).map (fun n => if p n then d.evc.ball.getD n false else d.evc.level.getD n false) } }

end Sys2Proof.Machine
end

