-- ==== Sys2Proof/Machine/Tamper.lean ====
section
/-!
DEFINITION. What ends commands from outside their own work (R57, R69, R73, R128), the end of a debug session (R103, R430), and
tamper: the Quench (R347), the tamper event (R348) and its record (R349).
-/

namespace Sys2Proof.Machine

/-! ### Commands that are broken off (R128) -/

/-- The work of a command is broken off: a script it runs ends with an end cause of R426, and its page writes that have not begun are
dropped (R479, R493). -/
def Dev.breakOff (cause : Nat) (c : Cmd) (d : Dev) : Dev :=
  let d := match c.phase with
    | .running (.script q) =>
      let s := d.seqr q
      (d.zeroiseSeq q).onSeq q (fun t => { t with endCause := cause, endPc := s.pc })
    | _ => d
  d.nvDrop (· == some c.tag)

/-- A command is broken off with a status in an event of its own. -/
def Dev.killCmd (st : Status) (cause : Nat) (c : Cmd) (d : Dev) : Dev :=
  let d := d.breakOff cause c
  let d := if st = .holdBroken && c.op = 0x61 then d.setLoad d.atlas.load.suspend else d
  d.endCmd st c

/-- Every command that meets `p` is broken off, in doorbell order. -/
def Dev.killCmds (st : Status) (cause : Nat) (p : Cmd → Bool) (d : Dev) : Dev :=
  (d.cmds.filter p).foldl (fun d c => d.killCmd st cause c) d

/-! ### Debug sessions (R103, R430) -/

/-- A debug session ends: halts are released, breakpoints go, an image written over is restored (R424, R429), and freezes end
(R179). -/
def Dev.endDebug (d : Dev) : Dev :=
  if !d.host.dbgUnlocked then d
  else
    let d := { d with host := { d.host with dbgUnlocked := false } }
    let free (q : Nat) (d : Dev) : Dev :=
      let dirty := (d.seqr q).dirty
      let d := d.onSeq q (fun s => { s with halted := false, breakpoints := [] })
      if dirty then d.restoreDue q else d
    (free 1 (free 0 d)).tmrFreeze

/-- `DBGCTL` (chapter 4). -/
def Dev.dbgctl (d : Dev) : Nat :=
  bitsNat [d.host.dbgAllow, d.host.dbgUnlocked, d.ham.a.halted, d.ham.b.halted, d.ident.dbgFused]

/-! ### Tamper (R346–R349) -/

/-- The Quench (R347): PD00 but the latches and the arming, volatile keys, branch keys, key RAM and the Anvil's lanes are zeroed,
so that no record in EEPROM can be decrypted any more. -/
def Dev.quench (sensor : Nat) (d : Dev) : Dev :=
  let d := d.clearVolatile
  let d := { d with
    cru := { d.cru with
      shareA := List.replicate 32 0, shareB := List.replicate 32 0, scramble := [], commit := none, prepared := none,
      stage := [], staging := false, slots := d.cru.slots.map (fun (k : KeySlot) => { k with material := [] }),
      tampstat := d.cru.tampstat ||| 2 ^ sensor ||| 256, tampered := true, wakeId := 0, trips := min 65535 (d.cru.trips + 1) },
    anvil := { d.anvil with contexts := List.replicate 8 none, reserve := none },
    kw := { d.kw with nodes := d.kw.nodes.map (fun (c : Nat × Node) => (c.1, { c.2 with kn := [] })) } }
  if d.lf.polling then d.stopPolling else d

/-- The tamper event's records and effects in the present event (R348, R349): the TAMPER record, then the lock, the sessions and
their grants. `standby` marks a trip latched in a standby. -/
def Dev.tamperEffects (standby : Bool) (d : Dev) : Dev :=
  let d := d.note oTamper { draft 0x50 0x10 d.cru.tampstat 0 0 0 with detail := b2n standby }
  Dev.quell oTamper 6 4 5 1 { d with cru := { d.cru with tamperDue := false } }

/-- Commands that a tamper event ends (R128): those that use CRUCIBLE_LOGIC, ANVIL, a Hammer or RELEASE. -/
def Cmd.tamperEnds (c : Cmd) : Bool := c.executing && c.uses.any (fun f => f == 3 || f == 4 || f == 5 || f == 6 || f == 11)

/-- A sensor is active in the present state; a TAMP_IN ball only while it is armed (R346). -/
def Dev.sensorActive (d : Dev) (n : Nat) : Bool :=
  match n with
  | 1 => d.pwr.dev != .shelf
  | 3 => d.awake
  | 6 => bit 0 d.cru.tinCfg
  | 7 => bit 2 d.cru.tinCfg
  | _ => n < 8

/-- THIGH's threshold in 0.125 °C: +165 °C for grade B0, +150 °C for B1 (R2, R346). -/
def Dev.thigh (d : Dev) : Int := if d.ident.grade0 then 1320 else 1200

/-- Readings of the die sensor, in 0.125 °C, trip TLOW or THIGH (R346): three in a row, or two on PD00's own cycle in a standby and in
SHELF. -/
def Dev.tempTrips (d : Dev) (sensor : Nat) (readings : List Int) : Bool :=
  (if d.samples then 3 else 2) ≤ readings.length &&
  readings.all (fun t => if sensor = 4 then (t < -400 : Bool) else (d.thigh < t : Bool))

/-- The Quench line presents its own source 8 behind the trip's event, which then does what R348 says. -/
def Dev.tamperEvent (d : Dev) : Dev :=
  let d := (d.raise 8).tamperEffects false
  let r := d.freeNat
  r.2.endDebug.killCmds .tampered (r.1 % 12) Cmd.tamperEnds

/-- A trip outside RUN: in a standby it is latched by the watcher, at continued value `t`, and in SHELF in PD00 alone (R348). -/
def Dev.tamperStandby (t : Nat) (latch : Dev → Dev) (d : Dev) : Dev :=
  let d := { d with cru := { d.cru with tamperDue := true } }
  if d.watching then (latch d).latchAt 8 t else d

/-- A trip of a sensor that is qualified (R347, R348). -/
def Dev.tripped (sensor : Nat) (d : Dev) : Dev :=
  let d := d.quench sensor
  if d.samples then (d.signal sensor).tamperEvent else d.tamperStandby d.now (Dev.latch sensor)

/-- A TAMP_IN ball is armed and `high` is its active level (R342, R346). -/
def Dev.tampActive (d : Dev) (n : Nat) (high : Bool) : Bool :=
  d.sensorActive n && high == bit (2 * (n - 6) + 1) d.cru.tinCfg

/-- A TAMP_IN ball is new at level `high` at `s` and keeps it (R148, R150, R346): the filtered level changes with an event, and an armed
ball at its active level trips. One that is at its active level already, when it is armed, trips with an event of no change. -/
def Dev.tampChange (n : Nat) (high : Bool) (s : Nat) (d : Dev) : Dev :=
  let d := { d with evc := { d.evc with ball := d.evc.ball.set n high } }
  let trips := d.tampActive n high
  if d.samples then
    let changed := d.evc.level.getD n false != high
    let d := d.wait (s + 64)
    let d := if trips then d.quench n else d
    let d := if changed then d.runChange n high s id else if trips then d.presentOn 1 else d
    if trips then d.tamperEvent else d
  else
    let d := if trips then d.quench n else d
    let d := if d.watching then d.standbyChange n n high s else d
    if trips then d.tamperStandby (d.clock.continued (d.clock.cycleAt s)) id else d

/-- TAMPER_TRIP (R346–R348): `readings` are the die sensor's, `level` and `s` a TAMP_IN ball's. -/
def tamperTrip (sensor : Nat) (readings : List Int) (level : Bool) (s : Nat) (d : Dev) : Dev :=
  if sensor = 6 || sensor = 7 then d.tampChange sensor level s
  else if !d.sensorActive sensor then d
  else if sensor = 4 || sensor = 5 then
    let d := { d with cru := { d.cru with dieTemp := readings.getLast?.getD d.cru.dieTemp } }
    if d.tempTrips sensor readings then d.tripped sensor else d
  else d.tripped sensor

def execTamperTrip (sensor : Nat) (s : State) (readings : List Int := []) (level : Bool := false) (t : Nat := 0) : Host.Outcome State Fault Refusal :=
  run (tamperTrip sensor readings level t) s

end Sys2Proof.Machine
end

