-- ==== Sys2Proof/Machine/Power.lean ====
section
/-!
DEFINITION. Power domains, device states and the secure boundary (chapter 3): what a domain's supply carries with it, holds and
deferrals, DOZE, the entries to PARK, DEEP and SHELF, and the wakes (R43, R160, R548, R549).
-/

namespace Sys2Proof.Machine

/-! ### Domain states (R53, R57) -/

/-- `PWRSTAT.DSTATE` of a domain. -/
def Dev.dstate (d : Dev) (n : Nat) : Nat :=
  if domFixed n then 6
  else if d.domDeferred n then 5
  else match d.dom n with
    | .off => 0
    | .on => 1
    | .gated => 2
    | .drain => 4
    | .lost => 7

/-- A POWER record of a domain (R578). -/
def powerDraft (n old new cause : Nat) : Draft := draft 0x41 0x01 n old new cause

/-- Queued page writes end one after the other, `fuel` of them at most. -/
def Dev.nvFinish : Nat → Dev → Dev
  | 0, d => d
  | n + 1, d => if d.nv.busy then Dev.nvFinish n (nvPageWriteEnd d) else d

/-- A command that listens on UHF path B, under the `UHF.PATHS` it sampled (R132, R214). -/
def Cmd.onPathB (c : Cmd) : Bool := [0x13, 0x20, 0x40, 0x41, 0x42, 0x46].contains c.op && bit 1 (c.setting 0x030002)

/-- A secure script runs for the command: it holds PD09 and PD10 whenever it uses them (R67, R73). -/
def Dev.secureRun (d : Dev) (c : Cmd) : Bool :=
  match c.phase with
  | .running (.script q) => (d.seqr q).secure
  | _ => false

/-- An executing command uses a domain: it needs it, listens on its path, runs a secure script on it, or its emission uses an aerial of
the bank (R54, R57, R73). -/
def Dev.cmdIn (d : Dev) (n : Nat) (c : Cmd) : Bool :=
  let mine (e : Nat × Emission × Nat) : Bool :=
    (match e.2.1 with
     | .command t => t == c.tag
     | _ => false) && (bitsOf 8 e.2.2).any (fun a => aerialBank a == n)
  c.executing && (c.inDomains.contains n || (n == 6 && c.onPathB) || ((n == 9 || n == 10) && d.secureRun c) ||
    ((n == 2 || n == 3) && d.lf.emission.any mine))

/-- What goes with a domain's supply (R57, R65, R73), the domain's own state apart. -/
def Dev.domainDown (n : Nat) (d : Dev) : Dev :=
  let clearSeq (q : Nat) (d : Dev) : Dev := d.onSeq q (fun s => { s with image := none, iram := [], dirty := false, restoring := false })
  match n with
  | 2 | 3 =>
    if d.lf.emission.any (fun e => (bitsOf 8 e.2.2).any (fun a => aerialBank a == n)) then { d with lf := { d.lf with emission := none } } else d
  | 5 | 6 => d.pathLost
  | 9 => { d with anvil := { d.anvil with contexts := List.replicate 8 none } }
  | 10 =>
    let d := d.clearVolatile
    { d with cru := { d.cru with stage := [], staging := false, scramble10 := [] },
             anvil := { d.anvil with ready := false, key := List.replicate 32 0, v := 0, blocks := [], health := Health.reset, reseedDue := false } }
  | 11 => clearSeq 0 d
  | 12 => clearSeq 1 d
  | 13 | 14 => d.reloadDue
  | 16 => { d with nv := { d.nv with staging := none } }
  | 18 => d.kwStop
  | 21 => d.tmrOff
  | 23 => d.endDebug
  | _ => d

/-- What a domain's supply brings back (R57, R65, R183, R190, R280, R319, R424, R442, R519). `lost` is after a hard loss. -/
def Dev.domainUp (lost : Bool) (n : Nat) (d : Dev) : Dev :=
  match n with
  | 2 => [0, 1, 2, 3].foldl (fun d a => d.clearFaults a) d
  | 3 => [4, 5, 6, 7].foldl (fun d a => d.clearFaults a) d
  | 10 => d.crucibleStart false
  | 11 => d.restoreDue 0
  | 12 => d.restoreDue 1
  | 13 | 14 => d.reloadDue
  | 15 => if d.med.state == .down then { d with med := { d.med with state := .replay } } else d.mediaWake
  | 16 => (if lost then d.nvStart else d).nvKick
  | 18 => d.kwStart
  | 21 => d.tmrUp
  | _ => d

/-- The supply of a domain goes: what `p` picks of the commands that execute in it complete HOLD_BROKEN, and scripts end so; its secure
holds are gone with it (R57, R73). -/
def Dev.supplyGone (n : Nat) (x : Domain) (p : Cmd → Bool) (d : Dev) : Dev :=
  let d := Dev.setDom n x { d with pwr := { d.pwr with holds := d.pwr.holds.filter (fun h => h.dom != n) } }
  (d.killCmds .holdBroken 11 p).domainDown n

/-- A command whose secure script has ended: it has released its holds, and completes normally (R67, R68). -/
def Cmd.released (c : Cmd) : Bool :=
  (c.isToken || c.op == 0x91) && (match c.phase with
    | .done _ => true
    | .waiting _ => true
    | _ => false)

/-- A domain is switched off (R57). The relay's lock at PD19 stands in the present event. A deferred POWER_OFF spares the commands that
have released their holds (R68). -/
def Dev.switchDomain (deferred : Bool) (n : Nat) (d : Dev) : Dev :=
  let d := if n = 19 then d.lockRelay oHost 0xFFFF 0xFF 5 5 else d
  let d := if n = 15 then d.mediaPark else d
  d.supplyGone n .off (fun c => d.cmdIn n c && !(deferred && c.released))

/-! ### Holds (R67–R72) -/

/-- The holds an executing command keeps (R67). -/
def Dev.cmdHolds (d : Dev) (c : Cmd) : List Hold :=
  if !c.executing then [] else
  match c.phase with
  | .running (.token x) => [⟨1 + x.seq, 11 + x.seq⟩]
  | .running (.script q) => if (d.seqr q).secure then [⟨1 + q, 11 + q⟩] else []
  | _ => if c.isToken then [] else (c.holds d).filter Hold.stands

/-- The hold of the entropy source while it conditions a seed (R67). -/
def seedHold : Hold := ⟨5, 10⟩

/-- A hold is still needed by the work that took it. -/
def Dev.holdNeeded (d : Dev) (h : Hold) : Bool :=
  d.cmds.any (fun c => (d.cmdHolds c).contains h) || (h == seedHold && d.conditioning)

/-- Port of a holder (R50, R67). -/
def holderPort (holder : Nat) : Nat := if holder = 1 then 9 else if holder = 2 then 10 else 13

/-- A deferral is over. -/
def Dev.dropDeferral (n : Nat) (d : Dev) : Dev :=
  { d with pwr := { d.pwr with deferrals := d.pwr.deferrals.filter (fun f => f.dom != n) } }

/-- The slot K48–K63 that an aborted command created and had not yet returned (R69). -/
def Cmd.created (c : Cmd) : Option Nat :=
  match c.phase with
  | .done r | .waiting r =>
    if r.status != .done then none
    else
      let n := if c.op = 0x49 then (r.payload.getD 0 0).toNat else if c.op = 0x4A then c.w 7 else 0
      if 48 ≤ n && n < 64 then some n else none
  | _ => none

/-- The work of an aborted command is zeroised (R69). -/
def Dev.zeroiseWork (c : Cmd) (d : Dev) : Dev :=
  let d := match c.created with
    | some n => { d with cru := { d.cru with slots := d.cru.slots.set n KeySlot.empty } }
    | none => d
  if c.op = 0x4D then d.setContext c none else d

/-- A deferred POWER_OFF is applied in the present event (R68). -/
def Dev.applyDeferred (n : Nat) (d : Dev) : Dev :=
  let old := d.dstate n
  ((d.dropDeferral n).note oPower (powerDraft n old 0 0)).switchDomain true n

/-- The deferral of a domain has closed with a hold standing (R69): in the close's event its holders are aborted; then, each as its own
event, their work is zeroised, their commands complete HOLD_BROKEN, `PWRSTAT.BRK` is set with PWR_BREAK (source 12) and the POWER record,
and the domain is switched off. Other domains that the same holders held last have their deferred POWER_OFF applied (R68). -/
def Dev.breakHolds (n : Nat) (d : Dev) : Dev :=
  let hs := (List.range 6).filter (fun h => d.pwr.holds.any (fun x => x.dom == n && x.holder == h))
  let hit (c : Cmd) : Bool := (d.cmdHolds c).any (fun x => hs.contains x.holder)
  let cs := d.cmds.filter hit
  let d := { d with
    pwr := { d.pwr with holds := d.pwr.holds.filter (fun x => !hs.contains x.holder) },
    anvil := if hs.contains 5 then { d.anvil with reseedDue := false } else d.anvil }
  let d := cs.foldl (fun d c => d.zeroiseWork c) (d.presentOn 2)
  let d := d.killCmds .holdBroken 11 (fun c => cs.any (fun b => b.tag == c.tag))
  let d := if cs.any (fun c => c.op == 0x48) then d.recoverUpdate else d
  let mask := bitsNat ((List.range 5).map (fun i => hs.contains (i + 1)))
  let old := d.dstate n
  let d := Dev.signal 12 { d with pwr := { d.pwr with brk := true } }
  let d := (d.dropDeferral n).note oPower { powerDraft n old 0 4 with detail := hs.headD 0 + 256 * mask }
  let d := (d.presentOn 2).switchDomain false n
  (List.range 24).foldl (fun d m => if d.domDeferred m && !d.domHeld m then (d.presentOn 2).applyDeferred m else d) d

/-- DEFERRAL_WINDOW_CLOSE (R69, R70). -/
def deferralWindowClose (n : Nat) (d : Dev) : Dev :=
  match d.pwr.deferrals.find? (fun f => f.dom == n) with
  | none => d.closes 2 none id
  | some f => d.closes 2 (some f.win) (fun d => if d.domHeld n then d.breakHolds n else d.applyDeferred n)

def execDeferralWindowClose (dom : Nat) (s : State) : Host.Outcome State Fault Refusal := run (deferralWindowClose dom) s

/-- HOLD_RELEASE (R67, R68, R70): a hold whose work has ended is released, an event on its holder's port; the last one on a domain lets
its deferred POWER_OFF apply, as an event of the power port, unless the deferral's window has closed, which goes first. -/
def holdRelease (holder dom : Nat) (d : Dev) : Dev :=
  let h : Hold := ⟨holder, dom⟩
  if !d.pwr.holds.contains h || d.holdNeeded h then d
  else
    match d.pwr.deferrals.find? (fun f => f.dom == dom && d.reached f.win) with
    | some f => (d.closes 2 (some f.win) (Dev.breakHolds dom)).presentOn (holderPort holder)
    | none =>
      let d := d.presentOn (holderPort holder)
      let d := { d with pwr := { d.pwr with holds := d.pwr.holds.filter (· != h) } }
      if d.domHeld dom || !d.domDeferred dom then d else (d.presentOn 2).applyDeferred dom

def execHoldRelease (holder dom : Nat) (s : State) : Host.Outcome State Fault Refusal := run (holdRelease holder dom) s

/-- DRAIN_END (R57): the write in progress in PD15 or PD16 has ended, and the POWER_OFF applies. -/
def drainEnd (n : Nat) (d : Dev) : Dev :=
  if d.dom n != .drain then d
  else
    let d := if n = 16 && d.nv.busy then nvPageWriteEnd d else d
    (d.presentOn 2).switchDomain false n

def execDrainEnd (dom : Nat) (s : State) : Host.Outcome State Fault Refusal := run (drainEnd dom) s

/-! ### DOZE (R61) -/

/-- DOZE_ENTRY: no tag in flight, no background atom and no host access for `PWR.DOZE_IDLE`. -/
def dozeEntry (d : Dev) : Dev :=
  let idle := d.setting 0x010001
  if d.pwr.dev != .run || idle = 0 || !d.cmds.isEmpty || !d.store.isEmpty || !d.bg.due.isEmpty then d
  else (d.wait (d.pwr.busyAt + ceilDiv (idle * 1248) 10)).stateChange .doze

def execDozeEntry (s : State) : Host.Outcome State Fault Refusal := run dozeEntry s

/-- DOZE_EXIT. -/
def dozeExit (d : Dev) : Dev := d.undoze

def execDozeExit (s : State) : Host.Outcome State Fault Refusal := run dozeExit s

/-! ### Entry to PARK, DEEP and SHELF (R61, R64, R65, R159) -/

/-- Every Host domain off, with what goes with it. The timers count on from the continued TB (R180). A domain whose supply was lost stays
LOST through a standby, not through a reset (R73). -/
def Dev.allDown (reset : Bool) (d : Dev) : Dev :=
  (List.range 24).foldl (fun d n =>
    if domFixed n || d.dom n == .off || (!reset && d.dom n == .lost) then d
    else if n = 21 then d.setDom n .off
    else (d.setDom n .off).domainDown n) d

/-- What an entry clears (R65, R86, R159, R306, R528): evidence and decisions, staged words, sequencer pending, due atoms, jam episodes of
RUN (R204), and the watcher's record of the last continuation (R162). -/
def Dev.clearForStandby (d : Dev) : Dev :=
  { d with
    rel := { d.rel with evidence := List.replicate 64 none, decisions := List.replicate 16 none, policyStage := [] },
    host := { d.host with staged := [], refused := false, wdtWin := none, cqRead := 0 },
    bg := { d.bg with due := [] },
    lf := { d.lf with emission := none, standbyDue := 0 },
    uhf := { d.uhf with windows := [], jammed := [false, false] },
    evc := { d.evc with
      pendA := List.replicate 160 none, pendB := List.replicate 160 none, actA := [], actB := [],
      wcount := List.replicate 32 0, latched := List.replicate 32 none, held := [], trigger := none } }

/-- Steps 2–5 of an entry (R61): the journal and the chain head, the media manager, what is cleared, and the stop of ROOT. -/
def Dev.standDown (d : Dev) : Dev :=
  let d := d.flushBuffer.flushBuffer.writeHead true
  let d := Dev.nvFinish d.nv.queue.length d
  let ran := d.scrubCount
  let d := { d with nv := { d.nv with scrubRan := ran, scrubFrom := d.now } }
  let d := (d.mediaPark.endDebug.tmrStandby.clearForStandby).allDown false
  { d with clock := d.clock.enter }

/-- The flush of an entry cannot be carried out (R64). -/
def Dev.entryFails (d : Dev) : Bool := !d.jrnl.buf.isEmpty && !d.mediaUp

/-- An entry granted by SLEEP_ENTER with target `t` begins when every completion has been popped (R64). A failure leaves the device
in RUN. -/
def Dev.enterState (t : Nat) (x : DevState) (d : Dev) : Dev :=
  match d.pwr.sleep with
  | some (u, keep) =>
    if u != t || !d.awake || !d.cmds.isEmpty || !d.store.isEmpty then d
    else
      let d := d.undoze
      if d.entryFails then
        let d := d.presentOn 2
        Dev.note oPower (powerDraft 0xFF 5 5 6) { d with pwr := { d.pwr with sleep := none } }
      else
        let d := (d.stateChange x).standDown
        let d := Dev.setEst 0 (d.stagePeriod 0) { d with lf := { d.lf with stage := 0 } }
        if t = 2 && keep && d.lf.polling then
          Dev.pollFrom { d with pwr := { d.pwr with parkAt := d.now } }
        else
          { d with
            pwr := { d.pwr with parkAt := d.now, sleep := if t = 2 then some (2, false) else none },
            lf := { d.lf with polling := false } }
  | none => d

/-- PARK_ENTRY. -/
def parkEntry (d : Dev) : Dev := d.enterState 2 .park

def execParkEntry (s : State) : Host.Outcome State Fault Refusal := run parkEntry s

/-- DEEP_ENTRY. -/
def deepEntry (d : Dev) : Dev := d.enterState 3 .deep

def execDeepEntry (s : State) : Host.Outcome State Fault Refusal := run deepEntry s

/-- SHELF: every domain but PD00 is off. -/
def Dev.shelve (flushed : Bool) (d : Dev) : Dev :=
  let d := d.mediaDown flushed
  { d with
    pwr := { d.pwr with dev := .shelf, doms := (List.range 24).map (fun n => if n = 0 then .on else .off) },
    clock := { d.clock with rootOn := false } }

/-- SHELF_ENTRY. -/
def shelfEntry (d : Dev) : Dev :=
  let d := d.enterState 4 .shelf
  if d.pwr.dev == .shelf then d.shelve true else d

def execShelfEntry (s : State) : Host.Outcome State Fault Refusal := run shelfEntry s

/-! ### Wakes (R43, R160, R548, R549, R576) -/

/-- What is presented after a re-anchor with a stamp of its own (R160, R576). -/
inductive Woken where
  | latched (n : Nat)
  | held (n : Nat)
  | fall (n : Nat)
  | session (num : Nat)
  | learn
  | timer (n : Nat)
  | pin (n : Nat)
  | entropy
deriving DecidableEq, Repr

/-- An event accepted with stamp `t`, before all that is presented later (R52). -/
def Dev.acceptAt (t : Nat) (d : Dev) : Dev :=
  { d with clock := { d.clock with evEsn := d.clock.esn, evTb := t, evPlace := 27, esn := d.clock.esn + 1 } }

/-- One of them presented. A tamper trip latched in the standby has its record and effects at the append (R349); the change from PARK
to DEEP has its record here (R61). -/
def Dev.wokenAt (t : Nat) (x : Woken) (d : Dev) : Dev :=
  let d := d.acceptAt t
  match x with
  | .latched n =>
    if n < 9 then
      let d := if sourceKind n = .input then d.inputEvent n true else d.setPending n
      if d.cru.tamperDue then Dev.tamperEffects true { d with clock := { d.clock with evTb := d.now } } else d
    else if sourceKind n = .input || n = 24 then d.inputEvent n true
    else d.setPending n
  | .held n =>
    let d := d.setPending n
    if n = 10 && d.lf.stage7 then d.note oPower (powerDraft 0xFF 2 3 0) else d
  | .fall n => d.inputEvent n false
  | .session num => d.endSession oPower 0xFFFF 0xFF 1 1 num
  | .learn => if d.tok.adm.state = 2 then d.closeAdm oPower 0xFFFF 0xFF 1 else d
  | .timer n => d.tmrLateMatch n
  | .pin n => d.unpinLoop n (d.pinValue n)
  | .entropy => d.entropyClosed

/-- The stamp of a window's close in the continuation, or at the re-anchor to `e` (R576): none where it is not reached. -/
def Dev.closeInStandby (d e : Dev) (w : Window) : Option Nat :=
  let v := d.clock.continued (d.clock.cycleAt (d.closeAt w))
  if v < e.clock.tb then some v else if e.reached w then some e.clock.tb else none

/-- A watcher entry observes a source. -/
def Dev.watched (d : Dev) (n : Nat) : Bool :=
  match sourceWatcher n with
  | some w => bit 9 (d.evc.wcfg.getD w 0).toNat
  | none => false

/-- The closes of windows that a re-anchor from `d` to `e` finds reached (R576): sessions, an admission, loop pins, the entropy timeout. -/
def Dev.wokenCloses (d e : Dev) : List (List Nat × Woken) :=
  let close (port : Nat) (w : Window) (x : Woken) : List (List Nat × Woken) :=
    ((d.closeInStandby e w).map (fun t => ([t, port, 0], x))).toList
  (List.range 32).flatMap (fun num => ((d.rel.sessions.getD num none).map (fun x => close 3 x.win (.session num))).getD []) ++
  (if d.tok.adm.state = 2 then close 13 d.tok.adm.win .learn else []) ++
  (List.range 13).flatMap (fun n =>
    if (d.loop n).pinned then ((d.loop n).win.map (fun w => close (loopPort n) w (.pin n))).getD [] else []) ++
  ((d.anvil.failWin.map (fun w => close 13 w .entropy)).getD [])

/-- All that is presented after the re-anchor from `d` to `e`, keyed by stamp, port, and source, a close first (R51, R52, R160); the
events held stand in the order in which they were presented. -/
def Dev.wokenList (d e : Dev) : List (List Nat × Woken) :=
  let latched := (List.range 32).filterMap (fun w =>
    let n := watcherSource w
    (d.evc.latched.getD w none).map (fun t => ([t, sourcePort n, n + 1], Woken.latched n)))
  let falls := (List.range 32).filterMap (fun w =>
    let n := watcherSource w
    if (d.evc.latched.getD w none).isSome && sourceKind n = .input && !e.active n then
      some ([e.clock.tb, sourcePort n, n + 1], Woken.fall n) else none)
  let inPark := d.pwr.dev == DevState.park
  let held := (indexedFrom 0 (d.evc.held ++ (if inPark && 0 < d.lf.stage then [57] else []) ++ (if d.lf.stage7 then [58] else []))).map
    (fun x => ([e.clock.tb, sourcePort x.2, 1 + x.1], Woken.held x.2))
  let timers := (List.range 16).filterMap (fun n =>
    if e.tmrPast n && !e.tmrLatched n then some ([e.clock.tb, sourcePort (72 + n), 72 + n + 1], Woken.timer n) else none)
  sortKeys (latched ++ falls ++ held ++ d.wokenCloses e ++ timers)

/-- One event for each kind L condition that holds, and for each input with TRIG = 3 at its active level (R160). -/
def Dev.conditionsAgain (d : Dev) : Dev :=
  ((List.range 160).filter (fun n => d.sticks n)).foldl (fun d n => (d.acceptOn (sourcePort n) false).setPending n) d

/-- The domains of `PWR.ON_AT_READY` (R59). -/
def Dev.onAtReady (d : Dev) (n : Nat) : Bool :=
  !domFixed n && bit n (d.setting 0x010002 + 65536 * (d.setting 0x010003 % 256))

/-- Fixed domains on, and those of `PWR.ON_AT_READY` that are off, with what their supply brings back; a LOST one waits for a POWER_ON
(R73). `skip` are domains already dealt with. -/
def Dev.powerAtReady (skip : List Nat) (d : Dev) : Dev :=
  (List.range 24).foldl (fun d n =>
    if domFixed n then d.setDom n .on
    else if d.onAtReady n && d.dom n == .off then
      let d := d.setDom n .on
      if skip.contains n then d else d.domainUp false n
    else d) d

/-- The watchdog's window restarts (R101). DESIGN CHOICE (log 114): with EN = 0 no kick is remembered, so the window opens at the write that
sets EN, at a later kick, or at a wake. -/
def Dev.wdtRestart (d : Dev) : Dev :=
  let c := d.host.wdtCfg.toNat
  { d with host := { d.host with wdtWin := if bit 15 c then some (d.opened (c % 4096 * 124800)) else none } }

/-- Re-anchored at the next LF edge (R43). -/
def Dev.anchored (d : Dev) : Dev := { d with clock := d.clock.reanchor d.wantDepth d.driftPpm d.now }

/-- What waits for the re-anchor, presented in its order (R52, R160, R576). -/
def Dev.presentAll (ws : List (List Nat × Woken)) (e : Dev) : Dev := ws.foldl (fun e x => e.wokenAt (x.1.headD 0) x.2) e

/-- The watcher's latches and the ports hold nothing any more. -/
def Dev.unlatch (d : Dev) : Dev :=
  { d with evc := { d.evc with latched := List.replicate 32 none, held := [], trigger := none } }

/-- A wake to RUN from PARK or DEEP: the re-anchor at the next LF edge, what was latched and held, the conditions that hold, the
domains and the work that follows every wake (R160, R548, R549). -/
def Dev.wake (d : Dev) : Dev :=
  let prev := if d.pwr.dev == .park then 2 else 3
  let e := d.anchored.resample (fun n => (sourceKind n == .input || n == 24) && !d.watched n)
  let e := [17, 20].foldl (fun e n => e.setDom n .on) e
  let e := (e.presentAll (d.wokenList e)).tmrReanchor.conditionsAgain.unlatch
  let e := { e with
    lf := { e.lf with stage := 0, stage7 := false, polling := e.lf.polling && !d.lf.stage7 },
    pwr := { e.pwr with prev := prev, sleep := none, dev := d.pwr.dev },
    nv := { e.nv with scrubFrom := e.now } }
  let e := (e.powerAtReady []).stateChange .run
  let e := if e.pwr.vholdLow then e.enterThrough else e
  let e := { e with pwr := { e.pwr with busyAt := e.now } }
  let e := (Dev.signal 21 { e with pwr := { e.pwr with wakes := min 65535 (e.pwr.wakes + 1) } }).wdtRestart
  if e.cru.tamperDue then (e.presentOn 1).tamperEffects true else e

/-- WAKE_PARK: a watcher's trigger (R61). -/
def wakePark (d : Dev) : Dev := if d.pwr.dev == .park && d.evc.trigger.isSome then d.wake else d

def execWakePark (s : State) : Host.Outcome State Fault Refusal := run wakePark s

/-- WAKE_DEEP: a watcher's trigger (R548). -/
def wakeDeep (d : Dev) : Dev := if d.pwr.dev == .deep && d.evc.trigger.isSome then d.wake else d

def execWakeDeep (s : State) : Host.Outcome State Fault Refusal := run wakeDeep s

/-- The host interface takes accesses: not while a reset holds it, in SHELF, or before its first power-up (R82, R538). -/
def Dev.busUp (d : Dev) : Bool :=
  match d.pwr.dev with
  | .run | .doze | .park | .deep => !d.start.waitHrst
  | .starting => d.start.entropy
  | .shelf => false

/-- A host access (R61, R63, R80): it wakes the device from PARK or DEEP and brings it out of DOZE; where the bus is not up it is
ignored. -/
def Dev.access (f : Dev → Dev) (d : Dev) : Dev :=
  if !d.busUp then d
  else
    let d := if d.pwr.dev == .park || d.pwr.dev == .deep then d.wake else d.undoze
    f { d with pwr := { d.pwr with busyAt := d.now } }

end Sys2Proof.Machine
end

