-- ==== Sys2Proof/Machine/Resets.lean ====
section
/-!
DEFINITION. Function resets (R89, R550, R551): the `FNRST` write, what each function's reset does to commands, outputs and stored
state, and the end of a reset.
-/

namespace Sys2Proof.Machine

/-! ### Conditions (R148, R163) -/

/-- The condition of a kind L source holds now, whether or not its beginning has been presented. -/
def Dev.condHolds (d : Dev) (n : Nat) : Bool :=
  match n with
  | 15 => d.pwr.vsupLow
  | 16 => d.pwr.vlfLow
  | 17 => d.pwr.vbatLow
  | 18 => d.pwr.vholdLow
  | 19 => d.bg.derate
  | 60 => d.bg.lfDerate
  | 63 => d.bg.vlfLimit
  | 137 => d.med.ready && d.med.state == .writeThrough
  | 141 => d.med.ready && d.lowSpare
  | 154 => d.jrnlFull
  | 155 => d.jrnl.hold
  | 157 => d.satMask != 0
  | _ => false

/-- The conditions of the sources `p` picks out are evaluated again: one event for each that holds, kind L, or where `inputs` an input
with TRIG = 3 at its active level (R163); after a warm reset no input presents an event (R582). -/
def Dev.conditionsBegin (inputs : Bool) (p : Nat → Bool) (d : Dev) : Dev :=
  ((List.range 160).filter p).foldl (fun d n =>
    match sourceKind n with
    | .level => if d.condHolds n then Dev.begins n (d.ends n) else d
    | .input => if inputs && d.sticks n then (d.acceptOn (sourcePort n) false).setPending n else d
    | .event => d) d

/-- Sources of a function: those of its port, and TEMP_DERATE for TELEMETRY (R147). -/
def fnSource (f n : Nat) : Bool :=
  match f with
  | 0 => sourcePort n == 5
  | 1 => sourcePort n == 7
  | 2 => sourcePort n == 6
  | 7 => n == 143
  | 8 => 136 ≤ n && n ≤ 142
  | 9 => sourcePort n == 12
  | 10 => sourcePort n == 4
  | 11 => sourcePort n == 3
  | 12 => sourcePort n == 8
  | 13 => n == 19
  | _ => false

/-! ### `SYSSTAT` cause bits (R536) -/

/-- The cause bits of `SYSSTAT`, in their places. -/
def HostIf.causes (h : HostIf) : Nat := 256 * bitsNat [h.cold, h.wdt, h.hrst, h.swrst, h.supply]

/-- A RESET record (R138). -/
def resetDraft (subject old new : Nat) : Draft := draft 0x40 0xFF subject old new 0

/-! ### The effects of a reset (R551) -/

/-- What a function's reset does at its write (R213, R230, R256, R316, R352, R362, R432, R469, R524). -/
def Dev.fnStart (f : Nat) (d : Dev) : Dev :=
  match f with
  | 0 =>
    let d := (List.range 8).foldl (fun d n => d.clearFaults n) { d with lf := { d.lf with emission := none, standbyDue := 0 } }
    Dev.setEst 0 (d.stagePeriod d.lf.stage) d
  | 1 => { d with uhf := { d.uhf with windows := [], unlocked := [false, false] } }
  | 2 => { d with uwb := { d.uwb with unlocked := false, anchorSend := [], anchorPoll := [] } }
  | 3 => { d with anvil := { d.anvil with contexts := List.replicate 8 none } }
  | 4 =>
    let d := d.clearVolatile
    { d with cru := { d.cru with stage := [], staging := false }, anvil := { d.anvil with ready := false } }
  | 5 =>
    let d := (d.zeroiseSeq 0).onSeq 0 (fun s => { s with halted := false })
    Dev.tmrFreeze { d with evc := { d.evc with pendA := List.replicate 160 none } }
  | 6 =>
    let d := (d.zeroiseSeq 1).onSeq 1 (fun s => { s with halted := false })
    Dev.tmrFreeze { d with evc := { d.evc with pendB := List.replicate 160 none } }
  | 7 => { d with atlas := { d.atlas with load := d.atlas.load.suspend, cache := [] } }
  | 8 => (d.setLoad d.atlas.load.suspend).durable
  | 9 => d.nvReset
  | 10 =>
    let d := d.kwStop
    { d with kw := { d.kw with
        ring := [], nodes := d.kw.nodes.map (fun (c : Nat × Node) => (c.1, { c.2 with silent := false, misses := 0 })) } }
  | 11 => { d with rel := { d.rel with decisions := List.replicate 16 none, policyStage := [], diag := 0 } }
  | _ => d

/-- What the end of a function's reset does, where a domain of it is on (R183, R291, R352, R378, R469, R472). -/
def Dev.fnEnd (f : Nat) (d : Dev) : Dev :=
  match f with
  | 4 => if d.domOn 10 then d.crucibleStart true else d
  | 7 => d.reloadDue
  | 9 => if d.nv.busy then nvPageWriteEnd d else d
  | 10 => d.kwStart
  | 12 => if d.domOn 21 then d.tmrReset else d
  | _ => d

/-- A reset of the function takes its time: its logic is powered (R550). RELEASE's lies in PD20. -/
def Dev.fnPowered (d : Dev) (f : Nat) : Bool := f == 11 || (fnDomains f).any d.domOn

/-- The lock and the ends that a reset of RELEASE or KWEWIN brings in the event of its write (R89, R316, R469). -/
def Dev.fnQuell (rel kw : Bool) (d : Dev) : Dev :=
  if rel then d.quell oHost 4 3 (if kw then 3 else 5) (if kw then 3 else 1)
  else if kw then d.endGrants oHost 0xFFFF 0xFF 3 (d.grantsWhere (fun _ => true))
  else d

/-- An accepted `FNRST` write in the present event (R89, R550): the RESET record, then what it brings about. Bits of functions whose
reset runs are absorbed. A function whose domains are all off has its reset end at once (R550), with the conditions of its sources
evaluated again (R163). -/
def Dev.resetFns (mask : Nat) (d : Dev) : Dev :=
  let fs := (bitsOf 14 mask).filter (fun f => !bit f d.host.fnBusy)
  let c := d.host.causes
  let d := (d.note oHost (resetDraft mask c c)).fnQuell (fs.contains 11) (fs.contains 10)
  let d := d.killCmds .abortedFnrst 10 (fun c => c.uses.any fs.contains)
  let d := fs.foldl (fun d f => d.fnStart f) d
  let d := { d with host := { d.host with
    poison := d.host.poison &&& (0xFFFF ^^^ fs.foldl (fun a f => a + 2 ^ f) 0),
    fnBusy := d.host.fnBusy ||| (fs.filter d.fnPowered).foldl (fun a f => a + 2 ^ f) 0 } }
  (fs.filter (fun f => !d.fnPowered f)).foldl (fun d f => (d.fnEnd f).conditionsBegin true (fnSource f)) d

/-- A register write that is a host error: ignored, its record has cause 4, and the host interface is unpredictable from then on
(R104, R583). -/
def Dev.badWrite (offset old w : Nat) (d : Dev) : Dev :=
  let d := d.noteRefused oHost (draft 0x04 0xFF offset old w 4)
  { d with host := { d.host with poison := d.host.poison ||| 2 ^ 14 } }

/-- FNRST (R89). -/
def fnrst (mask : Nat) : Dev → Dev := Dev.access fun d =>
  if 0x4000 ≤ mask then d.present.badWrite 0x0C 0 mask else d.present.resetFns mask

def execFnrst (mask : Nat) (s : State) : Host.Outcome State Fault Refusal := run (fnrst mask) s

/-- FUNCTION_RESET_END (R89, R163): the commands that waited for the reset may start. -/
def functionResetEnd (n : Nat) (d : Dev) : Dev :=
  if 14 ≤ n || !bit n d.host.fnBusy then d
  else
    let d := d.undoze
    let d := Dev.fnEnd n { d with host := { d.host with fnBusy := d.host.fnBusy - 2 ^ n } }
    d.conditionsBegin true (fnSource n)

def execFunctionResetEnd (n : Nat) (s : State) : Host.Outcome State Fault Refusal := run (functionResetEnd n) s

end Sys2Proof.Machine
end

