-- ==== Sys2Proof/Machine/Startup.lean ====
section
/-!
DEFINITION. Start-up and warm reset (chapter 22): the settings image (R136), the chain walk and the BOOT record (R143, R541), the
phases of a start (R540, R545–R547), the warm reset (R537, R539, R553, R581), cold power-up, the hold-up flush (R516, R519, R559),
hard losses (R73) and the supply monitors (R558).
-/

namespace Sys2Proof.Machine

/-- The device has started, or is on its way: not in SHELF and not before its first power-up. -/
def Dev.alive (d : Dev) : Bool :=
  match d.pwr.dev with
  | .shelf => false
  | .starting => d.start.entropy || d.start.waitHrst
  | _ => true

/-! ### The settings image (R136) -/

/-- The SETIMG partition, and the words of the image where a copy of it is valid. -/
def Dev.imageRecord (d : Dev) : Option (Partition × Option (List Word)) :=
  (d.partitions.find? Partition.setimg).map (fun p =>
    (p, (d.chooseCopy p.addr (p.addr + p.size) p.size (fun _ => true)).map
      (fun c => bytesToWords (d.nvBytes c.1 (p.size - 8)))))

/-- One entry, an event on the host port (R136, R577). -/
def Dev.imageEntry (index unit value : Nat) (d : Dev) : Dev :=
  let a := unit % 256 * 65536 + index
  if 256 ≤ unit then d.accept.noteRefused oBoot (draft 0x02 (unit % 256) a (d.readSetting a).toNat value 4)
  else (d.accept.writeSetting oBoot false a value).2

/-- The write of the lock mask, an event on the host port (R135, R136, R577). -/
def Dev.imageLock (mask : Nat) (d : Dev) : Dev :=
  let d := d.accept
  let old := d.setting 0
  let cause := if 2 ^ 17 ≤ mask then 4 else if d.jrnl.hold then 5 else 0
  if cause != 0 then d.noteRefused oBoot (draft 0x02 0 0 old mask cause)
  else (d.note oBoot (draft 0x01 0 0 old (old ||| mask) 0)).putSetting 0 (old ||| mask)

/-- An image is whole: its count lies in its range and its partition holds it. -/
def imageWhole (ws : List Word) : Bool :=
  let n := (ws.getD 0 0).toNat
  n ≤ 1000 && 3 + 3 * n ≤ ws.length

/-- The settings image applied at a cold power-up (R136); journal hold is entered behind the entry that fills the buffer (R144). -/
def Dev.applyImage (d : Dev) : Dev :=
  match d.imageRecord with
  | none => d
  | some (p, ws) =>
    match ws.filter imageWhole with
    | none => d.accept.note oBoot (draft 0x61 0x0A p.base 0 0 0x10)
    | some ws =>
      let w (i : Nat) : Nat := (ws.getD i 0).toNat
      let n := w 0
      let d : Dev := (List.range n).foldl (fun d i => d.settle (d.imageEntry (w (1 + 3 * i)) (w (2 + 3 * i)) (w (3 + 3 * i)))) d
      d.imageLock (w (1 + 3 * n) + 65536 * w (2 + 3 * n))

/-! ### The chain walk and the BOOT record (R143, R541) -/

/-- The predecessor tag of a record behind one with tag `prev`: a genesis record begins a chain (R141). -/
def chainedFrom (r : Record) (prev : Bytes) : Bytes := if r.cls = 0x7F && r.auxCause = genesisCause then zeroTag else prev

/-- The predecessor tag of a record of V2, behind one with tag `prev`; a BOOT record's is that of the record its subject names, which may
be the stored head's (R143). -/
def linkTag (v : List Record) (head : Option (Nat × Bytes)) (prev : Bytes) (r : Record) : Bytes :=
  if r.cls != 0x42 then chainedFrom r prev
  else if r.orphan then zeroTag
  else match head.filter (fun h => h.1 == r.named) with
    | some h => h.2
    | none => ((v.find? (fun x => x.number == r.named)).map Record.tag).getD zeroTag

/-- The chain followed in V2 from the stored head: the last record that verifies, and whether one failed. Records that a BOOT record has
left outside the chain are passed over (R143). -/
def Dev.walk (d : Dev) (v : List Record) (head : Option (Nat × Bytes)) :
    Option (Nat × Bytes) → Bytes → List Record → Option (Nat × Bytes) × Bool
  | last, _, [] => (last, false)
  | last, prev, r :: rs =>
    if outsideChain v r.number then d.walk v head last prev rs
    else if d.chainTag r (linkTag v head prev r) = r.tag then d.walk v head (some (r.number, r.tag)) r.tag rs
    else (last, true)

/-- Buffered records numbered from `n` and chained behind `prev`. -/
def Dev.rechain (d : Dev) : Nat → Bytes → List Record → List Record
  | _, _, [] => []
  | n, prev, r :: rs =>
    let r := { r with number := n, subject := if r.cls = 0x7F then n % 2 ^ 32 else r.subject }
    let r := { r with tag := d.chainTag r (chainedFrom r prev) }
    r :: d.rechain (n + 1) r.tag rs

/-- The BOOT record completed with what the walk found. -/
def bootDone (good : Option (Nat × Bytes)) (flags count : Nat) (rootLost : Bool) (r : Record) : Record :=
  if r.cls = 0x42 then
    { r with
      subject := (good.map (fun g => g.1 % 2 ^ 32)).getD 0xFFFFFFFF, old := flags,
      auxDetail := 4 * min count (2 ^ 30 - 1) + 2 * b2n rootLost }
  else r

/-- The walk of phase 4 and the completion of the BOOT record; the records behind it are numbered and chained after it (R143,
R541). -/
def Dev.bootComplete (d : Dev) : Dev :=
  let ok := d.mediumOk
  let v := if ok then d.jrnl.v2 else []
  let newest := v.getLast?.map (fun r => (r.number, r.tag))
  let head := d.jrnl.head.map (fun h => (h.1, h.2.2.2.1))
  let past := v.filter (fun r => head.all (fun h => h.1 < r.number))
  let short := head.any (fun h => newest.all (fun n => n.1 < h.1))
  let from_ := if short && newest.isSome then newest else head
  let prev := match from_ with
    | some x => x.2
    | none => match v.head?, d.jrnl.anchor with
      | some r, some a => if r.number = 0 then zeroTag else a.2
      | _, _ => zeroTag
  let w := d.walk v head from_ prev past
  let flags := b2n d.start.unflushed + 2 * b2n (short || !ok) + 4 * b2n w.2
  let first := max ((newest.map (fun n => n.1 + 1)).getD 0) ((head.map (fun h => h.1 + 1)).getD 0)
  let buf := d.jrnl.buf.map (bootDone w.1 flags past.length d.start.rootLost)
  let buf := d.rechain first ((w.1.map Prod.snd).getD zeroTag) buf
  { d with
    jrnl := { d.jrnl with buf := buf, nextNumber := first + buf.length, lastTag := (buf.getLast?.map Record.tag).getD zeroTag },
    med := { d.med with unflushed := d.med.unflushed + b2n d.start.unflushed },
    start := { d.start with cold := false, boot := none } }

/-! ### The phases (R540) -/

/-- `SYSSTAT.PHASE`. -/
def Dev.phase (n : Nat) (d : Dev) : Dev := { d with host := { d.host with phase := n } }

/-- Phase 7: READY, and STATE_CHANGE; its POWER record where the state is another than before (R61, R540, R578). DESIGN CHOICE (log 115):
the pending words having been cleared, each kind L condition that holds is presented as one that begins. -/
def Dev.phase7 (cold : Bool) (d : Dev) : Dev :=
  let left := d.start.left
  let d := Dev.phase 7 { d with
    pwr := { d.pwr with dev := .run, runFrom := d.now, busyAt := d.now }, host := { d.host with ready := true },
    med := { d.med with
      testIn := none,
      offWin := if cold then some (d.opened 7488000000) else none,
      units := d.med.units.map (fun (u : UnitMap) => if u.fine then { u with lastWrite := d.now } else u) },
    nv := { d.nv with scrubFrom := d.now } }
  let d := d.event 10
  let d := if left = 5 then d else d.note oPower (draft 0x41 0x01 0xFF left 5 0)
  d.conditionsBegin false (fun _ => true)

/-- Phase 6 (R59, R183, R442): the domains of `PWR.ON_AT_READY`, with those that the earlier phases powered, and the timers. -/
def Dev.phase6 (cold : Bool) (d : Dev) : Dev := ((d.phase 6).powerAtReady [10, 15, 16]).tmrReset.phase7 cold

/-- The active image's header and signature verify (R283, R545). -/
def Dev.activeSound (d : Dev) (m : Bytes) : Bool :=
  let e : Dev := { d with atlas := { d.atlas with active := none, load := { AtlasLoad.idle with image := imgId m } } }
  e.headerOk m && e.imageSigned m

/-- The committed image at phase 5 (R545): one that fails counts as not committed, with ATLAS_EVENT and an ATLAS record; without a
usable medium it cannot be read, which the reload finds (R280). -/
def Dev.verifyAtlas (d : Dev) : Dev :=
  match d.atlas.active with
  | none => d
  | some (vol, m) =>
    if !d.mediumOk || d.activeSound m then d.reloadDue
    else
      let d := Dev.event 143 { d with atlas := { d.atlas with active := none, loaded := false, cache := [] }, nv := { d.nv with atlSel := none } }
      d.note oPower (draft 0x72 0x08 (imgId m) vol 0xFF 0)

/-- Phase 5 (R254, R305, R306, R424, R545). -/
def Dev.phase5 (cold : Bool) (d : Dev) : Dev :=
  let d := d.phase 5
  let d := { d with rel := { d.rel with policy := none }, uwb := { d.uwb with cal := d.nv.uwbCal } }
  let d := (d.compareTwin 11968 14144 2176).compareTwin 5056 5120 64
  let d : Dev := if d.nvReadable 11968 2176 || d.nvReadable 14144 2176 then d else { d with nv := { d.nv with policy := none } }
  let d := { d with rel := { d.rel with policy := (d.nv.policy.filter d.policyOk).map policyOf } }
  ((d.verifyAtlas.restoreDue 0).restoreDue 1).phase6 cold

/-- Phase 4: the media manager, and the chain walk where the cold work was not done (R520, R541, R547, R581). -/
def Dev.phase4 (d : Dev) : Dev :=
  let cold := d.start.cold
  let d := ((d.phase 4).setDom 15 .on).mediaWake
  (if cold then d.bootComplete else d).phase5 (cold && d.host.cold)

/-- LEARNST resolved (R402): an erasure cut short is completed; a cold power-up closes the admission. -/
def Dev.resolveAdmission (cold : Bool) (d : Dev) : Dev :=
  let d := if d.tok.adm.state = 1 then
      let d : Dev := ((List.range 32).filter (fun s => (d.slotRec s).state != 0)).foldl
        (fun d s => d.putToken none s { TokenSlot.empty with gen := (d.slotRec s).gen }) d
      d.saveAdm none { d.tok.adm with state := 2 }
    else d
  if cold && d.tok.adm.state = 2 then d.accept.closeAdm oPower 0xFFFF 0xFF 3 else d

/-- Every key record verified: each bad slot is reported (R331). -/
def Dev.verifySlots (d : Dev) : Dev :=
  ((List.range 48).filter d.keyBad).foldl (fun d n => d.slotBadEvent (some n)) d

/-- PTABLE read in phase 1 (R478, R487): with neither copy valid no host partition exists, and a record of class NV is journalled. -/
def Dev.readTable (d : Dev) : Dev :=
  if d.nvReadable 0 64 || d.nvReadable 64 64 then d.compareTwin 0 64 64
  else ({ d with nv := { d.nv with table := none } } : Dev).accept.note oBoot (draft 0x61 0x0A 0 0 0 0x10)

/-- No copy of KEYHDR can be read (R477, R546). -/
def Dev.keyhdrLost (d : Dev) : Bool :=
  !d.nvReadable 128 64 && !d.nvReadable 192 64

/-- The finding on the root (R320, R350, R546), with ROOT_LOST of the BOOT record. -/
def Dev.findRoot (d : Dev) : Dev :=
  let had := d.cru.keyhdr.isSome
  let d := d.compareTwin 128 192 64
  let d := if d.keyhdrLost then { d with cru := { d.cru with keyhdr := none, provisioned := false } } else d.rootCheck
  { d with start := { d.start with rootLost := had && !d.cru.provisioned } }

/-- Phase 3 (R319, R320, R331, R340, R402, R546). -/
def Dev.phase3 (d : Dev) : Dev :=
  let d := { d.phase 3 with start := { (d.phase 3).start with entropy := false } }
  let r := d.draw 32
  let d := { r.2 with cru := { r.2.cru with scramble10 := r.1 } }
  let d := d.recoverUpdate.findRoot
  let d := if d.cru.tampered then (if d.cru.tamperDue then d.accept.tamperEffects true else d)
    else if d.cru.provisioned then (d.verifySlots.expireSlots).resolveAdmission d.host.cold
    else d
  d.phase4

/-- Phase 2 (R372, R540, R544): the start waits here until the DRBG is ready. -/
def Dev.phase2 (d : Dev) : Dev :=
  let d := ((d.phase 2).setDom 10 .on).drbgStart
  if d.anvil.ready then d.phase3 else { d with start := { d.start with entropy := true } }

/-- DRBG_READY (R372, R375, R544): a start that waits in phase 2 goes on. -/
def drbgReadyRow (d : Dev) : Dev :=
  if d.anvil.ready then d
  else
    let e := drbgReady d
    if e.anvil.ready && e.start.entropy then e.phase3 else e

def execDrbgReady (s : State) : Host.Outcome State Fault Refusal := run drbgReadyRow s

/-! ### Warm reset (R537, R539) -/

/-- The host interface after a warm reset of a cause: 0 HRST, 1 SWRST, 2 WDT, 3 SUPPLY (R86, R536). -/
def hostAfter (cause : Nat) : HostIf :=
  { HostIf.reset with cold := false, hrst := cause == 0, swrst := cause == 1, wdt := cause == 2, supply := decide (3 ≤ cause) }

/-- Step 1 of R537 in the present event: the RESET record, the lock, and the ends of sessions and grants. -/
def Dev.resetRecords (cause : Nat) (d : Dev) : Dev :=
  let origin := if cause ≤ 1 then oHost else oPower
  (d.note origin (resetDraft 0xFFFF d.host.causes (hostAfter cause).causes)).quell origin 4 3 3 3

/-- Step 2 of R537: the page write in progress, the media write buffer and its checkpoint, the journal and its head. Cold work that
has not ended leaves the journal in its buffer (R581). -/
def Dev.resetDrain (d : Dev) : Dev :=
  let d := d.nvDrop (fun _ => true)
  let d := Dev.nvFinish d.nv.queue.length d
  let d := if d.start.cold then d else d.flushBuffer.flushBuffer.writeHead false
  (Dev.nvFinish d.nv.queue.length d).mediaPark

/-- What a warm reset clears (R539, R163, R206, R293, R352, R362). The UHF and UWB units' settings words that report go on (R229, R255,
R539). DESIGN CHOICE (log 31): a low word of a settings pair that waits for its high word is dropped. -/
def Dev.warmClear (cause : Nat) (d : Dev) : Dev :=
  let d := d.clearVolatile
  let quiet (c : Nat × Node) : Nat × Node := (c.1, { c.2 with silent := false, misses := 0, grant := none, ending := none })
  let stop (q : Seqr) : Seqr := { Seqr.reset with image := q.image }
  { d with
    host := hostAfter cause, cmds := [], store := [], waiting := [], setLow := [],
    clock := { d.clock with snapTb := 0, snapRes := 0, snapValid := false },
    pwr := { d.pwr with holds := [], deferrals := [], req := 0, rej := false, ign := false, brk := false, loss := false, sleep := none },
    evc := { d.evc with
      pendH := List.replicate 160 none, pendA := List.replicate 160 none, pendB := List.replicate 160 none, actA := [], actB := [],
      lastEsn := List.replicate 160 0, cond := List.replicate 160 false, wcount := List.replicate 32 0,
      latched := List.replicate 32 none, statOk := true, statLocked := false, statHold := false, held := [], trigger := none },
    lf := { Lf.reset with aerials := d.lf.aerials },
    uhf := { d.uhf with windows := [], unlocked := [false, false], faulted := [false, false], jammed := [false, false] },
    uwb := { Uwb.reset with x := d.nextX, lastTof := d.uwb.lastTof, lastCause := d.uwb.lastCause, tuneTemp := d.uwb.tuneTemp },
    atlas := { d.atlas with load := d.atlas.load.suspend, loaded := false, reloadFailed := false, cache := [] },
    rel := { d.rel with
      evidence := List.replicate 64 none, decisions := List.replicate 16 none, nextDecision := 0, policy := none, policyStage := [],
      fault := false, diag := 0, last := 0 },
    cru := { d.cru with stage := [], staging := false, scramble10 := [], rollFwd := false, rollBack := false, slotBadFlag := false },
    anvil := { Anvil.reset with reserve := d.anvil.reserve },
    ham := { d.ham with a := stop d.ham.a, b := stop d.ham.b, banks := [], stage := [] },
    kw := { d.kw with
      faultA := false, faultB := false, seenA := false, seenB := false, seenSilent := false, ring := [], replies := [], rejects := 0,
      testing := [false, false], sent := [], nodes := d.kw.nodes.map quiet },
    nv := { d.nv with staging := none, corr := false, uncorr := false, scrubRan := d.scrubCount, scrubFrom := d.now },
    med := { d.med with uncorr := false, offWin := none },
    bg := { d.bg with override := false, due := [], lfDerate := false, warnArmed := List.replicate 4 true } }

/-- Phase 1 of a warm start, and on (R547, R581): the cold work of phase 1 was done at the cold power-up itself. -/
def Dev.warmPhases (d : Dev) : Dev := ((((d.phase 1).setDom 16 .on).nvKick).readTable).phase2

/-- Step 4 of R537 is over: the inputs are sampled anew (R582), the fixed domains are on, and the start follows. -/
def Dev.restarted (d : Dev) : Dev :=
  let d := { d with start := { d.start with waitHrst := false, due := none } }
  Dev.warmPhases ([17, 20].foldl (fun d n => d.setDom n .on) (d.resample (fun _ => true)))

/-- Steps 4 and 5 of R537: the re-anchor, the closes it finds reached (R576), and the start. -/
def Dev.restart (d : Dev) : Dev := (d.anchored.presentAll (sortKeys (d.wokenCloses d.anchored))).restarted

/-- A warm reset with its trigger in standby (R553): its event on the power port has its place among all that is presented at the
re-anchor (R52, R160, R576), and its records follow it. -/
def Dev.restartStandby (cause : Nat) (d : Dev) : Dev :=
  let e := d.anchored
  let ws := d.wokenList { e with pwr := { e.pwr with dev := d.pwr.dev } }
  let ahead (x : List Nat × Woken) : Bool := keyLt x.1 [e.clock.tb, 2, 2 ^ 32]
  let e := ((e.presentAll (ws.filter ahead)).acceptAt e.clock.tb).resetRecords cause
  let e := (e.presentAll (ws.filter (fun x => !ahead x))).unlatch
  ((e.endDebug.warmClear cause).allDown true).restarted

/-- Step 4 waits for HRST_N to rise after a fall of HRST_N. -/
def Dev.afterStop (cause : Nat) (d : Dev) : Dev :=
  if cause = 0 then { d with start := { d.start with waitHrst := true } }
  else match d.start.due with
    | some c => d.restartStandby c
    | none => d.restart

/-- Steps 1–3 of R537 in the accepted event of the trigger. -/
def Dev.resetNow (cause : Nat) (d : Dev) : Dev :=
  let left := if d.pwr.dev == .starting then d.start.left else 5
  let lost := d.dom 16 == .lost
  let d := d.resetRecords cause
  let d := Dev.resetDrain { d.endDebug with cmds := [], store := [] }
  let d := (d.warmClear cause).allDown true
  let d := if lost then d.nvStart else d
  Dev.afterStop cause { d with
    clock := d.clock.enter, pwr := { d.pwr with dev := .starting, runTicks := d.runTime }, start := { d.start with left := left, entropy := false } }

/-- The balls' levels as the reset leaves them. -/
def Dev.takeBalls (balls : List Bool) (d : Dev) : Dev :=
  { d with evc := { d.evc with ball := (List.range 160).map (fun n => balls.getD n (d.evc.ball.getD n false)) } }

/-- A warm-reset trigger with an event already accepted where ROOT runs; one that arrives while a reset waits is absorbed (R536). -/
def Dev.triggered (cause : Nat) (d : Dev) : Dev :=
  if d.clock.rootOn then d.resetNow cause
  else
    let left := devCode d.pwr.dev
    Dev.afterStop cause { d with
      pwr := { d.pwr with dev := .starting, prev := left }, start := { d.start with left := left, due := some cause } }

/-- WARM_RESET (R536, R537, R553). -/
def warmReset (cause : Nat) (balls : List Bool) (d : Dev) : Dev :=
  if !d.alive || d.start.waitHrst then d
  else
    let d := d.takeBalls balls
    (if d.clock.rootOn then (if cause = 2 then d.signal 9 else d.present) else d).triggered cause

def execWarmReset (cause : Nat) (balls : List Bool) (s : State) : Host.Outcome State Fault Refusal := run (warmReset cause balls) s

/-- HRST_N_RISE (R537). -/
def hrstNRise (d : Dev) : Dev :=
  if !d.start.waitHrst then d
  else match d.start.due with
    | some c => d.restartStandby c
    | none => d.restart

def execHrstNRise (s : State) : Host.Outcome State Fault Refusal := run hrstNRise s

/-! ### The hold-up flush (R516, R517, R519, R559) -/

/-- The flush runs to its end: the journal, the write buffer, the map and the chain head with FLUSHED set, and SHELF. Its page write does
not start while VSUP_LOW holds on VHOLD (R472, R517): the flush then waits for the write, or for the collapse of VHOLD (R519). -/
def Dev.flushEnd (d : Dev) : Dev :=
  if d.med.state != .flushing then d
  else
    let written := d.jrnl.buf.isEmpty && d.jrnl.head.any (fun h => h.2.2.2.2)
    let d := if d.med.ready && !d.start.cold && !written then
        ((d.setDom 15 .on).setDom 16 .on).flushBuffer.flushBuffer.durable.checkpoint.writeHead true
      else d
    let d := Dev.nvFinish d.nv.queue.length d
    if d.nv.queue.isEmpty then Dev.shelve d.jrnl.buf.isEmpty { d with med := { d.med with flush := false } } else d

/-- A supply monitor's condition at a reading in mV: it begins below `fall` and ends at `rise` (R558). -/
def lowAt (was : Bool) (fall rise mv : Nat) : Bool := decide (mv < (if was then rise else fall))

/-- VSUP_LOW (source 15) judged on the supply that feeds the device: below `MED.HU_VMIN`, to 300 mV above it (R517, R558); page writes that
waited for its end begin (R472). -/
def Dev.judgeFeed (mv : Nat) (d : Dev) : Dev :=
  let vm := d.setting 0x0B0020
  let low := lowAt d.pwr.vsupLow vm (vm + 300) mv
  let d := if low then d.starts 15 else d.ends 15
  Dev.nvKick { d with pwr := { d.pwr with vsupLow := low } }

/-- What waited for a re-anchor is presented (R52, R160); where ROOT runs there is none. -/
def Dev.surfaced (d : Dev) : Dev := if d.clock.rootOn then d else (d.anchored.presentAll (d.wokenList d.anchored)).unlatch

/-- HOLDUP_TRIP (R516, R517, R559): the change to SHELF with its POWER record, the lock with cause POWER, and the flush on VHOLD, whose
voltage the row gives; commands end without entries. DESIGN CHOICE (log 116): in a standby ROOT is re-anchored first, since the change and
the records are events. -/
def holdupTrip (vhold : Nat) (d : Dev) : Dev :=
  if !d.alive || d.med.state == .flushing then d
  else
    let d := (d.surfaced.undoze.stateChange .shelf).lockRelay oPower 0xFFFF 0xFF 5 5
    let d := { d with cmds := [], start := { d.start with entropy := false, waitHrst := false, due := none } }
    match d.med.state with
    | .writeBack | .writeThrough | .parked => Dev.judgeFeed vhold { d with med := { d.med with state := .flushing, flush := true } }
    | _ => d.shelve false

def execHoldupTrip (s : State) (vhold : Nat := 0) : Host.Outcome State Fault Refusal := run (holdupTrip vhold) s

/-- VHOLD_COLLAPSE (R519): DOWN, unflushed. -/
def vholdCollapse (d : Dev) : Dev :=
  if d.med.state == .flushing then Dev.shelve false { d with med := { d.med with flush := false } } else d

def execVholdCollapse (s : State) : Host.Outcome State Fault Refusal := run vholdCollapse s

/-! ### Cold power-up (R536, R539, R540) -/

/-- A node record as EEPROM keeps it. -/
def Node.stored (n : Node) : Node :=
  { Node.empty with state := n.state, type := n.type, trunk := n.trunk, dn := n.dn, seq := n.seq, kn := n.kn, fid := n.fid }

/-- What outlasts the supply: PD00, EEPROM, the NAND and the fuses; everything else as at power-on reset (R539). -/
def Dev.coldState (d : Dev) (refsel lfsrc : Bool) : Dev :=
  let r := Dev.reset
  let c := d.cru
  { r with
    ident := { d.ident with refsel := refsel, lfsrc := lfsrc },
    jrnl := { r.jrnl with v2 := d.jrnl.v2, anchor := d.jrnl.anchor, head := d.jrnl.head, headSeq := d.jrnl.headSeq },
    atlas := { r.atlas with active := d.atlas.active, load := d.atlas.load.suspend, former := d.atlas.former },
    cru := { r.cru with
      shareA := c.shareA, shareB := c.shareB, scramble := c.scramble, keyhdr := c.keyhdr,
      slots := c.slots.take 48 ++ List.replicate 16 KeySlot.empty, tokens := c.tokens,
      uses := c.uses.take 48 ++ List.replicate 16 0, updCnt := c.updCnt, commit := c.commit, prepared := c.prepared, uid := c.uid,
      pak := c.pak, tampstat := c.tampstat, tampered := c.tampered, tamperDue := c.tamperDue, tinCfg := c.tinCfg, trips := c.trips,
      dieTemp := c.dieTemp },
    anvil := { r.anvil with reserve := d.anvil.reserve },
    tok := { d.tok with session := none },
    ham := { r.ham with seqK03 := d.ham.seqK03, seqDas := d.ham.seqDas, storedA := d.ham.storedA, storedB := d.ham.storedB },
    kw := { r.kw with nodes := d.kw.nodes.map (fun x => (x.1, x.2.stored)), epoch := d.kw.epoch },
    nv := { r.nv with
      cells := d.nv.cells, bad := d.nv.bad, table := d.nv.table, bootEpoch := d.nv.bootEpoch, seqs := d.nv.seqs, stale := d.nv.stale,
      torn := d.nv.torn, uwbCal := d.nv.uwbCal, atlSel := d.nv.atlSel, policy := d.nv.policy },
    med := { d.med with buf := [], state := .down, ready := false, flush := false, uncorr := false, slc := 0, telAt := 0, testIn := none },
    free := d.free }

/-- Phase 1 of a cold power-up (R47, R136, R485, R541): the BOOT event takes ESN 0, the NV start runs, BOOT_EPOCH is incremented, the
BOOT record is opened, and the settings image is applied. -/
def Dev.coldPhase1 (d : Dev) : Dev :=
  let unflushed := d.jrnl.head.any (fun h => !h.2.2.2.2)
  let d := Dev.accept ((d.phase 1).setDom 16 .on)
  let d := { d with
    nv := { d.nv with bootEpoch := d.nv.bootEpoch + 1 },
    start := { d.start with boot := some d.now, unflushed := unflushed } }
  let d := d.nvStart.nvQueue (devWrites none [4])
  (d.append (d.recordOf oBoot 0xFFFF 0xFF (draft 0x42 0xFF 0 0 0 0))).readTable.applyImage

/-- COLD_POWER_UP (R536, R540): a flush in progress ends first (R516), and an EEPROM page write in progress is cut off. -/
def coldPowerUp (refsel lfsrc : Bool) (balls : List Bool) (dies : List DieFound) (healthy : Bool) (d : Dev) : Dev :=
  let d := (d.flushEnd.nvCut.nvDrop (fun _ => true)).coldState refsel lfsrc
  let d := { d with host := { d.host with degraded := !healthy } }
  let d := (d.takeBalls balls).resample (fun _ => true)
  (d.coldPhase1.findDies dies).phase2

def execColdPowerUp (refsel lfsrc : Bool) (balls : List Bool) (dies : List DieFound) (healthy : Bool) (s : State) :
    Host.Outcome State Fault Refusal := run (coldPowerUp refsel lfsrc balls dies healthy) s

/-! ### Hard losses (R73, R350) -/

/-- PD00 loses its supply: the shares and every PD00 record (R350). -/
def Dev.lostPd00 (d : Dev) : Dev :=
  { d with
    cru := { d.cru with shareA := [], shareB := [], scramble := [], commit := none, tampstat := 0, tampered := false, tamperDue := false },
    anvil := { d.anvil with reserve := none } }

/-- What goes with a lost domain beside its working state (R73, R469, R472, R502). -/
def Dev.lossEffects (n : Nat) (d : Dev) : Dev :=
  match n with
  | 15 => { d with med := { d.med with buf := [], state := .down, ready := false } }
  | 16 => d.nvCut
  | 18 => d.endGrants oPower 0xFFFF 0xFF 3 (d.grantsWhere (fun _ => true))
  | 19 => d.lockRelay oPower 0xFFFF 0xFF 5 5
  | _ => d

/-- HARD_LOSS (R73): of a Host domain that is on; of PD17 or PD20, which is a warm reset; of PD01, which takes the device down; of
PD00, where the main supply is absent too. -/
def hardLoss (n : Nat) (d : Dev) : Dev :=
  if n = 0 then (if d.alive then d else d.lostPd00)
  else if !d.alive || 24 ≤ n then d
  else if n = 1 then Dev.shelve false { d with med := { d.med with flush := false } }
  else if d.start.waitHrst then d
  else if domFixed n then
    if !d.clock.rootOn then d
    else
      let d := d.signal 13
      Dev.triggered 3 (Dev.note oPower (powerDraft n 6 7 5) { d with pwr := { d.pwr with loss := true } })
  else if !d.domOn n then d
  else
    let old := d.dstate n
    let d := d.signal 13
    let d := ((d.dropDeferral n).note oPower (powerDraft n old 7 5)).lossEffects n
    Dev.supplyGone n .lost (d.cmdIn n) { d with pwr := { d.pwr with loss := true } }

def execHardLoss (dom : Nat) (s : State) : Host.Outcome State Fault Refusal := run (hardLoss dom) s

/-! ### Supply monitors (R472, R519, R558) -/

/-- The condition of a supply monitor begins or ends. -/
def Dev.monitor (n : Nat) (low : Bool) (d : Dev) : Dev := if low then d.starts n else d.ends n

/-- VSUP_LOW (source 15) at a reading of the feed, during the flush that of VHOLD (R517). -/
def vsupLow (feed : Nat) (d : Dev) : Dev := if d.alive || d.med.state == .flushing then d.judgeFeed feed else d

def execVsupLow (s : State) (feed : Nat := 0) : Host.Outcome State Fault Refusal := run (vsupLow feed) s

/-- VSUP_LOW_CLEAR (R472): a reading at which VSUP_LOW ends; one that is too low for that leaves it standing. -/
def vsupLowClear (feed : Nat) (d : Dev) : Dev := if d.pwr.vsupLow then vsupLow feed d else d

def execVsupLowClear (s : State) (feed : Nat := 0) : Host.Outcome State Fault Refusal := run (vsupLowClear feed) s

/-- VLF_LOW (source 16): 5.00 V falling, 5.30 V rising. -/
def vlfLow (mv : Nat) (d : Dev) : Dev :=
  let low := lowAt d.pwr.vlfLow 5000 5300 mv
  if d.alive then Dev.monitor 16 low { d with pwr := { d.pwr with vlfLow := low } } else d

def execVlfLow (mv : Nat) (s : State) : Host.Outcome State Fault Refusal := run (vlfLow mv) s

/-- VBAT_KS_LOW (source 17): 2.30 V falling, 2.40 V rising. -/
def vbatKsLow (mv : Nat) (d : Dev) : Dev :=
  let low := lowAt d.pwr.vbatLow 2300 2400 mv
  if d.alive then Dev.monitor 17 low { d with pwr := { d.pwr with vbatLow := low } } else d

def execVbatKsLow (mv : Nat) (s : State) : Host.Outcome State Fault Refusal := run (vbatKsLow mv) s

/-- VHOLD_LOW (source 18): below `MED.HU_VMIN` + 3.0 V, to 300 mV above that; the media manager goes to write-through (R519). -/
def vholdLow (mv : Nat) (d : Dev) : Dev :=
  let v := d.setting 0x0B0020 + 3000
  let low := lowAt d.pwr.vholdLow v (v + 300) mv
  if d.alive then
    let d := Dev.monitor 18 low { d with pwr := { d.pwr with vholdLow := low } }
    if low then d.enterThrough else d
  else d

def execVholdLow (mv : Nat) (s : State) : Host.Outcome State Fault Refusal := run (vholdLow mv) s

end Sys2Proof.Machine
end

