-- ==== Sys2Proof/Machine/Host.lean ====
section
/-!
DEFINITION. The host's register accesses (chapter 4): the view of the register file, what each register's write does, the ports,
the windows, the watchdog, domain requests (R55–R57, R68–R72) and the register rows of the table.
-/

namespace Sys2Proof.Machine

/-! ### The register file as a read shows it (R84, R85) -/

/-- `PWRSTAT`. -/
def Dev.pwrstat (d : Dev) : Nat :=
  let n := d.pwr.req.toNat % 32
  n + 32 * d.dstate n + 256 * bitsNat [d.pwr.rej, d.pwr.ign, d.pwr.brk, !d.pwr.deferrals.isEmpty, d.pwr.loss] + 8192 * d.pwr.prev

/-- The deferral with the lowest ESN (R52, R58). -/
def Dev.oldestDeferral (d : Dev) : Option Deferral :=
  (leastBy (fun f : Deferral => age f.win.opens f.esn) 0 d.pwr.deferrals).bind (fun p => d.pwr.deferrals[p.1]?)

/-- `HOLDSTAT` (R58). -/
def Dev.holdstat (d : Dev) : Nat :=
  match d.oldestDeferral with
  | none => 0
  | some f =>
    let h := ((List.range 6).find? (fun h => d.pwr.holds.any (fun x => x.dom == f.dom && x.holder == h))).getD 0
    f.dom + 32 * h + 256 + 512 * min 127 ((d.now - f.win.opens) / 249600)

/-- `SYSSTAT`. -/
def Dev.sysstat (d : Dev) : Nat :=
  bitsNat [d.host.ready, d.cru.tampered, !d.cru.provisioned, d.host.degraded] + 16 * d.host.phase + d.host.causes

/-- `SQ_FREE` (R92). -/
def Dev.sqFree (d : Dev) : Nat := 512 - (d.cmds.length + d.store.length)

/-- The next word of the head entry (R93). -/
def Dev.cqWord (d : Dev) : Word :=
  match d.store with
  | [] => 0xFFFF
  | e :: _ => e.words.getD d.host.cqRead 0

/-- The word of the journal-head capture that SEL selects (R100). -/
def Dev.jrnlWord (d : Dev) : Word :=
  match d.host.jrnlSel with
  | 0 => word d.host.jrnlCapEsn
  | 1 => word (d.host.jrnlCapEsn / 65536)
  | 6 => word d.host.jrnlCapCount
  | 7 => 0
  | k => (bytesToWords d.host.jrnlCapTag).getD (k - 2) 0

/-- `ENTSTAT`; HOLDING while a command waits for the DRBG. -/
def Dev.entstat (d : Dev) : Nat :=
  let held (c : Cmd) : Bool := match c.phase with
    | .held => true
    | _ => false
  bitsNat [d.anvil.ready, d.anvil.cold, d.cmds.any held, d.anvil.reserve.isSome, d.anvil.hfail, d.anvil.etime]

/-- `KSSTAT`. -/
def Dev.ksstat (d : Dev) : Nat :=
  bitsNat [d.cru.provisioned, d.cru.tampered, d.updOpen, d.cru.rollFwd, d.cru.rollBack,
           d.cru.slotBadFlag, d.tok.adm.state == 2] + 256 * d.enrolLeft

/-- `NVSTAT`. -/
def Dev.nvstat (d : Dev) : Nat := bitsNat [d.nv.busy, d.nv.scrub.isSome, d.nv.corr, d.nv.uncorr] + 256 * d.nv.mismatch

/-- `BGSTAT`: an atom runs whole in its row, so ATOM, UNIT and PROTECT read 0 between rows. -/
def Dev.bgstat (d : Dev) : Nat :=
  64 * b2n (d.bg.due.any Due.owed) + 128 * b2n (d.bg.due.any (fun a => a.owed && a.deferred))

/-- `LOOPSTAT`. -/
def Dev.loopstat (d : Dev) : Nat := d.satMask + 8192 * b2n (d.bg.loops.any Loop.pinned) + 16384 * b2n d.bg.override

/-- What a read of a register returns, read side effects apart (R84, R85). -/
def Dev.readReg (d : Dev) (offset : Nat) : Word :=
  let h := d.host
  match offset with
  | 0x00 => 0x7256
  | 0x02 => word (d.ident.minor + 16 * d.ident.major + 256 * d.ident.romrev)
  | 0x04 => word (bitsNat [d.ident.grade0, d.ident.refsel, d.ident.lfsrc, d.ident.dbgFused])
  | 0x06 => let n := d.med.dies.length; word (n + 16 * d.med.nif + 64 * (if n = 0 then 0 else if n ≤ 4 then 1 else 2))
  | 0x08 => word (b2n h.irqEn)
  | 0x0A => word d.sysstat
  | 0x0E => word h.fnBusy
  | 0x10 => d.pwr.req
  | 0x12 => word d.pwrstat
  | 0x14 => word d.holdstat
  | 0x18 => word d.sqFree
  | 0x1A => word (4 * b2n h.refused + 8 * h.staged.length)
  | 0x1C => d.cqWord
  | 0x1E => word (d.store.length + 1024 * b2n (h.cqRead != 0))
  | 0x22 => word d.irqSum
  | 0x24 => h.irqMask
  | 0x26 => word (h.routeSel + 16 * h.routes.getD h.routeSel 0)
  | 0x28 => h.evcAddr
  | 0x2A => d.readEvc (h.evcAddr.toNat % 4096)
  | 0x2C => h.setAddrLo
  | 0x2E => h.setAddrHi
  | 0x30 => d.readSetting (h.setAddrHi.toNat % 256 * 65536 + h.setAddrLo.toNat)
  | 0x32 => word (bitsNat [h.setOk, h.setLocked, h.setRange, h.setProt])
  | 0x34 => word (2 * b2n d.clock.snapValid + 4 * d.clock.snapRes)
  | 0x36 => word d.clock.snapTb
  | 0x38 => word (d.clock.snapTb / 2 ^ 16)
  | 0x3A => word (d.clock.snapTb / 2 ^ 32)
  | 0x3C => word (d.clock.snapTb / 2 ^ 48)
  | 0x3E => tbstat d.clock.unc d.ident.lfsrc
  | 0x40 => word d.entstat
  | 0x42 => word d.ksstat
  | 0x44 => word d.cru.tampstat
  | 0x46 => d.relstat
  | 0x4A => word d.medstat
  | 0x4C => word d.nvstat
  | 0x4E => d.kwstat
  | 0x50 => d.jrnlWord
  | 0x52 => word d.bgstat
  | 0x54 => word d.loopstat
  | 0x56 => h.wdtCfg
  | 0x5A => word d.dbgctl
  | _ => 0

/-! ### Writes in general (R84, R85, R104, R583) -/

/-- Reserved bits of a register (chapters 2–4). -/
def regReserved (offset : Nat) : Nat :=
  match offset with
  | 0x04 => 0xFFF0
  | 0x06 => 0xFF00
  | 0x08 => 0x007E
  | 0x0A => 0xE080
  | 0x0C => 0xC000
  | 0x0E => 0xC000
  | 0x10 => 0xFF00
  | 0x14 => 0
  | 0x18 => 0xFC00
  | 0x1A => 0xC000
  | 0x1E => 0xF800
  | 0x20 => 0xFFFC
  | 0x26 => 0x7FC0
  | 0x28 => 0x7000
  | 0x2E => 0x7F00
  | 0x32 => 0xFFF0
  | 0x34 => 0xF800
  | 0x40 => 0xFFC0
  | 0x42 => 0x0080
  | 0x44 => 0xFE00
  | 0x4A => 0xF080
  | 0x4C => 0x00F0
  | 0x4E => 0x0080
  | 0x50 => 0x7FF8
  | 0x52 => 0xFE00
  | 0x54 => 0x8000
  | 0x5A => 0xFFC0
  | _ => 0

/-- Bit of `poison` for a register's function (R104): of a unit with an `FNRST` bit, of the watchdog, or of the host interface. -/
def regPoison (offset : Nat) : Nat :=
  match offset with
  | 0x40 => 4
  | 0x42 => 4
  | 0x44 => 4
  | 0x46 => 11
  | 0x4A => 8
  | 0x4C => 9
  | 0x4E => 10
  | 0x56 => 15
  | 0x58 => 15
  | _ => 14

/-- A function made unpredictable by a host error (R13). -/
def Dev.poisonBit (n : Nat) (d : Dev) : Dev := { d with host := { d.host with poison := d.host.poison ||| 2 ^ n } }

/-- A journalled register write, an event on the host port (R80, R583): a host error, a refusal in journal hold, another refusal, or
accepted with `f`; each with its REG_WRITE record. -/
def Dev.regWrite (offset w : Nat) (bad refused : Bool) (f : Dev → Dev) (d : Dev) : Dev :=
  let old := (d.readReg offset).toNat
  let d := d.present
  let x := draft 0x04 0xFF offset old w
  if bad then (d.noteRefused oHost (x 4)).poisonBit (regPoison offset)
  else if d.jrnl.hold then d.noteRefused oHost (x 5)
  else if refused then d.note oHost (x 2)
  else f (d.note oHost (x 0))

/-! ### `SYSCTL`, `IRQ_MASK`, `IRQ_ROUTE` (R87, R96) -/

/-- `SYSCTL` (R87): with WARM_RST and its key, a warm reset, journalled as that; with a wrong key only IRQ_EN is set, and the write is
recorded as refused. -/
def Dev.writeSysctl (w : Nat) (d : Dev) : Dev :=
  let en (d : Dev) : Dev := { d with host := { d.host with irqEn := bit 0 w } }
  if w &&& 0x7E != 0 then d.regWrite 0x08 w true false id
  else if !bit 7 w then d.regWrite 0x08 w false false en
  else if w / 256 != 0xC3 then
    let held := d.jrnl.hold
    let d := d.regWrite 0x08 w false true id
    if held then d else en d
  else if d.jrnl.hold then d.regWrite 0x08 w false false id
  else d.present.triggered 1

/-- `IRQ_MASK`. -/
def Dev.writeIrqMask (w : Nat) : Dev → Dev :=
  Dev.regWrite 0x24 w false false fun d => { d with host := { d.host with irqMask := word w } }

/-- `IRQ_ROUTE` (R96). -/
def Dev.writeIrqRoute (w : Nat) : Dev → Dev :=
  Dev.regWrite 0x26 w (w &&& 0x7FC0 != 0) false fun d =>
    let n := w % 16
    { d with host := { d.host with
        routeSel := n, routes := if bit 15 w then d.host.routes.set n (field 5 4 w) else d.host.routes } }

/-! ### Domain requests (R55–R57, R68, R71, R72) -/

/-- A POWER record of a request (R578). -/
def Dev.noteRequest (n old new cause : Nat) (d : Dev) : Dev := d.note oHost (powerDraft n old new cause)

/-- A refused request (R56): `PWRSTAT.REJ`, PWR_REFUSED (source 14) and the record. -/
def Dev.requestRefused (n : Nat) (d : Dev) : Dev :=
  let old := d.dstate n
  (Dev.raise 14 { d with pwr := { d.pwr with rej := true } }).noteRequest n old old 1

/-- POWER_ON (R57, R72): it cancels a deferral, and brings an off or lost domain up. -/
def Dev.requestOn (n : Nat) (d : Dev) : Dev :=
  let old := d.dstate n
  if d.domDeferred n then
    let d := d.dropDeferral n
    d.noteRequest n old (d.dstate n) 3
  else match d.dom n with
    | .off => ((d.noteRequest n old 1 0).setDom n .on).domainUp false n
    | .lost => ((d.noteRequest n old 1 0).setDom n .on).domainUp true n
    | .drain => (d.noteRequest n old 1 0).setDom n .on
    | _ => d.noteRequest n old old 0

/-- A write in PD15 or PD16 is in progress, so that its POWER_OFF drains (R57). -/
def Dev.drains (d : Dev) (n : Nat) : Bool :=
  (n == 15 && (!d.med.buf.isEmpty || d.med.flush)) || (n == 16 && d.nv.busy)

/-- POWER_OFF (R57, R68, R72). -/
def Dev.requestOff (n : Nat) (d : Dev) : Dev :=
  let old := d.dstate n
  if d.domDeferred n then d.noteRequest n old old 9
  else if !d.domOn n || d.dom n == .drain then d.noteRequest n old old 0
  else if d.domHeld n then
    let f : Deferral := ⟨n, d.clock.evEsn, d.opened (d.setting 0x010000 * 124800)⟩
    (Dev.raise 11 { d with pwr := { d.pwr with deferrals := d.pwr.deferrals ++ [f] } }).noteRequest n old 5 2
  else if d.drains n then (d.noteRequest n old 4 0).setDom n .drain
  else (d.noteRequest n old 0 0).switchDomain false n

/-- CLK_GATE (R71): ignored while the domain is held. DESIGN CHOICE (log 26): of a domain that is off, lost or draining, a gate, like an
ungate, is recorded with cause 0 and changes nothing. -/
def Dev.requestGate (n : Nat) (d : Dev) : Dev :=
  let old := d.dstate n
  if d.domHeld n then Dev.noteRequest n old old 8 { d with pwr := { d.pwr with ign := true } }
  else if d.dom n == .on then (d.noteRequest n old 2 0).setDom n .gated
  else d.noteRequest n old old 0

/-- CLK_UNGATE. -/
def Dev.requestUngate (n : Nat) (d : Dev) : Dev :=
  let old := d.dstate n
  if d.dom n == .gated then
    let d := (d.noteRequest n old 1 0).setDom n .on
    if n = 16 then d.nvKick else d
  else d.noteRequest n old old 0

/-- A request that R56 refuses. -/
def Dev.requestBarred (d : Dev) (n act : Nat) : Bool :=
  domFixed n || (n == 18 && act == 2 && d.anyGrant) || (n == 23 && (act == 2 || act == 3) && d.host.dbgUnlocked)

/-- `PWRREQ` (R55): DOM in bits [4:0], ACT in bits [7:5]. -/
def Dev.writePwrreq (w : Nat) (d : Dev) : Dev :=
  let n := w % 32
  let act := field 7 5 w
  let store (d : Dev) : Dev := { d with pwr := { d.pwr with req := word w } }
  if 24 ≤ n || 5 ≤ act || 256 ≤ w then d.regWrite 0x10 w true false id
  else if act = 0 || d.jrnl.hold then d.regWrite 0x10 w false false store
  else
    let d := store d.present
    if d.requestBarred n act then d.requestRefused n
    else match act with
      | 1 => d.requestOn n
      | 2 => d.requestOff n
      | 3 => d.requestGate n
      | _ => d.requestUngate n

/-! ### The submission port (R90–R92) -/

/-- `SQ_PORT` (R90, R104): beyond 1,040 words the excess is lost. -/
def Dev.writeSqPort (w : Nat) (d : Dev) : Dev :=
  if d.host.staged.length < 1040 then { d with host := { d.host with staged := d.host.staged ++ [word w] } } else d

/-- The command that the active staging buffer holds, rung in the present event. -/
def Dev.stagedCmd (d : Dev) (phase : Phase) : Cmd :=
  { tag := (d.host.staged.getD 1 0).toNat % 512, desc := fit 16 0 (d.host.staged.take 16), payload := d.host.staged.drop 16,
    bellTb := d.clock.evTb, bellEsn := d.clock.evEsn.toNat, uOpen := d.clock.unc, phase := phase, startTb := 0, lanes := 0,
    hammer := none, sets := [], begun := false, early := !d.host.ready }

/-- What was staged is no command that R91 allows, or its opcode is reserved (R104, R120). -/
def Dev.stagedBad (d : Dev) : Bool :=
  let c := d.stagedCmd .queued
  d.host.staged.length != 16 + c.plen || 1024 < c.plen || (opRow c.op).isNone

/-- An entry to standby that SLEEP_ENTER was granted is cancelled by a doorbell (R64): SLEEP_CANCEL (source 22) and its POWER
record. -/
def Dev.cancelSleep (d : Dev) : Dev :=
  if d.pwr.sleep.isSome then
    Dev.note oPower (powerDraft 0xFF 5 5 7) (Dev.signal 22 { d with pwr := { d.pwr with sleep := none } })
  else d

/-- The window of a command that has one, opened and closed at its doorbell (R117). -/
def Cmd.stillborn (c : Cmd) (d : Dev) : Bool := c.window.any (fun w => w.close ≤ w.opens + (d.clock.unc - w.uOpen))

/-- The doorbell (R90, R91, R104, R117): stretched until the buffer rung before it has wholly passed on; refused while FREE is 0; what is
malformed, or reuses a tag in flight, is lost with the function it names first (log 18). The buffer it rings passes at one word per FABRIC
cycle. -/
def Dev.ring (d : Dev) : Dev :=
  let d := (d.wait d.host.passedAt).present
  if d.sqFree = 0 then { d with host := { d.host with refused := true } }
  else
    let passed := d.now + d.host.staged.length
    let bad := d.stagedBad
    let c := d.stagedCmd .queued
    let reused := d.cmds.any (fun b => b.tag == c.tag) || d.store.any (fun e => e.tag == c.tag)
    let closing := match d.rel.relay with
      | .closing t => t == c.tag
      | _ => false
    let hit := d.cmds.filter (fun b => b.tag == c.tag)
    let d := if reused && !closing then d.setPhase c.tag .lost else d
    let d := if bad || reused then (c :: hit).foldl (fun d b => d.poisonBit (b.uses.headD 14)) d else d
    let c := { c with phase := if bad || reused then .lost else .queued }
    let d := { d with cmds := d.cmds ++ [c], host := { d.host with staged := [], passedAt := passed, refused := false } }
    let d := d.cancelSleep
    if !bad && !reused && c.stillborn d then d.endCmd .deadline c else d

/-- `SQ_BELL` (R91): DISCARD goes before RING. DESIGN CHOICE (log 117): the event that R80 names is the doorbell, so a DISCARD takes no ESN;
nor does a `CQ_POP` that only rewinds, or a `TB_SNAP_CTL` write that captures nothing. -/
def Dev.writeSqBell (w : Nat) (d : Dev) : Dev :=
  if w &&& 0xC000 != 0 then d.poisonBit 14
  else if bit 1 w then { d with host := { d.host with staged := [], refused := false } }
  else if bit 0 w then d.ring
  else d

/-! ### The completion port (R93, R94) -/

/-- A read of `CQ_PORT` (R93). -/
def Dev.readCqPort (d : Dev) : Dev :=
  let w := d.cqWord
  let n := match d.store with
    | e :: _ => if d.host.cqRead < e.words.length then d.host.cqRead + 1 else d.host.cqRead
    | [] => d.host.cqRead
  { d with host := { d.host with data := w, cqRead := n } }

/-- `CQ_POP` (R94): POP goes before REWIND, which is no event (log 117). -/
def Dev.writeCqPop (w : Nat) (d : Dev) : Dev :=
  if w &&& 0xFFFC != 0 then d.poisonBit 14
  else if bit 0 w then
    let d := d.present
    { d with store := d.store.drop 1, host := { d.host with cqRead := 0 } }
  else if bit 1 w then { d with host := { d.host with cqRead := 0 } }
  else d

/-! ### The windows (R97, R98, R133) -/

/-- INDEX of `EVC_ADDR` advances under AUTOINC. -/
def Dev.evcAdvance (d : Dev) : Dev :=
  let a := d.host.evcAddr.toNat
  if bit 15 a then { d with host := { d.host with evcAddr := word (0x8000 + (a + 1) % 4096) } } else d

/-- A read of `EVC_DATA`, with the claim of a claim index (R157). -/
def Dev.readEvcData (d : Dev) : Dev :=
  let i := d.host.evcAddr.toNat % 4096
  let w := d.readEvc i
  let d := if 0x250 ≤ i && i < 0x254 then d.claimed (i - 0x250) else d
  Dev.evcAdvance { d with host := { d.host with data := w } }

/-- A write of `EVC_DATA` (R97, R153). -/
def Dev.writeEvcData (w : Nat) (d : Dev) : Dev :=
  let r := d.present.writeEvc (d.host.evcAddr.toNat % 4096) w
  Dev.evcAdvance (if r.1 = 4 then r.2.poisonBit 14 else r.2)

/-- The settings address selected (R133). -/
def Dev.setAddr (d : Dev) : Nat := d.host.setAddrHi.toNat % 256 * 65536 + d.host.setAddrLo.toNat

/-- INDEX advances under AUTOINC, without carry into UNIT (R133). -/
def Dev.setAdvance (d : Dev) : Dev :=
  if bit 15 d.host.setAddrHi.toNat then { d with host := { d.host with setAddrLo := d.host.setAddrLo + 1 } } else d

/-- A read of `SET_DATA` (R133, R134). -/
def Dev.readSetData (d : Dev) : Dev :=
  let w := d.readSetting d.setAddr
  Dev.setAdvance { d with host := { d.host with data := w, setOk := true } }

/-- `SET_STAT` after a `SET_DATA` write with a journal cause (R134); after a host error each of its bits is open. -/
def Dev.setOutcome (cause : Nat) (d : Dev) : Dev :=
  match cause with
  | 0 => { d with host := { d.host with setOk := true } }
  | 1 => { d with host := { d.host with setOk := false, setLocked := true } }
  | 3 => { d with host := { d.host with setOk := false, setRange := true } }
  | 4 =>
    let a := d.freeBool
    let b := a.2.freeBool
    let c := b.2.freeBool
    let e := c.2.freeBool
    { e.2 with host := { e.2.host with setOk := a.1, setLocked := b.1, setRange := c.1, setProt := e.1 } }
  | _ => { d with host := { d.host with setOk := false, setProt := true } }

/-- A write of `SET_DATA` (R98, R134). -/
def Dev.writeSetData (w : Nat) (d : Dev) : Dev :=
  let a := d.setAddr
  let r := (d.dueBefore a).present.writeSetting oHost false a w
  let d := r.2.setOutcome r.1
  let d := if r.1 = 4 then { d with host := { d.host with poison := d.host.poison ||| unitPoison (a / 65536) } } else d
  d.setAdvance

/-! ### Snapshot, journal head, LOCKNOW -/

/-- `TB_SNAP_CTL` (R48): the capture, and the co-snapshots of the timers (R169); without CAP it is no event (log 117). -/
def Dev.writeSnap (w : Nat) (d : Dev) : Dev :=
  if w &&& 0xF800 != 0 then d.poisonBit 14
  else if bit 0 w then
    let d := d.present
    Dev.coSnap { d with clock := { d.clock with snapTb := d.clock.evTb, snapRes := d.clock.rho, snapValid := true } }
  else d

/-- The chain tag that a capture of the head shows: eight zero bytes for a record that waits for its tag (R100, R541). -/
def Dev.headTag (d : Dev) : Bytes := if d.start.boot.isSome then zeroTag else d.jrnl.lastTag

/-- `JRNL_HEAD` (R100). -/
def Dev.writeJrnlHead (w : Nat) (d : Dev) : Dev :=
  if w &&& 0x7FF8 != 0 then d.poisonBit 14
  else
    let d := { d with host := { d.host with jrnlSel := w % 8 } }
    if bit 15 w then
      { d with host := { d.host with
          jrnlCapEsn := d.jrnl.lastEsn, jrnlCapTag := d.headTag, jrnlCapCount := d.jrnl.buf.length } }
    else d

/-- `LOCKNOW` (R99): never refused in journal hold; a LOCK record even where the relay is locked. -/
def Dev.writeLocknow (w : Nat) (d : Dev) : Dev :=
  if w = 0xA5A5 then d.present.lockRelay oHost 0xFFFF 0xFF 2 5
  else d.present.noteRefused oHost (draft 0x04 0xFF 0x48 0 w 2)

/-! ### The watchdog (R101, R102) -/

/-- An expiry in its accepted event on the power port (R101): source 9 and its record, a reset where ACTION says so, else a new kick
window. -/
def Dev.wdtExpire (d : Dev) : Dev :=
  let d := d.reach 9
  let a := field 13 12 d.host.wdtCfg.toNat
  if a = 2 || (a = 1 && d.host.wdtExpired) then d.triggered 2
  else
    let c := d.host.causes
    Dev.wdtRestart (Dev.note oPower (resetDraft 0 c c) { d with host := { d.host with wdtExpired := true } })

/-- WATCHDOG_EXPIRY (R101): the kick window closes; a watchdog made unpredictable by a host error expires at any time (R104). -/
def watchdogExpiry (d : Dev) : Dev :=
  if !d.awake then d
  else match d.host.wdtWin with
    | some w => (if bit 15 d.host.poison then d.presentOn 2 else (d.toClose w).closeOn 2).wdtExpire
    | none => if bit 15 d.host.poison then (d.presentOn 2).wdtExpire else d

def execWatchdogExpiry (s : State) : Host.Outcome State Fault Refusal := run watchdogExpiry s

/-- `WDT_CFG` (R101, R102): any write is refused while LOCK is 1; the window opens at the write that sets EN. -/
def Dev.writeWdtCfg (w : Nat) (d : Dev) : Dev :=
  let locked := bit 14 d.host.wdtCfg.toNat
  d.regWrite 0x56 w (!locked && (field 13 12 w = 3 || (bit 15 w && w % 4096 = 0))) locked fun d =>
    let win := if !bit 15 w then none
      else match d.host.wdtWin with
        | some x => some { x with close := x.opens + w % 4096 * 124800 }
        | none => if d.awake then some (d.opened (w % 4096 * 124800)) else none
    { d with host := { d.host with wdtCfg := word w, wdtWin := win } }

/-- `WDT_KICK` (R102): a kick at or after the close comes after the expiry; a wrong value is recorded and counts as an expiry, an event of
its own behind the write's (R583). -/
def Dev.writeWdtKick (w : Nat) (d : Dev) : Dev :=
  if w = 0x6B2E then
    let late := d.host.wdtWin.filter d.reached
    let d := match late with
      | some win => ((d.toClose win).closeOn 2).wdtExpire
      | none => d
    if late.isSome && d.pwr.dev == .starting then d
    else
      let d := d.present
      Dev.wdtRestart { d with host := { d.host with wdtExpired := false } }
  else
    let d := d.present.note oHost (draft 0x04 0xFF 0x58 0 w 2)
    Dev.wdtExpire { d with clock := d.clock.follow d.wantDepth 2 }

/-! ### Debug control (R103) -/

/-- A DEBUG record: DEBUG_EVENT (source 159), and `DBGCTL` before and after. -/
def Dev.noteDebug (origin old : Nat) (d : Dev) : Dev := (d.raise 159).note origin (draft 0x70 0xFF 0 old d.dbgctl 0)

/-- `DBGCTL` (R103): ALLOW = 0 or RELOCK = 1 ends the session. -/
def Dev.writeDbgctl (w : Nat) (d : Dev) : Dev :=
  d.regWrite 0x5A w (w &&& 0xFFC0 != 0) false fun d =>
    let old := d.dbgctl
    let was := d.host.dbgUnlocked
    let d := { d with host := { d.host with dbgAllow := bit 0 w } }
    if was && (!bit 0 w || bit 5 w) then d.endDebug.noteDebug oHost old else d

/-! ### Status bits that a write of 1 clears (R85) -/

/-- The W1C bits of a status register. -/
def Dev.clearStatus (offset w : Nat) (d : Dev) : Dev :=
  let k (n : Nat) (x : Bool) : Bool := x && !bit n w
  let h := d.host
  match offset with
  | 0x0A => { d with host := { h with cold := k 8 h.cold, wdt := k 9 h.wdt, hrst := k 10 h.hrst, swrst := k 11 h.swrst,
                                      supply := k 12 h.supply } }
  | 0x12 => { d with pwr := { d.pwr with rej := k 8 d.pwr.rej, ign := k 9 d.pwr.ign, brk := k 10 d.pwr.brk,
                                         loss := k 12 d.pwr.loss } }
  | 0x32 => { d with host := { h with setLocked := k 1 h.setLocked, setRange := k 2 h.setRange, setProt := k 3 h.setProt } }
  | 0x40 => { d with anvil := { d.anvil with hfail := k 4 d.anvil.hfail, etime := k 5 d.anvil.etime } }
  | 0x42 => { d with cru := { d.cru with rollFwd := k 3 d.cru.rollFwd, rollBack := k 4 d.cru.rollBack,
                                         slotBadFlag := k 5 d.cru.slotBadFlag } }
  | 0x46 => { d with rel := { d.rel with fault := k 6 d.rel.fault } }
  | 0x4A => { d with med := { d.med with uncorr := k 6 d.med.uncorr } }
  | 0x4C => { d with nv := { d.nv with corr := k 2 d.nv.corr, uncorr := k 3 d.nv.uncorr } }
  | 0x4E => { d with kw := { d.kw with seenA := k 2 d.kw.seenA, seenB := k 3 d.kw.seenB, seenSilent := k 4 d.kw.seenSilent } }
  | 0x54 => { d with bg := { d.bg with override := k 14 d.bg.override } }
  | _ => d

/-! ### Any register's write (R84) -/

/-- A write of a register by its offset. A reserved bit written as 1 is a host error in the register's function; offsets 0x5C–0xFE
and read-only fields take no effect. -/
def Dev.writeReg (offset w : Nat) (d : Dev) : Dev :=
  let w := w % 65536
  match offset with
  | 0x08 => d.writeSysctl w
  | 0x0C => if 0x4000 ≤ w then d.present.badWrite 0x0C 0 w else d.present.resetFns w
  | 0x10 => d.writePwrreq w
  | 0x16 => d.writeSqPort w
  | 0x1A => d.writeSqBell w
  | 0x20 => d.writeCqPop w
  | 0x24 => d.writeIrqMask w
  | 0x26 => d.writeIrqRoute w
  | 0x2A => d.writeEvcData w
  | 0x30 => d.writeSetData w
  | 0x34 => d.writeSnap w
  | 0x48 => d.writeLocknow w
  | 0x50 => d.writeJrnlHead w
  | 0x56 => d.writeWdtCfg w
  | 0x58 => d.writeWdtKick w
  | 0x5A => d.writeDbgctl w
  | _ =>
    if w &&& regReserved offset != 0 then d.poisonBit (regPoison offset)
    else match offset with
      | 0x28 => { d with host := { d.host with evcAddr := word w } }
      | 0x2C => { d with host := { d.host with setAddrLo := word w } }
      | 0x2E => { d with host := { d.host with setAddrHi := word w } }
      | _ => d.clearStatus offset w

/-! ### Strobes (R79, R82) -/

/-- A read whose value the host takes: while HRST_N is low, or with HA changed during the strobe, it returns 0xFFFF and has no side
effect. -/
def Dev.reads (moved : Bool) (f : Dev → Dev) (d : Dev) : Dev :=
  let ones (d : Dev) : Dev := { d with host := { d.host with data := 0xFFFF } }
  if d.start.waitHrst then ones d else Dev.access (if moved then ones else f) d

/-- A write; with HA changed during the strobe it writes nothing. -/
def Dev.writes (moved : Bool) (f : Dev → Dev) : Dev → Dev := Dev.access (if moved then id else f)

/-! ### The rows -/

/-- PWRREQ_SELECT (R55). -/
def pwrreqSelect (n : Nat) : Dev → Dev := Dev.access (Dev.writeReg 0x10 (n % 32))
def execPwrreqSelect (dom : Nat) (s : State) : Host.Outcome State Fault Refusal := run (pwrreqSelect dom) s

/-- POWER_ON (R57). -/
def powerOn (n : Nat) : Dev → Dev := Dev.access (Dev.writeReg 0x10 (n % 32 + 32))
def execPowerOn (dom : Nat) (s : State) : Host.Outcome State Fault Refusal := run (powerOn dom) s

/-- POWER_OFF (R57, R68). -/
def powerOff (n : Nat) : Dev → Dev := Dev.access (Dev.writeReg 0x10 (n % 32 + 64))
def execPowerOff (dom : Nat) (s : State) : Host.Outcome State Fault Refusal := run (powerOff dom) s

/-- CLK_GATE (R71). -/
def clkGate (n : Nat) : Dev → Dev := Dev.access (Dev.writeReg 0x10 (n % 32 + 96))
def execClkGate (dom : Nat) (s : State) : Host.Outcome State Fault Refusal := run (clkGate dom) s

/-- CLK_UNGATE (R55). -/
def clkUngate (n : Nat) : Dev → Dev := Dev.access (Dev.writeReg 0x10 (n % 32 + 128))
def execClkUngate (dom : Nat) (s : State) : Host.Outcome State Fault Refusal := run (clkUngate dom) s

/-- WARM_RST (R87): `SYSCTL` written with WARM_RST, its key, and IRQ_EN. -/
def warmRst (irqEn : Bool) : Dev → Dev := Dev.access (Dev.writeReg 0x08 (0xC380 + b2n irqEn))
def execWarmRst (irqEn : Bool) (s : State) : Host.Outcome State Fault Refusal := run (warmRst irqEn) s

/-- SQ_PORT_WRITE (R90). -/
def sqPortWrite (w : Word) : Dev → Dev := Dev.access (Dev.writeReg 0x16 w.toNat)
def execSqPortWrite (w : Word) (s : State) : Host.Outcome State Fault Refusal := run (sqPortWrite w) s

/-- DOORBELL (R91). -/
def doorbell : Dev → Dev := Dev.access (Dev.writeReg 0x1A 1)
def execDoorbell (s : State) : Host.Outcome State Fault Refusal := run doorbell s

/-- STAGING_DISCARD (R91). -/
def stagingDiscard : Dev → Dev := Dev.access (Dev.writeReg 0x1A 2)
def execStagingDiscard (s : State) : Host.Outcome State Fault Refusal := run stagingDiscard s

/-- CQ_PORT_READ (R93). -/
def cqPortRead (moved : Bool) : Dev → Dev := Dev.reads moved Dev.readCqPort
def execCqPortRead (s : State) (moved : Bool := false) : Host.Outcome State Fault Refusal := run (cqPortRead moved) s

/-- POP (R94). -/
def pop : Dev → Dev := Dev.access (Dev.writeReg 0x20 1)
def execPop (s : State) : Host.Outcome State Fault Refusal := run pop s

/-- REWIND (R94). -/
def rewind : Dev → Dev := Dev.access (Dev.writeReg 0x20 2)
def execRewind (s : State) : Host.Outcome State Fault Refusal := run rewind s

/-- CLAIM (R157): a read of `EVC_DATA` with INDEX at `CLAIM_Ln`, which the host writes to `EVC_ADDR` before it. -/
def claim (line : Nat) (moved : Bool) (d : Dev) : Dev :=
  let index (d : Dev) : Dev :=
    { d with host := { d.host with evcAddr := word (d.host.evcAddr.toNat / 0x1000 * 0x1000 + 0x250 + line % 4) } }
  (Dev.access index d).reads moved Dev.readEvcData
def execClaim (line : Nat) (s : State) (moved : Bool := false) : Host.Outcome State Fault Refusal := run (claim line moved) s

/-- EVC_DATA_WRITE (R97). -/
def evcDataWrite (w : Word) : Dev → Dev := Dev.access (Dev.writeReg 0x2A w.toNat)
def execEvcDataWrite (w : Word) (s : State) : Host.Outcome State Fault Refusal := run (evcDataWrite w) s

/-- SET_DATA_WRITE (R134). -/
def setDataWrite (w : Word) : Dev → Dev := Dev.access (Dev.writeReg 0x30 w.toNat)
def execSetDataWrite (w : Word) (s : State) : Host.Outcome State Fault Refusal := run (setDataWrite w) s

/-- SET_DATA_READ (R133). -/
def setDataRead (moved : Bool) : Dev → Dev := Dev.reads moved Dev.readSetData
def execSetDataRead (s : State) (moved : Bool := false) : Host.Outcome State Fault Refusal := run (setDataRead moved) s

/-- A settings address selected by `SET_ADDR_HI` and `SET_ADDR_LO`, AUTOINC as it was (R133). -/
def Dev.selectSetting (a : Nat) (d : Dev) : Dev :=
  { d with host := { d.host with
      setAddrHi := word (d.host.setAddrHi.toNat / 0x8000 * 0x8000 + a / 65536 % 256), setAddrLo := word a } }

/-- TMR_GO (R166): the setting selected and written. -/
def tmrGo (mask : Nat) : Dev → Dev := Dev.access fun d => (d.selectSetting 0x0C0200).writeReg 0x30 mask
def execTmrGo (mask : Nat) (s : State) : Host.Outcome State Fault Refusal := run (tmrGo mask) s

/-- TMR_HALT (R166). -/
def tmrHalt (mask : Nat) : Dev → Dev := Dev.access fun d => (d.selectSetting 0x0C0201).writeReg 0x30 mask
def execTmrHalt (mask : Nat) (s : State) : Host.Outcome State Fault Refusal := run (tmrHalt mask) s

/-- TB_SNAPSHOT (R48). -/
def tbSnapshot : Dev → Dev := Dev.access (Dev.writeReg 0x34 1)
def execTbSnapshot (s : State) : Host.Outcome State Fault Refusal := run tbSnapshot s

/-- LOCKNOW (R99). -/
def locknow : Dev → Dev := Dev.access (Dev.writeReg 0x48 0xA5A5)
def execLocknow (s : State) : Host.Outcome State Fault Refusal := run locknow s

/-- JRNL_HEAD_CAPTURE (R100). -/
def jrnlHeadCapture (sel : Nat) : Dev → Dev := Dev.access (Dev.writeReg 0x50 (0x8000 + sel % 8))
def execJrnlHeadCapture (sel : Nat) (s : State) : Host.Outcome State Fault Refusal := run (jrnlHeadCapture sel) s

/-- WDT_KICK (R102). -/
def wdtKick (code : Word) : Dev → Dev := Dev.access (Dev.writeReg 0x58 code.toNat)
def execWdtKick (code : Word) (s : State) : Host.Outcome State Fault Refusal := run (wdtKick code) s

/-- RELOCK (R103): `DBGCTL` written with RELOCK and ALLOW. -/
def relock (allow : Bool) : Dev → Dev := Dev.access (Dev.writeReg 0x5A (32 + b2n allow))
def execRelock (allow : Bool) (s : State) : Host.Outcome State Fault Refusal := run (relock allow) s

/-- REGISTER_WRITE (R79, R84). -/
def registerWrite (offset : Nat) (w : Word) (moved : Bool) : Dev → Dev := Dev.writes moved (Dev.writeReg offset w.toNat)
def execRegisterWrite (offset : Nat) (w : Word) (s : State) (moved : Bool := false) : Host.Outcome State Fault Refusal :=
  run (registerWrite offset w moved) s

/-! ### The ratio and the spread (R35, R41) -/

/-- Ticks that 4,096 LF cycles take: the nominal 15,600,000 with an open error within the drift allowance (R41, R44). -/
def Dev.ratioTicks (d : Dev) : Nat × Dev :=
  let a := 156 * d.driftPpm / 10
  let r := d.freeNat
  (15600000 - a + r.1 % (2 * a + 1), r.2)

/-- Where the first ratio window opens: the first LF edge after the re-anchor, which is itself at an LF edge, one LF cycle on within the
drift allowance; after ROOT first locks, at the first LF edge, whose place is open (R41, R42). -/
def Dev.ratioOpens (d : Dev) : Nat × Dev :=
  let a := ceilDiv (3809 * d.driftPpm) 1000000
  let r := d.freeNat
  (if d.clock.anchorTb = 0 then r.1 % (3810 + a) else d.clock.anchorTb + 3808 - a + r.1 % (2 * a + 3), r.2)

/-- RATIO_WINDOW_CLOSE (R41). -/
def ratioWindowClose (d : Dev) : Dev :=
  if !d.awake then d
  else
    let o := match d.clock.ratioFrom with
      | some t => (t, d)
      | none => d.ratioOpens
    let l := o.2.ratioTicks
    let d := l.2
    let t := o.1 + l.1
    let close := if d.now ≤ t then (d.wait t).now else t
    let d := d.wait t
    { d with clock := { d.clock with ratio := some ((close - o.1) * 256 % 2 ^ 32), ratioFrom := some close } }

def execRatioWindowClose (s : State) : Host.Outcome State Fault Refusal := run ratioWindowClose s

/-- SPREAD_CHANGE (R35): a written depth takes effect at the start of the next modulation period. -/
def spreadChange (d : Dev) : Dev :=
  let c := d.clock
  if c.rootOn && c.depth != d.wantDepth then
    { d with clock := c.atEdge d.wantDepth c.depth (c.ru - edgeRu c.depth c.pos) 4000 (4000 - c.pos) }
  else d

def execSpreadChange (s : State) : Host.Outcome State Fault Refusal := run spreadChange s

end Sys2Proof.Machine
end

