-- ==== Sys2Proof/Machine/Debug.lean ====
section
/-!
DEFINITION. The test port: unlock attempts (R103), and the debug of a halted sequencer (R429, R430).
-/

namespace Sys2Proof.Machine

/-- UNLOCK_ATTEMPT (R103): the device draws a challenge, and verifies the tester's signature over DEVID ‖ UID ‖ challenge against K01.
Each attempt is recorded. -/
def unlockAttempt (sig : Bytes) (d : Dev) : Dev :=
  if !d.awake then d
  else
    let old := d.dbgctl
    let ready := d.anvil.ready
    let r : Bytes × Dev := if ready then d.draw 16 else ([], d)
    let d := r.2
    let ok := d.host.dbgAllow && !d.ident.dbgFused && ready && !d.keyEmpty 1 &&
      ecdsaVerify (d.key 1).material (sha256 (leBytes 2 0x7256 ++ d.cru.uid ++ r.1)) sig
    let d := d.present
    let d := if ok then { d with host := { d.host with dbgUnlocked := true }, cru := { d.cru with dbgSeen := true } } else d
    d.noteDebug oDebug old

def execUnlockAttempt (signature : Bytes) (s : State) : Host.Outcome State Fault Refusal := run (unlockAttempt signature) s

/-- A sequencer is halted in an event of the host port, with the DEBUG record, and timers that follow it freeze (R179, R429). -/
def Dev.haltSeq (q : Nat) (d : Dev) : Dev :=
  let old := d.dbgctl
  let d := d.present.onSeq q (fun s => { s with halted := true })
  d.tmrFreeze.noteDebug oDebug old

/-- DEBUG_HALT (R429): refused without a session, and while a secure script runs; the refusal is recorded. -/
def debugHalt (q : Nat) (d : Dev) : Dev :=
  let q := q % 2
  let s := d.seqr q
  if !d.awake || !d.host.dbgUnlocked || s.halted then d
  else if s.rom || s.secure then d.present.noteDebug oDebug d.dbgctl
  else d.haltSeq q

def execDebugHalt (seq : Nat) (s : State) : Host.Outcome State Fault Refusal := run (debugHalt seq) s

/-- BREAKPOINT (R429): a script that stands at a breakpoint halts before the instruction. -/
def breakpoint (q : Nat) (d : Dev) : Dev :=
  let q := q % 2
  let s := d.seqr q
  if d.host.dbgUnlocked && d.scriptRuns q && !s.secure && s.breakpoints.contains s.pc then d.haltSeq q else d

def execBreakpoint (seq : Nat) (s : State) : Host.Outcome State Fault Refusal := run (breakpoint seq) s

/-- The instruction that stands at PC, of a class and operation. -/
def oneInstr (q cls op : Nat) : Dev → Dev :=
  let far : NandRead := ⟨0, 0, false, false⟩
  match cls, op with
  | 2, _ => loadOp q
  | 3, _ => storeOp q
  | 4, 9 => callOp q
  | 4, 10 => retOp q
  | 4, 11 => jrOp q
  | 4, _ => branchOp q
  | 5, 0 => waitevOp q
  | 5, _ => fun d => waittEnd q (waittOp q d)
  | 6, 0 => lftx q
  | 6, 1 => uhfrx q none
  | 6, 2 => uwbrange q none none none
  | 6, 3 => aesn q
  | 6, 4 => cmacn q
  | 6, 5 => unitHkdf q
  | 6, 6 => ecmul q
  | 6, 7 => ecdsa q
  | 6, 8 => atlasq q far
  | 6, 9 => copy q
  | 6, _ => crcOp q
  | 7, 0 => haltOp q
  | 7, 1 => retiOp q
  | 7, 2 => ienOp q
  | 7, 3 => signalOp q
  | 7, 4 => tbreadOp q
  | 7, 5 => setr q
  | 7, 6 => setw q
  | 7, 7 => drawOp q
  | 7, 8 => getsrcOp q
  | 7, _ => sysNopOp q
  | _, op => aluOp q op

/-- SINGLE_STEP (R429): one instruction of a halted sequencer, its breakpoint apart; a radio gives it no frame. -/
def singleStep (q : Nat) (d : Dev) : Dev :=
  let q := q % 2
  let s := d.seqr q
  if !d.host.dbgUnlocked || !s.halted then d
  else
    let h := s.fetch
    let d := d.onSeq q (fun s => { s with halted := false, breakpoints := [] })
    (oneInstr q h.cls h.op d).onSeq q (fun t => { t with halted := true, breakpoints := s.breakpoints })

def execSingleStep (seq : Nat) (s : State) : Host.Outcome State Fault Refusal := run (singleStep seq) s

/-- A register of a sequencer written: W0–W15, then FLAGS, PC and PROG. -/
def Seqr.poke (s : Seqr) (n v : Nat) : Seqr :=
  if n < 16 then s.setReg n (BitVec.ofNat 32 v)
  else match n with
    | 16 => { s with flags := v % 64 }
    | 17 => { s with pc := v }
    | 18 => { s with prog := v }
    | _ => s

/-- The numbers of four bytes each, at places `n`, `n + 1`, … . -/
def pokes (n : Nat) : Nat → Bytes → Seqr → Seqr
  | 0, _, s => s
  | k + 1, bs, s => if bs.length < 4 then s else pokes (n + 1) k (bs.drop 4) (s.poke n (leNat (bs.take 4)))

/-- DEBUG_MEMORY_WRITE (R429): registers (space 0), the data space (1), instruction RAM (2), which leaves the image unverified, and the
four breakpoints (3). -/
def debugMemoryWrite (q space addr : Nat) (bytes : Bytes) (d : Dev) : Dev :=
  let q := q % 2
  if !d.host.dbgUnlocked || !(d.seqr q).halted then d
  else match space with
    | 0 => d.onSeq q (pokes addr 19 bytes)
    | 1 =>
      if !(d.seqr q).inData addr bytes.length then d
      else if addr < 0x10000 then d.dataWrite q addr bytes
      else d.onSeq q (fun s =>
        let m := overwrite (s.ib ++ s.ob) (addr - 0x10000) bytes
        { s with ib := m.take 1024, ob := m.drop 1024 })
    | 2 =>
      if 0x8000 < addr + bytes.length then d
      else d.onSeq q (fun s => { s with iram := cellsWrite (0 : Byte) addr bytes s.iram, dirty := true })
    | 3 => d.onSeq q (fun s => { s with breakpoints := (List.range (min 4 (bytes.length / 4))).map (fun i => leNat (slice (4 * i) 4 bytes)) })
    | _ => d

def execDebugMemoryWrite (seq space addr : Nat) (bytes : Bytes) (s : State) : Host.Outcome State Fault Refusal :=
  run (debugMemoryWrite seq space addr bytes) s

end Sys2Proof.Machine
end

