-- ==== Sys2Proof/Machine/Complete.lean ====
section
/-!
DEFINITION. Completions (R109, R116, R117, R119, R121): a finished command's entry with its records and its effects in one event, the
wait for room in the completion store, and the closes of command deadlines.
-/

namespace Sys2Proof.Machine

/-! ### Effects (R121) -/

/-- The payload with a word replaced. -/
def patched (at_ : Option Nat) (n : Nat) (ws : List Word) : List Word :=
  match at_ with
  | some i => ws.set i (word n)
  | none => ws

/-- Atlas evidence records made one after the other, each with its index put into its payload word (R275). -/
def Dev.applyAtlas : List (Nat × Evidence) → List Word → Dev → List Word × Dev
  | [], ws, d => (ws, d)
  | (i, e) :: es, ws, d => Dev.applyAtlas es (ws.set i (word d.evidenceIndex)) (d.putEvidence e)

/-- The effect of a completion in its event, and the payload with the indices it took (R121, R292, R304, R312). -/
def Dev.applyEffect (c : Cmd) (r : Result) (d : Dev) : List Word × Dev :=
  let ws := r.payload
  match r.effect with
  | .none => (ws, d)
  | .evidence e =>
    (patched r.index d.evidenceIndex ws,
     match e.kind with
     | .uwb _ _ _ _ _ _ x => (d.putEvidence e).rangeDone x
     | _ => d.putEvidence e)
  | .decision x => (patched r.index d.rel.nextDecision ws, { d.putDecision x with rel := { (d.putDecision x).rel with last := (ws.getD 0 0).toNat } })
  | .session x =>
    (patched r.index ((d.rel.sessions.findIdx? Option.isNone).getD 0) ws, d.applySession c.tag c.op x)
  | .grant a g num ended => (ws, d.applyGrant c.tag c.op a g num ended)
  | .relay => (ws, d.applyRelay (c.setting 0x060000))
  | .auth x key => (patched r.index d.evidenceIndex ws, d.applyAuth x key)
  | .revoke slot ids => (ws, d.applyRevoke c.tag c.op slot ids)
  | .admitting a erase lift => (ws, d.applyAdmit c.tag c.op a erase lift)
  | .atlasEvidence es =>
    Dev.applyAtlas es ws { d with atlas := { d.atlas with queries := min (2 ^ 32 - 1) (d.atlas.queries + c.w 7) } }
  | .atlasCommit => (ws, d.applyCommitAtlas)
  | .policy img => (ws, d.applyPolicy img)
  | .closeAdmission cause => (ws, d.closeAdm oHost c.tag c.op cause)
  | .commit => (ws, d.rollForward false oHost c.tag c.op)
  | .sleep t keep => (ws, if t = 1 then d else { d with pwr := { d.pwr with sleep := some (t, keep) } })
  | .poll on => (ws, if on then Dev.pollFrom { d with lf := { d.lf with polling := true, pollCount := 0 } } else d.stopPolling)
  | .partitions t => (ws, { d with nv := { d.nv with table := some t } })
  | .key slot attr material => (ws, d.setKey slot attr material)
  | .fold cls => (ws, d.fold cls)

/-- A START_RELEASE whose relay was locked before its completion gives no hold (R307 order 5). -/
def Dev.settled (d : Dev) (r : Result) : Result :=
  match r.effect, d.rel.relay with
  | .relay, .locked => r.conflict
  | _, _ => r

/-- The records of a completion that are its own: a RELEASE record for every START_RELEASE that journal hold did not turn away at its
start, and what the command drafted (R138, R144, R307). -/
def Dev.ownRecords (c : Cmd) (r : Result) (d : Dev) : Dev :=
  if c.op = 0x31 then
    match r.effect with
    | .fold _ => d
    | _ =>
      let now := d.relstat.toNat
      let x := r.drafts.headD (draft 0x20 0x06 0 now now 0)
      d.log oHost c.tag c.op { x with new := now, cause := r.status.code }
  else d.logs oHost c.tag c.op r.drafts

/-- The completion event of a command on its port (R108–R111, R121, R140): its records and its effect, and its entry; a START_RELEASE's
effect goes before its record, which holds `RELSTAT` after it. DOZE by SLEEP_ENTER follows in an event of its own (R64). -/
def Dev.complete (c : Cmd) (r : Result) (d : Dev) : Dev :=
  let r := d.settled r
  let d := d.presentOn (c.port r.status)
  let x : List Word × Dev :=
    if c.op = 0x31 then
      let e := d.applyEffect c r
      (e.1, e.2.ownRecords c r)
    else (d.ownRecords c r).applyEffect c r
  let d := ((x.2.enter c r.status.code x.1).dropWork c.tag).standby
  match r.effect with
  | .sleep 1 _ => d.stateChange .doze
  | _ => d

/-! ### Presenting (R109, R119) -/

/-- Page writes that a command asked for have not all ended. -/
def Dev.writesLeft (d : Dev) (tag : Nat) : Bool := d.nv.queue.any (fun w => w.owner == some tag)

/-- What a command's completion waits for is not over: its page writes, or, for ATLAS_COMMIT, executing queries (R288). -/
def Dev.unfinished (d : Dev) (c : Cmd) : Bool :=
  d.writesLeft c.tag || (c.op == 0x62 && d.cmds.any (fun b => b.op == 0x60 && b.executing))

/-- The tags whose payloads wait, in the order in which they began to wait (R119). -/
def Dev.waiters (d : Dev) : List Nat :=
  d.waiting.filter (fun t => (d.cmd t).any (fun c => match c.phase with | .waiting _ => true | _ => false))

/-- The DEADLINE completion of a command in the close event of its window; a script ends with cause DEADLINE (R116, R117, R426). -/
def Dev.deadlineAt (c : Cmd) (d : Dev) : Dev :=
  match c.window with
  | some w => ((d.toClose w).breakOff 9 c).expire c
  | none => d

/-- COMPLETION_PRESENTED (R109, R116, R119): of a command whose work and page writes have ended, with no clock gate on what it uses (R128);
an ATLAS_COMMIT whose queries have ended goes on to its page writes (R288). One whose command another event has ended takes an ESN and
nothing else (R575). -/
def completionPresented (tag : Nat) (d : Dev) : Dev :=
  match d.cmd tag with
  | none => d.present
  | some c =>
    match c.phase with
    | .running .commit => if d.gateStops c then d else d.commitWrites tag
    | .done r =>
      if d.unfinished c || d.gateStops c then d
      else if c.cls = 0 && d.late c then d.deadlineAt c
      else if !r.payload.isEmpty && (!d.fits r.payload || !d.waiters.isEmpty) then
        let d := d.setPhase tag (.waiting r)
        { d with waiting := d.waiting.filter (· != tag) ++ [tag] }
      else d.complete c r
    | _ => d

def execCompletionPresented (tag : Nat) (s : State) : Host.Outcome State Fault Refusal := run (completionPresented tag) s

/-- COMPLETION_PAYLOAD_ENTER (R119): the payload that has waited longest, where it fits now. -/
def completionPayloadEnter (d : Dev) : Dev :=
  match d.waiters with
  | [] => d
  | t :: ts =>
    match d.cmd t with
    | none => d
    | some c =>
      match c.phase with
      | .waiting r =>
        if c.cls = 0 && d.late c then d.deadlineAt c
        else if d.fits r.payload then Dev.complete c r { d with waiting := ts }
        else d
      | _ => d

def execCompletionPayloadEnter (s : State) : Host.Outcome State Fault Refusal := run completionPayloadEnter s

/-! ### Deadlines (R116, R117, R430) -/

/-- EMISSION_END, with the completion of an LF_TELEGRAM at the stamp of its CRC's end (R199). -/
def emissionEndRow (peaks : List Nat) (load : Bool) (d : Dev) : Dev :=
  let owner := match d.lf.emission with
    | some (_, .command t, _) => some t
    | _ => none
  let d := emissionEnd peaks load d
  match owner.bind d.cmd with
  | some c => if c.op = 0x14 then completionPresented c.tag d else d
  | none => d

def execEmissionEnd (peaks : List Nat) (load : Bool) (s : State) : Host.Outcome State Fault Refusal := run (emissionEndRow peaks load) s

/-- DEADLINE_CLOSE (R117): a command that has not started, or one of class C, completes DEADLINE in the close event. The close of a window
that a started command of another class, or an earlier completion, has left without purpose takes an ESN and nothing else (R575). -/
def deadlineClose (tag : Nat) (d : Dev) : Dev :=
  match d.cmd tag with
  | none => d.closes 13 none id
  | some c =>
    match c.phase with
    | .lost => d
    | _ => if c.queued || c.cls = 0 then d.deadlineAt c else if c.window.isSome then d.closes 13 c.window id else d

def execDeadlineClose (tag : Nat) (s : State) : Host.Outcome State Fault Refusal := run (deadlineClose tag) s

/-! ### With no command waiting -/

/-- What happens when no command waits: a hold-up flush ends (R516); SHELF keeps no time; TB takes its next spread FABRIC edge (R36),
or the Hearth one LF cycle (R42). -/
def Dev.idle (d : Dev) : Dev :=
  if d.med.state == .flushing then
    let d := d.flushEnd
    if d.med.state == .flushing then { d with clock := d.clock.tick d.wantDepth } else d
  else if d.pwr.dev == .shelf then d
  else if d.clock.rootOn then { d with clock := d.clock.tick d.wantDepth }
  else { d with clock := { d.clock with lfCycles := d.clock.lfCycles + 1 } }

end Sys2Proof.Machine
end

