-- ==== Sys2Proof/Machine/Dispatch.lean ====
section
/-!
DEFINITION. The dispatch: one arm per command, each one direct call of its meaning.
-/

namespace Sys2Proof.Machine

def exec (i : Instr) (s : State) : Host.Outcome State Fault Refusal :=
  match i with
  | .nop tag => Sys2Proof.Machine.execNop tag s
  | .sleepEnter tag => Sys2Proof.Machine.execSleepEnter tag s
  | .selftest tag failing => Sys2Proof.Machine.execSelftest tag failing s
  | .telemetryRead tag items => Sys2Proof.Machine.execTelemetryRead tag items s
  | .logRead tag nand => Sys2Proof.Machine.execLogRead tag nand s
  | .logVerify tag nand => Sys2Proof.Machine.execLogVerify tag nand s
  | .pollConfig tag => Sys2Proof.Machine.execPollConfig tag s
  | .pollStart tag => Sys2Proof.Machine.execPollStart tag s
  | .pollStop tag => Sys2Proof.Machine.execPollStop tag s
  | .lfWakeLocate tag => Sys2Proof.Machine.execLfWakeLocate tag s
  | .lfTelegram tag => Sys2Proof.Machine.execLfTelegram tag s
  | .aerialCal tag peaks faults => Sys2Proof.Machine.execAerialCal tag peaks faults s
  | .transponderRead tag => Sys2Proof.Machine.execTransponderRead tag s
  | .rangeBound tag => Sys2Proof.Machine.execRangeBound tag s
  | .uwbConfig tag => Sys2Proof.Machine.execUwbConfig tag s
  | .proxDecide tag => Sys2Proof.Machine.execProxDecide tag s
  | .startRelease tag coil => Sys2Proof.Machine.execStartRelease tag coil s
  | .startLock tag => Sys2Proof.Machine.execStartLock tag s
  | .sessionOpen tag => Sys2Proof.Machine.execSessionOpen tag s
  | .sessionClose tag => Sys2Proof.Machine.execSessionClose tag s
  | .policyLoad tag => Sys2Proof.Machine.execPolicyLoad tag s
  | .tokenAuth tag => Sys2Proof.Machine.execTokenAuth tag s
  | .tokenMemRead tag => Sys2Proof.Machine.execTokenMemRead tag s
  | .tokenMemWrite tag => Sys2Proof.Machine.execTokenMemWrite tag s
  | .tokenEnrol tag => Sys2Proof.Machine.execTokenEnrol tag s
  | .tokenRevoke tag => Sys2Proof.Machine.execTokenRevoke tag s
  | .learnBegin tag => Sys2Proof.Machine.execLearnBegin tag s
  | .learnAdd tag => Sys2Proof.Machine.execLearnAdd tag s
  | .learnCommit tag => Sys2Proof.Machine.execLearnCommit tag s
  | .keyUpdateStage tag => Sys2Proof.Machine.execKeyUpdateStage tag s
  | .keyUpdatePrepare tag => Sys2Proof.Machine.execKeyUpdatePrepare tag s
  | .keyUpdateCommit tag => Sys2Proof.Machine.execKeyUpdateCommit tag s
  | .keyUpdateDiscard tag => Sys2Proof.Machine.execKeyUpdateDiscard tag s
  | .keyGenerate tag => Sys2Proof.Machine.execKeyGenerate tag s
  | .keyDerive tag => Sys2Proof.Machine.execKeyDerive tag s
  | .attestIdentity tag => Sys2Proof.Machine.execAttestIdentity tag s
  | .attestKey tag => Sys2Proof.Machine.execAttestKey tag s
  | .sha256 tag => Sys2Proof.Machine.execSha256 tag s
  | .hmacGen tag => Sys2Proof.Machine.execHmacGen tag s
  | .hmacVer tag => Sys2Proof.Machine.execHmacVer tag s
  | .cmacGen tag => Sys2Proof.Machine.execCmacGen tag s
  | .cmacVer tag => Sys2Proof.Machine.execCmacVer tag s
  | .cbcEnc tag => Sys2Proof.Machine.execCbcEnc tag s
  | .cbcDec tag => Sys2Proof.Machine.execCbcDec tag s
  | .ctrEnc tag => Sys2Proof.Machine.execCtrEnc tag s
  | .ctrDec tag => Sys2Proof.Machine.execCtrDec tag s
  | .gcmEnc tag => Sys2Proof.Machine.execGcmEnc tag s
  | .gcmDec tag => Sys2Proof.Machine.execGcmDec tag s
  | .hkdf tag => Sys2Proof.Machine.execHkdf tag s
  | .ecdsaSign tag => Sys2Proof.Machine.execEcdsaSign tag s
  | .ecdsaVerify tag => Sys2Proof.Machine.execEcdsaVerify tag s
  | .ecdhDerive tag => Sys2Proof.Machine.execEcdhDerive tag s
  | .keyWrap tag => Sys2Proof.Machine.execKeyWrap tag s
  | .keyUnwrap tag => Sys2Proof.Machine.execKeyUnwrap tag s
  | .random tag => Sys2Proof.Machine.execRandom tag s
  | .atlasQuery tag nand => Sys2Proof.Machine.execAtlasQuery tag nand s
  | .atlasLoad tag => Sys2Proof.Machine.execAtlasLoad tag s
  | .atlasCommit tag nand => Sys2Proof.Machine.execAtlasCommit tag nand s
  | .atlasInfo tag => Sys2Proof.Machine.execAtlasInfo tag s
  | .nodePair tag => Sys2Proof.Machine.execNodePair tag s
  | .nodeUnpair tag => Sys2Proof.Machine.execNodeUnpair tag s
  | .nodeGrant tag => Sys2Proof.Machine.execNodeGrant tag s
  | .nodeRevokeGrant tag => Sys2Proof.Machine.execNodeRevokeGrant tag s
  | .nodeMsg tag => Sys2Proof.Machine.execNodeMsg tag s
  | .nodeScanStatus tag => Sys2Proof.Machine.execNodeScanStatus tag s
  | .nodeScanDiscover tag => Sys2Proof.Machine.execNodeScanDiscover tag s
  | .nodeScanUplinks tag => Sys2Proof.Machine.execNodeScanUplinks tag s
  | .nvRead tag errors => Sys2Proof.Machine.execNvRead tag errors s
  | .nvWrite tag => Sys2Proof.Machine.execNvWrite tag s
  | .nvRecordAppend tag => Sys2Proof.Machine.execNvRecordAppend tag s
  | .nvRecordRead tag errors => Sys2Proof.Machine.execNvRecordRead tag errors s
  | .nvCounterInc tag => Sys2Proof.Machine.execNvCounterInc tag s
  | .mediaRead tag nand => Sys2Proof.Machine.execMediaRead tag nand s
  | .mediaWrite tag => Sys2Proof.Machine.execMediaWrite tag s
  | .mediaDiscard tag => Sys2Proof.Machine.execMediaDiscard tag s
  | .mediaSecureDiscard tag => Sys2Proof.Machine.execMediaSecureDiscard tag s
  | .mediaHealth tag => Sys2Proof.Machine.execMediaHealth tag s
  | .mediaFlush tag => Sys2Proof.Machine.execMediaFlush tag s
  | .scriptLoad tag => Sys2Proof.Machine.execScriptLoad tag s
  | .scriptRun tag => Sys2Proof.Machine.execScriptRun tag s
  | .scriptStop tag => Sys2Proof.Machine.execScriptStop tag s
  | .pwrreqSelect dom => Sys2Proof.Machine.execPwrreqSelect dom s
  | .powerOn dom => Sys2Proof.Machine.execPowerOn dom s
  | .powerOff dom => Sys2Proof.Machine.execPowerOff dom s
  | .clkGate dom => Sys2Proof.Machine.execClkGate dom s
  | .clkUngate dom => Sys2Proof.Machine.execClkUngate dom s
  | .warmRst irqEn => Sys2Proof.Machine.execWarmRst irqEn s
  | .fnrst mask => Sys2Proof.Machine.execFnrst mask s
  | .sqPortWrite w => Sys2Proof.Machine.execSqPortWrite w s
  | .doorbell => Sys2Proof.Machine.execDoorbell s
  | .stagingDiscard => Sys2Proof.Machine.execStagingDiscard s
  | .cqPortRead haMoved => Sys2Proof.Machine.execCqPortRead s haMoved
  | .pop => Sys2Proof.Machine.execPop s
  | .rewind => Sys2Proof.Machine.execRewind s
  | .claim line haMoved => Sys2Proof.Machine.execClaim line s haMoved
  | .evcDataWrite w => Sys2Proof.Machine.execEvcDataWrite w s
  | .setDataWrite w => Sys2Proof.Machine.execSetDataWrite w s
  | .setDataRead haMoved => Sys2Proof.Machine.execSetDataRead s haMoved
  | .tmrGo mask => Sys2Proof.Machine.execTmrGo mask s
  | .tmrHalt mask => Sys2Proof.Machine.execTmrHalt mask s
  | .tbSnapshot => Sys2Proof.Machine.execTbSnapshot s
  | .locknow => Sys2Proof.Machine.execLocknow s
  | .jrnlHeadCapture sel => Sys2Proof.Machine.execJrnlHeadCapture sel s
  | .wdtKick code => Sys2Proof.Machine.execWdtKick code s
  | .relock allow => Sys2Proof.Machine.execRelock allow s
  | .registerWrite offset w haMoved => Sys2Proof.Machine.execRegisterWrite offset w s haMoved
  | .unlockAttempt signature => Sys2Proof.Machine.execUnlockAttempt signature s
  | .debugHalt seq => Sys2Proof.Machine.execDebugHalt seq s
  | .breakpoint seq => Sys2Proof.Machine.execBreakpoint seq s
  | .singleStep seq => Sys2Proof.Machine.execSingleStep seq s
  | .coldPowerUp refsel lfsrc balls dies healthy => Sys2Proof.Machine.execColdPowerUp refsel lfsrc balls dies healthy s
  | .warmReset cause balls => Sys2Proof.Machine.execWarmReset cause balls s
  | .holdupTrip vhold => Sys2Proof.Machine.execHoldupTrip s vhold
  | .hardLoss dom => Sys2Proof.Machine.execHardLoss dom s
  | .vsupLow feed => Sys2Proof.Machine.execVsupLow s feed
  | .vlfLow mv => Sys2Proof.Machine.execVlfLow mv s
  | .vbatKsLow mv => Sys2Proof.Machine.execVbatKsLow mv s
  | .vholdLow mv => Sys2Proof.Machine.execVholdLow mv s
  | .tamperTrip sensor readings level t => Sys2Proof.Machine.execTamperTrip sensor s readings level t
  | .harmChange level t => Sys2Proof.Machine.execHarmChange level t s
  | .engineRunChange level t => Sys2Proof.Machine.execEngineRunChange level t s
  | .doorChange n level t => Sys2Proof.Machine.execDoorChange n level t s
  | .wakeInputChange n level t => Sys2Proof.Machine.execWakeInputChange n level t s
  | .gpioChange n level t => Sys2Proof.Machine.execGpioChange n level t s
  | .gptCompareMatch n => Sys2Proof.Machine.execGptCompareMatch n s
  | .watcherLatch entry => Sys2Proof.Machine.execWatcherLatch entry s
  | .tempDerate sensor reading => Sys2Proof.Machine.execTempDerate sensor reading s
  | .aerialFault n bit => Sys2Proof.Machine.execAerialFault n bit s
  | .relayFault diag => Sys2Proof.Machine.execRelayFault diag s
  | .uhfJam path code held => Sys2Proof.Machine.execUhfJam path code s held
  | .uhfUnlock path => Sys2Proof.Machine.execUhfUnlock path s
  | .uhfRfFault path => Sys2Proof.Machine.execUhfRfFault path s
  | .uwbUnlock => Sys2Proof.Machine.execUwbUnlock s
  | .uwbJam => Sys2Proof.Machine.execUwbJam s
  | .uwbRfFault => Sys2Proof.Machine.execUwbRfFault s
  | .trunkFault trunk => Sys2Proof.Machine.execTrunkFault trunk s
  | .dieLost d => Sys2Proof.Machine.execDieLost d s
  | .uhfFrame rx => Sys2Proof.Machine.execUhfFrame rx s
  | .pollReply rx => Sys2Proof.Machine.execPollReply rx s
  | .locateReport rx => Sys2Proof.Machine.execLocateReport rx s
  | .authM2 rx => Sys2Proof.Machine.execAuthM2 rx s
  | .memData rx => Sys2Proof.Machine.execMemData rx s
  | .rangeReady rx => Sys2Proof.Machine.execRangeReady rx s
  | .tpM2 turn depth bytes => Sys2Proof.Machine.execTpM2 turn depth bytes s
  | .response rx => Sys2Proof.Machine.execResponse rx s
  | .report rx => Sys2Proof.Machine.execReport rx s
  | .listenWindowClose => Sys2Proof.Machine.execListenWindowClose s
  | .uwbWindowClose => Sys2Proof.Machine.execUwbWindowClose s
  | .ack rx => Sys2Proof.Machine.execAck rx s
  | .pairReply rx => Sys2Proof.Machine.execPairReply rx s
  | .msgUp rx => Sys2Proof.Machine.execMsgUp rx s
  | .uplink rx => Sys2Proof.Machine.execUplink rx s
  | .idle rx => Sys2Proof.Machine.execIdle rx s
  | .anchorReport rx => Sys2Proof.Machine.execAnchorReport rx s
  | .replyWindowClose trunk => Sys2Proof.Machine.execReplyWindowClose trunk s
  | .kwewinCycle => Sys2Proof.Machine.execKwewinCycle s
  | .evidenceExpiry index => Sys2Proof.Machine.execEvidenceExpiry index s
  | .sessionTimeout num => Sys2Proof.Machine.execSessionTimeout num s
  | .grantExpiry addr => Sys2Proof.Machine.execGrantExpiry addr s
  | .relayHoldClose => Sys2Proof.Machine.execRelayHoldClose s
  | .deferralWindowClose dom => Sys2Proof.Machine.execDeferralWindowClose dom s
  | .holdRelease holder dom => Sys2Proof.Machine.execHoldRelease holder dom s
  | .drainEnd dom => Sys2Proof.Machine.execDrainEnd dom s
  | .deadlineClose tag => Sys2Proof.Machine.execDeadlineClose tag s
  | .learnWindowClose => Sys2Proof.Machine.execLearnWindowClose s
  | .watchdogExpiry => Sys2Proof.Machine.execWatchdogExpiry s
  | .entropyWindowClose => Sys2Proof.Machine.execEntropyWindowClose s
  | .starvationClose unit => Sys2Proof.Machine.execStarvationClose unit s
  | .loopPinExpiry n => Sys2Proof.Machine.execLoopPinExpiry n s
  | .waitevTimeout seq => Sys2Proof.Machine.execWaitevTimeout seq s
  | .waittEnd seq => Sys2Proof.Machine.execWaittEnd seq s
  | .ratioWindowClose => Sys2Proof.Machine.execRatioWindowClose s
  | .spreadChange => Sys2Proof.Machine.execSpreadChange s
  | .bellowsPoll noise => Sys2Proof.Machine.execBellowsPoll noise s
  | .stageChange => Sys2Proof.Machine.execStageChange s
  | .dozeEntry => Sys2Proof.Machine.execDozeEntry s
  | .dozeExit => Sys2Proof.Machine.execDozeExit s
  | .parkEntry => Sys2Proof.Machine.execParkEntry s
  | .deepEntry => Sys2Proof.Machine.execDeepEntry s
  | .shelfEntry => Sys2Proof.Machine.execShelfEntry s
  | .wakePark => Sys2Proof.Machine.execWakePark s
  | .wakeDeep => Sys2Proof.Machine.execWakeDeep s
  | .functionResetEnd n => Sys2Proof.Machine.execFunctionResetEnd n s
  | .completionPayloadEnter => Sys2Proof.Machine.execCompletionPayloadEnter s
  | .drbgReady => Sys2Proof.Machine.execDrbgReady s
  | .blockAccepted samples => Sys2Proof.Machine.execBlockAccepted s samples
  | .healthTestFail samples => Sys2Proof.Machine.execHealthTestFail s samples
  | .reseed => Sys2Proof.Machine.execReseed s
  | .remask => Sys2Proof.Machine.execRemask s
  | .journalFlush => Sys2Proof.Machine.execJournalFlush s
  | .chainHeadWrite => Sys2Proof.Machine.execChainHeadWrite s
  | .nvPageWriteEnd => Sys2Proof.Machine.execNvPageWriteEnd s
  | .scrubPass => Sys2Proof.Machine.execScrubPass s
  | .scrubAtom errors => Sys2Proof.Machine.execScrubAtom errors s
  | .trimAtom n below at_ above => Sys2Proof.Machine.execTrimAtom n below at_ above s
  | .uwbRetune => Sys2Proof.Machine.execUwbRetune s
  | .offStateTest hsOk lsOk => Sys2Proof.Machine.execOffStateTest hsOk lsOk s
  | .paritySweep => Sys2Proof.Machine.execParitySweep s
  | .sensorSweep items => Sys2Proof.Machine.execSensorSweep items s
  | .squelchMeasure path code => Sys2Proof.Machine.execSquelchMeasure path code s
  | .fold => Sys2Proof.Machine.execFold s
  | .garbageCollection => Sys2Proof.Machine.execGarbageCollection s
  | .demotion => Sys2Proof.Machine.execDemotion s
  | .refresh die => Sys2Proof.Machine.execRefresh die s
  | .protectionRewrite die => Sys2Proof.Machine.execProtectionRewrite die s
  | .sampleRead nand => Sys2Proof.Machine.execSampleRead nand s
  | .holdupTest vhold droop => Sys2Proof.Machine.execHoldupTest vhold droop s
  | .telemetryRecord => Sys2Proof.Machine.execTelemetryRecord s
  | .rebuildDone => Sys2Proof.Machine.execRebuildDone s
  | .mediaReady => Sys2Proof.Machine.execMediaReady s
  | .atlasReload nand => Sys2Proof.Machine.execAtlasReload nand s
  | .scriptRestore seq nand => Sys2Proof.Machine.execScriptRestore seq nand s
  | .hammerEntry seq => Sys2Proof.Machine.execHammerEntry seq s
  | .add seq => Sys2Proof.Machine.execAdd seq s
  | .sub seq => Sys2Proof.Machine.execSub seq s
  | .and seq => Sys2Proof.Machine.execAnd seq s
  | .or seq => Sys2Proof.Machine.execOr seq s
  | .xor seq => Sys2Proof.Machine.execXor seq s
  | .shl seq => Sys2Proof.Machine.execShl seq s
  | .shr seq => Sys2Proof.Machine.execShr seq s
  | .sar seq => Sys2Proof.Machine.execSar seq s
  | .mul seq => Sys2Proof.Machine.execMul seq s
  | .mov seq => Sys2Proof.Machine.execMov seq s
  | .cmp seq => Sys2Proof.Machine.execCmp seq s
  | .tst seq => Sys2Proof.Machine.execTst seq s
  | .not seq => Sys2Proof.Machine.execNot seq s
  | .load seq => Sys2Proof.Machine.execLoad seq s
  | .store seq => Sys2Proof.Machine.execStore seq s
  | .branch seq => Sys2Proof.Machine.execBranch seq s
  | .call seq => Sys2Proof.Machine.execCall seq s
  | .ret seq => Sys2Proof.Machine.execRet seq s
  | .jr seq => Sys2Proof.Machine.execJr seq s
  | .waitev seq => Sys2Proof.Machine.execWaitev seq s
  | .waitt seq => Sys2Proof.Machine.execWaitt seq s
  | .lftx seq => Sys2Proof.Machine.execLftx seq s
  | .uhfrx seq rx => Sys2Proof.Machine.execUhfrx seq rx s
  | .uwbrange seq ready resp rep => Sys2Proof.Machine.execUwbrange seq ready resp rep s
  | .aesn seq => Sys2Proof.Machine.execAesn seq s
  | .cmacn seq => Sys2Proof.Machine.execCmacn seq s
  | .unitHkdf seq => Sys2Proof.Machine.execUnitHkdf seq s
  | .ecmul seq => Sys2Proof.Machine.execEcmul seq s
  | .ecdsa seq => Sys2Proof.Machine.execEcdsa seq s
  | .atlasq seq nand => Sys2Proof.Machine.execAtlasq seq nand s
  | .copy seq => Sys2Proof.Machine.execCopy seq s
  | .crc seq => Sys2Proof.Machine.execCrc seq s
  | .halt seq => Sys2Proof.Machine.execHalt seq s
  | .reti seq => Sys2Proof.Machine.execReti seq s
  | .ien seq => Sys2Proof.Machine.execIen seq s
  | .signal seq => Sys2Proof.Machine.execSignal seq s
  | .tbread seq => Sys2Proof.Machine.execTbread seq s
  | .setr seq => Sys2Proof.Machine.execSetr seq s
  | .setw seq => Sys2Proof.Machine.execSetw seq s
  | .draw seq => Sys2Proof.Machine.execDraw seq s
  | .getsrc seq => Sys2Proof.Machine.execGetsrc seq s
  | .sysNop seq => Sys2Proof.Machine.execSysNop seq s
  | .completionPresented tag => Sys2Proof.Machine.execCompletionPresented tag s
  | .emissionEnd peaks load => Sys2Proof.Machine.execEmissionEnd peaks load s
  | .turnaroundWindowClose => Sys2Proof.Machine.execTurnaroundWindowClose s
  | .vsupLowClear feed => Sys2Proof.Machine.execVsupLowClear s feed
  | .vlfLimit mv => Sys2Proof.Machine.execVlfLimit mv s
  | .tempDerateClear => Sys2Proof.Machine.execTempDerateClear s
  | .bridgeOvertempClear bank => Sys2Proof.Machine.execBridgeOvertempClear bank s
  | .vholdCollapse => Sys2Proof.Machine.execVholdCollapse s
  | .hrstNRise => Sys2Proof.Machine.execHrstNRise s
  | .synthesiserRelock unit => Sys2Proof.Machine.execSynthesiserRelock unit s
  | .debugMemoryWrite seq space addr bytes => Sys2Proof.Machine.execDebugMemoryWrite seq space addr bytes s

end Sys2Proof.Machine
end

