-- ==== Sys2Proof/Safety.lean ====
section
/-!
DEFINITION. The terms the claims use: what it is for a command of the block to answer, for a rung command to be admitted and to have
ended, what the purely computing commands may touch, and the invariant of the settings store.
-/

namespace Sys2Proof.Machine

/-- `exec` answers a next state in which `P` holds, with the queue as it was. -/
def Answers (i : Instr) (s : State) (P : Dev → Prop) : Prop :=
  ∃ t, exec i s = .next t ∧ t.pending = s.pending ∧ P t.toDev

/-- The rung command with a tag may start now and passes every check of R126: `c` is its entry in the command table. -/
def Dev.canRun (op tag : Nat) (c : Cmd) (d : Dev) : Bool :=
  d.cmd tag == some c && c.op == op && d.ready c && !c.malformed && !d.poisoned c && !d.late c &&
  (d.check c (d.recordClass c)).isNone && (!c.random || d.anvil.ready)

/-- The result with which the work of a rung command has ended, where it has (R109). -/
def Dev.ended (tag : Nat) (d : Dev) : Option Result :=
  match d.cmd tag with
  | some c => match c.phase with | .done r => some r | _ => none
  | none => none

/-- The work in progress of a rung command. -/
def Dev.working (tag : Nat) (d : Dev) : Option Work :=
  match d.cmd tag with
  | some c => match c.phase with | .running w => some w | _ => none
  | none => none

/-- The rung command was turned into a host error (R13). -/
def Dev.isLost (tag : Nat) (d : Dev) : Bool := (d.cmd tag).any (fun c => c.phase == .lost)

/-- A result of a status and a payload, with no other effect. -/
def Result.gives (st : Status) (ws : List Word) : Result := ⟨st, ws, .none, none, []⟩

/-- Nothing but the command table, the secure holds and the deferral of owed atoms differs. -/
def OnlyCommands (s t : Dev) : Prop :=
  t = { s with cmds := t.cmds, pwr := { s.pwr with holds := t.pwr.holds }, bg := { s.bg with due := t.bg.due } }

/-- Nothing differs but the commands in flight and what every event may touch: time, the power state, the event controller, the journal
and its EEPROM pages, and the background atoms. `EventsOnly { s with lf := t.lf } t` lets the LF unit differ too. -/
def EventsOnly (s t : Dev) : Prop :=
  t = { s with cmds := t.cmds, clock := t.clock, pwr := t.pwr, evc := t.evc, jrnl := t.jrnl, nv := t.nv, bg := t.bg }

/-- The host port takes an access in RUN, and its record goes into the general space of the journal's buffer (R61, R144). -/
def Dev.hostUp (d : Dev) : Bool :=
  d.pwr.dev == .run && !d.start.waitHrst && d.clock.rootOn && !d.jrnl.hold && (d.jrnl.buf.length < 900 : Bool)

/-- The device once a host access in RUN has begun: the idle time towards DOZE starts again (R61). -/
def Dev.accessed (d : Dev) : Dev := { d with pwr := { d.pwr with busyAt := d.clock.tb } }

/-- Class, subject, old value, new value and cause of the newest buffered journal record (R137). -/
def Dev.lastRecord (d : Dev) : Option (Nat × Nat × Nat × Nat × Nat) :=
  d.jrnl.buf.getLast?.map (fun r => (r.cls, r.subject, r.old, r.new, r.auxCause))

/-- An event of source `n` has been accepted: it took the next ESN, and exactly the targets its EN bits name have it pending, with its
stamp where it was not pending already (R49, R52, R155). Of the event controller, at most the conditions of kind L sources differ
besides. -/
def Raised (n : Nat) (s t : Dev) : Prop :=
  t.clock.evEsn = s.clock.esn ∧ t.clock.esn = s.clock.esn + 1 ∧
  t.evc = { s.evc with
    cond := t.evc.cond, lastEsn := s.evc.lastEsn.set n s.clock.esn,
    pendH := pend (bit 4 (s.srcCfg n)) n t.clock.evTb s.evc.pendH,
    pendA := pend (bit 5 (s.srcCfg n)) n t.clock.evTb s.evc.pendA,
    pendB := pend (bit 6 (s.srcCfg n)) n t.clock.evTb s.evc.pendB }

/-- The same of an event that comes beside another one, whose own ESN and stamp stand (R575). -/
def RaisedBeside (n : Nat) (s t : Dev) : Prop :=
  t.clock.evEsn = s.clock.evEsn ∧ t.clock.evTb = s.clock.evTb ∧ t.clock.esn = s.clock.esn + 1 ∧
  t.evc = { s.evc with
    cond := t.evc.cond, lastEsn := s.evc.lastEsn.set n s.clock.esn,
    pendH := pend (bit 4 (s.srcCfg n)) n t.clock.tb s.evc.pendH,
    pendA := pend (bit 5 (s.srcCfg n)) n t.clock.tb s.evc.pendA,
    pendB := pend (bit 6 (s.srcCfg n)) n t.clock.tb s.evc.pendB }

/-- A node frame that passes R440 but for its keys: the controller runs, `r` is the open reply window of the frame's trunk and names its
address, and type, length and CRC hold. -/
def Dev.nodeFits (type : Nat) (rx : NodeRx) (r : Reply) (d : Dev) : Bool :=
  let b := rx.bytes
  let n := (b.getD 2 0).toNat
  d.kwRuns && d.kw.replies.find? (fun v => v.trunk == rx.trunk) == some r && (b.getD 0 0).toNat == r.addr &&
  (b.getD 1 0).toNat == type && nodeExpects r.sent type && nodeLenOk type n && b.length == 12 + n &&
  beNat (b.drop (10 + n)) == crcBits (nodeFrameBits r.addr type (beNat (slice 3 3 b)) (slice 6 n b) (slice (6 + n) 4 b))

/-- The payload of a node frame. -/
def nodePay (rx : NodeRx) : Bytes := slice 6 (rx.bytes.getD 2 0).toNat rx.bytes

/-- A node frame from a synchronised node that R440 and R441 accept, with the full counter it stands for. -/
def Dev.nodeTakes (type : Nat) (rx : NodeRx) (r : Reply) (full : Nat) (d : Dev) : Bool :=
  let n := d.node r.addr
  d.nodeFits type rx r && r.addr != 0 && n.synced && fullCounter n.cn (beNat (slice 3 3 rx.bytes)) == some full &&
  nodeMac n.kn 0x4E r.addr type full (nodePay rx) == slice (6 + (rx.bytes.getD 2 0).toNat) 4 rx.bytes &&
  !(type == 0xD && beNat (slice 3 3 rx.bytes) == 0)

/-- The state an accepted node frame leaves before it serves what it answers: the counter stored, the node heard, the window closed. -/
def Dev.nodeTaken (rx : NodeRx) (r : Reply) (full : Nat) (d : Dev) : Dev :=
  (d.setNode r.addr { d.node r.addr with misses := 0, silent := false, cn := full }).presentOn 4 |>.closeReply rx.trunk

/-- The device under the settings that the command holds whose window a transmission meets (R132); a script goes on under the present
ones. -/
def Dev.hearsUnder (rx : UhfRx) (d : Dev) : Dev :=
  match (((d.windowOn rx 0).orElse (fun _ => d.windowOn rx 1)).bind Listen.tag).bind d.cmd with
  | some c => if c.op = 0x91 then d else { d with sets := c.setsAmong d.sets }
  | none => d

/-- What the tests of R223 leave of the device, and the frame where it passes them. -/
def Dev.hears (rx : UhfRx) (d : Dev) : Dev × Option Heard :=
  let r := (d.hearsUnder rx).receive rx
  ({ r.1 with sets := d.sets }, r.2)

/-- A sequencer stands at a legal instruction of a class and operation, within its code and at no breakpoint (R406, R409, R429). -/
def Dev.atWord (q cls op : Nat) (d : Dev) : Bool :=
  let s := d.seqr q
  q < 2 && d.scriptRuns q && !s.breakpoints.contains s.pc && s.pc + s.fetch.len ≤ s.codeLen && s.fetch.legal &&
  s.fetch.cls == cls && s.fetch.op == op

/-- An instruction completed: registers as `f` leaves them, PC at the next one, PROG 0 and no wait. -/
def Dev.advanced (q : Nat) (h : HWord) (f : Seqr → Seqr) (d : Dev) : Dev :=
  d.onSeq q (fun u => { f u with pc := u.pc + h.len, prog := 0, wait := none })

/-- W[D] takes a number, and the instruction is complete. -/
def Dev.answers (q : Nat) (h : HWord) (v : Nat) (d : Dev) : Dev := d.advanced q h (fun u => u.setReg h.d (BitVec.ofNat 32 v))

/-- A script ended with a cause of R426 and its SCRIPT_RUN with a status and payload (R405, R425): registers, frames and claims are
zeroised, and nothing but the sequencers' state, the sources active on them and the command differs. -/
def ScriptEnded (q cause : Nat) (st : Status) (ws : List Word) (s t : Dev) : Prop :=
  (t.seqr q).endCause = cause ∧ (t.seqr q).endPc = (s.seqr q).pc ∧ (t.seqr q).running = none ∧ (t.seqr q).flags = 0 ∧
  (t.seqr q).w = List.replicate 16 0 ∧ (t.seqr q).frames = [] ∧ (t.seqr q).claimed = 0 ∧ (t.seqr q).ob = List.replicate 1024 0 ∧
  (∀ tag, (s.seqr q).running = some tag → (s.cmd tag).isSome = true → t.ended tag = some (.gives st ws)) ∧
  t = { s with ham := t.ham, cmds := t.cmds, evc := { s.evc with actA := t.evc.actA, actB := t.evc.actB } }

/-- What R407 says of an ALU operation on operands `a` and `x`: its result `r`, carry `c` and overflow `v`. -/
def AluSays (op : Nat) (a x r : BitVec 32) (c v : Bool) : Prop :=
  let n := x.toNat % 32
  match op with
  | 0 => r.toNat = (a.toNat + x.toNat) % 2 ^ 32 ∧ (c = true ↔ 2 ^ 32 ≤ a.toNat + x.toNat) ∧ (v = true ↔ r.toInt ≠ a.toInt + x.toInt)
  | 1 | 10 => (r.toNat + x.toNat) % 2 ^ 32 = a.toNat ∧ (c = true ↔ x.toNat ≤ a.toNat) ∧ (v = true ↔ r.toInt ≠ a.toInt - x.toInt)
  | 2 | 11 => (∀ i, r.getLsbD i = (a.getLsbD i && x.getLsbD i)) ∧ c = false ∧ v = false
  | 3 => (∀ i, r.getLsbD i = (a.getLsbD i || x.getLsbD i)) ∧ c = false ∧ v = false
  | 4 => (∀ i, r.getLsbD i = (a.getLsbD i != x.getLsbD i)) ∧ c = false ∧ v = false
  | 5 => r.toNat = a.toNat * 2 ^ n % 2 ^ 32 ∧ (c = true ↔ n ≠ 0 ∧ a.toNat / 2 ^ (32 - n) % 2 = 1) ∧ v = false
  | 6 => r.toNat = a.toNat / 2 ^ n ∧ (c = true ↔ n ≠ 0 ∧ a.toNat / 2 ^ (n - 1) % 2 = 1) ∧ v = false
  | 7 => r.toInt = a.toInt / (2 ^ n : Nat) ∧ (c = true ↔ n ≠ 0 ∧ a.toNat / 2 ^ (n - 1) % 2 = 1) ∧ v = false
  | 8 => r.toNat = a.toNat * x.toNat % 2 ^ 32 ∧ c = false ∧ v = false
  | 9 => r = x ∧ c = false ∧ v = false
  | _ => r.toNat + x.toNat = 2 ^ 32 - 1 ∧ c = false ∧ v = false

/-- A unit operation at PC has its parameter block in reach, its domains on with their clocks running and open to its holds, and its
functions free (R72, R413). -/
def Dev.unitReady (q op n : Nat) (doms fns : List Nat) (d : Dev) : Bool :=
  let s := d.seqr q
  let a := s.num s.fetch.a
  d.atWord q 6 op && a % 4 == 0 && s.inData a (4 * n) && doms.all (fun k => d.dom k == .on && !(s.secure && d.newHoldBarred k)) &&
  fns.all (fun f => d.occupants f == 0 && !bit f d.host.fnBusy)

/-- Word `i` of the `n`-word parameter block of the unit operation at PC. -/
def Dev.param (q n i : Nat) (d : Dev) : Nat :=
  leNat (slice (4 * i) 4 (d.dataRead q ((d.seqr q).num (d.seqr q).fetch.a) (4 * n)))

/-- A range of the data space that a script may write. -/
def Seqr.writable (u : Seqr) (a n : Nat) : Bool := u.inData a n && !((0x10000 ≤ a && a < 0x10400 : Bool))

/-- The state after a key operand's use has been counted (R328, R413). -/
def Dev.keyTaken (n : Option Nat) (d : Dev) : Dev :=
  match n with
  | some i => (d.useKey none i).2
  | none => d

/-- The settings store is in its canonical form (R130): addresses rising, no entry at its default. -/
def SettingsCanonical (s : State) : Prop := cellsWf settingDefault s.sets = true

end Sys2Proof.Machine
end

