-- ==== Sys2Proof/Certificates/Slice0/Obligations.lean ====
section
/-!
DEFINITION. The statements for the provers. Every statement that a command answers gives, as its conclusion, the next state of the
command's own effect.
-/

open Sys2Proof Sys2Proof.Machine

/-- A step runs the command in front on the queue's rest, and every command answers a next state. Log entries that it rests on, which are
the model's own readings or choices: 4, 83. -/
def Obligations.StepRunsFrontAndAnswers : Prop :=
  -- A step runs the command at the front of the queue on the state with the queue's rest.
   (∀ (c : Instr) (cs : List Instr) (s : State), s.pending = c :: cs → step s = exec c { s with pending := cs }) ∧
  -- Every command answers a next state, whatever the state, and leaves the queue as it was: none faults and none is refused.
   (∀ (i : Instr) (s : State), ∃ t, exec i s = .next t ∧ t.pending = s.pending)

/-- What State.reset holds, and that its settings store is canonical. Log entries that it rests on, which are the model's own readings or
choices: 5, 6. -/
def Obligations.ResetState : Prop :=
  -- What reset leaves (R38, R52, and the reset values of the field tables): TB, ρ and ESN 0, no command waiting or in flight, every
  -- setting at its default, no journal record, no session, the relay locked.
   (State.reset.pending = [] ∧ State.reset.cmds = [] ∧ State.reset.store = [] ∧ State.reset.clock.tb = 0 ∧ State.reset.clock.rho = 0 ∧
    State.reset.clock.esn = 0 ∧ State.reset.clock.unc = 0 ∧ (∀ a, State.reset.setting a = settingDefault a) ∧
    State.reset.jrnl.buf = [] ∧ State.reset.rel.relay = .locked ∧ State.reset.sessionCount = 0 ∧
    State.reset.host.ready = false ∧ State.reset.cru.provisioned = false ∧ State.reset.kw.nodes = []) ∧
  -- The settings store is in its canonical form at reset.
   (SettingsCanonical State.reset)

/-- Every step keeps the settings store in its canonical form: rising addresses, and no entry at the setting's default. Log entries that it
rests on, which are the model's own readings or choices: 43. -/
def Obligations.StepKeepsSettingsCanonical : Prop :=
  ∀ s t : State, SettingsCanonical s → step s = .next t → SettingsCanonical t

/-- An empty step is one spread FABRIC edge (the model's choice), and a wait reaches its stamp on such an edge. Log entries that it rests
on, which are the model's own readings or choices: 1, 9. -/
def Obligations.TimeAdvances : Prop :=
  -- On an empty queue, with ROOT running and no flush under way, TB takes its next spread FABRIC edge (R36): the clean time 512·TB
  -- + ρ grows by 512 and the rotation steps of the period, at most 8, and ρ stays below 512. That an empty queue is one edge is the
  -- model's choice (log entry 1).
   (∀ s : State, s.pending = [] → s.med.state ≠ .flushing → s.pwr.dev ≠ .shelf → s.clock.rootOn = true → s.clock.rho < 512 →
      s.clock.pos < 4000 → s.clock.depth ≤ 20 →
      ∃ t k, step s = .next t ∧ t.pending = [] ∧ k ≤ 8 ∧ t.clock.tb = s.clock.tb + 1 + (s.clock.rho + k) / 512 ∧
        t.clock.rho = (s.clock.rho + k) % 512 ∧ t.clock.esn = s.clock.esn ∧ t.sets = s.sets ∧ t.jrnl = s.jrnl ∧ t.cmds = s.cmds) ∧
  -- Time advanced to a stamp under a running ROOT reaches it, never goes back, and lands on a spread FABRIC edge of the period's
  -- depth (R51, R36).
   (∀ (t : Nat) (d : Dev), d.clock.rootOn = true → d.clock.pos < 4000 →
      t ≤ (d.wait t).clock.tb ∧ d.clock.tb ≤ (d.wait t).clock.tb ∧ (d.wait t).clock.pos < 4000 ∧
      (d.clock.tb < t → (d.wait t).clock.rho < 512) ∧ { d.wait t with clock := d.clock } = d)

/-- NOP, SLEEP_ENTER, SELFTEST and TELEMETRY_READ. Log entries that it rests on, which are the model's own readings or choices: 8, 82, 101,
128. -/
def Obligations.SystemCommands : Prop :=
  -- NOP returns a copy of its payload (R122), and changes nothing but the command table; SLEEP_ENTER completes STATE_CONFLICT while
  -- something stands against it, and otherwise DONE with its target asked for (R64).
   (∀ (tag : Nat) (c : Cmd) (s : State),
      (s.canRun 0x00 tag c = true → c.zeroFrom 6 = true →
        Answers (.nop tag) s fun t => t.ended tag = some (.gives .done c.payload) ∧ OnlyCommands s.toDev t) ∧
      (s.canRun 0x01 tag c = true → 1 ≤ c.w 6 → c.w 6 ≤ 4 → c.w 7 ≤ 1 → c.zeroFrom 8 = true →
        Answers (.sleepEnter tag) s fun t =>
          OnlyCommands s.toDev t ∧
          t.ended tag = some (if (s.markStart c).sleepConflict tag (c.w 6) then .gives .stateConflict []
            else ⟨.done, [], .sleep (c.w 6) (c.w 7 == 1), none, []⟩))) ∧
  -- SELFTEST (R123): PASS, FAIL and SKIP of the functions named, DONE when FAIL is 0 and HW_FAULT otherwise, with the payload in
  -- both cases; a failed function sets DEGRADED; settings and aerials stay.
   (∀ (tag failing : Nat) (c : Cmd) (s : State), s.canRun 0x02 tag c = true → c.w 6 < 2 ^ 14 → c.zeroFrom 7 = true →
      Answers (.selftest tag failing) s fun t =>
        ∃ p q k : Word,
          t.ended tag = some (.gives (if q = 0 then .done else .hwFault) [p, q, k]) ∧
          (∀ f, f < 14 → bit f p.toNat = (bit f (c.w 6) && !s.fnOff f && !bit f failing) ∧
            bit f q.toNat = (bit f (c.w 6) && !s.fnOff f && bit f failing) ∧ bit f k.toNat = (bit f (c.w 6) && s.fnOff f)) ∧
          t.host.degraded = (s.host.degraded || q != 0) ∧ t.sets = s.sets ∧ t.lf = s.lf ∧ t.clock = s.clock ∧ t.jrnl = s.jrnl) ∧
  -- TELEMETRY_READ (R124): one word an item, and reserved items 0.
   (∀ (tag : Nat) (items : List Word) (c : Cmd) (s : State), s.canRun 0x03 tag c = true → 1 ≤ c.w 7 → c.w 6 + c.w 7 ≤ 32 →
      c.zeroFrom 8 = true → s.lf.aerials.length = 8 →
      Answers (.telemetryRead tag items) s fun t =>
        ∃ ws : List Word, t.ended tag = some (.gives .done ws) ∧ ws.length = c.w 7 ∧ OnlyCommands s.toDev t ∧
          ∀ i, i < c.w 7 → ws.getD i 0 =
            (let n := c.w 6 + i
             if n < 8 then items.getD n 0 else if n < 16 then word (s.aerial (n - 8)).ipeak
             else if n = 16 then items.getD 8 0 else if n = 17 then word (min 65535 s.pwr.wakes) else 0))

/-- LOG_READ and LOG_VERIFY. Log entries that it rests on, which are the model's own readings or choices: 8, 36. -/
def Obligations.LogCommands : Prop :=
  -- LOG_READ (R145): with COUNT 0 the numbers of the records kept; else the records asked for, when they are kept and the media
  -- gives them back.
   (∀ (tag : Nat) (nand : NandRead) (c : Cmd) (s : State), s.canRun 0x08 tag c = true → c.w 9 ≤ 21 → c.zeroFrom 10 = true →
      s.med.ready = true →
      (c.w 9 = 0 → Answers (.logRead tag nand) s fun t =>
        t.ended tag = some (.gives .done (leWords 3 s.oldest ++ leWords 3 s.jrnl.nextNumber ++ leWords 2 v2Capacity)) ∧
        OnlyCommands s.toDev t) ∧
      (1 ≤ c.w 9 → s.oldest ≤ c.w3 6 → c.w3 6 < s.jrnl.nextNumber → nand = ⟨0, nand.bits, false, false⟩ →
        Answers (.logRead tag nand) s fun t =>
          t.ended tag = some (.gives .done
            (((s.records.filter (fun r => c.w3 6 ≤ r.number)).take (c.w 9)).flatMap (fun r => bytesToWords r.all))) ∧
          OnlyCommands s.toDev t)) ∧
  -- LOG_VERIFY (R146): over one record whose tag is the chain's, DONE with its number and its tag; over one whose tag is zero,
  -- AUTH_FAIL with its number and reason 3.
   (∀ (tag : Nat) (nand : NandRead) (c : Cmd) (s : State) (r : Record), s.canRun 0x09 tag c = true → c.w2 9 = 1 →
      c.zeroFrom 11 = true → s.med.ready = true → s.cru.provisioned = true → s.oldest ≤ c.w3 6 → c.w3 6 + 1 ≤ s.jrnl.nextNumber →
      s.records.filter (fun x => c.w3 6 ≤ x.number) = r :: (s.records.filter (fun x => c.w3 6 ≤ x.number)).tail →
      r.number = c.w3 6 → s.outside r.number = false → nand = ⟨0, nand.bits, false, false⟩ →
      (r.tag = zeroTag → Answers (.logVerify tag nand) s fun t =>
        t.ended tag = some (.gives .authFail (leWords 3 r.number ++ [3, 0, 0, 0, 0])) ∧ OnlyCommands s.toDev t) ∧
      (r.tag ≠ zeroTag → s.chainTag r (s.predecessor r) = r.tag →
        (∀ p, s.records.find? (fun x => x.number + 1 == c.w3 6) = some p → inOrder p r = true) →
        Answers (.logVerify tag nand) s fun t =>
          t.ended tag = some (.gives .done (leWords 3 (c.w3 6) ++ bytesToWords (s.tagOf (c.w3 6)) ++ [0])) ∧ OnlyCommands s.toDev t))

/-- The commands of the LF field unit. Log entries that it rests on, which are the model's own readings or choices: 8, 47, 48, 92. -/
def Obligations.LfCommands : Prop :=
  -- POLL_CONFIG stores its mask, rates and drive codes; POLL_START completes STATE_CONFLICT with no wake ID or no aerial
  -- configured, and else DONE; POLL_STOP with no emission under way stops polling (R206).
   (∀ (tag : Nat) (c : Cmd) (s : State), c.zeroFrom 6 = true →
      (s.canRun 0x10 tag c = true → pollConfigOk c.payload = true →
        Answers (.pollConfig tag) s fun t => t.ended tag = some (.gives .done []) ∧
          t.lf = { s.lf with
            config := some ⟨(c.payload.getD 0 0).toNat, bit 0 (c.payload.getD 1 0).toNat, bit 1 (c.payload.getD 1 0).toNat,
              (c.payload.drop 2).map (·.toNat)⟩,
            rotate := 7 } ∧
          OnlyCommands { s.toDev with lf := t.lf } t) ∧
      (s.canRun 0x11 tag c = true → c.plen = 0 →
        Answers (.pollStart tag) s fun t => OnlyCommands s.toDev t ∧
          t.ended tag = some (if s.cru.wakeId = 0 ∨ s.lf.config.any (fun x => x.mask != 0) = false then .gives .stateConflict []
            else ⟨.done, [], .poll true, none, []⟩)) ∧
      (s.canRun 0x12 tag c = true → s.lf.emission = none →
        Answers (.pollStop tag) s fun t => t.ended tag = some (.gives .done []) ∧ t.lf.polling = false ∧
          (∀ w ∈ t.uhf.windows, w.tag.isSome = true) ∧ t.lf.aerials = s.lf.aerials ∧ t.lf.config = s.lf.config ∧
          OnlyCommands { s.toDev with lf := t.lf, uhf := t.uhf } t)) ∧
  -- LF_WAKE_LOCATE and LF_TELEGRAM with an aerial left put their telegram on the air from the aerials left (R197, R199), with the
  -- wake ID, the code, the data and the CRC-8 of R193 over them; with none left they complete without emitting, HW_FAULT where a
  -- fault leaves none and STATE_CONFLICT otherwise.
   (∀ (tag : Nat) (c : Cmd) (s : State), s.lf.emission = none →
      (s.canRun 0x13 tag c = true → c.w 6 < 256 → (c.w 7 = 0 ∨ (32 ≤ c.w 7 ∧ c.w 7 ≤ 128 ∧ c.w 7 % 8 = 0)) → c.w 8 ≤ 2 →
        c.zeroFrom 11 = true →
        Answers (.lfWakeLocate tag) s fun t =>
          let want := s.maskOf (c.w 6)
          let mask := s.usable want
          if mask = 0 then t.ended tag = some (.gives (s.noAerial want) []) ∧ OnlyCommands s.toDev t
          else
            let slot := if c.w 7 = 0 then s.setting 0x020006 else c.w 7
            t.working tag = some (.locate 0 mask slot (c.w2 9) []) ∧
            t.lf.emission.map (fun e => e.2) = some (.command tag, mask) ∧
            t.lf.air = s.telegram 2 (beBytes 4 (c.w2 9) ++ [byte mask, byte (slot / 8)]) ∧
            EventsOnly { s.toDev with lf := t.lf } t) ∧
      (s.canRun 0x14 tag c = true → c.w 7 ≤ 2 → 0x40 ≤ c.w 8 → c.w 8 ≤ 0x50 → c.w 6 < 256 → c.plen = (c.w 8 - 0x40 + 1) / 2 →
        c.zeroFrom 9 = true →
        Answers (.lfTelegram tag) s fun t =>
          let mask := s.usable (c.w 6)
          if mask = 0 then t.ended tag = some (.gives (s.noAerial (c.w 6)) []) ∧ OnlyCommands s.toDev t
          else
            t.working tag = some .telegram ∧ t.lf.emission.map (fun e => e.2) = some (.command tag, mask) ∧
            t.lf.air = s.telegram (c.w 8) (c.bytes.take (c.w 8 - 0x40)) ∧ EventsOnly { s.toDev with lf := t.lf } t)) ∧
  -- AERIAL_CAL (R211): with no aerial on a powered bank among those named it completes STATE_CONFLICT; else it answers sixteen
  -- words, two for each aerial and 0 for those not named, DONE, or HW_FAULT where an aerial swept has a latched fault; an aerial not
  -- named changes only where an OVERTEMP found shuts its bank.
   (∀ (tag : Nat) (peaks : List (List Nat)) (faults : List Nat) (c : Cmd) (s : State), s.canRun 0x15 tag c = true → c.w 6 < 256 →
      c.w 7 ≤ 1 → c.zeroFrom 8 = true → s.lf.emission = none → s.lf.aerials.length = 8 →
      Answers (.aerialCal tag peaks faults) s fun t =>
        let named := (List.range 8).filter (fun n => bit n (c.w 6) && s.domOn (aerialBank n))
        if named = [] then t.ended tag = some (.gives .stateConflict []) ∧ OnlyCommands s.toDev t
        else
          ∃ ws, t.ended tag = some (.gives (if named.any (fun n => (t.aerial n).diag != 0) then .hwFault else .done) ws) ∧
            ws.length = 16 ∧ (∀ n, n < 8 → n ∉ named → ws.getD (2 * n) 0 = 0 ∧ ws.getD (2 * n + 1) 0 = 0 ∧
              ((∀ m ∈ named, m / 4 = n / 4 → bit 3 (faults.getD m 0) = false) → t.aerial n = s.aerial n)) ∧
            EventsOnly { s.toDev with lf := t.lf } t)

/-- The end of an emission, polling and its stages. Log entries that it rests on, which are the model's own readings or choices: 8, 47, 49,
81. -/
def Obligations.EmissionsAndPolls : Prop :=
  -- EMISSION_END (R188, R190, R196, R199, R226, R227): the emission is over at its stamp; the aerials it used show the currents
  -- measured, OPEN latched where the peak of an emission of at least 32 T_c stays below 25 % of the target applied, and no other
  -- aerial changes; a poll opens the listen windows of reply slots 0 and 1; an LF_TELEGRAM completes DONE at that stamp; an
  -- LF_WAKE_LOCATE goes on to its locate phase and then listens, in slots 0 and 1 for any token and in slot 0 for a named one; with
  -- no usable path it has ended HW_FAULT.
   (∀ (peaks : List Nat) (load : Bool) (e mask : Nat) (k : Emission) (s : State), s.lf.emission = some (e, k, mask) →
      s.lf.aerials.length = 8 → s.hostUp = true → s.clock.pos < 4000 →
      s.cmds.find? (fun c => c.op == 0x16 && c.executing) = none →
      Answers (.emissionEnd peaks load) s fun t =>
        let shut := fun n => 32 ≤ s.lf.airLen ∧ s.evc.cond.getD 63 false = false ∧
          4 * peaks.getD n 0 < icodePeak (s.lf.airIcodes.getD n 0)
        e ≤ t.clock.tb ∧
        (∀ n, n < 8 → t.aerial n =
          if bit n mask && (n < peaks.length : Bool) then
            { s.aerial n with ipeak := peaks.getD n 0, diag := if shut n then (s.aerial n).diag ||| 1 else (s.aerial n).diag }
          else s.aerial n) ∧
        (k = .poll → t.lf.emission = none ∧
          t.uhf.windows = s.uhf.windows ++ [t.listenAt none t.now 0 [1] 0, t.listenAt none t.now 0 [1] 1] ∧
          EventsOnly { s.toDev with lf := t.lf, uhf := { s.uhf with windows := t.uhf.windows } } t) ∧
        (∀ c, k = .command c.tag → s.cmd c.tag = some c → c.op = 0x14 → c.phase = .running .telegram → c.window = none →
          s.gateStops c = false → s.writesLeft c.tag = false → s.lf.standbyDue = 0 →
          t.lf.emission = none ∧ t.cmd c.tag = none ∧
          t.store = s.store ++ [⟨c.tag, 0x14, 0, t.clock.evEsn.toNat, t.clock.evTb % 2 ^ 48, []⟩] ∧ t.sets = s.sets ∧ t.rel = s.rel) ∧
        (∀ c m slot target seen, k = .command c.tag → s.cmd c.tag = some c → c.phase = .running (.locate 0 m slot target seen) →
          t.working c.tag = some (.locate 1 m slot target []) ∧ t.lf.emission.map (fun e => e.2) = some (.command c.tag, m) ∧
          EventsOnly { s.toDev with lf := t.lf } t) ∧
        (∀ c m slot target seen, k = .command c.tag → s.cmd c.tag = some c → c.phase = .running (.locate 1 m slot target seen) →
          let u : Dev := if c.op = 0x91 then s.toDev else { s.toDev with sets := c.setsAmong s.sets }
          t.uhf.windows = s.uhf.windows ++ (if u.anyPath then (if target = 0xFFFFFFFF then [0, 1] else [0]).map
            (u.listenAt (some c.tag) t.now 24 [2]) else []) ∧
          (u.anyPath = true →
            t.working c.tag = some (.locate 2 m slot target ((List.range 8).map (fun n => if bit n m then peaks.getD n 0 else 0)))) ∧
          (u.anyPath = false → t.ended c.tag = some (.gives .hwFault [])) ∧
          EventsOnly { s.toDev with lf := t.lf, uhf := { s.uhf with windows := t.uhf.windows } } t)) ∧
  -- BELLOWS_POLL (R201, R206): a poll that is due and that nothing skips sends telegram 1 on the aerials of the poll, counts it,
  -- and puts the next one due a period later. STAGE_CHANGE (R202, R203) begins the next stage, with at least its period, and stage
  -- 7 is DEEP with no emission and no window.
   (∀ (noise : Nat) (x : PollConfig) (s : State),
      (s.hostUp = true → s.lf.polling = true → s.lf.config = some x → (s.pollAerials x.rotate).1 ≠ 0 → s.occupants 0 = 0 →
        bit 0 s.host.fnBusy = false → s.lf.emission = none → s.domOn 4 = true → s.domGated 4 = false →
        Answers (.bellowsPoll noise) s fun t =>
          t.lf.air = s.telegram 1 [] ∧ t.lf.emission.map (fun e => e.2) = some (.poll, (s.pollAerials x.rotate).1) ∧
          t.lf.airStart = t.clock.tb ∧ t.lf.airCarriers = s.telegramLen (if x.fast then 16 else 32) 0 ∧
          t.lf.pollCount = (s.lf.pollCount + 1) % 2 ^ 32 ∧ t.lf.due = s.lf.due + s.pollPeriod ∧
          t.lf.rotate = (s.pollAerials x.rotate).2 ∧ t.lf.noisy = decide (s.setting 0x020010 < noise) ∧
          t.lf.aerials = s.lf.aerials ∧ t.lf.stage = s.lf.stage ∧ EventsOnly { s.toDev with lf := t.lf } t) ∧
      (s.pwr.dev = .park → s.bellows = true → s.bg.loops.length = 13 →
        Answers .stageChange s fun t => t.lf.stage = s.lf.stage + 1 ∧ t.lf.aerials = s.lf.aerials ∧ t.lf.config = s.lf.config ∧
          (s.lf.stage ≠ 6 → t.pwr.dev = .park ∧ EventsOnly { s.toDev with lf := t.lf } t ∧
            (t.loop 0).est = if (s.loop 0).pinned then (s.loop 0).est else max (s.loop 0).est (s.stagePeriod (s.lf.stage + 1))) ∧
          (s.lf.stage = 6 → t.pwr.dev = .deep ∧ t.lf.emission = none ∧
            EventsOnly { s.toDev with lf := t.lf, uhf := { s.uhf with windows := [] } } t)))

/-- The aerials' faults and supply (R190, R209, R210): AERIAL_FAULT latches SHORT faults with BRIDGE_OFF and presents source 48 + n;
OVERTEMP latches on the whole bank, and BRIDGE_OVERTEMP_CLEAR takes it off; VLF_LIMIT is source 63 below `LF.VLF_MIN`; TRIM_ATOM moves the
trim's estimate one step towards the higher peak. Log entries that it rests on, which are the model's own readings or choices: 47, 48. -/
def Obligations.AerialEvents : Prop :=
  ∀ (n b bank mv below at_ above : Nat) (s : State), s.lf.aerials.length = 8 → s.bg.loops.length = 13 → s.evc.cond.length = 160 →
    s.hostUp = true →
    (n < 7 → (b = 1 ∨ b = 2) → bit b (s.aerial n).diag = false → s.aerialShut 7 = false → Answers (.aerialFault n b) s fun t =>
      t.aerial n = { s.aerial n with diag := (s.aerial n).diag ||| 2 ^ b ||| 16 } ∧ (∀ m, m ≠ n → t.aerial m = s.aerial m) ∧
      Raised (48 + n) s.toDev t ∧ EventsOnly { s.toDev with lf := { s.lf with aerials := t.lf.aerials } } t) ∧
    (n < 8 → s.aerialShut 7 = false → Answers (.aerialFault n 3) s fun t => (∀ i, i < 4 → bit 3 (t.aerial (n / 4 * 4 + i)).diag = true) ∧
      (∀ m, m / 4 ≠ n / 4 → t.aerial m = s.aerial m) ∧ EventsOnly { s.toDev with lf := { s.lf with aerials := t.lf.aerials } } t) ∧
    (∀ c w, (b = 1 ∨ b = 2) → s.cmds.find? (fun c => c.op == 0x16 && c.executing) = some c → s.cmd c.tag = some c →
      c.phase = .running w → Answers (.aerialFault 7 b) s fun t => t.ended c.tag = some (.gives .hwFault []) ∧ t.rel = s.rel ∧ t.sets = s.sets) ∧
    Answers (.bridgeOvertempClear bank) s (fun t => t = { s.toDev with lf := { s.lf with aerials := t.lf.aerials } } ∧
      ∀ m, m < 8 → t.aerial m = if m / 4 = bank % 2 then
        { s.aerial m with diag := ((s.aerial m).diag &&& 7) ||| (if (s.aerial m).diag &&& 6 = 0 then 0 else 16) } else s.aerial m) ∧
    (s.evc.cond.getD 63 false = false → mv < s.setting 0x020021 → Answers (.vlfLimit mv) s fun t => Raised 63 s.toDev t ∧
      t.evc.cond = s.evc.cond.set 63 true ∧
      t.bg = { s.bg with vlfLimit := true } ∧ EventsOnly s.toDev t) ∧
    (s.setting 0x020021 ≤ mv → Answers (.vlfLimit mv) s fun t => t = { s.toDev with
      evc := { s.evc with cond := s.evc.cond.set 63 false }, bg := { s.bg with vlfLimit := false } }) ∧
    (n < 8 → s.aerialOk n = true → s.trimDue n = true → (s.loop (n + 1)).pinned = false → s.lf.emission = none → s.domOn 4 = true →
      bit 0 s.host.fnBusy = false → s.atomBusy 0x02 = false → Answers (.trimAtom n below at_ above) s fun t =>
      (t.loop (n + 1)).est =
        (if at_ < above ∧ below ≤ above then s.trim n + 1 else if at_ < below then s.trim n - 1 else s.trim n) ∧
      (∀ m, m ≠ n + 1 → (t.loop m).est = (s.loop m).est) ∧ (∀ m, m ≠ n → t.aerial m = s.aerial m) ∧
      (t.aerial n).diag = (s.aerial n).diag ∧ EventsOnly { s.toDev with lf := { s.lf with
        aerials := t.lf.aerials, airIcodes := t.lf.airIcodes, airShapes := t.lf.airShapes, airRamp := t.lf.airRamp } } t)

/-- TRANSPONDER_READ and what its exchange comes to. Log entries that it rests on, which are the model's own readings or choices: 53, 81. -/
def Obligations.BackupTransponder : Prop :=
  -- TRANSPONDER_READ on A7 (R232, R233): STATE_CONFLICT with A7 disabled or its bank off, HW_FAULT with a latched fault, and else
  -- the charge phase of 625 carrier periods begins.
   (∀ (tag : Nat) (c : Cmd) (s : State), s.canRun 0x16 tag c = true → c.w 6 < 256 → c.w 7 ≤ 30 → c.zeroFrom 10 = true →
      s.lf.emission = none →
      Answers (.transponderRead tag) s fun t =>
        if s.aerialEn 7 = false ∨ s.domOn 3 = false then t.ended tag = some (.gives .stateConflict []) ∧ t.lf = s.lf
        else if s.aerialShut 7 = true then t.ended tag = some (.gives .hwFault []) ∧ t.lf = s.lf
        else
          (∃ x, t.working tag = some (.transponder x) ∧ x.stage = 0 ∧ x.expect = c.w2 8) ∧
          t.lf.emission.map (fun e => e.2) = some (.command tag, 0x80) ∧ t.lf.airCarriers = 625 ∧
          EventsOnly { s.toDev with lf := t.lf, anvil := t.anvil } t) ∧
  -- The backup transponder (R232, R233): TP_M2 in its window, from the token of a slot and with its MAC under KT, goes on to TP_M3;
  -- a damaged frame or one too shallow ends NO_RESPONSE, and an unknown token or a wrong MAC AUTH_FAIL; the window's close ends
  -- NO_RESPONSE.
   (∀ (turn depth : Nat) (bytes : Bytes) (c : Cmd) (x : TpRun) (s : State), s.tpRun = some (c, x) → s.cmd c.tag = some c → x.stage = 2 →
      (16 ≤ turn * s.lf.airFtw / 2 ^ 27 → turn * s.lf.airFtw / 2 ^ 27 < 20 → Answers (.tpM2 turn depth bytes) s fun t =>
        let m := bytes.take 20
        let id := beNat (m.take 4)
        EventsOnly { s.toDev with lf := t.lf, uhf := t.uhf, uwb := t.uwb, kw := t.kw, ham := t.ham } t ∧
        if bytes.length ≠ 21 ∨ crc 8 0x1D 0xFF m ≠ (bytes.getD 20 0).toNat ∨ depth < x.minDepth then
          t.ended c.tag = some (.gives .noResponse [])
        else ∀ k, s.slotOfToken id = k →
          match k with
          | none => t.ended c.tag = some (.gives .authFail [])
          | some k =>
            if (x.expect ≠ 0xFFFFFFFF ∧ x.expect ≠ id) ∨ authMac (s.tpKey k) x.nb (slice 4 8 m) id ≠ slice 12 8 m then
              t.ended c.tag = some (.gives .authFail [])
            else t.working c.tag = some (.transponder { x with stage := 3, slot := k, token := id, depth := depth, turn := turn }) ∧
              t.lf.emission.map (fun e => e.2) = some (.command c.tag, 0x80)) ∧
      Answers .turnaroundWindowClose s (fun t => t.ended c.tag = some (.gives .noResponse []) ∧
        t = { s.toDev with clock := t.clock, cmds := t.cmds }))

/-- RANGE_BOUND and UWB_CONFIG. Log entries that it rests on, which are the model's own readings or choices: 51, 92, 120. -/
def Obligations.RangingCommands : Prop :=
  -- RANGE_BOUND (R241, R250): STATE_CONFLICT with no current authenticated token or with x used up, HW_FAULT with the unit unlocked
  -- or faulted; else RANGE_ARM goes out with x, and the exchange's bound is the smaller of the one asked for and `UWB.TOF_MAX`.
   (∀ (tag : Nat) (c : Cmd) (s : State), s.canRun 0x20 tag c = true → c.w 6 < 256 → (c.w 7 = 0 ∨ c.w 7 = 5 ∨ c.w 7 = 9) →
      c.zeroFrom 9 = true → s.lf.emission = none →
      Answers (.rangeBound tag) s fun t =>
        match s.tok.session with
        | none => t.ended tag = some (.gives .stateConflict []) ∧ OnlyCommands s.toDev t
        | some x =>
          if 65535 < s.nextX then t.ended tag = some (.gives .stateConflict []) ∧ OnlyCommands s.toDev t
          else if s.uwbBad = true then t.ended tag = some (.gives .hwFault []) ∧ OnlyCommands s.toDev t
          else if s.usable (s.maskOf (c.w 6)) = 0 then
            t.ended tag = some (.gives (s.noAerial (s.maskOf (c.w 6))) []) ∧ OnlyCommands s.toDev t
          else
            ∃ r, t.working tag = some (.range r) ∧ r.stage = 0 ∧ r.x = s.nextX ∧ r.slot = x.slot ∧ r.token = x.token ∧
              r.bound = (if c.w 8 = 0 then s.setting 0x040003 else min (c.w 8) (s.setting 0x040003)) ∧
              r.pollDly = s.setting 0x040010 ∧ r.stsMin = s.setting 0x040004 ∧ r.fpTol = s.setting 0x040005 ∧
              r.earlyWin = s.setting 0x040006 ∧ r.earlyMax = s.setting 0x040007 ∧ r.cfoMax = s.setting 0x040008 ∧
              t.lf.emission.map (fun e => e.2) = some (.command tag, s.usable (s.maskOf (c.w 6))) ∧ t.uwb.x = s.uwb.x ∧
              EventsOnly { s.toDev with lf := t.lf, uwb := t.uwb } t) ∧
  -- UWB_CONFIG stores its sixteen calibration words in the unit and in EEPROM (R254).
   (∀ (tag : Nat) (c : Cmd) (s : State), s.canRun 0x21 tag c = true → c.zeroFrom 6 = true → c.plen = 16 →
      (∀ w ∈ c.payload.drop 10, w = 0) →
      Answers (.uwbConfig tag) s fun t => t.ended tag = some (.gives .done []) ∧ t.uwb = { s.uwb with cal := c.payload } ∧
        t.nv.uwbCal = c.payload ∧ t.nv.queue = s.nv.queue ++ devWrites (some tag) [80, 79] ∧
        EventsOnly { s.toDev with uwb := t.uwb } t ∧ t.clock = s.clock ∧ t.jrnl = s.jrnl)

/-- UWB (R244, R246, R250, R256): RESPONSE in its window fixes FINAL Db later; a valid REPORT ends the exchange by R250, DONE with its
evidence, BOUND_EXCEEDED or STS_REJECT, and `UWB.LAST_CAUSE` says which; the close of the window awaited ends it NO_RESPONSE; UWB_UNLOCK,
UWB_JAM in a receive window, UWB_CAL_DONE of a retune and UWB_RF_FAULT are sources 64–67, and the first and the last end an exchange
HW_FAULT. Log entries that it rests on, which are the model's own readings or choices: 51, 52, 106, 107, 120. -/
def Obligations.UwbEvents : Prop :=
  ∀ (rx : UwbRx) (s : State),
    (∀ c x, s.rangeRun = some (c, x) → s.cmd c.tag = some c →
      (∀ y, x.stage = 2 → takeResponse rx x = some y → (s.toStamp x y.resp).closedBy c.tag (x.clean y.fin / 512) = false →
        Answers (.response rx) s fun t => t.working c.tag = some (.range y) ∧
          y.stage = 3 ∧ y.fin = stamp40 (y.resp + usRu x.db) ∧ y.poll = x.poll ∧ t.uwb.x = (s.toStamp x y.resp).nextX ∧
          t = { s.toDev with clock := t.clock, cmds := t.cmds, uwb := t.uwb }) ∧
      (∀ m, x.stage = 3 → s.openReport rx x = some m → Answers (.report rx) s fun t =>
        t = { s.toDev with clock := t.clock, cmds := t.cmds, uwb := t.uwb } ∧ t.uwb.lastCause = x.cause m ∧ t.uwb.x = s.uwb.x ∧
        t.ended c.tag = some (
          if x.cause m = 0 then ⟨.done, rangeWords x m (x.elevation rx), .evidence (rangeEvidence x m (x.elevation rx)),
            some 22, []⟩
          else .gives (if x.cause m = 8 then .boundExceeded else .stsReject) [])) ∧
      ((x.stage = 2 ∨ x.stage = 3) → Answers .uwbWindowClose s fun t => t.ended c.tag = some (.gives .noResponse []) ∧
        t = { s.toDev with clock := t.clock, cmds := t.cmds, uwb := t.uwb }) ∧
      ((x.stage = 2 ∨ x.stage = 3) → s.hostUp = true → s.domOn 7 = true → s.domOn 8 = true →
        Answers .uwbJam s fun t => Raised 65 s.toDev t ∧ EventsOnly s.toDev t ∧ t.cmds = s.cmds)) ∧
    (s.hostUp = true → s.domOn 7 = true → s.domOn 8 = true →
      (bit 2 s.host.fnBusy = false → s.atomBusy 0x04 = false → 80 ≤ (s.uwbTemp - s.uwb.tuneTemp).natAbs →
        Answers .uwbRetune s fun t => Raised 66 s.toDev t ∧ t.cmds = s.cmds ∧
          EventsOnly { s.toDev with uwb := { s.uwb with tuneTemp := s.uwbTemp } } t) ∧
      ∀ r ∈ [(Instr.uwbUnlock, 64, { s.uwb with unlocked := true }), (.uwbRfFault, 67, { s.uwb with faulted := true })],
        Answers r.1 s fun t => Raised r.2.1 s.toDev t ∧ t.uwb.unlocked = r.2.2.unlocked ∧ t.uwb.faulted = r.2.2.faulted ∧
          t.rel = s.rel ∧ t.sets = s.sets ∧
          (s.rangeRun = none → EventsOnly { s.toDev with uwb := r.2.2 } t ∧ t.cmds = s.cmds) ∧
          (∀ c x, s.rangeRun = some (c, x) → s.cmd c.tag = some c → t.ended c.tag = some (.gives .hwFault [])))

/-- Which token frames are accepted, and what each does. Log entries that it rests on, which are the model's own readings or choices: 50,
64, 105, 121. -/
def Obligations.TokenFrames : Prop :=
  -- The acceptance of a token frame (R216, R217, R223, R224): a frame is accepted only where a listening path delivers it, its
  -- coding, length and CRC hold, its CMAC verifies under the wake key of its token, and its sequence value is new; the tests
  -- themselves leave the sequence values and the count of accepted frames alone.
   (∀ (rx : UhfRx) (s d : Dev) (r : Option Heard), s.receive rx = (d, r) →
      d = { s with clock := d.clock, uhf := d.uhf, lf := { s.lf with noisy := d.lf.noisy } } ∧ d.uhf.windows = s.uhf.windows ∧
      d.uhf.seqs = s.uhf.seqs ∧ d.uhf.framesOk = s.uhf.framesOk ∧
      ∀ h, r = some h →
        (s.delivering rx).1 ≠ 0 ∧ h.paths = (s.delivering rx).1 ∧ h.win = (s.delivering rx).2 ∧ frameSound rx = true ∧
        h.f = frameOf rx.bytes ∧ d.uhf.lastId = h.f.id ∧ d.uhf.lastCode = h.f.code + 256 * h.paths ∧
        ∃ key, s.frameKey h.f.id = some (key, h.slot) ∧ s.frameMac key rx.bytes = slice (8 + h.f.body.length) 4 rx.bytes ∧
          s.seqNew h.slot h.f.seq = true) ∧
  -- The rows that receive a token frame (R219, R223, R226): one that fails a test has no further effect; one with no window is
  -- source 68; one awaited is accepted, counted and its sequence value kept, and serves the poll (source 56), the LOCATE, the
  -- TOKEN_AUTH (MAC2 under K, then AUTH_M3 goes out), the memory exchange or the ranging exchange (POLL is scheduled) whose window
  -- it met. `d` is the state the tests of R223 leave.
   (∀ (rx : UhfRx) (d : Dev) (s : State), s.hostUp = true → s.evc.lastEsn.length = 160 →
      (∀ i, (i = .uhfFrame rx ∨ (i = .pollReply rx ∧ frameCode rx.bytes = 1) ∨ (i = .locateReport rx ∧ frameCode rx.bytes = 2) ∨
          (i = .authM2 rx ∧ frameCode rx.bytes = 3) ∨ (i = .memData rx ∧ frameCode rx.bytes = 5) ∨
          (i = .rangeReady rx ∧ frameCode rx.bytes = 6)) →
        (s.hears rx = (d, none) → Answers i s fun t => t = d) ∧
        (∀ h, s.hears rx = (d, some h) → h.win = none → Answers i s fun t => Raised 68 d t ∧ EventsOnly d t)) ∧
      (∀ h f w tag c, s.hears rx = (d, some h) → h.f = f → h.win = some w → w.codes.contains f.code = true →
        let kept := (d.frameAccepted rx h.paths h.slot f).uhf
        (w.tag = none → frameCode rx.bytes = 1 → Answers (.pollReply rx) s fun t =>
          t.evc.lastEsn.getD 56 0 = s.clock.esn + 1 ∧ t.uhf = { kept with windows := kept.windows.filter (fun w => w.tag != none) } ∧
          EventsOnly { d with lf := t.lf, uhf := t.uhf } t) ∧
        (w.tag = some tag → s.cmd tag = some c →
          (∀ st mask slot target peaks, frameCode rx.bytes = 2 → c.phase = .running (.locate st mask slot target peaks) →
            (target = 0xFFFFFFFF ∨ target = f.id) → Answers (.locateReport rx) s fun t =>
            t.ended tag = some ⟨.done, leWords 2 f.id ++ [word (f.seq + 256 * f.flags), word mask] ++ bytesToWords f.body ++
                fit 8 0 (peaks.map word) ++ [0, word slot],
              .evidence ⟨.lf f.body mask, (s.slotOfToken f.id).getD 0, 0, Window.none⟩, some 24, []⟩ ∧
            (∀ v ∈ t.uhf.windows, v.tag ≠ some tag ∨ tag = noTag) ∧ t.uhf.seqs = kept.seqs ∧ t.uhf.framesOk = kept.framesOk ∧
            EventsOnly { d with uhf := t.uhf } t) ∧
          (∀ x, frameCode rx.bytes = 3 → c.phase = .running (.token x) → x.kind = 0 → f.id = x.token → Answers (.authM2 rx) s fun t =>
            EventsOnly { d with lf := t.lf, uhf := t.uhf, uwb := t.uwb, ham := t.ham, kw := t.kw } t ∧
            if authMac (s.slotKey x.slot) x.nb (f.body.take 8) x.token = f.body.drop 8 then
              t.working tag = some (.token { x with nt := f.body.take 8, stage := 2 }) ∧
              t.lf.air = s.telegram 4 (authMac (s.slotKey x.slot) (f.body.take 8) x.nb x.token) ∧
              t.lf.emission.map (fun e => e.2) = some (.command tag, x.mask)
            else t.ended tag = some (.gives .authFail [])) ∧
          (∀ x, frameCode rx.bytes = 5 → c.phase = .running (.token x) → x.kind = 2 → f.id = x.token → f.body.length = 12 →
            (f.body.getD 0 0).toNat = x.page →
            (cmac s.kmm (ascii "MA" ++ idBytes x.token ++ beBytes 4 ((s.tok.session.map TokenSession.mc).getD 0) ++ f.body.take 4)).take 8 =
              f.body.drop 4 → (f.body.getD 1 0).toNat ∈ [0, 1, 2, 4] → Answers (.memData rx) s fun t =>
            t.ended tag = some (.gives (if (f.body.getD 1 0).toNat = 0 then .done else if (f.body.getD 1 0).toNat = 2 then .protected_
              else .stateConflict) []) ∧ EventsOnly { d with lf := t.lf, uhf := t.uhf, uwb := t.uwb, ham := t.ham, kw := t.kw } t) ∧
          (∀ x, frameCode rx.bytes = 6 → c.phase = .running (.range x) → f.id = x.token → Answers (.rangeReady rx) s fun t =>
            (∀ v ∈ t.uhf.windows, v.tag ≠ some tag) ∧ EventsOnly { d with uhf := t.uhf, uwb := t.uwb } t ∧
            if beNat (f.body.take 2) = x.x ∧ f.body.getD 3 0 = 0 then
              let poll := t.clock.ru + usRu x.pollDly
              if t.closedBy tag (poll / 512) = true then t.uwb = s.uwb ∧ t.working tag = some (.range { x with stage := 4 })
              else
                t.uwb.x = s.uwb.x ∧ t.uwb.poll = some (tag, poll / 512, false) ∧
                t.working tag = some (.range { x with stage := 2, accepted := t.now, base := poll, poll := poll % 2 ^ 40 })
            else t.uwb = s.uwb ∧ t.ended tag = some (.gives .stateConflict [])))))

/-- The listen windows and the paths (R226–R228, R533): the window that closes first goes, and where it was a LOCATE's last the command has
ended NO_RESPONSE; UHF_JAM from `UHF.JAM_TIME` on, UHF_UNLOCK and UHF_RF_FAULT are sources 69, 70 and 71, and with no path left every
command that listens has ended HW_FAULT; SQUELCH_MEASURE moves its estimate by 4 codes at most towards the level plus 12. Log entries that
it rests on, which are the model's own readings or choices: 50, 109, 121. -/
def Obligations.UhfEvents : Prop :=
  ∀ (path code held unit : Nat) (s : State), s.hostUp = true → path < 2 → s.bg.loops.length = 13 →
    (∀ i close, leastBy Listen.close 0 s.uhf.windows = some (i, close) → s.clock.pos < 4000 →
      ∀ w tag c st mask slot target peaks, s.uhf.windows[i]? = some w → w.tag = some tag → s.cmd tag = some c →
      c.phase = .running (.locate st mask slot target peaks) → Answers .listenWindowClose s fun t =>
        close ≤ t.clock.tb ∧ t.uhf.windows = s.uhf.windows.eraseIdx i ∧
        t = { s.toDev with clock := t.clock, uhf := t.uhf, cmds := t.cmds } ∧
        if (s.uhf.windows.eraseIdx i).any (fun v => v.tag == some tag) then t.cmds = s.cmds
        else t.ended tag = some (.gives .noResponse [])) ∧
    (s.setting 0x030004 ≤ code → s.setting 0x030005 * 124800 ≤ held → s.uhf.jammed.getD path false = false →
      Answers (.uhfJam path code held) s fun t => Raised 69 s.toDev t ∧
      t.uhf = { s.uhf with jammed := s.uhf.jammed.set path true } ∧
      EventsOnly { s.toDev with uhf := t.uhf, lf := { s.lf with noisy := t.lf.noisy } } t) ∧
    ((code < s.setting 0x030004 ∨ (held < s.setting 0x030005 * 124800 ∧ s.uhf.jammed.getD path false = false)) →
      Answers (.uhfJam path code held) s fun t =>
      t = { s.toDev with uhf := { s.uhf with jammed := s.uhf.jammed.set path false } }) ∧
    (∀ r ∈ [(Instr.uhfUnlock path, 70, s.uhf.unlocked.set path true, s.uhf.faulted),
            (.uhfRfFault path, 71, s.uhf.unlocked, s.uhf.faulted.set path true)],
      Answers r.1 s fun t => Raised r.2.1 s.toDev t ∧ t.uhf.unlocked = r.2.2.1 ∧ t.uhf.faulted = r.2.2.2 ∧
        t.uhf.seqs = s.uhf.seqs ∧ EventsOnly { s.toDev with uhf := t.uhf } t ∧
        (t.anyPath = true → t.cmds = s.cmds ∧ t.uhf.windows = s.uhf.windows) ∧
        (t.anyPath = false → ∀ c ∈ s.cmds, s.uhf.windows.any (fun w => w.tag == some c.tag) = true →
          t.ended c.tag = some (.gives .hwFault []))) ∧
    Answers (.synthesiserRelock unit) s (fun t => t = if unit = 2 then { s.toDev with uwb := { s.uwb with unlocked := false } }
      else { s.toDev with uhf := { s.uhf with unlocked := s.uhf.unlocked.set unit false } }) ∧
    (s.domOn (5 + path) = true → (s.loop (9 + path)).pinned = false → Answers (.squelchMeasure path code) s fun t =>
      (t.loop (9 + path)).est = (if (s.loop (9 + path)).est < code + 12 then min (code + 12) ((s.loop (9 + path)).est + 4)
        else max (code + 12) ((s.loop (9 + path)).est - 4)) ∧
      (∀ m, m ≠ 9 + path → t.loop m = s.loop m) ∧ EventsOnly s.toDev t)

/-- PROX_DECIDE and POLICY_LOAD. Log entries that it rests on, which are the model's own readings or choices: 57. -/
def Obligations.DecisionsAndPolicies : Prop :=
  -- PROX_DECIDE without a policy table completes STATE_CONFLICT; for a named slot that is not enrolled too; for an enrolled slot
  -- with an active atlas it completes DONE with the sixteen words and the decision record of that slot's evaluation (R294–R303).
   (∀ (tag : Nat) (c : Cmd) (s : State) (z n : Nat), s.canRun 0x30 tag c = true → n < 32 → (z < 16 ∨ z = 0xFF) →
      c.w 6 = n + 256 * z → c.zeroFrom 7 = true →
      Answers (.proxDecide tag) s fun t => OnlyCommands s.toDev t ∧
        match s.rel.policy with
        | none => t.ended tag = some (.gives .stateConflict [])
        | some p =>
          if s.enrolled n = false then t.ended tag = some (.gives .stateConflict [])
          else s.atlas.active.isSome = true →
            t.ended tag = some ⟨.done, (s.evaluate p z n).2, .decision (s.evaluate p z n).1, some 2, []⟩) ∧
  -- POLICY_LOAD (R306): a part is staged behind the parts before it; with LAST, an image that passes every check completes DONE
  -- with the new table as its effect and its pages to be written, and one that fails completes IMAGE_INVALID and leaves the table.
   (∀ (tag : Nat) (c : Cmd) (s : State), s.canRun 0x35 tag c = true → c.w 6 < 1088 → c.w 7 ≤ 1 → c.zeroFrom 8 = true →
      (c.w 6 = 0 ∨ c.w 6 = s.rel.policyStage.length) →
      Answers (.policyLoad tag) s fun t =>
        let ws := (if c.w 6 = 0 then [] else s.rel.policyStage) ++ c.payload
        t.rel.policy = s.rel.policy ∧ t.rel.relay = s.rel.relay ∧ EventsOnly { s.toDev with rel := t.rel, cru := t.cru } t ∧
          (s.keyBad 1 = false → t.cru = s.cru) ∧
        (if c.w 7 = 0 then t.ended tag = some (.gives .done []) ∧ t.rel.policyStage = ws
         else if s.keyBad 1 = true then t.ended tag = some (.gives .slotBad []) ∧ t.rel.policyStage = []
         else if s.policyOk ws = true then t.ended tag = some ⟨.done, [], .policy ws, none, []⟩ ∧ t.rel.policyStage = []
         else t.ended tag = some (.gives .imageInvalid []) ∧ t.rel.policyStage = []))

/-- START_RELEASE: its checks, its switch-on and its hold. Log entries that it rests on, which are the model's own readings or choices: 10,
55, 56, 92. -/
def Obligations.StartReleases : Prop :=
  -- START_RELEASE (R307): without HARM it completes STATE_CONFLICT, with no governing ALLOW for zone 0 POLICY_DENY; with a latched
  -- driver fault HW_FAULT; and with the relay energised and the coil current in range DONE, naming the decision it rests on.
   (∀ (tag coil : Nat) (c : Cmd) (s : State), s.canRun 0x31 tag c = true → c.zeroFrom 6 = true →
      (s.harm = false → Answers (.startRelease tag coil) s fun t => t.ended tag = some (.gives .stateConflict []) ∧ OnlyCommands s.toDev t) ∧
      (s.harm = true → s.governing 0 = [] → Answers (.startRelease tag coil) s fun t =>
        t.ended tag = some (.gives .policyDeny []) ∧ OnlyCommands s.toDev t) ∧
      (∀ i x l, s.harm = true → s.governing 0 = (i, x) :: l → s.rel.diag ≠ 0 → Answers (.startRelease tag coil) s fun t =>
        (t.ended tag).map Result.status = some .hwFault ∧ t.rel = s.rel ∧ OnlyCommands s.toDev t) ∧
      (∀ i x l, s.harm = true → s.governing 0 = (i, x) :: l → s.rel.diag = 0 → s.energised = true →
        s.setting 0x060001 ≤ coil → coil < s.setting 0x060002 → Answers (.startRelease tag coil) s fun t =>
          (t.ended tag).map (fun r => (r.status, r.payload, r.effect)) =
            some (.done, [word i, word x.slot, word coil, word (s.setting 0x060000)], .relay) ∧ OnlyCommands s.toDev t) ∧
      (∀ i x l, s.harm = true → s.governing 0 = (i, x) :: l → s.rel.diag = 0 → s.energised = true →
        (coil < s.setting 0x060001 ∨ s.setting 0x060002 ≤ coil) → Answers (.startRelease tag coil) s fun t =>
          (t.ended tag).map Result.status = some .hwFault ∧ OnlyCommands s.toDev t)) ∧
  -- START_RELEASE with the relay locked closes it, when the settle check finds the coil current in range (R307): RELAY_ON is
  -- presented, and the work ends DONE with the relay closing until the completion.
   (∀ (tag coil i : Nat) (x : Decision) (l : List (Nat × Decision)) (c : Cmd) (s : State), s.canRun 0x31 tag c = true →
      c.zeroFrom 6 = true → s.harm = true → s.governing 0 = (i, x) :: l → s.rel.diag = 0 → s.rel.relay = .locked →
      s.setting 0x060001 ≤ coil → coil < s.setting 0x060002 →
      Answers (.startRelease tag coil) s fun t =>
        (t.ended tag).map (fun r => (r.status, r.payload, r.effect)) =
          some (.done, [word i, word x.slot, word coil, word (s.setting 0x060000)], .relay) ∧
        t.rel = { s.rel with relay := .closing tag } ∧ EventsOnly { s.toDev with rel := t.rel } t)

/-- START_LOCK, the lock's hold on grants, SESSION_OPEN and SESSION_CLOSE. Log entries that it rests on, which are the model's own readings
or choices: 10, 58, 108. -/
def Obligations.LocksAndSessions : Prop :=
  -- START_LOCK locks with cause 3, whether or not the relay was energised, and completes DONE (R310). Its evidence, decisions and
  -- sessions stay.
   (∀ (tag : Nat) (c : Cmd) (s : State), s.canRun 0x32 tag c = true → c.zeroFrom 6 = true →
      Answers (.startLock tag) s fun t => t.ended tag = some (.gives .done []) ∧
        t.rel = { s.rel with relay := .locked, cause := 3 } ∧ t.energised = false ∧ EventsOnly { s.toDev with rel := t.rel, kw := t.kw } t) ∧
  -- A lock ends every grant bound to the relay (R459), in a node table in its canonical form.
   (∀ (origin tag op cause gcause : Nat) (d : Dev), cellsWf (fun _ => Node.empty) d.kw.nodes = true →
      (d.lockRelay origin tag op cause gcause).relayGrants = [] ∧ (d.lockRelay origin tag op cause gcause).energised = false ∧
      (d.lockRelay origin tag op cause gcause).rel.cause = cause) ∧
  -- SESSION_OPEN (R312): POLICY_DENY with no governing ALLOW for the zone, LIMIT_REACHED with 32 sessions open, else DONE with the
  -- lowest free number; SESSION_CLOSE (R314): DONE, and the session is closed.
   (∀ (tag : Nat) (c : Cmd) (s : State),
      (s.canRun 0x33 tag c = true → c.w 6 < 16 → c.w 7 ≤ 3600 → c.zeroFrom 8 = true →
        Answers (.sessionOpen tag) s fun t => OnlyCommands s.toDev t ∧
          match s.governing (c.w 6), s.rel.sessions.findIdx? Option.isNone with
          | [], _ => t.ended tag = some (.gives .policyDeny [])
          | _, none => t.ended tag = some (.gives .limitReached [])
          | (_, x) :: _, some n =>
            (t.ended tag).map (fun r => (r.status, r.payload)) = some (.done, [word n, word x.slot])) ∧
      (s.canRun 0x34 tag c = true → c.w 6 < 32 → c.zeroFrom 7 = true →
        Answers (.sessionClose tag) s fun t => t.ended tag = some (.gives .done []) ∧
          t.rel = { s.rel with sessions := s.rel.sessions.set (c.w 6) none } ∧ EventsOnly { s.toDev with rel := t.rel, kw := t.kw } t))

/-- KEY_GENERATE and KEY_DERIVE. Log entries that it rests on, which are the model's own readings or choices: 3, 59, 119. -/
def Obligations.KeyGenerateAndDerive : Prop :=
  -- KEY_GENERATE (R332): a target below 6 is PROTECTED, a type or use the attributes may not have STATE_CONFLICT, no empty slot
  -- SLOT_EXHAUSTED, a write-protected partition PROTECTED, a failed source ENTROPY_TIMEOUT; else the work ends DONE, the result
  -- names the slot, and its effect is the key, with the attributes asked for and origin GENERATED; until then no slot changes.
   (∀ (tag : Nat) (c : Cmd) (s : State), s.canRun 0x49 tag c = true → s.cru.slots.length = 64 → c.plen = 0 → c.zeroFrom 11 = true →
      (c.w 6 < 64 ∨ c.w 6 = 0xFE ∨ c.w 6 = 0xFF) → attrReserved (c.w3 7 + 2 ^ 48 * c.w 10) = false →
      Answers (.keyGenerate tag) s fun t =>
        let a := c.w3 7 + 2 ^ 48 * c.w 10
        let slot := if c.w 6 = 0xFE then s.lowestEmpty 6 48 else if c.w 6 = 0xFF then s.lowestEmpty 48 64
          else if s.keyEmpty (c.w 6) then some (c.w 6) else none
        EventsOnly { s.toDev with cru := t.cru, anvil := t.anvil, free := t.free } t ∧
        if c.w 6 < 6 then t.ended tag = some (.gives .protected_ []) ∧ t.cru = s.cru
        else if attrType a = 0 ∨ attrType a = 5 ∨ usesOk a = false then t.ended tag = some (.gives .stateConflict []) ∧ t.cru = s.cru
        else match slot with
          | none => t.ended tag = some (.gives .slotExhausted []) ∧ t.cru = s.cru
          | some n =>
            if n < 48 ∧ s.keysProtected = true then t.ended tag = some (.gives .protected_ []) ∧ t.cru = s.cru
            else if s.anvil.failed = true then t.ended tag = some (.gives .entropyTimeout []) ∧ t.cru = s.cru
            else
              t.cru = s.cru ∧ ∃ m, (t.ended tag).map (fun r => (r.status, r.payload.take 1, r.effect)) = some (.done, [word n],
                .key n (attrOf (attrUse a) (attrType a) 0 false (expireFor n (attrExpire a)) (attrSecure a) (attrLocked a) 0 (attrLimit a)) m)) ∧
  -- KEY_DERIVE (R322, R323, R333) of an empty target slot from a parent that may derive: the work ends DONE with the key as its
  -- effect: the child's material is the branch of the root or of the parent that the label and the attributes name.
   (∀ (tag attr : Nat) (c : Cmd) (s : State), s.canRun 0x4A tag c = true → s.cru.slots.length = 64 → c.w 6 < 64 → 6 ≤ c.w 7 →
      c.w 7 < 64 → attrReserved (c.w3 8 + 2 ^ 48 * c.w 11) = false → 1 ≤ c.w 12 → c.w 12 ≤ 128 → c.plen = (c.w 12 + 1) / 2 →
      c.zeroFrom 13 = true → s.keyBad (c.w 6) = false → attrType (s.key (c.w 6)).attr ≠ 0 → bit 6 (attrUse (s.key (c.w 6)).attr) = true →
      (attrSecure (s.key (c.w 6)).attr = false ∨ c.w 6 = 0) →
      childAttr (c.w 6) (s.key (c.w 6)).attr (c.w 7) (c.w3 8 + 2 ^ 48 * c.w 11) = some attr → s.keyEmpty (c.w 7) = true →
      (48 ≤ c.w 7 ∨ s.keysProtected = false) →
      (attrLimit (s.key (c.w 6)).attr = 0 ∨ s.usesOf (c.w 6) < attrLimit (s.key (c.w 6)).attr) →
      Answers (.keyDerive tag) s fun t =>
        (t.ended tag).map (fun r => (r.status, r.payload, r.effect)) =
          some (.done, [], .key (c.w 7) attr (s.childKey (c.w 6) attr (c.bytes.take (c.w 12)))) ∧
        EventsOnly { s.toDev with cru := { s.cru with uses := t.cru.uses } } t) ∧
  -- A DONE result with a key is presented where its page writes have ended and no gate, deadline or payload before it holds it back
  -- (R109, R116): with its entry the slot holds the key, and every other slot stays.
   (∀ (c : Cmd) (n attr : Nat) (m : Bytes) (s : State), s.hostUp = true → s.cmd c.tag = some c → c.op ≠ 0x31 → n < 64 →
      s.cru.slots.length = 64 → c.phase = .done ⟨.done, [], .key n attr m, none, []⟩ → s.writesLeft c.tag = false → s.gateStops c = false →
      c.op ≠ 0x62 → c.window = none → Answers (.completionPresented c.tag) s fun t =>
        (t.key n).attr = attr ∧ (t.key n).material = m ∧ (∀ j, j ≠ n → t.key j = s.key j) ∧ t.cmd c.tag = none ∧
        t.store = s.store ++ [⟨c.tag, c.op, 0, s.clock.esn.toNat, t.clock.evTb % 2 ^ 48, []⟩])

/-- KEY_UPDATE STAGE, DISCARD and PREPARE. Log entries that it rests on, which are the model's own readings or choices: 3, 60. -/
def Obligations.KeyUpdatePreparation : Prop :=
  -- STAGE and DISCARD of KEY_UPDATE (R337): a part in its place is staged behind the parts before it, any other is STATE_CONFLICT
  -- and changes nothing; DISCARD leaves nothing staged or prepared.
   (∀ (tag : Nat) (c : Cmd) (s : State), s.canRun 0x48 tag c = true →
      (c.w 6 = 0 → c.zeroFrom 8 = true → Answers (.keyUpdateStage tag) s fun t =>
        let base := if c.w 7 = 0 then [] else s.cru.stage
        if s.cru.prepared.isSome = true ∨ c.w 7 ≠ base.length ∨ 1024 < base.length + c.plen then
          t.ended tag = some (.gives .stateConflict []) ∧ OnlyCommands s.toDev t
        else
          t.cru = { s.cru with stage := base ++ c.payload, staging := true } ∧
          t.ended tag = some (.gives .done (t.updResult 1 none)) ∧ OnlyCommands { s.toDev with cru := t.cru } t) ∧
      (c.w 6 = 3 → c.zeroFrom 7 = true → c.plen = 0 → Answers (.keyUpdateDiscard tag) s fun t =>
        t.cru = { s.cru with stage := [], staging := false, prepared := none } ∧ OnlyCommands { s.toDev with cru := t.cru } t ∧
        (t.ended tag).map (fun r => (r.status, r.payload, r.drafts.length)) =
          some (.done, t.updResult 0 none, if s.cru.prepared.isSome then 1 else 0))) ∧
  -- PREPARE of a staged KIND 1 message without AUTO (R336, R338), test by test: the signature of the update anchor, the counter,
  -- the message key, the entries, their slots and the write protection; with every test passed the shadows stand prepared and
  -- nothing is staged any more. No key slot changes. SLOT_BAD where K01 or K05, which it uses, has no valid record (R331).
   (∀ (tag : Nat) (c : Cmd) (s : State) (m : Bytes), s.canRun 0x48 tag c = true → c.w 6 = 1 → c.w 7 = 0 → c.zeroFrom 8 = true →
      c.plen = 0 → m = wordsToBytes s.cru.stage → s.cru.tampered = false → s.cru.prepared = none → 128 ≤ m.length →
      m.length = updateLen m → s.updateSound m = true → (m.getD 6 0).toNat = 1 → s.cru.provisioned = true →
      Answers (.keyUpdatePrepare tag) s fun t =>
        let n := (m.getD 7 0).toNat
        let counter := leNat (slice 24 4 m)
        let failed (st : Status) : Prop := t.ended tag = some (.gives st []) ∧ t.cru = { s.cru with stage := [], staging := false }
        t.cru.slots = s.cru.slots ∧ EventsOnly { s.toDev with cru := t.cru } t ∧
        if s.keyBad 1 = true then t.ended tag = some (.gives .slotBad [])
        else if ecdsaVerify (s.key 1).material (sha256 (m.take (144 + 96 * n))) (slice (144 + 96 * n) 64 m) = false then failed .authFail
        else if counter ≤ s.updCounter then failed .counterStale
        else if s.keyBad 5 = true then t.ended tag = some (.gives .slotBad [])
        else match ecdh (s.key 5).material (slice 32 64 m) with
          | none => failed .authFail
          | some z =>
            let kek := hkdf z s.cru.uid (ascii "kum" ++ slice 24 4 m) 32
            let es := entries n (gcmCrypt kek (slice 96 12 m) (slice 128 (96 * n) m))
            let slots := es.map (fun e => (e.getD 0 0).toNat)
            if gcmTag kek (slice 96 12 m) (m.take 128) (slice 128 (96 * n) m) ≠ slice (128 + 96 * n) 16 m then failed .authFail
            else if es.all entryOk = false ∨ distinctSlots slots = false then failed .imageInvalid
            else match s.assign slots slots with
              | none => failed .slotExhausted
              | some ss =>
                if s.keysProtected = true then failed .protected_
                else
                  t.cru = { s.cru with stage := [], staging := false,
                                       prepared := some ⟨1, counter, List.zipWith entryShadow ss es, ss, [], []⟩ } ∧
                  (t.ended tag).map (fun r => (r.status, r.payload, r.effect)) = some (.done, t.updResult 2 t.cru.prepared, .none))

/-- KEY_UPDATE COMMIT and what a commit rolls forward. Log entries that it rests on, which are the model's own readings or choices: 3, 60.
-/
def Obligations.KeyUpdateCommits : Prop :=
  -- COMMIT of a prepared KIND 1 update (R339): the commit record stands with the update's counter and digest, the targets' pages
  -- are to be written, and the roll-forward is the completion's effect; without a prepared update STATE_CONFLICT.
   (∀ (tag : Nat) (c : Cmd) (s : State), s.canRun 0x48 tag c = true → c.w 6 = 2 → c.zeroFrom 7 = true → c.plen = 0 →
      s.cru.tampered = false →
      Answers (.keyUpdateCommit tag) s fun t =>
        match s.cru.prepared with
        | none => t.ended tag = some (.gives .stateConflict []) ∧ OnlyCommands s.toDev t
        | some p => p.kind = 1 →
          t.cru.commit.map (fun x => (x.counter, x.digest)) = some (p.counter, p.digest) ∧ t.cru = { s.cru with commit := t.cru.commit } ∧
          t.nv.queue = s.nv.queue ++ devWrites (some tag) p.pages ∧
          (t.ended tag).map (fun r => (r.status, r.effect)) = some (.done, .commit) ∧ EventsOnly { s.toDev with cru := t.cru } t) ∧
  -- The roll-forward of a committed KIND 1 update (R339): each shadow's slot holds the shadow's key, the update counter is the
  -- commit record's where that is higher, and the record and the prepared update are gone.
   (∀ (write : Bool) (origin tag op : Nat) (d : Dev) (k : Commit) (p : Prepared) (x : Shadow), d.cru.commit = some k →
     d.cru.prepared = some p → p.kind = 1 →
      d.cru.slots.length = 64 → p.shadows = [x] → x.slot < 64 →
      ((d.rollForward write origin tag op).key x.slot).attr = x.attr ∧ ((d.rollForward write origin tag op).key x.slot).material = x.material ∧
      (∀ m, m ≠ x.slot → (d.rollForward write origin tag op).key m = d.key m) ∧
      (d.rollForward write origin tag op).cru.updCnt = max d.cru.updCnt k.counter ∧ (d.rollForward write origin tag op).cru.commit = none ∧
      (d.rollForward write origin tag op).cru.prepared = none ∧ (d.rollForward write origin tag op).cru.tokens = d.cru.tokens)

/-- ATTEST, RANDOM, the entropy source and the shares. Log entries that it rests on, which are the model's own readings or choices: 3, 62,
63. -/
def Obligations.AttestationsAndRandomness : Prop :=
  -- ATTEST_IDENTITY and ATTEST_KEY (R345): the statement and K02's signature over it; ATTEST_KEY of an empty slot STATE_CONFLICT;
  -- SLOT_BAD where a slot they use has no valid record (R331). No key changes.
   (∀ (tag : Nat) (c : Cmd) (s : State), c.plen = 16 →
      (s.canRun 0x4B tag c = true → c.zeroFrom 6 = true → (s.keyBad 2 = true ∨ s.keyBad 5 = true) → s.clock.rootOn = true →
        Answers (.attestIdentity tag) s fun t => t.ended tag = some (.gives .slotBad []) ∧ t.cru.slotBadFlag = true ∧
          t.cru.slots = s.cru.slots ∧ RaisedBeside 151 s.toDev t) ∧
      (s.keyBad 2 = false → s.canRun 0x4B tag c = true → c.zeroFrom 6 = true → s.keyBad 5 = false → Answers (.attestIdentity tag) s fun t =>
        let body := s.statementHead 1 s.now c.bytes ++ (s.key 2).pub ++ (s.key 5).pub
        t.ended tag = some (.gives .done (bytesToWords (body ++ ecdsaSign (s.key 2).material (sha256 body) s.drawScalar.1))) ∧
        t.cru = s.cru ∧ EventsOnly { s.toDev with anvil := t.anvil } t) ∧
      (s.keyBad 2 = false → s.canRun 0x4C tag c = true → c.w 6 < 64 → c.zeroFrom 7 = true → s.keyBad (c.w 6) = false →
        Answers (.attestKey tag) s fun t =>
        let k := s.key (c.w 6)
        let body := s.statementHead 2 s.now c.bytes ++ leBytes 8 (c.w 6) ++ leBytes 8 k.attr ++ leBytes 4 (s.usesOf (c.w 6)) ++
          leBytes 4 k.keyset ++ leBytes 8 0 ++ fit 64 0 k.pub ++ leBytes 32 0
        t.cru = s.cru ∧ EventsOnly { s.toDev with anvil := t.anvil } t ∧
        if attrType k.attr = 0 then t.ended tag = some (.gives .stateConflict [])
        else t.ended tag = some (.gives .done (bytesToWords (body ++ ecdsaSign (s.key 2).material (sha256 body) s.drawScalar.1))))) ∧
  -- RANDOM (R367): the number of bytes asked for, and that many bytes of one generate request.
   (∀ (tag : Nat) (c : Cmd) (s : State), s.canRun 0x4E tag c = true → 1 ≤ c.w 6 → c.w 6 ≤ 1020 → c.zeroFrom 7 = true →
      Answers (.random tag) s fun t =>
        t.ended tag = some (.gives .done (word (c.w 6) :: bytesToWords (s.draw (c.w 6)).1)) ∧ t.anvil = (s.draw (c.w 6)).2.anvil ∧
        OnlyCommands { s.toDev with anvil := t.anvil } t) ∧
  -- The entropy source and the shares (R318, R369, R370, R373, R377): 640 samples that pass the health tests, behind the 1,024 of the
  -- start-up test, are a block, which ends FAILED and its window and counts towards a cold instantiation; a sample that fails a
  -- test sets HFAIL with source 148, restarts the start-up test and opens the window; RESEED starts the request count
  -- again, and makes a DRBG at its hard limit ready again with source 149; REMASK puts one mask on both shares, 10 ms after the
  -- last.
   (∀ (samples : List Nat) (h : Health) (s : State), s.hostUp = true → s.domOn 10 = true → s.clock.pos < 4000 →
      (s.anvil.health.feedAll samples = some h → 1024 ≤ h.passed → 640 ≤ h.gathered → Answers (.blockAccepted samples) s fun t =>
        t = { s.toDev with free := t.free, anvil := t.anvil } ∧
        t.anvil = { s.anvil with
          health := { h with gathered := h.gathered - 640 }, failWin := none, failed := false, blocks := t.anvil.blocks } ∧
        t.anvil.blocks.length =
          if s.anvil.ready = false ∧ s.anvil.cold = true ∧ s.anvil.blocks.length < 2 then s.anvil.blocks.length + 1
          else s.anvil.blocks.length) ∧
      (s.anvil.health.feedAll samples = some h → (h.passed < 1024 ∨ h.gathered < 640) → Answers (.blockAccepted samples) s fun t =>
        t = { s.toDev with anvil := { s.anvil with health := h } }) ∧
      (s.anvil.health.feedAll samples = none → Answers (.healthTestFail samples) s fun t =>
        t.anvil.hfail = true ∧ t.anvil.health = Health.reset ∧ Raised 148 s.toDev t ∧ t.anvil.ready = s.anvil.ready ∧
        (s.anvil.failed = false → s.anvil.failWin = none → t.anvil.failWin = some ⟨t.clock.tb, t.clock.tb + 6240000, t.clock.unc⟩) ∧
        EventsOnly { s.toDev with anvil := t.anvil } t) ∧
      (s.domDeferred 10 = false → s.anvil.failed = false → (s.anvil.ready = true ∨ 2 ^ 20 ≤ s.anvil.requests) → Answers .reseed s fun t =>
        t.anvil.ready = true ∧ t.anvil.requests = 0 ∧ t.anvil.reseedDue = false ∧ t.anvil.reserve.isSome = true ∧
        EventsOnly { s.toDev with anvil := t.anvil, free := t.free } t ∧
        (s.anvil.ready = true → s.reseedStamp ≤ t.clock.tb ∧ t.cmds = s.cmds) ∧ (s.anvil.ready = false → Raised 149 s.toDev t ∧
          t.cmds = s.cmds.map (fun c => if c.phase = .held then { c with phase := .queued } else c))) ∧
      (s.anvil.ready = true → s.cru.tampered = false → Answers .remask s fun t =>
        s.anvil.remaskAt + 1248000 ≤ t.clock.tb ∧ t.anvil.requests = s.anvil.requests + 1 ∧ t.anvil.remaskAt = t.clock.tb ∧
        t = { s.toDev with clock := t.clock, anvil := t.anvil, cru := { s.cru with shareA := t.cru.shareA, shareB := t.cru.shareB } } ∧
        ∃ m, t.cru.shareA = xorBytes s.cru.shareA m ∧ t.cru.shareB = xorBytes s.cru.shareB m))

/-- SHA256, HMAC and CMAC. Log entries that it rests on, which are the model's own readings or choices: 3, 61, 90. -/
def Obligations.DigestsAndMacs : Prop :=
  -- SHA256, one part or the last of several (R360, R362): the digest of everything the context gathered; a part before the last
  -- gathers its data and answers none.
   (∀ (tag : Nat) (c : Cmd) (s : State) (x : Context), s.canRun 0x4D tag c = true → c.w 6 % 256 = 1 →
      c.cryptoReserved { multi := true } = false → s.partContext c = some x → (c.last = true ∨ (c.dlen ≠ 0 ∧ c.dlen % 64 = 0)) →
      c.dlen ≤ 2048 → c.plen = (c.dlen + 1) / 2 →
      Answers (.sha256 tag) s fun t =>
        let m := x.data ++ c.bytes.take c.dlen
        let out := if c.last then Machine.sha256 m else []
        t.ended tag = some (.gives .done ([word out.length, 0xFFFF] ++ bytesToWords out)) ∧
        t.anvil = { s.anvil with contexts := s.anvil.contexts.set c.ctx (if c.last then none else some { x with data := m }) } ∧
        OnlyCommands { s.toDev with anvil := t.anvil } t) ∧
  -- HMAC_GEN, HMAC_VER, CMAC_GEN and CMAC_VER with a key that passes orders 2–5 of R363, on any part (R355, R360, R362): the last
  -- part generates the tag's first TLEN bytes over everything gathered, or answers verdict 1 where the payload's tag is equal and 0
  -- where it is not. The key stays.
   (∀ (tag : Nat) (c : Cmd) (s : State) (x : Context), s.canRun 0x4D tag c = true →
      c.cryptoReserved { multi := true, tlen := true } = false → s.partContext c = some x →
      (c.last = true ∨ (c.dlen ≠ 0 ∧ c.dlen % 64 = 0)) →
      (∀ r ∈ [(2, Instr.hmacGen tag, [4], [16, 32], hmac), (4, Instr.cmacGen tag, [1, 2], [4, 8, 16], cmac)],
        c.w 6 % 256 = r.1 → (c.last = true → c.tlen ∈ r.2.2.2.1) → c.dlen ≤ 2048 → c.plen = (c.dlen + 1) / 2 → s.keyGate c r.2.2.1 2 = none →
        Answers r.2.1 s fun t =>
          let m := x.data ++ c.bytes.take c.dlen
          let out := if c.last then (r.2.2.2.2 (s.key c.keyN).material m).take c.tlen else []
          t.ended tag = some (.gives .done ([word out.length, 0xFFFF] ++ bytesToWords out)) ∧ t.cru.slots = s.cru.slots ∧
          EventsOnly { s.toDev with anvil := t.anvil, cru := t.cru } t) ∧
      (∀ r ∈ [(3, Instr.hmacVer tag, [4], [16, 32], hmac), (5, Instr.cmacVer tag, [1, 2], [4, 8, 16], cmac)],
        c.w 6 % 256 = r.1 → (c.last = true → c.tlen ∈ r.2.2.2.1) →
        c.dlen + (if c.last then c.tlen else 0) ≤ 2048 → c.plen = (c.dlen + (if c.last then c.tlen else 0) + 1) / 2 → s.keyGate c r.2.2.1 3 = none →
        Answers r.2.1 s fun t =>
          let m := x.data ++ c.bytes.take c.dlen
          let good := (r.2.2.2.2 (s.key c.keyN).material m).take c.tlen == slice c.dlen c.tlen c.bytes
          t.ended tag = some (.gives .done [0, if c.last then (if good then 1 else 0) else 0xFFFF]) ∧ t.cru.slots = s.cru.slots ∧
          EventsOnly { s.toDev with anvil := t.anvil, cru := t.cru } t))

/-- CBC, CTR and GCM. Log entries that it rests on, which are the model's own readings or choices: 3, 61, 90. -/
def Obligations.CiphersAndGcm : Prop :=
  -- CBC_ENC, CBC_DEC, CTR_ENC and CTR_DEC with a key that passes orders 2–5 of R363, on any part (R355, R360, R362): the output of
  -- the mode over the part's data from the chaining value in force, behind the IV where it was drawn; the context takes the next
  -- one.
   (∀ (tag : Nat) (c : Cmd) (s : State) (x : Context), s.canRun 0x4D tag c = true → s.partContext c = some x →
      (c.last = true ∨ (c.dlen ≠ 0 ∧ c.dlen % 64 = 0)) → c.dlen ≤ 960 → c.plen = (c.ivBytes 16 + c.dlen + 1) / 2 →
      ∀ r ∈ [(6, Instr.cbcEnc tag, true, 0, cbcEncPart), (7, Instr.cbcDec tag, false, 1, cbcDecPart),
             (8, Instr.ctrEnc tag, true, 0, ctrPart), (9, Instr.ctrDec tag, false, 1, ctrPart)],
        c.w 6 % 256 = r.1 → c.cryptoReserved { multi := true, ivgen := r.2.2.1 } = false →
        (r.1 < 8 → c.last = true → (x.count + c.dlen) % 16 = 0) → s.keyGate c [1, 2] r.2.2.2.1 = none →
        Answers r.2.1 s fun t =>
          let iv := (s.partIv c 16 x).1
          let y := r.2.2.2.2 (s.key c.keyN).material iv (slice (c.ivBytes 16) c.dlen c.bytes)
          let out := (if c.first && c.ivgen then iv else []) ++ y.1
          t.ended tag = some (.gives .done ([word out.length, 0xFFFF] ++ bytesToWords out)) ∧ t.cru.slots = s.cru.slots ∧
          t.anvil.contexts =
            s.anvil.contexts.set c.ctx (if c.last then none else some { x with iv := y.2, count := x.count + c.dlen }) ∧
          EventsOnly { s.toDev with anvil := t.anvil, cru := t.cru } t) ∧
  -- GCM_ENC on any part and GCM_DEC (R355, R360, R363): the ciphertext, and with the last part the tag over everything; the
  -- plaintext only where the payload's tag is the ciphertext's, with the verdict.
   (∀ (tag : Nat) (c : Cmd) (s : State), s.canRun 0x4D tag c = true → c.dlen ≤ 960 →
      (∀ x, c.w 6 % 256 = 10 → c.cryptoReserved { multi := true, alen := true, tlen := true, ivgen := true } = false →
        s.partContext c = some x → (c.last = true ∨ (c.dlen ≠ 0 ∧ c.dlen % 64 = 0)) → (c.first = true ∨ c.alen = 0) →
        (c.last = true → c.tlen = 12 ∨ c.tlen = 16) → c.plen = (c.ivBytes 12 + c.alen + c.dlen + 1) / 2 → s.keyGate c [1, 2] 0 = none →
        Answers (.gcmEnc tag) s fun t =>
          let k := (s.key c.keyN).material
          let iv := (s.partIv c 12 x).1
          let aad := if c.first then slice (c.ivBytes 12) c.alen c.bytes else x.aad
          let m := slice (c.ivBytes 12 + c.alen) c.dlen c.bytes
          let ct := xorBytes m (gctrStream k iv (ceilDiv m.length 16) (2 + x.count / 16))
          let out := (if c.first && c.ivgen then iv else []) ++ ct ++
            (if c.last then (gcmTag k iv aad (x.data ++ ct)).take c.tlen else [])
          t.ended tag = some (.gives .done ([word out.length, 0xFFFF] ++ bytesToWords out)) ∧ t.cru.slots = s.cru.slots ∧
          EventsOnly { s.toDev with anvil := t.anvil, cru := t.cru } t) ∧
      (c.w 6 % 256 = 11 → c.cryptoReserved { alen := true, tlen := true } = false → c.first = true → c.last = true →
        (c.tlen = 12 ∨ c.tlen = 16) → c.plen = (12 + c.alen + c.dlen + c.tlen + 1) / 2 → s.keyGate c [1, 2] 1 = none →
        Answers (.gcmDec tag) s fun t =>
          let k := (s.key c.keyN).material
          let iv := c.bytes.take 12
          let ct := slice (12 + c.alen) c.dlen c.bytes
          let good := (gcmTag k iv (slice 12 c.alen c.bytes) ct).take c.tlen == slice (12 + c.alen + c.dlen) c.tlen c.bytes
          let out := if good then gcmCrypt k iv ct else []
          t.ended tag = some (.gives .done ([word out.length, if good then 1 else 0] ++ bytesToWords out)) ∧
          t.cru.slots = s.cru.slots ∧ EventsOnly { s.toDev with cru := t.cru } t))

/-- HKDF, ECDSA and ECDH_DERIVE. Log entries that it rests on, which are the model's own readings or choices: 3, 61, 90, 119. -/
def Obligations.DerivationsAndSignatures : Prop :=
  -- HKDF, ECDSA_SIGN and ECDSA_VERIFY (R360, R361): the derived bytes; the signature over the digest with a drawn scalar; verdict 1
  -- or 0, and STATE_CONFLICT for a point off the curve.
   (∀ (tag : Nat) (c : Cmd) (s : State), s.canRun 0x4D tag c = true → c.first = true → c.last = true →
      (c.w 6 % 256 = 12 → c.cryptoReserved { alen := true, tlen := true, len := true } = false → c.dlen ≤ 256 → c.alen ≤ 256 →
        c.tlen ≤ 256 → 1 ≤ c.w 12 → c.w 12 ≤ 1020 → c.plen = (c.alen + c.dlen + c.tlen + 1) / 2 →
        Answers (.hkdf tag) s fun t =>
          let out := Machine.hkdf (slice c.alen c.dlen c.bytes) (c.bytes.take c.alen) (slice (c.alen + c.dlen) c.tlen c.bytes) (c.w 12)
          t.ended tag = some (.gives .done ([word out.length, 0xFFFF] ++ bytesToWords out)) ∧ OnlyCommands s.toDev t) ∧
      (c.w 6 % 256 = 16 → c.cryptoReserved { hashed := true } = false → digestLenOk c = true → c.plen = (c.dlen + 1) / 2 →
        s.keyGate c [3] 4 = none →
        Answers (.ecdsaSign tag) s fun t =>
          let out := Machine.ecdsaSign (s.key c.keyN).material (digestOf c (c.bytes.take c.dlen)) s.drawScalar.1
          t.ended tag = some (.gives .done ([word out.length, 0xFFFF] ++ bytesToWords out)) ∧ t.cru.slots = s.cru.slots ∧
          EventsOnly { s.toDev with anvil := t.anvil, cru := t.cru } t) ∧
      (c.w 6 % 256 = 17 → c.cryptoReserved { hashed := true } = false → digestLenOk c = true → c.plen = (128 + c.dlen + 1) / 2 →
        Answers (.ecdsaVerify tag) s fun t => OnlyCommands s.toDev t ∧
          if (ecPoint (c.bytes.take 64)).isNone = true then t.ended tag = some (.gives .stateConflict [])
          else t.ended tag = some (.gives .done [0,
            if Machine.ecdsaVerify (c.bytes.take 64) (digestOf c (slice 128 c.dlen c.bytes)) (slice 64 64 c.bytes) then 1 else 0]))) ∧
  -- ECDH_DERIVE (R364) into an empty target: STATE_CONFLICT for a point off the curve, PROTECTED for a write-protected partition,
  -- and else the work ends DONE with the target's key, the HKDF of the shared secret, as its effect; no key changes until then.
   (∀ (tag : Nat) (c : Cmd) (s : State), s.canRun 0x4D tag c = true → s.cru.slots.length = 64 → c.first = true → c.last = true →
      c.w 6 % 256 = 18 → c.cryptoReserved { alen := true, tlen := true, slot := true, attrs := true } = false → c.alen ≤ 256 →
      c.tlen ≤ 256 → c.plen = (64 + c.alen + c.tlen + 1) / 2 → s.keyGate c [3] 5 = none → attrReserved c.attrs = false →
      s.targetOk c.target = true → (attrType c.attrs = 1 ∨ attrType c.attrs = 2 ∨ attrType c.attrs = 4) →
      attrUse c.attrs &&& 0x130 = 0 → usesOk c.attrs = true →
      Answers (.ecdhDerive tag) s fun t =>
        EventsOnly { s.toDev with cru := { s.cru with uses := t.cru.uses } } t ∧
        match ecdh (s.key c.keyN).material (c.bytes.take 64) with
        | none => t.ended tag = some (.gives .stateConflict []) ∧ t.cru = s.cru
        | some z =>
          if c.target < 48 ∧ s.keysProtected = true then t.ended tag = some (.gives .protected_ []) ∧ t.cru = s.cru
          else
            ∃ attr, (t.ended tag).map (fun r => (r.status, r.payload, r.effect)) = some (.done, [0, 0xFFFF],
                .key c.target attr (Machine.hkdf z (slice 64 c.alen c.bytes) (slice (64 + c.alen) c.tlen c.bytes)
                  (materialLen (attrType c.attrs)))) ∧
              attrUse attr = attrUse c.attrs ∧ attrType attr = attrType c.attrs)

/-- KEY_WRAP and KEY_UNWRAP. Log entries that it rests on, which are the model's own readings or choices: 3, 61, 90, 119. -/
def Obligations.KeyWrapping : Prop :=
  -- KEY_WRAP (R365): a subject that may not be exported is PROTECTED; else the wrapped key under a drawn IV, and no key changes.
   (∀ (tag : Nat) (c : Cmd) (s : State), s.canRun 0x4D tag c = true → c.first = true → c.last = true → c.w 6 % 256 = 20 →
      c.cryptoReserved { slot := true } = false → c.plen = 0 → s.keyGate c [2] 7 = none → s.keyBad c.target = false →
      Answers (.keyWrap tag) s fun t =>
        let sub := s.key c.target
        t.cru.slots = s.cru.slots ∧ EventsOnly { s.toDev with cru := t.cru, anvil := t.anvil } t ∧
        if attrExport sub.attr = false ∨ attrSecure sub.attr = true then t.ended tag = some (.gives .protected_ []) ∧ t.cru = s.cru
        else
          let k := (s.key c.keyN).material
          let iv := (s.draw 12).1
          let ct := gcmCrypt k iv sub.material
          let out := leBytes 8 sub.attr ++ iv ++ ct ++ gcmTag k iv (ascii "BKW1" ++ leBytes 8 sub.attr) ct
          t.ended tag = some (.gives .done ([word out.length, 0xFFFF] ++ bytesToWords out))) ∧
  -- KEY_UNWRAP (R365) into an empty target, for attributes a key may have: a wrong tag answers verdict 0; a right one has the key as
  -- its effect, save a scalar out of range and a write-protected partition. No key changes until the completion.
   (∀ (tag : Nat) (c : Cmd) (s : State), s.canRun 0x4D tag c = true → s.cru.slots.length = 64 → c.first = true → c.last = true →
      c.w 6 % 256 = 21 → c.cryptoReserved { slot := true } = false →
      c.plen = (36 + materialLen (attrType (leNat (c.bytes.take 8))) + 1) / 2 → s.keyGate c [2] 8 = none → s.targetOk c.target = true →
      attrReserved (leNat (c.bytes.take 8)) = false → attrType (leNat (c.bytes.take 8)) ≠ 0 → usesOk (leNat (c.bytes.take 8)) = true →
      Answers (.keyUnwrap tag) s fun t =>
        let a := leNat (c.bytes.take 8)
        let n := materialLen (attrType a)
        let k := (s.key c.keyN).material
        let iv := slice 8 12 c.bytes
        let ct := slice 20 n c.bytes
        let m := gcmCrypt k iv ct
        EventsOnly { s.toDev with cru := { s.cru with uses := t.cru.uses } } t ∧
        if gcmTag k iv (ascii "BKW1" ++ c.bytes.take 8) ct ≠ slice (20 + n) 16 c.bytes then
          t.ended tag = some (.gives .done [0, 0])
        else if attrType a = 3 ∧ (beNat m = 0 ∨ p256n ≤ beNat m) then t.ended tag = some (.gives .stateConflict []) ∧ t.cru = s.cru
        else if c.target < 48 ∧ s.keysProtected = true then t.ended tag = some (.gives .protected_ []) ∧ t.cru = s.cru
        else ∃ attr, (t.ended tag).map (fun r => (r.status, r.payload, r.effect)) = some (.done, [0, 1], .key c.target attr m))

/-- ATLAS_QUERY, ATLAS_LOAD, ATLAS_COMMIT and ATLAS_INFO. Log entries that it rests on, which are the model's own readings or choices: 54,
127. -/
def Obligations.AtlasCommands : Prop :=
  -- ATLAS_QUERY with the active image loaded (R272–R275): the tests of R273 in their order, and then the result words of the
  -- queries, DONE when every query is plausible and NOT_PLAUSIBLE otherwise; with no active image ATLAS_ABSENT.
   (∀ (tag : Nat) (nand : NandRead) (c : Cmd) (s : State) (es : List QueryEntry), s.canRun 0x60 tag c = true → c.w 6 ≤ 1 →
      c.zeroFrom 8 = true → queryEntries (c.w 7) c.payload = some es →
      (s.atlas.active = none → Answers (.atlasQuery tag nand) s fun t =>
        t.ended tag = some (.gives .atlasAbsent []) ∧ OnlyCommands s.toDev t) ∧
      (∀ v m, s.atlas.active = some (v, m) → s.atlas.loaded = true → Answers (.atlasQuery tag nand) s fun t =>
        EventsOnly { s.toDev with atlas := t.atlas, med := t.med, free := t.free } t ∧
        if c.w 7 = 0 ∨ 64 < c.w 7 ∨ (c.w 6 = 1 ∧ 4 < c.w 7) then t.ended tag = some (.gives .stateConflict [])
        else if 512 < es.foldl (fun a e => a + 2 + 5 * e.k) 0 then t.ended tag = some (.gives .stateConflict [])
        else if es.all s.queryOk = false then t.ended tag = some (.gives .stateConflict [])
        else match (s.scanLists m (c.w 6 = 1) es nand).1 with
          | some st => t.ended tag = some (.gives st [])
          | none => (t.ended tag).map (fun r => (r.status, r.payload)) =
              some (if (s.runQueries m 0 es).2.2 then .done else .notPlausible, (s.runQueries m 0 es).1))) ∧
  -- ATLAS_LOAD while the header is gathered (R284, R287): BEGIN of a new load takes its bytes from offset 0, a later part its bytes
  -- behind those before, both DONE with the load's words; a part out of its place is STATE_CONFLICT and changes no load.
   (∀ (tag : Nat) (c : Cmd) (s : State), s.canRun 0x61 tag c = true → c.w 11 ≤ 1 → c.zeroFrom 12 = true → s.med.ready = true →
      (c.w 11 = 1 → s.atlas.load.state = 0 → c.w3 8 = 0 → c.bytes.length < 256 → Answers (.atlasLoad tag) s fun t =>
        t.atlas.load.image = c.w2 6 ∧ t.atlas.load.bytes = c.bytes ∧ t.atlas.load.state = 1 ∧ t.atlas.active = s.atlas.active ∧
        t.ended tag = some (.gives .done t.atlas.load.words) ∧ EventsOnly { s.toDev with atlas := t.atlas } t) ∧
      (c.w 11 = 0 → s.atlas.load.state = 1 → s.atlas.load.verified = false → c.w2 6 = s.atlas.load.image →
        c.w3 8 = s.atlas.load.bytes.length → (s.atlas.load.bytes ++ c.bytes).length < 256 → Answers (.atlasLoad tag) s fun t =>
          t.atlas.load.image = c.w2 6 ∧ t.atlas.load.bytes = s.atlas.load.bytes ++ c.bytes ∧ t.atlas.load.state = 1 ∧
          t.ended tag = some (.gives .done t.atlas.load.words) ∧ EventsOnly { s.toDev with atlas := t.atlas } t) ∧
      (c.w 11 = 0 → (s.atlas.load.state = 0 ∨ c.w2 6 ≠ s.atlas.load.image ∨ c.w3 8 ≠ s.atlas.load.bytes.length) →
        Answers (.atlasLoad tag) s fun t => t.ended tag = some (.gives .stateConflict []) ∧ OnlyCommands s.toDev t)) ∧
  -- ATLAS_COMMIT (R288): ATLAS_ABSENT without a READY load, MEDIA_UNCORRECTABLE where the shadow cannot be read back, IMAGE_INVALID
  -- and the load abandoned where its header or signature fails, and else DONE; the switch is the completion's effect, which makes
  -- the load's image the active one of the other volume. ATLAS_INFO answers ATLAS_ABSENT or the active image's words (R289).
   (∀ (tag : Nat) (nand : NandRead) (c : Cmd) (s : State), c.zeroFrom 6 = true →
      (s.canRun 0x62 tag c = true → Answers (.atlasCommit tag nand) s fun t =>
        t.atlas.active = s.atlas.active ∧ EventsOnly { s.toDev with atlas := t.atlas, med := t.med, cru := t.cru, free := t.free } t ∧
        (s.keyBad 4 = false → t.cru = s.cru) ∧
        if s.atlas.load.state ≠ 3 then t.ended tag = some (.gives .atlasAbsent []) ∧ t.atlas = s.atlas
        else if nand.lost = true then t.ended tag = some (.gives .mediaUncorrectable []) ∧ t.atlas = s.atlas
        else if s.keyBad 4 = true then t.ended tag = some (.gives .slotBad []) ∧ t.atlas = s.atlas
        else if (s.headerOk s.atlas.load.bytes && s.imageSigned s.atlas.load.bytes) = false then
          t.ended tag = some (.gives .imageInvalid []) ∧ t.atlas.load = AtlasLoad.idle
        else
          (t.ended tag).map (fun r => (r.status, r.payload, r.effect)) = some (.done,
            leWords 2 s.atlas.load.image ++ leWords 2 (imgSeq s.atlas.load.bytes) ++ [if s.activeVol = 0 then 1 else 0, 0, 0, 0],
            .atlasCommit) ∧
          t.applyCommitAtlas.atlas.active = some (if s.activeVol = 0 then 1 else 0, s.atlas.load.bytes)) ∧
      (s.canRun 0x63 tag c = true → Answers (.atlasInfo tag) s fun t => OnlyCommands s.toDev t ∧
        match s.atlas.active with
        | none => t.ended tag = some (.gives .atlasAbsent [])
        | some (vol, m) => ∃ ws, t.ended tag = some (.gives .done ws) ∧ ws.length = 64 ∧
            ws.take 6 = leWords 2 (imgId m) ++ leWords 2 (imgSeq m) ++ leWords 2 (imgN m) ∧ ws.getD 14 0 = word vol ∧
            ws.getD 15 0 = word s.atlas.load.state))

/-- TOKEN_AUTH, TOKEN_MEM_READ and TOKEN_MEM_WRITE. Log entries that it rests on, which are the model's own readings or choices: 64. -/
def Obligations.TokenExchanges : Prop :=
  -- TOKEN_AUTH (R380–R383) of a named slot, or of the newest LF record's: SLOT_BAD, STATE_CONFLICT for a slot not enrolled, the
  -- status of R197 with no aerial left; and else the exchange begins on the free sequencer with M1, the token's ID and eight drawn
  -- bytes.
   (∀ (tag n k : Nat) (c : Cmd) (s : State), s.canRun 0x40 tag c = true → (c.w 6 ≤ 31 ∨ c.w 6 = 0xFF) → c.w 7 < 256 → c.w 8 ≤ 2 →
      c.zeroFrom 9 = true → s.authSlot (c.w 6) = some n → s.ksSlot = some k → s.lf.emission = none →
      Answers (.tokenAuth tag) s fun t =>
        let mask := s.usable (s.maskOf (c.w 7))
        t.cru.slots = s.cru.slots ∧ t.tok = s.tok ∧
        if s.tokenBad n = true then t.ended tag = some (.gives .slotBad [])
        else if s.enrolled n = false then t.ended tag = some (.gives .stateConflict []) ∧ OnlyCommands s.toDev t
        else if mask = 0 then t.ended tag = some (.gives (s.noAerial (s.maskOf (c.w 7))) []) ∧ OnlyCommands s.toDev t
        else
          ∃ x, t.working tag = some (.token x) ∧ x.kind = 0 ∧ x.slot = n ∧ x.token = (s.slotRec n).id ∧ x.nb = (s.draw 8).1 ∧
            x.seq = s.freeSeq.getD 0 ∧ (t.seqr x.seq).running = some tag ∧ t.lf.air = s.telegram 3 (idBytes x.token ++ x.nb) ∧
            t.lf.emission.map (fun e => e.2) = some (.command tag, mask) ∧
            EventsOnly { s.toDev with lf := t.lf, anvil := t.anvil, ham := t.ham } t) ∧
  -- TOKEN_MEM_READ and TOKEN_MEM_WRITE (R386–R390): STATE_CONFLICT with no current authenticated token, the status of R197 with no
  -- aerial left; and else the exchange begins on the free sequencer with a request whose memory counter is the next one.
   (∀ (tag : Nat) (c : Cmd) (s : State), c.w 6 < 256 → c.w 9 < 256 → c.w 10 ≤ 2 → c.zeroFrom 11 = true → s.lf.emission = none →
      (s.canRun 0x41 tag c = true → Answers (.tokenMemRead tag) s fun t =>
        match s.tok.session with
        | none => t.ended tag = some (.gives .stateConflict []) ∧ OnlyCommands s.toDev t
        | some y =>
          let mask := s.usable (s.maskOf (c.w 9))
          if mask = 0 then t.ended tag = some (.gives (s.noAerial (s.maskOf (c.w 9))) []) ∧ OnlyCommands s.toDev t
          else ∃ x, t.working tag = some (.token x) ∧ x.kind = 1 ∧ x.page = c.w 6 ∧ x.token = y.token ∧
            x.first = (if c.w2 7 = 0 then 2 ^ 32 - 1 else c.w2 7) ∧ t.tok = { s.tok with session := some { y with mc := y.mc + 1 } } ∧
            t.lf.emission.map (fun e => e.2) = some (.command tag, mask) ∧
            EventsOnly { s.toDev with lf := t.lf, tok := t.tok, ham := t.ham } t) ∧
      (s.canRun 0x42 tag c = true → c.w 8 = 0 → 4 ≤ c.plen → c.plen % 4 = 0 → c.w 7 + c.plen / 4 ≤ 128 →
        Answers (.tokenMemWrite tag) s fun t =>
          match s.tok.session with
          | none => t.ended tag = some (.gives .stateConflict []) ∧ OnlyCommands s.toDev t
          | some y =>
            let mask := s.usable (s.maskOf (c.w 9))
            if mask = 0 then t.ended tag = some (.gives (s.noAerial (s.maskOf (c.w 9))) []) ∧ OnlyCommands s.toDev t
            else ∃ x, t.working tag = some (.token x) ∧ x.kind = 2 ∧ x.page = c.w 6 ∧ x.first = c.w 7 ∧ x.count = c.plen / 4 ∧
              x.data = c.bytes ∧ t.tok = { s.tok with session := some { y with mc := y.mc + 1 } } ∧
              t.lf.emission.map (fun e => e.2) = some (.command tag, mask) ∧
              EventsOnly { s.toDev with lf := t.lf, tok := t.tok, ham := t.ham } t))

/-- Admissions, TOKEN_ENROL and LEARN_ADD. Log entries that it rests on, which are the model's own readings or choices: 65. -/
def Obligations.AdmissionsOfTokens : Prop :=
  -- TOKEN_ENROL and LEARN_BEGIN (R395, R396): the ticket's own checks in their order; STATE_CONFLICT for an ID already admitted or
  -- still revoked, LIMIT_REACHED or STATE_CONFLICT with no enrolment left, SLOT_EXHAUSTED with no slot; else DONE, the ticket
  -- counter advances, and the admission is the completion's effect. A repeated LEARN_BEGIN answers the open admission's words.
   (∀ (tag : Nat) (c : Cmd) (s : State), c.zeroFrom 6 = true →
      (s.canRun 0x43 tag c = true → Answers (.tokenEnrol tag) s fun t =>
        let k := ticketOf c.bytes
        EventsOnly { s.toDev with tok := t.tok, cru := t.cru } t ∧ (s.keyBad 1 = false → t.cru = s.cru) ∧
        match s.ticketCheck 1 1 1 c.bytes with
        | some st => t.ended tag = some (.gives st []) ∧ t.tok = s.tok
        | none =>
          if (s.slotOfToken (k.ids.headD 0)).isSome = true ∨ (s.tok.revlist.contains (k.ids.headD 0) = true ∧ bit 0 k.flags = false) then
            t.ended tag = some (.gives .stateConflict []) ∧ t.tok = s.tok
          else if s.enrolLeft = 0 then t.ended tag = some (.gives .limitReached []) ∧ t.tok = s.tok
          else if s.slotWhere (· != 1) = none then t.ended tag = some (.gives .slotExhausted []) ∧ t.tok = s.tok
          else t.tok = { s.tok with tktCnt := k.counter } ∧ (t.ended tag).map (fun r => (r.status, r.effect)) =
            some (.done, .admitting (admissionOf 2 c.bytes) false (if bit 0 k.flags then k.ids else []))) ∧
      (s.canRun 0x45 tag c = true → Answers (.learnBegin tag) s fun t =>
        let k := ticketOf c.bytes
        let a := s.tok.adm
        EventsOnly { s.toDev with tok := t.tok, cru := t.cru } t ∧ (s.keyBad 1 = false → t.cru = s.cru) ∧
        if a.state ≠ 0 ∧ a.kind = 1 ∧ a.counter = k.counter ∧ a.digest = Machine.sha256 c.bytes then
          (t.ended tag).map (fun r => (r.status, r.payload, r.effect)) = some (.done, s.admWords a, .none) ∧ OnlyCommands s.toDev t
        else match s.ticketCheck 2 0 32 c.bytes with
          | some st => t.ended tag = some (.gives st []) ∧ t.tok = s.tok
          | none =>
            if s.enrolLeft = 0 then t.ended tag = some (.gives .stateConflict []) ∧ t.tok = s.tok
            else t.tok = { s.tok with tktCnt := k.counter, adm := { admissionOf 1 c.bytes with state := 1 } } ∧
              (t.ended tag).map (fun r => (r.status, r.effect)) =
                some (.done, .admitting (admissionOf 1 c.bytes) true (if bit 0 k.flags then k.ids else [])))) ∧
  -- LEARN_ADD (R397, R398): STATE_CONFLICT without an open admission, and for an ID it does not take, on the revocation list or
  -- enrolled; then the learn master, a slot, the enrolments and the aerials are tested; else L1 goes out with eight drawn bytes.
   (∀ (tag : Nat) (c : Cmd) (s : State), s.canRun 0x46 tag c = true → c.w 8 < 256 → c.w 9 ≤ 2 → c.zeroFrom 10 = true → s.lf.emission = none →
      Answers (.learnAdd tag) s fun t =>
        let id := c.w2 6
        let klm := s.tok.adm.klm
        let mask := s.usable (s.maskOf (c.w 8))
        t.tok = s.tok ∧ t.cru.tokens = s.cru.tokens ∧
        if s.admOpen = false ∨ s.admits id = false ∨ s.tok.revlist.contains id = true ∨ (s.slotOfToken id).isSome = true then
          t.ended tag = some (.gives .stateConflict []) ∧ OnlyCommands s.toDev t
        else if s.keyBad klm = true then t.ended tag = some (.gives .slotBad [])
        else if attrLimit (s.key klm).attr ≠ 0 ∧ attrLimit (s.key klm).attr ≤ s.usesOf klm then
          t.ended tag = some (.gives .limitReached []) ∧ OnlyCommands s.toDev t
        else match s.reserveSlot with
          | none => t.ended tag = some (.gives .slotExhausted []) ∧ OnlyCommands s.toDev t
          | some n =>
            if s.enrolLeft = 0 then t.ended tag = some (.gives .limitReached []) ∧ OnlyCommands s.toDev t
            else if mask = 0 then t.ended tag = some (.gives (s.noAerial (s.maskOf (c.w 8))) []) ∧ OnlyCommands s.toDev t
            else ∃ x, t.working tag = some (.token x) ∧ x.kind = 3 ∧ x.slot = n ∧ x.token = id ∧ x.nb = (s.draw 8).1 ∧
              t.lf.air = s.telegram 3 (idBytes id ++ x.nb) ∧ t.lf.emission.map (fun e => e.2) = some (.command tag, mask) ∧
              EventsOnly { s.toDev with lf := t.lf, anvil := t.anvil, ham := t.ham, cru := t.cru } t)

/-- TOKEN_REVOKE, LEARN_COMMIT and the close of an admission. Log entries that it rests on, which are the model's own readings or choices:
65, 104. -/
def Obligations.RevocationsAndCloses : Prop :=
  -- TOKEN_REVOKE (R394): DONE with the slot named, and the ticket's IDs where it carries a valid one; AUTH_FAIL for a bad ticket.
  -- LEARN_COMMIT (R400): STATE_CONFLICT with no admission, else DONE with the mask learnt, and the close as its effect.
   (∀ (tag : Nat) (c : Cmd) (s : State),
      (s.canRun 0x44 tag c = true → field 14 5 (c.w 6) = 0 → c.zeroFrom 7 = true → Answers (.tokenRevoke tag) s fun t =>
        let slot := if bit 15 (c.w 6) then none else some (c.w 6 % 32)
        (s.keyBad 1 = false → OnlyCommands s.toDev t) ∧
        if c.plen = 0 then t.ended tag = some ⟨.done, [], .revoke slot [], none, []⟩
        else if ticketShape 3 1 8 c.bytes = false then t.ended tag = some (.gives .authFail [])
        else if s.keyBad 1 = true then t.ended tag = some (.gives .slotBad [])
        else if s.ticketSigned c.bytes = false then t.ended tag = some (.gives .authFail [])
        else t.ended tag = some ⟨.done, [], .revoke slot (ticketOf c.bytes).ids, none, []⟩) ∧
      (s.canRun 0x47 tag c = true → c.zeroFrom 6 = true → (c.plen = 0 ∨ c.plen = 8) → Answers (.learnCommit tag) s fun t =>
        if s.admOpen = false then t.ended tag = some (.gives .stateConflict []) ∧ OnlyCommands s.toDev t
        else
          (∃ n, t.ended tag = some ⟨.done, leWords 2 s.tok.adm.learnt ++ [word s.enrolLeft, word n, 0, 0, 0, 0], .closeAdmission 0, none, []⟩) ∧
          t.tok = s.tok ∧ EventsOnly { s.toDev with cru := t.cru } t)) ∧
  -- The close of an admission in its event: CLOSED with the cause (R401), and the slots, the revocation list and the counters stay.
   (∀ (origin tag op cause : Nat) (d : Dev),
      (d.closeAdm origin tag op cause).tok = { d.tok with adm := { d.tok.adm with state := 0, cause := cause } } ∧
      EventsOnly { d with tok := (d.closeAdm origin tag op cause).tok } (d.closeAdm origin tag op cause))

/-- NODE_PAIR, NODE_UNPAIR and NODE_REVOKE_GRANT. Log entries that it rests on, which are the model's own readings or choices: 67. -/
def Obligations.NodePairing : Prop :=
  -- NODE_PAIR (R452) of an EMPTY address on a usable trunk: LIMIT_REACHED with 128 nodes on it, STATE_CONFLICT for a point off the
  -- curve or a reserved type, else the pairing begins with a drawn ephemeral key; an address in use or a trunk that is not usable
  -- is STATE_CONFLICT.
   (∀ (tag a type : Nat) (b : Bool) (c : Cmd) (s : State), s.canRun 0x70 tag c = true → c.w 6 = a → 1 ≤ a → a ≤ 255 → type < 8 →
      c.w 7 = type + 256 * b2n b → c.zeroFrom 9 = true → c.plen = 32 →
      Answers (.nodePair tag) s fun t =>
        t.kw = s.kw ∧ OnlyCommands { s.toDev with anvil := t.anvil } t ∧
        if (s.node a).state ≠ 0 ∨ s.trunkOk (b2n b) = false then t.ended tag = some (.gives .stateConflict [])
        else if 128 ≤ (s.nodesOn (b2n b)).length then t.ended tag = some (.gives .limitReached [])
        else if (ecPoint c.bytes).isNone = true ∨ 4 < type then t.ended tag = some (.gives .stateConflict [])
        else t.working tag = some (.node (NodeRun.new a (b2n b) [type, c.w 8] (s.drawScalar.1 ++ c.bytes)))) ∧
  -- NODE_UNPAIR and NODE_REVOKE_GRANT (R454, R458): without a node, or without a grant, DONE at once with no effect; else the grant
  -- ends in an event of the start with cause REVOKE, and the frames are to be sent.
   (∀ (tag : Nat) (c : Cmd) (s : State), c.w 6 ≤ 255 → c.zeroFrom 7 = true → cellsWf (fun _ => Node.empty) s.kw.nodes = true →
      (s.canRun 0x71 tag c = true → Answers (.nodeUnpair tag) s fun t =>
        if (s.node (c.w 6)).state = 0 then t.ended tag = some (.gives .done []) ∧ OnlyCommands s.toDev t
        else t.working tag = some (.node (NodeRun.new (c.w 6) (s.node (c.w 6)).trunk [] [])) ∧ (t.node (c.w 6)).grant = none ∧
          (∀ a, a ≠ c.w 6 → t.node a = s.node a) ∧ EventsOnly { s.toDev with kw := t.kw } t) ∧
      (s.canRun 0x73 tag c = true → Answers (.nodeRevokeGrant tag) s fun t =>
        if (s.node (c.w 6)).grant = none then t.ended tag = some (.gives .done []) ∧ OnlyCommands s.toDev t
        else t.working tag = some (.node (NodeRun.new (c.w 6) (s.node (c.w 6)).trunk [] [])) ∧ (t.node (c.w 6)).grant = none ∧
          (∀ a, a ≠ c.w 6 → t.node a = s.node a) ∧ EventsOnly { s.toDev with kw := t.kw } t))

/-- NODE_GRANT, NODE_MSG and the NODE_SCAN operations. Log entries that it rests on, which are the model's own readings or choices: 66, 67.
-/
def Obligations.NodeCommands : Prop :=
  -- NODE_GRANT (R455): the orders of its checks, and else the GRANT is to be sent with the node's next grant number, or the present
  -- one for a refresh; nothing of the node changes before the acknowledgement.
   (∀ (tag : Nat) (c : Cmd) (s : State), s.canRun 0x72 tag c = true → c.w 6 ≤ 255 → c.w 7 ≤ 7 → (c.w 8 ≤ 31 ∨ c.w 8 = 0xFF) →
      (c.w 12 ≤ 255 ∨ c.w 12 = 0xFFFF) → c.zeroFrom 13 = true →
      Answers (.nodeGrant tag) s fun t =>
        let n := s.node (c.w 6)
        let expiry := near48 s.now (c.w3 9)
        OnlyCommands s.toDev t ∧
        if n.state ≠ 2 ∨ (n.type ≠ 2 ∧ n.type ≠ 4) then t.ended tag = some (.gives .stateConflict [])
        else if c.w 7 = 0 ∨ expiry ≤ s.now + 2496000 ∨ s.now + s.kwn 1 * 124800000 < expiry then
          t.ended tag = some (.gives .stateConflict [])
        else if s.trunkOk n.trunk = false ∨ n.silent = true ∨ n.synced = false then t.ended tag = some (.gives .stateConflict [])
        else if (c.w 8 = 0xFF ∧ s.energised = false) ∨ (c.w 8 ≠ 0xFF ∧ s.rel.sessions.getD (c.w 8) none = none) then
          t.ended tag = some (.gives .policyDeny [])
        else if n.grant.any (fun g => g.binding != c.w 8) = true ∨ (n.grant = none ∧ 40 ≤ s.grantCount n.trunk) then
          t.ended tag = some (.gives .stateConflict [])
        else t.working tag = some (.node (NodeRun.new (c.w 6) n.trunk
          [c.w 7, c.w 8, expiry, if c.w 12 = 0xFFFF then s.kwn 2 else c.w 12,
           if n.grant.isSome then n.gnum else (n.gnum + 1) % 65536] []))) ∧
  -- NODE_MSG to an ACTIVE, synchronised node of a usable trunk is to be sent, and is STATE_CONFLICT otherwise (R463).
   (∀ (tag : Nat) (c : Cmd) (s : State), s.canRun 0x74 tag c = true → c.w 6 ≤ 255 → c.w 7 ≤ 1 → c.w 8 ≤ 47 → c.zeroFrom 9 = true →
      c.plen = (c.w 8 + 1) / 2 →
      Answers (.nodeMsg tag) s fun t => OnlyCommands s.toDev t ∧
        let n := s.node (c.w 6)
        if n.state ≠ 2 ∨ s.trunkOk n.trunk = false ∨ n.synced = false then t.ended tag = some (.gives .stateConflict [])
        else t.working tag = some (.node (NodeRun.new (c.w 6) n.trunk [c.w 7] (c.bytes.take (c.w 8))))) ∧
  -- NODE_SCAN (R465): STATUS answers one word for each of the addresses 1–255, DISCOVER begins on a usable trunk, and UPLINKS takes
  -- the oldest 32 entries off the ring and answers sixteen words for each.
   (∀ (tag : Nat) (b : Bool) (c : Cmd) (s : State), s.canRun 0x75 tag c = true → c.zeroFrom 7 = true →
      (c.w 6 = 256 * b2n b → Answers (.nodeScanStatus tag) s fun t =>
        ∃ ws : List Word, t.ended tag = some (.gives .done ws) ∧ ws.length = 255 ∧ OnlyCommands s.toDev t ∧
          ∀ a, 1 ≤ a → a ≤ 255 → ws.getD (a - 1) 0 = s.scanWord a) ∧
      (c.w 6 = 1 + 256 * b2n b → Answers (.nodeScanDiscover tag) s fun t => OnlyCommands s.toDev t ∧
        if s.trunkOk (b2n b) = false then t.ended tag = some (.gives .stateConflict [])
        else t.working tag = some (.node (NodeRun.new 0 (b2n b) [0] []))) ∧
      (c.w 6 = 2 + 256 * b2n b → Answers (.nodeScanUplinks tag) s fun t =>
        t.ended tag = some (.gives .done ((s.kw.ring.take 32).flatMap UplinkEntry.words)) ∧
        t.kw = { s.kw with ring := s.kw.ring.drop 32 } ∧ OnlyCommands { s.toDev with kw := t.kw } t))

/-- The rows that receive a node frame R440 and R441 accept (R437, R443, R452–R464): ACK of a SYNC synchronises the node, of a GRANT ends
NODE_GRANT with the grant, of a GRANT_END ends NODE_REVOKE_GRANT, of an UNPAIR erases the record and ends NODE_UNPAIR; PAIR_REPLY adds a
found node once, with source 46; MSG_UP ends NODE_MSG with the message; UPLINK joins the ring of 64 with source 41, or 42 for an alert, and
else is source 47; IDLE with NEED_SYNC bumps the epoch where the last bump is far enough back; ANCHOR_REPORT is source 45. Log entries that
it rests on, which are the model's own readings or choices: 66, 67, 105, 120. -/
def Obligations.NodeFrames : Prop :=
  ∀ (rx : NodeRx) (r : Reply) (full : Nat) (s : State), s.hostUp = true → s.evc.lastEsn.length = 160 →
    cellsWf (fun _ => Node.empty) s.kw.nodes = true →
    (s.nodeTakes 8 rx r full = true →
      (r.sent = 0 → s.runFor 0x70 r.addr = none → Answers (.ack rx) s fun t =>
        (t.node r.addr).synced = true ∧ (t.node r.addr).prev = none ∧ (t.node r.addr).cn = full ∧ (t.node r.addr).silent = false ∧
        (∀ a, a ≠ r.addr → t.node a = s.node a) ∧ t = { s.nodeTaken rx r full with kw := t.kw }) ∧
      (∀ c x, r.sent = 1 → s.runFor 0x72 r.addr = some (c, x) → s.cmd c.tag = some c →
        (s.nodeTaken rx r full).grantLate c = false → Answers (.ack rx) s fun t =>
        t.ended c.tag = some ⟨.done, [word (x.n.getD 4 0), word x.addr, word (x.n.getD 1 0), word (x.n.getD 3 0)],
          .grant x.addr (runGrant x) (x.n.getD 4 0) x.ended, none, []⟩ ∧ t = { s.nodeTaken rx r full with cmds := t.cmds }) ∧
      (∀ c x, r.sent = 2 → s.runFor 0x73 r.addr = some (c, x) → s.cmd c.tag = some c → Answers (.ack rx) s fun t =>
        (t.node r.addr).ending = none ∧ t.ended c.tag = some (.gives .done []) ∧
        t = { s.nodeTaken rx r full with cmds := t.cmds, kw := t.kw }) ∧
      (∀ c x, r.sent = 7 → s.runFor 0x71 r.addr = some (c, x) → s.cmd c.tag = some c → Answers (.ack rx) s fun t =>
        t.node r.addr = Node.empty ∧ t.ended c.tag = some ⟨.done, [], .none, none, [nodeDraft r.addr full 0 0]⟩ ∧
        (∀ a, a ≠ r.addr → t.node a = s.node a))) ∧
    (∀ c x, s.nodeFits 0xC rx r = true → r.addr = 0 → s.nodeRun = some (c, x) → s.cmd c.tag = some c → c.op = 0x75 →
      (nodePay rx).getD 0 0 = 0x80 → (nodePay rx).length = 10 → Answers (.pairReply rx) s fun t =>
        if x.found.any (fun f => f.2 == slice 1 8 (nodePay rx)) then t = s.presentOn 4
        else t.working c.tag = some (.node { x with found := x.found ++ [(((nodePay rx).getD 9 0).toNat, slice 1 8 (nodePay rx))] }) ∧
          t.evc.lastEsn.getD 46 0 = s.clock.esn ∧ EventsOnly s.toDev t) ∧
    (∀ c x, s.nodeTakes 0xA rx r full = true → s.runFor 0x74 r.addr = some (c, x) → s.cmd c.tag = some c →
      Answers (.msgUp rx) s fun t =>
        let m := if x.n.headD 0 = 1 then nodeCrypt (s.node r.addr).kn 0x4E r.addr full ((nodePay rx).drop 1) else (nodePay rx).drop 1
        t = { s.nodeTaken rx r full with cmds := t.cmds } ∧
        t.ended c.tag = some (.gives .done (word (m.length + 256 * (((nodePay rx).take 1 ++ m).getD 0 0).toNat) ::
          bytesToWords (((nodePay rx).take 1 ++ m).drop 1)))) ∧
    (s.nodeTakes 9 rx r full = true → Answers (.uplink rx) s fun t =>
      EventsOnly { s.nodeTaken rx r full with kw := t.kw } t ∧
      if 64 ≤ s.kw.ring.length then t.kw.ring = s.kw.ring ∧ t.evc.lastEsn.getD 47 0 = s.clock.esn
      else (∃ u, t.kw.ring = s.kw.ring ++ [u] ∧ u.addr = r.addr ∧ u.trunk = rx.trunk ∧ u.code = ((nodePay rx).getD 0 0).toNat ∧
          u.data = (nodePay rx).drop 5 ∧ u.esn = s.clock.esn.toNat) ∧
        t.evc.lastEsn.getD (if bit 7 ((nodePay rx).getD 0 0).toNat then 42 else 41) 0 = s.clock.esn) ∧
    (s.nodeTakes 0xD rx r full = true → Answers (.idle rx) s fun t =>
      if (nodePay rx).getD 0 0 = 1 ∧ s.kw.bumpAt.all (fun b => b + s.kwn 6 * 124800000 ≤ (s.nodeTaken rx r full).now) = true then
        t.kw.epoch = s.kw.epoch + 1 ∧ t.kw.bumpAt = some t.now ∧ EventsOnly { s.nodeTaken rx r full with kw := t.kw } t
      else t = s.nodeTaken rx r full) ∧
    (s.nodeTakes 0xB rx r full = true → Answers (.anchorReport rx) s fun t =>
      t.evc.lastEsn.getD 45 0 = s.clock.esn ∧ t.uwb = { s.uwb with
        anchorPoll := s.uwb.anchorPoll.filter (· != r.addr), anchorNodes := s.uwb.anchorNodes.filter (· != r.addr) } ∧
      (s.uwb.anchorDone = false → t.rel = s.rel) ∧ t.rel.sessions = s.rel.sessions ∧ t.rel.relay = s.rel.relay ∧
      EventsOnly { s.nodeTaken rx r full with uwb := t.uwb, rel := t.rel } t)

/-- The node bus without a frame (R444, R456, R457, R466, R467): REPLY_WINDOW_CLOSE counts a missing reply, and at `KWN.SILENT_MISSES` the
node is silent with source 40; KWEWIN_CYCLE begins the next cycle of 10 ms and sends only on trunks in use; TRUNK_FAULT takes its trunk down
with source 36 or 37; GRANT_EXPIRY ends the grant with cause EXPIRY, source 44 and its GRANT record. Log entries that it rests on, which are
the model's own readings or choices: 58, 66, 67, 100. -/
def Obligations.NodeBusEvents : Prop :=
  ∀ (trunk addr : Nat) (s : State), s.hostUp = true → s.evc.lastEsn.length = 160 → cellsWf (fun _ => Node.empty) s.kw.nodes = true →
    (∀ r, s.kw.replies.find? (fun v => v.trunk == trunk) = some r → r.addr ≠ 0 → (s.node r.addr).state ≠ 0 → r.sent = 3 →
      s.nodeRun.all (fun p => p.1.op != 0x72) = true →
      Answers (.replyWindowClose trunk) s fun t =>
        let goes := decide (s.kwn 3 ≤ (s.node r.addr).misses + 1) && !(s.node r.addr).silent
        t.node r.addr = { s.node r.addr with
          misses := (s.node r.addr).misses + 1, silent := (s.node r.addr).silent || goes } ∧
        (∀ a, a ≠ r.addr → t.node a = s.node a) ∧ t.kw.replies = dropFirst trunk s.kw.replies ∧
        (goes = true → t.evc.lastEsn.getD 40 0 = s.clock.esn ∧ t.kw.seenSilent = true) ∧ (goes = false → t.evc = s.evc) ∧
        EventsOnly { s.toDev with kw := t.kw } t) ∧
    (∀ r c x, s.kw.replies.find? (fun v => v.trunk == trunk) = some r → r.addr = 0 → r.sent = 6 → s.nodeRun = some (c, x) →
      s.cmd c.tag = some c → c.op = 0x70 → x.stage = 0 → Answers (.replyWindowClose trunk) s fun t =>
        (if s.retries ≤ x.tries then t.ended c.tag = some (.gives .nodeSilent [])
          else t.working c.tag = some (.node { x with tries := x.tries + 1 })) ∧
        t.kw = { s.kw with replies := dropFirst trunk s.kw.replies } ∧ t = { s.toDev with cmds := t.cmds, kw := t.kw }) ∧
    (s.kwRuns = true → s.clock.pos < 4000 → Answers .kwewinCycle s fun t =>
      t.kw.cycle = s.now / 1248000 + 1 ∧ t.kw.cycle * 1248000 ≤ t.clock.tb ∧ t.rel = s.rel ∧ t.sets = s.sets ∧
      (∀ f ∈ t.kw.sent, f.1 < 2 ∧ t.trunkOk f.1 = true) ∧
      (s.kw.started = false → s.kw.replies = [] → t = { s.toDev with
        clock := t.clock, kw := { s.kw with cycle := t.kw.cycle, sent := [] } })) ∧
    (s.kwRuns = true → s.trunkFaulted (trunk % 2) = false → Answers (.trunkFault trunk) s fun t =>
      Raised (36 + trunk % 2) s.toDev t ∧ t.trunkFaulted (trunk % 2) = true ∧
      t.trunkFaulted (1 - trunk % 2) = s.trunkFaulted (1 - trunk % 2) ∧ t.kw.nodes = s.kw.nodes ∧
      (∀ v ∈ t.kw.replies, v.trunk ≠ trunk % 2) ∧ EventsOnly { s.toDev with kw := t.kw } t) ∧
    (∀ g, (s.node addr).grant = some g → s.clock.pos < 4000 → Answers (.grantExpiry addr) s fun t =>
      s.closeAt g.win ≤ t.clock.tb ∧ (t.node addr).grant = none ∧ (∀ a, a ≠ addr → t.node a = s.node a) ∧
      t.clock.evEsn = s.clock.esn ∧ t.evc.lastEsn.getD 44 0 = s.clock.esn + 1 ∧
      t.lastRecord = some (0x30, addr, g.scope, g.win.close % 2 ^ 32, 0) ∧
      t.jrnl.buf.length = s.jrnl.buf.length + 1 ∧ EventsOnly { s.toDev with kw := t.kw } t)

/-- NV_READ of a RAW or COUNTER partition and NV_RECORD_READ of one record that is kept (R480, R482–R484, R488), over pages that meet no
error: the bytes, the counters' values, the record's number and payload; NV_UNCORRECTABLE where a group, a counter or both copies of a
record cannot be read, with `NVSTAT.UNCORR` set; STATE_CONFLICT outside the partition. Nothing but the command table changes, but for a
record's comparison. Log entries that it rests on, which are the model's own readings or choices: 68, 69. -/
def Obligations.NvReads : Prop :=
  ∀ (tag : Nat) (c : Cmd) (s : State) (p : Partition), c.w 6 ≠ 0 → c.w 6 < 256 → c.zeroFrom 10 = true → c.plen = 0 →
    s.partition (c.w 6) = some p →
    (s.canRun 0x80 tag c = true → Answers (.nvRead tag []) s fun t =>
      let off := c.w2 7
      let len := c.w 9
      (p.mode = 0 → OnlyCommands { s.toDev with nv := t.nv } t ∧
        t.nv = { s.nv with uncorr := s.nv.uncorr || t.ended tag == some (.gives .nvUncorrectable []) } ∧ t.ended tag = some (
        if len = 0 ∨ 1024 < len ∨ 64 * p.pages < off + len then .gives .stateConflict []
        else if s.nvReadable (p.addr + off) len then .gives .done (bytesToWords (s.nvBytes (p.addr + off) len))
        else .gives .nvUncorrectable [])) ∧
      (p.mode = 1 → len ≠ 0 → len ≤ 1024 → off + len ≤ p.size - 8 →
        t.ended tag = some (match s.chooseCopy p.addr (p.addr + p.size) p.size (fun _ => true) with
          | none => .gives .nvUncorrectable []
          | some (x, _) => .gives .done (bytesToWords (s.nvBytes (x + off) len)))) ∧
      (p.mode = 2 → OnlyCommands s.toDev t ∧ t.ended tag = some (.gives .stateConflict [])) ∧
      (p.mode = 3 → OnlyCommands { s.toDev with nv := t.nv } t ∧
        t.nv = { s.nv with uncorr := s.nv.uncorr || t.ended tag == some (.gives .nvUncorrectable []) } ∧ t.ended tag = some (
        if len = 0 ∨ 256 < len ∨ p.pages < off + len then .gives .stateConflict []
        else
          let vs := (List.range len).map (fun i => s.counterNow (p.addr + 64 * (off + i)))
          if vs.any Option.isNone then .gives .nvUncorrectable [] else .gives .done (vs.flatMap (fun v => leWords 2 (v.getD 0)))))) ∧
    (s.canRun 0x83 tag c = true → p.mode = 2 → p.size ≤ 1024 → c.w 9 = 1 → 1 ≤ c.w2 7 → c.w2 7 ≤ s.newestRec p →
      c.w2 7 < 0xFFFFFFFF → s.newestRec p < c.w2 7 + p.ring →
      Answers (.nvRecordRead tag []) s fun t => EventsOnly s.toDev t ∧
        t.ended tag = some (match s.chooseCopy (p.copyA (c.w2 7)) (p.copyB (c.w2 7)) p.size (fun q => q == c.w2 7) with
          | none => .gives .nvUncorrectable []
          | some (x, _) => .gives .done (leWords 2 (c.w2 7) ++ bytesToWords (s.nvBytes x (p.size - 8)))))

/-- NV_WRITE, NV_RECORD_APPEND and NV_COUNTER_INC (R480–R484, R475): PROTECTED in a protected range, LIMIT_REACHED at the end of a counter,
and else DONE with the page writes asked for behind those that wait: one page of a RAW write; copy B and then copy A of a record; the
counter's next cell. A TWIN part before the last is only staged. No byte of EEPROM changes before its page write ends. Log entries that it
rests on, which are the model's own readings or choices: 68, 69, 93. -/
def Obligations.NvWrites : Prop :=
  ∀ (tag : Nat) (c : Cmd) (s : State) (p : Partition), c.w 6 ≠ 0 → c.w 6 < 256 → s.partition (c.w 6) = some p →
    (s.canRun 0x81 tag c = true → c.w 10 ≤ 1 → c.zeroFrom 11 = true → c.plen = (c.w 9 + 1) / 2 →
      Answers (.nvWrite tag) s fun t =>
        let off := c.w2 7
        let len := c.w 9
        t.nv.cells = s.nv.cells ∧ OnlyCommands { s.toDev with nv := t.nv } t ∧
        (p.mode = 0 →
          if len = 0 ∨ 1024 < len ∨ 64 * p.pages ≤ off then t.ended tag = some (.gives .stateConflict []) ∧ t.nv = s.nv
          else if s.hostProtected = true then t.ended tag = some (.gives .protected_ []) ∧ t.nv = s.nv
          else t.ended tag = some (.gives .done []) ∧ ∃ w, t.nv.queue = s.nv.queue ++ [w] ∧ w.owner = some tag ∧
            w.page = (p.addr + off) / 64 ∧ ∀ x ∈ w.cells, x.1 / 64 = w.page) ∧
        (p.mode = 1 → off = 0 → c.w 10 = 0 → len ≠ 0 → len ≤ p.size - 8 → s.hostProtected = false →
          t.ended tag = some (.gives .done []) ∧ t.nv = { s.nv with staging := some (c.w 6, c.bytes.take len) })) ∧
    (s.canRun 0x82 tag c = true → c.zeroFrom 7 = true → p.mode = 2 → c.plen = (p.size - 8) / 2 →
      Answers (.nvRecordAppend tag) s fun t =>
        let r := s.newestRec p + 1
        t.nv.cells = s.nv.cells ∧ OnlyCommands { s.toDev with nv := t.nv } t ∧
        if s.hostProtected = true then t.ended tag = some (.gives .protected_ []) ∧ t.nv = s.nv
        else t.ended tag = some (.gives .done (leWords 2 r)) ∧ t.nv.queue = s.nv.queue ++
          pageWrites (some tag) (p.copyB r) (recBytes c.bytes r) ++ pageWrites (some tag) (p.copyA r) (recBytes c.bytes r)) ∧
    (s.canRun 0x84 tag c = true → c.zeroFrom 8 = true → c.plen = 0 → p.mode = 3 → c.w 7 < p.pages →
      Answers (.nvCounterInc tag) s fun t =>
        let a := p.addr + 64 * c.w 7
        t.nv.cells = s.nv.cells ∧ OnlyCommands { s.toDev with nv := t.nv } t ∧
        match s.counterNow a with
        | none => t.ended tag = some (.gives .nvUncorrectable []) ∧ t.nv = { s.nv with uncorr := true }
        | some v =>
          if v = 0xFFFFFFFE then t.ended tag = some (.gives .limitReached []) ∧ t.nv = s.nv
          else t.ended tag = some (.gives .done (leWords 2 (v + 1))) ∧
            t.nv.queue = s.nv.queue ++ pageWrites (some tag) (a + 4 * ((v + 1) % 16)) (leBytes 4 (v + 1)))

/-- The media commands of chapter 20 that end (R499–R502, R515, R522), on a ready medium: reads beyond a volume and writes to another volume
than V4 and V6 are refused; a read that the NAND gives back answers the volume's bytes; a write that fits goes behind the buffered ones,
durable at once where it asks for it; discards leave zeros in their range and no byte outside; MEDIA_FLUSH leaves the buffer empty;
MEDIA_HEALTH answers 128 words. Log entries that it rests on, which are the model's own readings or choices: 72, 73. -/
def Obligations.MediaCommands : Prop :=
  ∀ (tag : Nat) (nand : NandRead) (c : Cmd) (s : State), s.med.ready = true → c.vol < 8 →
    (s.canRun 0x88 tag c = true → nand = ⟨0, nand.bits, false, false⟩ → c.off % 2 = 0 → 2 ≤ c.w 10 → c.w 10 ≤ 1024 → c.w 10 % 2 = 0 →
      c.zeroFrom 11 = true → c.plen = 0 →
      Answers (.mediaRead tag nand) s fun t => OnlyCommands { s.toDev with free := t.free } t ∧
        t.ended tag = some (if c.vol = 7 then .gives .protected_ [] else if s.med.size c.vol < c.off + c.w 10 then .gives .stateConflict []
          else .gives .done (bytesToWords (s.volRead c.vol c.off (c.w 10)).1))) ∧
    (s.canRun 0x89 tag c = true → c.off % 512 = 0 → 1 ≤ c.w 10 → c.w 10 ≤ 2048 → c.w 10 % 512 = 0 → c.w 11 ≤ 1 → c.zeroFrom 12 = true →
      c.plen = c.w 10 / 2 →
      Answers (.mediaWrite tag) s fun t => OnlyCommands { s.toDev with med := t.med } t ∧
        let fresh := ((unitsOf c.off (c.w 10)).filter (fun u => !s.med.mapped.contains (c.vol, u))).length
        if c.vol ≠ 4 ∧ c.vol ≠ 6 then t.ended tag = some (.gives .protected_ []) ∧ t.med = s.med
        else if s.med.size c.vol < c.off + c.w 10 then t.ended tag = some (.gives .stateConflict []) ∧ t.med = s.med
        else if s.roomFor fresh = false then t.ended tag = some (.gives .limitReached []) ∧ t.med = s.med
        else if s.diesUsed = 0 then t.ended tag = some (.gives .hwFault []) ∧ t.med = s.med
        else t.ended tag = some (.gives .done []) ∧ t.med.slc = s.med.slc + c.w 10 ∧
          (if c.w 11 = 1 ∨ s.med.state = .writeThrough then t.med.buf = []
           else t.med.buf.getLast? = some ⟨c.vol, c.off, c.bytes⟩)) ∧
    (∀ r ∈ [(0x8A, Instr.mediaDiscard tag), (0x8B, Instr.mediaSecureDiscard tag)], s.canRun r.1 tag c = true → c.off % 4096 = 0 →
      c.w3 10 % 4096 = 0 → c.zeroFrom 13 = true → c.plen = 0 →
      Answers r.2 s fun t => OnlyCommands { s.toDev with med := t.med } t ∧
        if c.vol ≠ 4 ∧ c.vol ≠ 6 then t.ended tag = some (.gives .protected_ []) ∧ t.med = s.med
        else if s.med.size c.vol < c.off + s.discardLen c then t.ended tag = some (.gives .stateConflict []) ∧ t.med = s.med
        else t.ended tag = some (.gives .done []) ∧ t.med.buf = [] ∧
          t.med.v4 = (if c.vol = 4 then cellsClear c.off (s.discardLen c) s.durable.med.v4 else s.durable.med.v4) ∧
          t.med.v6 = (if c.vol = 6 then cellsClear c.off (s.discardLen c) s.durable.med.v6 else s.durable.med.v6)) ∧
    (s.canRun 0x8C tag c = true → c.zeroFrom 6 = true → c.plen = 0 → Answers (.mediaHealth tag) s fun t =>
      (∃ ws, t.ended tag = some (.gives .done ws) ∧ ws.length = 128 ∧ ws.getD 0 0 = word s.diesUsed ∧ ws.getD 9 0 = word s.med.state.code) ∧
      OnlyCommands { s.toDev with free := t.free } t) ∧
    (s.canRun 0x8D tag c = true → c.zeroFrom 6 = true → c.plen = 0 → s.dom 15 = .on → s.jrnl.hold = false →
      s.jrnl.v2.length + s.jrnl.buf.length < v2Capacity →
      Answers (.mediaFlush tag) s fun t => t.ended tag = some (.gives .done []) ∧ t.med.buf = [] ∧ t.jrnl.buf = [] ∧
        t.jrnl.v2 = s.jrnl.v2 ++ s.jrnl.buf ∧ EventsOnly { s.toDev with med := t.med } t)

/-- SCRIPT_LOAD, SCRIPT_RUN, SCRIPT_STOP and the test port. Log entries that it rests on, which are the model's own readings or choices: 25,
76, 78, 80. -/
def Obligations.ScriptCommandsAndDebug : Prop :=
  -- SCRIPT_LOAD of a part before the last stages it behind the parts before it (R423); SCRIPT_RUN of a resident script that nothing
  -- stands against begins with W0 its input's length, the program counter at its entry and cleared banks filled with its data
  -- (R403, R405, R425); SCRIPT_STOP of a sequencer that runs no loaded script completes DONE and changes nothing (R427).
   (∀ (tag q : Nat) (c : Cmd) (s : State), q < 2 → c.w 6 = q →
      (s.canRun 0x90 tag c = true → c.w 8 = 0 → c.zeroFrom 9 = true → Answers (.scriptLoad tag) s fun t =>
        OnlyCommands { s.toDev with ham := t.ham } t ∧
        if c.w 7 ≠ 0 ∧ c.w 7 ≠ s.ham.stage.length then t.ended tag = some (.gives .stateConflict []) ∧ t.ham = s.ham
        else if s.med.ready = false then t.ended tag = some (.gives .mediaUncorrectable []) ∧ t.ham = s.ham
        else t.ended tag = some (.gives .done []) ∧
          t.ham = { s.ham with stage := (if c.w 7 = 0 then [] else s.ham.stage) ++ c.payload }) ∧
      (∀ i, s.canRun 0x91 tag c = true → c.zeroFrom 9 = true → s.runWaits q = false → (s.stored q).isSome = true →
        (s.seqr q).restoreFailed = false → (s.seqr q).image = some i → i.secure = false → i.banks &&& (s.seqr (1 - q)).claimed = 0 →
        Answers (.scriptRun tag) s fun t =>
          t.working tag = some (.script q) ∧ (t.seqr q).running = some tag ∧ (t.seqr q).rom = false ∧ (t.seqr q).pc = i.entry ∧
          (t.seqr q).prog = 0 ∧ (t.seqr q).flags = 0 ∧ (t.seqr q).frames = [] ∧
          (t.seqr q).w = [BitVec.ofNat 32 c.plen, BitVec.ofNat 32 (c.w2 7)] ++ List.replicate 14 0 ∧
          (t.seqr q).claimed = i.banks ||| 2 ^ q ∧ (t.seqr q).iram = (s.seqr q).iram ∧ t.seqr (1 - q) = s.seqr (1 - q) ∧
          t.ham.banks = cellsWrite 0 (0x1000 * q) i.data (clearBanks (i.banks ||| 2 ^ q) s.ham.banks) ∧
          OnlyCommands { s.toDev with ham := t.ham } t) ∧
      (s.canRun 0x92 tag c = true → c.zeroFrom 7 = true → s.loadedRuns q = false → Answers (.scriptStop tag) s fun t =>
        t.ended tag = some (.gives .done []) ∧ OnlyCommands s.toDev t)) ∧
  -- Debug (R103, R429, R430): an unlock attempt sets UNLOCKED where ALLOW is 1, debug is not fused off, and the signature over the
  -- device's number, UID and a fresh challenge verifies against K01; it is recorded either way (source 159). A halt and a
  -- breakpoint stop a sequencer that runs no ROM and no secure script; a single step is the instruction's own effect; and a debug
  -- write changes the register, or the bytes of the shared banks, that it names.
   (∀ (sig bytes : Bytes) (q addr : Nat) (s : State), s.hostUp = true → q < 2 →
      (s.anvil.ready = true → Answers (.unlockAttempt sig) s fun t =>
        t.host.dbgUnlocked = (s.host.dbgUnlocked || (s.host.dbgAllow && !s.ident.dbgFused && !s.keyEmpty 1 &&
          ecdsaVerify (s.key 1).material (sha256 (leBytes 2 0x7256 ++ s.cru.uid ++ (s.draw 16).1)) sig)) ∧
        Raised 159 s.toDev t ∧ t.lastRecord = some (0x70, 0, s.dbgctl, t.dbgctl, 0) ∧ t.ham = s.ham ∧ t.sets = s.sets) ∧
      (s.host.dbgUnlocked = true → (s.seqr q).halted = false →
        ((s.seqr q).rom = false → (s.seqr q).secure = false → Answers (.debugHalt q) s fun t =>
          t.seqr q = { s.seqr q with halted := true } ∧ t.seqr (1 - q) = s.seqr (1 - q) ∧ Raised 159 s.toDev t ∧
          EventsOnly { s.toDev with ham := t.ham, tmr := t.tmr } t) ∧
        (((s.seqr q).rom = true ∨ (s.seqr q).secure = true) → Answers (.debugHalt q) s fun t =>
          t.ham = s.ham ∧ Raised 159 s.toDev t ∧ EventsOnly s.toDev t)) ∧
      (s.host.dbgUnlocked = true → s.scriptRuns q = true → (s.seqr q).secure = false → (s.seqr q).breakpoints.contains (s.seqr q).pc = true →
        Answers (.breakpoint q) s fun t => t.seqr q = { s.seqr q with halted := true } ∧ t.seqr (1 - q) = s.seqr (1 - q) ∧
          Raised 159 s.toDev t ∧ EventsOnly { s.toDev with ham := t.ham, tmr := t.tmr } t) ∧
      (s.host.dbgUnlocked = true → (s.seqr q).halted = true →
        (∀ r ∈ [(Instr.add q, 0, 0), (.sub q, 0, 1), (.mov q, 1, 9), (.cmp q, 0, 10), (.load q, 2, 0), (.store q, 3, 0), (.call q, 4, 9),
            (.ret q, 4, 10), (.halt q, 7, 0), (.setr q, 7, 5), (.sysNop q, 7, 9)],
          (s.onSeq q (fun u => { u with halted := false, breakpoints := [] })).atWord q r.2.1 r.2.2 = true →
          ∀ v, exec r.1 { s with toDev := s.onSeq q (fun u => { u with halted := false, breakpoints := [] }) } = .next v →
            Answers (.singleStep q) s fun t =>
              t = v.onSeq q (fun u => { u with halted := true, breakpoints := (s.seqr q).breakpoints })) ∧
        (bytes.length = 4 → addr < 16 → Answers (.debugMemoryWrite q 0 addr bytes) s fun t =>
          t = s.onSeq q (fun u => u.setReg addr (BitVec.ofNat 32 (leNat bytes)))) ∧
        (addr < 0x10000 → (s.seqr q).inData addr bytes.length = true → cellsWf (fun _ => (0 : Byte)) s.ham.banks = true →
          Answers (.debugMemoryWrite q 1 addr bytes) s fun t => t = { s.toDev with ham := { s.ham with banks := t.ham.banks } } ∧
            ∀ a, cellGet 0 a t.ham.banks =
              if addr ≤ a ∧ a < addr + bytes.length then bytes.getD (a - addr) 0 else cellGet 0 a s.ham.banks)))

/-- What a write of `PWRREQ` asks for (R55–R57, R68, R71, R72): PWRREQ_SELECT only selects; a barred request sets REJ and its record has
cause 1; POWER_ON, POWER_OFF, CLK_GATE and CLK_UNGATE take the domain where the rules say and leave every other domain as it was; a held
domain defers its POWER_OFF and ignores its CLK_GATE. Log entries that it rests on, which are the model's own readings or choices: 14, 26,
98. -/
def Obligations.DomainRequests : Prop :=
  ∀ (n : Nat) (s : State), n < 24 → s.hostUp = true → s.pwr.doms.length = 24 →
    Answers (.pwrreqSelect n) s (fun t => t.pwr = { s.accessed.pwr with req := word n } ∧ t.lastRecord = some (4, 0x10, s.pwr.req.toNat, n, 0) ∧
      EventsOnly s.toDev t) ∧
    (∀ r ∈ [(Instr.powerOn n, 1), (.powerOff n, 2), (.clkGate n, 3), (.clkUngate n, 4)], s.requestBarred n r.2 = true →
      Answers r.1 s fun t => t.pwr = { s.accessed.pwr with req := word (n + 32 * r.2), rej := true } ∧ EventsOnly s.toDev t ∧
        t.lastRecord = some (0x41, n, s.dstate n, s.dstate n, 1)) ∧
    (s.requestBarred n 1 = false → Answers (.powerOn n) s fun t => t.sets = s.sets ∧ t.rel = s.rel ∧
      (∀ m, m ≠ n → t.dom m = s.dom m) ∧ t.pwr.deferrals = s.pwr.deferrals.filter (fun f => f.dom != n) ∧
      t.dom n = (if s.domDeferred n then s.dom n else match s.dom n with
        | .off => .on
        | .lost => .on
        | .drain => .on
        | x => x)) ∧
    (s.requestBarred n 2 = false → Answers (.powerOff n) s fun t => t.sets = s.sets ∧ (∀ m, m ≠ n → t.dom m = s.dom m) ∧
      if s.domDeferred n = true then t.dom n = s.dom n ∧ t.pwr.deferrals = s.pwr.deferrals ∧ EventsOnly s.toDev t
      else if s.domOn n = false ∨ s.dom n = .drain then t.dom n = s.dom n ∧ EventsOnly s.toDev t
      else if s.domHeld n = true then
        t.dom n = s.dom n ∧ t.lastRecord = some (0x41, n, s.dstate n, 5, 2) ∧ EventsOnly s.toDev t ∧
        (∃ w, t.pwr.deferrals = s.pwr.deferrals ++ [⟨n, s.clock.esn, w⟩] ∧ w.uOpen = s.clock.unc ∧ s.clock.tb ≤ w.opens ∧
          w.close = w.opens + s.setting 0x010000 * 124800)
      else t.dom n = if s.drains n then .drain else .off) ∧
    (s.requestBarred n 3 = false → Answers (.clkGate n) s fun t => EventsOnly s.toDev t ∧ (∀ m, m ≠ n → t.dom m = s.dom m) ∧
      t.dom n = (if s.domHeld n = false ∧ s.dom n = .on then .gated else s.dom n) ∧ t.pwr.ign = (s.pwr.ign || s.domHeld n)) ∧
    (s.requestBarred n 4 = false → Answers (.clkUngate n) s fun t => EventsOnly s.toDev t ∧ (∀ m, m ≠ n → t.dom m = s.dom m) ∧
      t.dom n = (if s.dom n = .gated then .on else s.dom n) ∧ t.pwr.ign = s.pwr.ign)

/-- The submission and completion ports (R90–R94): SQ_PORT_WRITE stages a word, STAGING_DISCARD empties the staging buffer; DOORBELL is
refused while no place is free, and else puts the staged command behind those in flight with the doorbell's stamp and ESN; CQ_PORT_READ
answers the head entry's next word, REWIND goes back to its first, and POP takes it off; a strobe within which HA changes reads 0xFFFF and
has no effect (R79). Log entries that it rests on, which are the model's own readings or choices: 15, 23, 117, 125, 126. -/
def Obligations.HostPorts : Prop :=
  ∀ (w : Word) (s : State), s.hostUp = true →
    (s.host.staged.length < 1040 → Answers (.sqPortWrite w) s fun t =>
      t = { s.accessed with host := { s.host with staged := s.host.staged ++ [w] } }) ∧
    Answers .stagingDiscard s (fun t => t = { s.accessed with host := { s.host with staged := [], refused := false } }) ∧
    Answers (.cqPortRead true) s (fun t => t = { s.accessed with host := { s.host with data := 0xFFFF } }) ∧
    Answers (.cqPortRead false) s (fun t => t.host.data = s.cqWord ∧
      t = { s.accessed with host := { s.host with data := s.cqWord, cqRead := t.host.cqRead } } ∧
      t.host.cqRead = match s.store with
        | [] => s.host.cqRead
        | e :: _ => if s.host.cqRead < 8 + e.payload.length then s.host.cqRead + 1 else s.host.cqRead) ∧
    Answers .rewind s (fun t => t = { s.accessed with host := { s.host with cqRead := 0 } }) ∧
    Answers .pop s (fun t => t.store = s.store.drop 1 ∧ t.host = { s.host with cqRead := 0 } ∧ t.clock.esn = s.clock.esn + 1 ∧
      t = { s.accessed with store := t.store, host := t.host, clock := t.clock }) ∧
    (s.sqFree = 0 → Answers .doorbell s fun t => t.host = { s.host with refused := true } ∧ t.cmds = s.cmds ∧
      s.host.passedAt ≤ t.clock.tb ∧ t = { s.accessed with host := t.host, clock := t.clock }) ∧
    (s.sqFree ≠ 0 → s.stagedBad = false → bit 3 (s.host.staged.getD 0 0).toNat = false → s.pwr.sleep = none →
      (∀ c ∈ s.cmds, c.tag ≠ (s.host.staged.getD 1 0).toNat % 512) → (∀ e ∈ s.store, e.tag ≠ (s.host.staged.getD 1 0).toNat % 512) →
      Answers .doorbell s fun t =>
        t.cmds = s.cmds ++ [⟨(s.host.staged.getD 1 0).toNat % 512, fit 16 0 (s.host.staged.take 16), s.host.staged.drop 16, t.clock.evTb,
          s.clock.esn.toNat, s.clock.unc, .queued, 0, 0, none, [], false, !s.host.ready⟩] ∧
        s.host.passedAt ≤ t.clock.evTb ∧ s.clock.tb ≤ t.clock.evTb ∧
        t.host = { s.host with staged := [], passedAt := t.clock.evTb + s.host.staged.length, refused := false } ∧
        t = { s.accessed with cmds := t.cmds, host := t.host, clock := t.clock })

/-- The event controller's and the settings window. Log entries that it rests on, which are the model's own readings or choices: 39, 43. -/
def Obligations.RegisterWindows : Prop :=
  -- CLAIM answers the source that stands highest for the line and clears its pending bit unless its condition sticks (R157);
  -- EVC_DATA_WRITE of a source's configuration that nothing refuses sets it and its record has cause 0, and a locked one changes
  -- nothing, with cause 1 (R97, R152, R153).
   (∀ (line : Nat) (w : Word) (s : State), s.hostUp = true → s.evc.srcCfg.length = 160 →
      Answers (.claim line true) s (fun t => t.host.data = 0xFFFF ∧ t = { s.accessed with host := t.host }) ∧
      Answers (.claim line false) s (fun t => t.host.data = s.claimWord (line % 4) ∧ t = { s.accessed with host := t.host, evc := t.evc } ∧
        t.evc = match s.claimable (line % 4) with
          | none => s.evc
          | some n => if s.sticks n then s.evc else { s.evc with pendH := s.evc.pendH.set n none }) ∧
      (∀ i, s.host.evcAddr.toNat % 4096 = i → i < 0xA0 →
        (s.judgeEvc i w.toNat = 0 → Answers (.evcDataWrite w) s fun t =>
          let v := if sourceProg i then w.toNat % 16384 else w.toNat % 1024 + field 13 10 (s.srcCfg i) * 1024
          t.srcCfg i = v ∧ (∀ k, k ≠ i → t.srcCfg k = s.srcCfg k) ∧ t.evc.statOk = true ∧ t.lastRecord = some (3, i, s.srcCfg i, v, 0) ∧
          t.evc.srcFilt = s.evc.srcFilt ∧ t.evc.wcfg = s.evc.wcfg ∧ EventsOnly { s.toDev with host := t.host } t) ∧
        (s.judgeEvc i w.toNat = 1 → Answers (.evcDataWrite w) s fun t =>
          t.evc = { s.evc with statOk := false, statLocked := true } ∧ t.lastRecord = some (3, i, s.srcCfg i, w.toNat, 1) ∧
          EventsOnly { s.toDev with host := t.host } t))) ∧
  -- SET_DATA_WRITE of a plain one-word setting (R130–R134): accepted, the setting takes the value and its record holds the old
  -- value and the new one; refused as locked, protected or out of range, no setting changes, the record names the cause, and its
  -- `SET_STAT` bit is set. SET_DATA_READ answers the value in effect, and advances the index under AUTOINC (R133).
   (∀ (w : Word) (r : SettingRow) (s : State), s.hostUp = true → settingRow s.setAddr = some r → r.addr = s.setAddr → r.words = 1 →
      r.lock ≠ 1 → r.addr / 65536 ≠ 0x0C → loopAt r.addr = none → r.addr ∉ [0x000020, 0x0B0030, 0x0B0051] →
      (∀ cause, s.judge false r.addr w.toNat = cause → cause ≠ 4 → Answers (.setDataWrite w) s fun t =>
        let v := s.attempt r r.addr w.toNat
        t.host.setOk = (cause == 0) ∧ t.host.setLocked = (s.host.setLocked || cause == 1) ∧
        t.host.setProt = (s.host.setProt || cause == 2) ∧ t.host.setRange = (s.host.setRange || cause == 3) ∧
        t.sets = (if cause = 0 then cellPut (settingDefault r.addr) r.addr v s.sets else s.sets) ∧
        t.lastRecord = some (if cause = 0 then 1 else 2, r.addr, s.value r, v, cause) ∧
        (r.addr ∉ [0x030000, 0x030001, 0x080001] → t.uhf = s.uhf ∧ t.atlas = s.atlas) ∧
        EventsOnly { s.toDev with host := t.host, sets := t.sets, setLow := t.setLow, uhf := t.uhf, atlas := t.atlas } t) ∧
      Answers (.setDataRead true) s (fun t => t = { s.accessed with host := { s.host with data := 0xFFFF } }) ∧
      Answers (.setDataRead false) s fun t => t.host.data = s.readSetting s.setAddr ∧ t.host.setOk = true ∧
        t.host.setAddrHi = s.host.setAddrHi ∧ t = { s.accessed with host := t.host } ∧
        t.host.setAddrLo = if bit 15 s.host.setAddrHi.toNat then s.host.setAddrLo + 1 else s.host.setAddrLo)

/-- TMR_GO and TMR_HALT, where nothing refuses them and no compare is due, start and stop the channels of their mask and no other (R166);
TB_SNAPSHOT captures TB and its residue, and snaps the channels with COSNAP (R48, R169); JRNL_HEAD_CAPTURE shows the ESN and the tag of the
newest record and the count of those buffered (R100). Log entries that it rests on, which are the model's own readings or choices: 24, 42,
117. -/
def Obligations.TimersAndCaptures : Prop :=
  ∀ (mask sel : Nat) (s : State), s.hostUp = true → mask < 65536 → s.tmr.length = 16 →
    (s.judge false 0x0C0200 mask = 0 → (∀ n, n < 16 → s.tmrPast n = false) → Answers (.tmrGo mask) s fun t =>
      (∀ n, n < 16 → (t.chan n).run = ((s.chan n).run || bit n mask) ∧ (bit n mask = false → t.chan n = s.chan n) ∧
        (bit n mask = true → (s.chan n).run = false → (t.chan n).start = t.clock.evTb)) ∧
      EventsOnly { s.toDev with host := t.host, tmr := t.tmr, setLow := t.setLow } t) ∧
    (s.judge false 0x0C0201 mask = 0 → (∀ n, n < 16 → s.tmrPast n = false) → Answers (.tmrHalt mask) s fun t =>
      (∀ n, n < 16 → (t.chan n).run = ((s.chan n).run && !bit n mask) ∧ (bit n mask = false → t.chan n = s.chan n)) ∧
      EventsOnly { s.toDev with host := t.host, tmr := t.tmr, setLow := t.setLow } t) ∧
    Answers .tbSnapshot s (fun t => t.clock.snapTb = t.clock.tb ∧ t.clock.snapRes = t.clock.rho ∧ t.clock.snapValid = true ∧
      s.clock.tb ≤ t.clock.tb ∧ t.clock.esn = s.clock.esn + 1 ∧ (∀ n, n < 16 → (s.chan n).cosnap = false → t.chan n = s.chan n) ∧
      (∀ n, n < 16 → (s.chan n).cosnap = true → (t.chan n).snap = s.tmrC n t.clock.tb ∧ (t.chan n).snapAt = t.clock.tb) ∧
      t = { s.accessed with clock := t.clock, tmr := t.tmr }) ∧
    Answers (.jrnlHeadCapture sel) s (fun t => t = { s.accessed with host := { s.host with
      jrnlSel := sel % 8, jrnlCapEsn := s.jrnl.lastEsn, jrnlCapTag := s.headTag, jrnlCapCount := s.jrnl.buf.length } })

/-- LOCKNOW locks with cause 2 (R99); a kick before its window's close reopens the window, and a wrong code is recorded and counts as an
expiry (R101, R102); a write of a locked `WDT_CFG` changes nothing (R102); RELOCK ends the debug session (R103); REGISTER_WRITE of
`IRQ_MASK`, of an address register and of status bits that a 1 clears, and a plain register's reserved bit that changes nothing but the
unpredictability of its function, and that writes nothing where HA changes within its strobe (R79, R84, R85, R95, R104). Log entries that it
rests on, which are the model's own readings or choices: 18, 19, 20, 21, 22, 25, 97, 114, 125, 126. -/
def Obligations.RegisterWrites : Prop :=
  ∀ (w : Word) (offset : Nat) (allow : Bool) (s : State), s.hostUp = true →
    Answers .locknow s (fun t => t.rel = { s.rel with relay := .locked, cause := 2 } ∧ t.energised = false ∧
      EventsOnly { s.toDev with rel := t.rel, kw := t.kw } t) ∧
    (s.host.wdtWin.any s.reached = false → Answers (.wdtKick 0x6B2E) s fun t => EventsOnly { s.toDev with host := t.host } t ∧
      t.host = { s.host with
        wdtExpired := false, wdtWin := if bit 15 s.host.wdtCfg.toNat then some (t.opened (s.host.wdtCfg.toNat % 4096 * 124800)) else none }) ∧
    (w ≠ 0x6B2E → field 13 12 s.host.wdtCfg.toNat = 0 → Answers (.wdtKick w) s fun t => t.host.wdtExpired = true ∧
      t.jrnl.buf.length = s.jrnl.buf.length + 2 ∧ EventsOnly { s.toDev with host := t.host } t) ∧
    Answers (.relock allow) s (fun t => t.host.dbgUnlocked = false ∧ t.host.dbgAllow = allow ∧ t.cru = s.cru ∧ t.rel = s.rel ∧
      t.sets = s.sets ∧ (s.host.dbgUnlocked = true → t.ham.a.halted = false ∧ t.ham.b.halted = false)) ∧
    Answers (.registerWrite 0x24 w false) s (fun t => t.host = { s.host with irqMask := w } ∧
      t.lastRecord = some (4, 0x24, s.host.irqMask.toNat, w.toNat, 0) ∧ EventsOnly { s.toDev with host := t.host } t) ∧
    (bit 14 s.host.wdtCfg.toNat = true → Answers (.registerWrite 0x56 w false) s fun t =>
      t.host = s.host ∧ t.lastRecord = some (4, 0x56, s.host.wdtCfg.toNat, w.toNat, 2) ∧ EventsOnly s.toDev t) ∧
    Answers (.registerWrite offset w true) s (fun t => t = s.accessed) ∧
    Answers (.registerWrite 0x2C w false) s (fun t => t = { s.accessed with host := { s.host with setAddrLo := w } }) ∧
    Answers (.registerWrite 0x28 w false) s (fun t => t = { s.accessed with host :=
      if w.toNat &&& 0x7000 = 0 then { s.host with evcAddr := w } else { s.host with poison := s.host.poison ||| 2 ^ 14 } }) ∧
    Answers (.registerWrite 0x12 w false) s (fun t => t = { s.accessed with pwr := { s.accessed.pwr with
      rej := s.pwr.rej && !bit 8 w.toNat, ign := s.pwr.ign && !bit 9 w.toNat, brk := s.pwr.brk && !bit 10 w.toNat,
      loss := s.pwr.loss && !bit 12 w.toNat } })

/-- WARM_RST, FNRST, WARM_RESET and HRST_N_RISE. Log entries that it rests on, which are the model's own readings or choices: 14, 30, 31,
33, 99, 115. -/
def Obligations.WarmResets : Prop :=
  -- The resets of the host (R87, R89, R537, R539, R550): WARM_RST ends every command without an entry, empties the completion
  -- store, locks the relay, ends every session, keeps the settings and leaves SWRST as the one cause; FNRST leaves no command that
  -- uses a function it resets, and those functions busy, but for one without power.
   (∀ (irqEn : Bool) (mask : Nat) (s : State), s.hostUp = true → s.start.due = none → s.rel.sessions.length = 32 →
      (s.anvil.reserve = none → Answers (.warmRst irqEn) s fun t => t.cmds = [] ∧ t.store = [] ∧ t.rel.relay = .locked ∧ t.sessionCount = 0 ∧
        t.sets = s.sets ∧
        t.host.swrst = true ∧ t.host.cold = false ∧ t.host.wdt = false ∧ t.host.hrst = false ∧ t.host.supply = false ∧
        t.host.irqEn = false ∧ t.start.entropy = true ∧ s.clock.tb < t.clock.tb) ∧
      (mask < 0x4000 → s.host.fnBusy = 0 → Answers (.fnrst mask) s fun t =>
        (∀ c ∈ t.cmds, ∀ f ∈ c.uses, bit f mask = false) ∧ t.sets = s.sets ∧
        t.host.fnBusy = ((bitsOf 14 mask).filter s.fnPowered).foldl (fun a f => a + 2 ^ f) 0 ∧
        (bit 11 mask = true → t.rel.relay = .locked ∧ t.rel.cause = 4 ∧ t.sessionCount = 0) ∧
        (bit 3 mask = true → ∀ n, t.anvil.contexts.getD n none = none))) ∧
  -- Warm resets (R536, R537, R539, R550): WARM_RESET ends every command without an entry, empties the completion store, locks the
  -- relay, ends sessions and grants, keeps every setting and leaves one cause; after HRST_N's fall the start waits for its rise
  -- with ROOT stopped, and then, or at once for the other causes, ROOT runs again from a later TB. With no reserve seed the start
  -- waits in phase 2.
   (∀ (cause : Nat) (balls : List Bool) (s : State),
      (s.hostUp = true → s.rel.sessions.length = 32 → s.start.due = none → (cause = 0 ∨ s.anvil.reserve = none) →
        Answers (.warmReset cause balls) s fun t =>
          t.pwr.dev = .starting ∧ t.cmds = [] ∧ t.store = [] ∧ t.rel.relay = .locked ∧ t.sessionCount = 0 ∧ t.sets = s.sets ∧
          (∀ a, (t.node a).grant = none) ∧ t.host.cold = false ∧ t.host.hrst = (cause == 0) ∧ t.host.swrst = (cause == 1) ∧
          t.host.wdt = (cause == 2) ∧ t.host.ready = false ∧ t.cru.shareA = s.cru.shareA ∧
          t.start.waitHrst = (cause == 0) ∧ t.clock.rootOn = (cause != 0) ∧
          (cause ≠ 0 → t.start.entropy = true ∧ t.host.phase = 2 ∧ s.clock.tb < t.clock.tb)) ∧
      (s.start.waitHrst = true → s.start.due = none → s.clock.rootOn = false → s.anvil.reserve = none → Answers .hrstNRise s fun t =>
        t.start.waitHrst = false ∧ t.start.entropy = true ∧ t.host.phase = 2 ∧ t.clock.rootOn = true ∧
        s.clock.continued s.clock.lfCycles < t.clock.tb ∧ t.sets = s.sets ∧ (s.cmds = [] → t.cmds = [])))

/-- The thirteen ALU operations (R407): the destination takes the result R407 names from W[A] and S, which is W[B], the immediate word or
the sign-extended I; CMP and TST write no register; Z and N follow the result, C and V are R407's; IE and SEC stay. -/
def Obligations.AluOperations : Prop :=
  ∀ (q : Nat) (s : State),
    ∀ r ∈ [(Instr.add q, 0), (.sub q, 1), (.and q, 2), (.or q, 3), (.xor q, 4), (.shl q, 5), (.shr q, 6), (.sar q, 7), (.mul q, 8),
           (.mov q, 9), (.cmp q, 10), (.tst q, 11), (.not q, 12)],
      ∀ cls, cls < 2 → s.atWord q cls r.2 = true → Answers r.1 s fun t =>
        let u := s.seqr q
        let h := u.fetch
        let x := if cls = 0 then u.reg h.b else if h.x then h.imm else BitVec.ofInt 32 h.i
        ∃ v carry over_, AluSays r.2 (u.reg h.a) x v carry over_ ∧
          t = s.advanced q h (fun u => { (if r.2 = 10 ∨ r.2 = 11 then u else u.setReg h.d v) with
            flags := u.flags / 16 * 16 + (if v = 0 then 1 else 0) + (if v.msb then 2 else 0) + (if carry then 4 else 0) +
              (if over_ then 8 else 0) })

/-- LOAD and STORE (R408): an aligned LOAD in reach writes the zero-extended data to W[D], an aligned STORE in reach and outside IB writes
the low bytes of W[D] there and nowhere else; a misaligned one is an ALIGN fault, one out of reach BOUNDS, and a STORE to IB IB_WRITE, each
of which ends the script with STATE_CONFLICT. -/
def Obligations.LoadsAndStores : Prop :=
  ∀ (q op : Nat) (s : State), op < 3 →
    let u := s.seqr q
    let h := u.fetch
    let n := [4, 2, 1].getD op 0
    let a := (u.reg h.a + (if h.x then h.imm else BitVec.ofInt 32 h.i)).toNat
    (s.atWord q 2 op = true →
      (a % n = 0 → u.inData a n = true → Answers (.load q) s fun t => t = s.answers q h (leNat (s.dataRead q a n))) ∧
      (a % n ≠ 0 → Answers (.load q) s fun t => ScriptEnded q 2 .stateConflict [] s.toDev t) ∧
      (a % n = 0 → u.inData a n = false → Answers (.load q) s fun t => ScriptEnded q 3 .stateConflict [] s.toDev t)) ∧
    (s.atWord q 3 op = true →
      (a % n = 0 → u.writable a n = true → Answers (.store q) s fun t =>
        t = (s.dataWrite q a (leBytes n (u.num h.d))).advanced q h id) ∧
      (a % n ≠ 0 → Answers (.store q) s fun t => ScriptEnded q 2 .stateConflict [] s.toDev t) ∧
      (a % n = 0 → u.inData a n = false → Answers (.store q) s fun t => ScriptEnded q 3 .stateConflict [] s.toDev t) ∧
      (a % n = 0 → u.inData a n = true → 0x10000 ≤ a → a < 0x10400 → Answers (.store q) s fun t =>
        ScriptEnded q 4 .stateConflict [] s.toDev t))

/-- BRANCH, CALL, RET, JR, WAITEV and WAITT. -/
def Obligations.BranchesAndWaits : Prop :=
  -- BRANCH, CALL, RET and JR (R409): the jump goes to PC + 4·I, the immediate word, W15 or W[A], where the condition holds; CALL
  -- leaves the address of the next instruction in W15; a target at or beyond CODE_LEN or off a word boundary is a CODE_RANGE fault.
   (∀ (q op : Nat) (s : State),
      let u := s.seqr q
      let h := u.fetch
      let near := if h.x then h.imm.toNat else (BitVec.ofInt 32 (u.pc + 4 * h.i)).toNat
      let z := bit 0 u.flags
      let n := bit 1 u.flags
      let c := bit 2 u.flags
      let v := bit 3 u.flags
      let goes (i : Instr) (target : Nat) (f : Seqr → Seqr) : Prop :=
        (target < u.codeLen → target % 4 = 0 → Answers i s fun t => t = s.onSeq q (fun u => { f u with pc := target, prog := 0, wait := none })) ∧
        (u.codeLen ≤ target ∨ target % 4 ≠ 0 → Answers i s fun t => ScriptEnded q 7 .stateConflict [] s.toDev t)
      (op < 9 → s.atWord q 4 op = true →
        if [true, z, !z, n != v, n == v, !c, c, n, !n].getD op false then goes (.branch q) near id
        else Answers (.branch q) s fun t => t = s.advanced q h id) ∧
      (s.atWord q 4 9 = true → goes (.call q) near (fun u => u.setReg 15 (BitVec.ofNat 32 (u.pc + h.len)))) ∧
      (s.atWord q 4 10 = true → goes (.ret q) (u.num 15) id) ∧
      (s.atWord q 4 11 = true → goes (.jr q) (u.num h.a) id)) ∧
  -- WAITEV and WAITT (R410): a pending awaited source ends the wait, is cleared without being set active, and Z is 0; with none the
  -- wait stands through its window; at the close 0xFFFF_FFFF and Z = 1; WAITT stands through its window and ends at the close.
   (∀ (q : Nat) (s : State),
      let u := s.seqr q
      let h := u.fetch
      (s.atWord q 5 0 = true → u.wait = none → u.num h.b ≠ 0 →
        (∀ p, (s.pendOf q).getD h.iBits none = some p → p < s.now + u.num h.b → Answers (.waitev q) s fun t =>
          t = (s.clearPend q h.iBits).advanced q h (fun u => (u.setReg h.d (BitVec.ofNat 32 h.iBits)).setZ false)) ∧
        ((s.pendOf q).getD h.iBits none = none → Answers (.waitev q) s fun t =>
          t = s.onSeq q (fun u => { u with wait := some ⟨s.now, s.now + u.num h.b, s.clock.unc⟩ }))) ∧
      (∀ w, s.atWord q 5 0 = true → u.wait = some w → w.close ≠ 2 ^ 64 → Answers (.waitevTimeout q) s fun t =>
        t = (s.wait (s.closeAt w)).advanced q h (fun u => (u.setReg h.d 0xFFFFFFFF).setZ true)) ∧
      (s.atWord q 5 1 = true → u.wait = none → Answers (.waitt q) s fun t =>
        t = s.onSeq q (fun u => { u with wait := some ⟨s.now, s.now + u.num h.a, s.clock.unc⟩ })) ∧
      (∀ w, s.atWord q 5 1 = true → u.wait = some w → Answers (.waittEnd q) s fun t => t = (s.wait (s.closeAt w)).advanced q h id))

/-- The SYS operations (R411) and the entry and return of a handler (R415, R416): HALT ends the script with the status it names, and for
DONE with RLEN words of OB; RETI with no frame is RETI_EMPTY; SIGNAL presents its source; TBREAD, GETSRC and SETR write W[D]; IEN sets IE;
an entry saves the frame, clears IE, sets the source active and clears its pending bit, and RETI undoes it. Log entries that it rests on,
which are the model's own readings or choices: 77, 79. -/
def Obligations.SysOperations : Prop :=
  ∀ (q : Nat) (s : State),
    let u := s.seqr q
    let h := u.fetch
    (s.atWord q 7 0 = true →
      (h.iBits = 0 → u.num h.a ≤ 512 → Answers (.halt q) s fun t =>
        ScriptEnded q 0 .done (bytesToWords (u.ob.take (2 * u.num h.a))) s.toDev t) ∧
      (h.iBits = 0 → 512 < u.num h.a → Answers (.halt q) s fun t => ScriptEnded q 3 .stateConflict [] s.toDev t) ∧
      (1 ≤ h.iBits → Answers (.halt q) s fun t =>
        ScriptEnded q 0 (if h.iBits = 1 then .authFail else if h.iBits = 2 then .noResponse else .stateConflict) [] s.toDev t)) ∧
    (s.atWord q 7 1 = true →
      (u.frames = [] → Answers (.reti q) s fun t => ScriptEnded q 6 .stateConflict [] s.toDev t) ∧
      (∀ f fs, u.frames = f :: fs → Answers (.reti q) s fun t =>
        t.seqr q = { u with
          pc := f.pc, flags := f.flags, prog := f.prog, w := u.w.take 12 ++ f.w12, frames := fs, wait := f.wait } ∧
        t.actOf q = (s.actOf q).erase f.source ∧ t.seqr (1 - q) = s.seqr (1 - q) ∧
        t = { s.toDev with ham := t.ham, evc := { s.evc with actA := t.evc.actA, actB := t.evc.actB } })) ∧
    (s.atWord q 7 2 = true → Answers (.ien q) s fun t => ∃ g, t = s.advanced q h (fun u => { u with flags := g }) ∧
      bit 4 g = bit 0 h.iBits ∧ ∀ i, i ≠ 4 → bit i g = bit i u.flags) ∧
    (s.hostUp = true → s.atWord q 7 3 = true → Answers (.signal q) s fun t => Raised (128 + 4 * q + h.iBits) s.toDev t ∧
      t.ham = (s.advanced q h id).ham ∧ EventsOnly { s.toDev with ham := t.ham } t) ∧
    (s.atWord q 7 4 = true → Answers (.tbread q) s fun t =>
      t = s.advanced q h (fun u => (u.setReg h.d (BitVec.ofNat 32 s.now)).setReg (h.d + 1) (BitVec.ofNat 32 (s.now / 2 ^ 32)))) ∧
    (s.atWord q 7 5 = true → Answers (.setr q) s fun t => t = s.answers q h (s.readSetting (u.num h.a % 2 ^ 24)).toNat) ∧
    (s.atWord q 7 8 = true → Answers (.getsrc q) s fun t =>
      t = s.answers q h (match u.frames with
        | f :: _ => f.source
        | [] => 0xFFFFFFFF)) ∧
    (s.atWord q 7 9 = true → Answers (.sysNop q) s fun t => t = s.advanced q h id) ∧
    (∀ hd n, q < 2 → s.clock.pos < 4000 → u.image.bind Script.handler = some hd → s.offered q = some n → s.scriptRuns q = true →
      bit 4 u.flags = true →
      u.awaits ≠ some n → Answers (.hammerEntry q) s fun t =>
        (t.seqr q).frames = ⟨u.pc, u.flags, u.prog, fit 4 0 (u.w.drop 12), n, u.wait⟩ :: u.frames ∧ (t.seqr q).pc = hd ∧
        bit 4 (t.seqr q).flags = false ∧ (t.seqr q).w = u.w.set 12 (BitVec.ofNat 32 n) ∧ t.actOf q = n :: s.actOf q ∧
        (s.sticks n = false → t.pendOf q = (s.pendOf q).set n none) ∧ s.now ≤ t.now ∧ t.seqr (1 - q) = s.seqr (1 - q))

/-- SETR, SETW, COPY, CRC and ATLASQ. Log entries that it rests on, which are the model's own readings or choices: 43, 77, 79. -/
def Obligations.SettingsAndMemoryOperations : Prop :=
  -- SETW and DRAW (R411): SETW of a plain one-word setting answers the journal cause in W[D], sets it where the cause is 0, and
  -- records the attempt with the sequencer's origin; without the image's SETTINGS flag the cause is 2 at test 4; DRAW writes DRBG
  -- output.
   (∀ (q : Nat) (r : SettingRow) (s : State),
      let u := s.seqr q
      let h := u.fetch
      (s.hostUp = true → s.atWord q 7 6 = true → settingRow (u.num h.a % 2 ^ 24) = some r → r.addr = u.num h.a % 2 ^ 24 → r.words = 1 →
        r.lock ≠ 1 → r.addr / 65536 ≠ 0x0C → loopAt r.addr = none → r.addr ∉ [0x000020, 0x0B0030, 0x0B0051] →
        ∀ cause, s.judge (!(u.image.map Script.settings).getD false) r.addr (u.num h.b % 65536) = cause → Answers (.setw q) s fun t =>
          t.sets = (if cause = 0 then cellPut (settingDefault r.addr) r.addr (s.attempt r r.addr (u.num h.b % 65536)) s.sets else s.sets) ∧
          t.lastRecord = some (if cause = 0 then 1 else 2, r.addr, s.value r, s.attempt r r.addr (u.num h.b % 65536), cause) ∧
          t.jrnl.buf.getLast?.map Record.origin = some (2 + q) ∧
          t.seqr q = { u.setReg h.d (BitVec.ofNat 32 cause) with pc := u.pc + h.len, prog := 0, wait := none } ∧
          (r.addr ∉ [0x030000, 0x030001, 0x080001] → t.uhf = s.uhf ∧ t.atlas = s.atlas) ∧
          EventsOnly { s.toDev with sets := t.sets, setLow := t.setLow, ham := t.ham, uhf := t.uhf, atlas := t.atlas } t) ∧
      (s.atWord q 7 7 = true → 1 ≤ u.num h.b → u.num h.b ≤ 256 → u.writable (u.num h.a) (u.num h.b) = true → s.dom 9 = .on → s.dom 10 = .on →
        (u.secure = true → s.domDeferred 9 = false ∧ s.domDeferred 10 = false) → bit 3 s.host.fnBusy = false → s.anvil.ready = true →
          (s.draw (u.num h.b)).1.length = u.num h.b → Answers (.draw q) s fun t =>
          t = ((s.draw (u.num h.b)).2.dataWrite q (u.num h.a) (s.draw (u.num h.b)).1).answers q h 0)) ∧
  -- The unit operations over memory (R413): a domain of the unit that is off gives STATE_CONFLICT in W[D]; COPY copies ranges that
  -- do not overlap, and overlapping ones are an OVERLAP fault; CRC writes the CRC-8 or CRC-16; ATLASQ with no committed image gives
  -- ATLAS_ABSENT, and else writes its result.
   (∀ (q : Nat) (nand : NandRead) (s : State),
      let u := s.seqr q
      let h := u.fetch
      (∀ r ∈ [(Instr.lftx q, 0, 5, [4]), (.uhfrx q none, 1, 6, [5]), (.uwbrange q none none none, 2, 3, [4, 5, 7, 8, 9, 10]),
              (.aesn q, 3, 6, [9, 10]), (.cmacn q, 4, 5, [9, 10]), (.unitHkdf q, 5, 8, [9, 10]), (.ecmul q, 6, 4, [9, 10]),
              (.ecdsa q, 7, 4, [9, 10]), (.atlasq q nand, 8, 3, [13, 14])],
        s.atWord q 6 r.2.1 = true → u.num h.a % 4 = 0 → u.inData (u.num h.a) (4 * r.2.2.1) = true →
        r.2.2.2.any (fun k => !s.domOn k) = true → Answers r.1 s fun t => t = s.answers q h 0x16) ∧
      (s.unitReady q 9 3 [] [] = true →
        let p := fun i => s.param q 3 i
        p 2 ≤ 16384 →
        ((p 1 + p 2 ≤ p 0 ∨ p 0 + p 2 ≤ p 1) → u.inData (p 0) (p 2) = true → u.writable (p 1) (p 2) = true →
          Answers (.copy q) s fun t => t = (s.dataWrite q (p 1) (s.dataRead q (p 0) (p 2))).answers q h 0) ∧
        (p 0 < p 1 + p 2 → p 1 < p 0 + p 2 → Answers (.copy q) s fun t => ScriptEnded q 5 .stateConflict [] s.toDev t)) ∧
      (s.unitReady q 10 4 [] [] = true →
        let p := fun i => s.param q 4 i
        p 0 ≤ 1 → u.inData (p 1) (p 2) = true → u.writable (p 3) (p 0 + 1) = true → Answers (.crc q) s fun t =>
          let m := s.dataRead q (p 1) (p 2)
          t = (s.dataWrite q (p 3) (if p 0 = 0 then leBytes 1 (crc 8 0x1D 0xFF m) else leBytes 2 (crc 16 0x1021 0xFFFF m))).answers q h 0) ∧
      (s.unitReady q 8 3 [13, 14] [] = true →
        let p := fun i => s.param q 3 i
        ∀ e, u.inData (p 0) 72 = true → queryEntries 1 (bytesToWords (s.dataRead q (p 0) 72)) = some [e] → e.fromEvidence = false → p 2 ≤ 1 →
        u.writable (p 1) (4 + 10 * e.k) = true →
        (s.atlas.active = none → Answers (.atlasq q nand) s fun t => t = s.answers q h 0x17) ∧
        (∀ v m d, s.hostUp = true → s.atlas.active = some (v, m) → s.atlas.loaded = true → bit 7 s.host.fnBusy = false →
          s.scanLists m (p 2 == 1) [e] nand = (none, d) → d.ham = s.ham →
          Answers (.atlasq q nand) s fun t =>
            t = (d.dataWrite q (p 1) (wordsToBytes (d.runQueries m 0 [e]).1)).answers q h
              (if (d.runQueries m 0 [e]).2.2 then 0 else 8))))

/-- The unit operations with keys (R413, R414): a refused key gives its status in W[D]; AESN encrypts, decrypts or counts and updates its
IV; CMACN writes a tag, or answers DONE or AUTH_FAIL; HKDF, ECMUL and ECDSA write their public results to memory, and those derived from a
key only to slots. Key operands of 6 or more with no slot error. Log entries that it rests on, which are the model's own readings or
choices: 3, 77, 79. -/
def Obligations.UnitKeyOperations : Prop :=
  ∀ (q : Nat) (s : State), s.anvil.ready = true →
    let u := s.seqr q
    let h := u.fetch
    (s.unitReady q 3 6 [9, 10] [3] = true →
      let p := fun i => s.param q 6 i
      let n := 16 * p 4
      p 1 ≤ 2 → 1 ≤ p 4 → p 4 ≤ 256 → u.inData (p 2) n = true → u.writable (p 5) 16 = true → u.writable (p 3) n = true →
      ∀ key, s.hammerKey u (p 0) [1, 2] (some (if p 1 = 1 then 1 else 0)) = key →
      match key with
      | .inl st => st ≠ .slotBad → Answers (.aesn q) s fun t => t = s.answers q h st.code
      | .inr (k, slot) =>
        let m := s.dataRead q (p 2) n
        let iv := s.dataRead q (p 5) 16
        let out := if p 1 = 0 then cbcEncPart k iv m else if p 1 = 1 then cbcDecPart k iv m else ctrPart k iv m
        out.1.length = n → out.2.length = 16 →
        Answers (.aesn q) s fun t => t = (((s.keyTaken slot).dataWrite q (p 3) out.1).dataWrite q (p 5) out.2).answers q h 0) ∧
    (s.unitReady q 4 5 [9, 10] [3] = true →
      let p := fun i => s.param q 5 i
      ∀ n ∈ [4, 8, 16], ∀ ver : Bool, p 4 = n + (if ver then 256 else 0) → p 2 ≤ 4096 → u.inData (p 1) (p 2) = true →
      u.writable (p 3) n = true → ∀ k slot, s.hammerKey u (p 0) [1, 2] (some (if ver then 3 else 2)) = .inr (k, slot) →
      let tag := (cmac k (s.dataRead q (p 1) (p 2))).take n
      tag.length = n →
      Answers (.cmacn q) s fun t => t =
        if ver then (s.keyTaken slot).answers q h (if tag = s.dataRead q (p 3) n then 0 else 4)
        else ((s.keyTaken slot).dataWrite q (p 3) tag).answers q h 0) ∧
    (s.unitReady q 5 8 [9, 10] [3] = true →
      let p := fun i => s.param q 8 i
      p 1 ≤ 256 → p 3 ≤ 256 → p 5 ≤ 256 → bit 31 (p 6) = false → p 7 ≤ 64 → u.inData (p 2) (p 3) = true → u.inData (p 4) (p 5) = true →
      (bit 31 (p 0) = true → Answers (.unitHkdf q) s fun t => t = s.answers q h 0x16) ∧
      (bit 31 (p 0) = false → u.inData (p 0) (p 1) = true → u.writable (p 6) (p 7) = true →
        let out := hkdf (s.dataRead q (p 0) (p 1)) (s.dataRead q (p 2) (p 3)) (s.dataRead q (p 4) (p 5)) (p 7)
        out.length = p 7 →
        Answers (.unitHkdf q) s fun t => t = (s.dataWrite q (p 6) out).answers q h 0)) ∧
    (s.unitReady q 6 4 [9, 10] [3] = true →
      let p := fun i => s.param q 4 i
      p 0 ≠ 0xFF → ∀ k slot, s.hammerKey u (p 0) [3] (some 5) = .inr (k, slot) →
      (p 2 = 0 → u.writable (p 3) 64 = true → (ecPub k).length = 64 → Answers (.ecmul q) s fun t =>
        t = ((s.keyTaken slot).dataWrite q (p 3) (ecPub k)).answers q h 0) ∧
      (p 2 ≠ 0 → u.ib.length = 1024 → u.ob.length = 1024 → u.inData (p 2) 64 = true → (p 3 < 48 ∨ 63 < p 3) → Answers (.ecmul q) s fun t =>
        t = (s.keyTaken slot).answers q h 0x16)) ∧
    (s.unitReady q 7 4 [9, 10] [3] = true →
      let p := fun i => s.param q 4 i
      u.inData (p 2) 32 = true → u.inData (p 3) 64 = true →
      (p 0 = 1 → bit 31 (p 1) = true → u.inData (p 1 % 2 ^ 31) 64 = true → Answers (.ecdsa q) s fun t =>
        let pub := s.dataRead q (p 1 % 2 ^ 31) 64
        t = s.answers q h (if (ecPoint pub).isNone then 0x16
          else if ecdsaVerify pub (s.dataRead q (p 2) 32) (s.dataRead q (p 3) 64) then 0 else 4)) ∧
      (∀ k slot, p 0 = 0 → bit 31 (p 1) = false → s.hammerKey u (p 1) [3] (some 4) = .inr (k, slot) → u.writable (p 3) 64 = true →
        let d := (s.keyTaken slot).drawScalar
        let sig := ecdsaSign k (s.dataRead q (p 2) 32) d.1
        sig.length = 64 →
        Answers (.ecdsa q) s fun t => t = (d.2.dataWrite q (p 3) sig).answers q h 0))

/-- The unit operations of the radios (R413): LFTX sends its telegram whole and leaves its end in p4; UHFRX writes the frame it accepts, its
signal codes and its stamp, and answers NO_RESPONSE where none comes; UWBRANGE without a current token gives STATE_CONFLICT, and else runs
the exchange: `d1` is the state RANGE_ARM leaves, `d2` the one RANGE_READY leaves, and `d3` the one the exchange leaves. Log entries that it
rests on, which are the model's own readings or choices: 78, 79, 106. -/
def Obligations.UnitRadioOperations : Prop :=
  ∀ (q : Nat) (rx : UhfRx) (resp rep : Option UwbRx) (s : State), s.hostUp = true → s.lf.emission = none → 
    let u := s.seqr q
    let h := u.fetch
    let a := u.num h.a
    (s.unitReady q 0 5 [4] [0] = true →
      let p := fun i => s.param q 5 i
      ∀ mask rate code, mask < 256 → rate < 3 → p 0 = mask + 256 * rate + 65536 * code → p 2 ≤ 16 → ((1 ≤ code ∧ code ≤ 2) ∨ code = 6 ∨
        code = 7 ∨ (0x40 ≤ code ∧ code ≤ 0x50)) → p 3 = 0 → u.inData (p 1) (p 2) = true → u.writable (a + 16) 4 = true →
      s.usable (s.maskOf mask) ≠ 0 → Answers (.lftx q) s fun t =>
        t.lf.air = s.telegram code (s.dataRead q (p 1) (p 2)) ∧ t.lf.emission = none ∧
        t.ham = ((s.dataWrite q (a + 16) (leBytes 4 t.clock.tb)).answers q h 0).ham ∧
        EventsOnly { s.toDev with lf := t.lf, ham := t.ham } t) ∧
    (s.unitReady q 1 6 [5] [1] = true →
      let p := fun i => s.param q 6 i
      p 0 < 512 → s.anyPath = true → u.writable (p 3) 80 = true → u.writable (a + 16) 8 = true →
      let w := s.listenAt (some noTag) (near32 s.now (p 2)) (codeBody (p 0 % 256)) [p 0 % 256] (field 8 8 (p 0))
      Answers (.uhfrx q none) s (fun t => t = (s.wait w.close).answers q h 5) ∧
      ∀ f d, s.listenOnce w (some rx) (fun f => p 1 = 0xFFFFFFFF || f.id = p 1) = (some f, d) → d.ham = s.ham →
        f.body.length ≤ 64 →
        rx.bytes.length = 14 + f.body.length → Answers (.uhfrx q (some rx)) s fun t =>
          t = ((d.dataWrite q (p 3) (rx.bytes.take (8 + f.body.length))).dataWrite q (a + 16)
            (leBytes 4 d.uhf.lastRssi ++ leBytes 4 d.now)).answers q h 0) ∧
    (s.unitReady q 2 3 [4, 5, 7, 8, 9, 10] [0, 1, 2] = true →
      let p := fun i => s.param q 3 i
      ∀ chan sts, chan ∈ [0, 5, 9] → sts < 3 → (p 0 = chan + 16 * sts ∨ p 0 = chan + 16 * sts + 256) → u.writable (p 2) 48 = true →
      (s.tok.session = none → Answers (.uwbrange q (some rx) resp rep) s fun t => t = s.answers q h 0x16) ∧
      ∀ tok, s.tok.session = some tok → s.anvil.ready = true → s.nextX ≤ 65535 → s.uwbBad = false → s.usable (s.maskOf 0) ≠ 0 →
        let x := { s.newRange tok chan (p 1 % 65536) with sts := sts }
        let mask := s.usable (s.maskOf 0)
        let d0 := (s.send (.command noTag) mask (s.bitTime 0) 6 (beBytes 2 x.x ++ [armByte x, byte (x.da / 25)])).airOut
        let d1 := { d0 with lf := { d0.lf with standbyDue := mask } }
        ∀ f d2 d3 ws, d1.listenOnce (d1.listenAt (some noTag) d1.now 4 [6] 0) (some rx) (fun f => f.id = x.token) = (some f, d2) →
          beNat (f.body.take 2) = x.x → f.body.getD 3 0 = 0 → d2.rangeRest x resp rep = (.done, ws, d3) → d3.ham = s.ham →
          ws.length = 24 →
          Answers (.uwbrange q (some rx) resp rep) s fun t =>
            t = (d3.freeWord.2.dataWrite q (p 2) (wordsToBytes (ws.set 22 d3.freeWord.1))).standby.answers q h 0)

/-- The closes of windows. Log entries that it rests on, which are the model's own readings or choices: 9, 46, 63, 81, 100, 109. -/
def Obligations.WindowCloses : Prop :=
  -- The windows of release and of the loops (R9, R292, R309, R313, R402, R527, R532): each takes effect at its close and not
  -- before. Evidence is freed; a session ends with its SESSION record and source 35; the relay locks with cause 1, or is held by a
  -- running engine; the admission closes with cause TIMEOUT; an atom becomes owed with source 156; a pin ends at its pinned value.
   (∀ (n : Nat) (w : Window) (s : State), s.hostUp = true → s.clock.pos < 4000 → s.evc.lastEsn.length = 160 →
      cellsWf (fun _ => Node.empty) s.kw.nodes = true → s.bg.loops.length = 13 →
      (∀ e, s.rel.evidence.getD n none = some e → e.win = w → Answers (.evidenceExpiry n) s fun t => s.closeAt w ≤ t.clock.tb ∧
        t = { s.toDev with clock := t.clock, rel := { s.rel with evidence := s.rel.evidence.set n none } }) ∧
      (∀ x, s.rel.sessions.getD n none = some x → x.win = w → Answers (.sessionTimeout n) s fun t => s.closeAt w ≤ t.clock.tb ∧
        t.rel = { s.rel with sessions := s.rel.sessions.set n none } ∧ t.clock.evEsn = s.clock.esn ∧
        t.evc.lastEsn.getD 35 0 = s.clock.esn + 1 ∧ t.grantsWhere (fun g => g.binding == n) = [] ∧
          EventsOnly { s.toDev with rel := t.rel, kw := t.kw } t ∧
        (s.grantsWhere (fun g => g.binding == n) = [] → t.lastRecord = some (0x22, n, x.zone, 1, 0) ∧ t.kw = s.kw)) ∧
      (s.rel.relay = .held w → s.engineRun = true → Answers .relayHoldClose s fun t => s.closeAt w ≤ t.clock.tb ∧
        t = { s.toDev with clock := t.clock, rel := { s.rel with relay := .engineHeld } }) ∧
      (s.rel.relay = .held w → s.engineRun = false → Answers .relayHoldClose s fun t => s.closeAt w ≤ t.clock.tb ∧
        t.rel = { s.rel with relay := .locked, cause := 1 } ∧ t.clock.evEsn = s.clock.esn ∧
        t.evc.lastEsn.getD 33 0 = s.clock.esn + 1 ∧ t.relayGrants = [] ∧
        EventsOnly { s.toDev with rel := t.rel, kw := t.kw } t) ∧
      (s.tok.adm.state = 2 → s.tok.adm.win = w → Answers .learnWindowClose s fun t => s.closeAt w ≤ t.clock.tb ∧
        t.tok = { s.tok with adm := { s.tok.adm with state := 0, cause := 1 } } ∧ t.clock.evEsn = s.clock.esn ∧
        t.evc.lastEsn.getD 153 0 = s.clock.esn + 1 ∧ t.lastRecord = some (0x11, 0xFF, s.enrolLeft, s.enrolLeft, 1) ∧
          EventsOnly { s.toDev with tok := t.tok } t) ∧
      (∀ a, s.dueOf n = some a → a.win = w → a.owed = false → Answers (.starvationClose n) s fun t => s.closeAt w ≤ t.clock.tb ∧
        Raised 156 s.toDev t ∧ EventsOnly s.toDev t ∧
        t.bg = { s.bg with due := s.bg.due.map (fun b => if b.unit = n then { b with owed := true } else b) }) ∧
      (n < 13 → (s.loop n).win = some w → (s.loop n).pinned = true → Answers (.loopPinExpiry n) s fun t => s.closeAt w ≤ t.clock.tb ∧
        t.loop n = ⟨s.pinValue n, false, false, none, false⟩ ∧ (∀ m, m ≠ n → t.loop m = s.loop m) ∧ EventsOnly s.toDev t)) ∧
  -- The windows of entropy, commands and the watchdog (R101, R117, R376, R377): ENTROPY_WINDOW_CLOSE fails the source with source
  -- 150 and every held command ends ENTROPY_TIMEOUT, or DEADLINE where its own window has closed; DEADLINE_CLOSE enters a waiting
  -- command with status DEADLINE, no payload and the close event's number; WATCHDOG_EXPIRY with ACTION 0 latches the expiry and
  -- opens the next window.
   (∀ (tag : Nat) (w : Window) (s : State), s.hostUp = true → s.clock.pos < 4000 → s.evc.lastEsn.length = 160 →
      (s.anvil.failWin = some w → Answers .entropyWindowClose s fun t => s.closeAt w ≤ t.clock.tb ∧
        t.evc.lastEsn.getD 150 0 = s.clock.esn + 1 ∧ t.anvil = { s.anvil with failed := true, failWin := none, etime := true } ∧
        (∀ c, s.cmd tag = some c → (∀ b ∈ s.cmds, b.tag = tag → b = c) →
          (c.phase = .held → c.window = none → t.ended tag = some (.gives .entropyTimeout [])) ∧
          (c.phase = .held → (s.wait (s.closeAt w)).late c = true →
            t.cmd tag = none ∧ ∃ e ∈ t.store, e.tag = tag ∧ e.status = 3 ∧ e.payload = []) ∧
          (c.phase ≠ .held → t.cmd tag = some c)) ∧
        ((∀ c ∈ s.cmds, c.phase = .held → c.window = none) → EventsOnly { s.toDev with anvil := t.anvil } t)) ∧
      (∀ c, s.cmd tag = some c → c.queued = true → c.op ≠ 0x31 → c.window = some w → (∀ b ∈ s.cmds, b.tag = tag → b = c) →
        (∀ u ∈ s.nv.undo, u.owner ≠ some tag) → Answers (.deadlineClose tag) s fun t =>
        s.closeAt w ≤ t.clock.tb ∧ t.cmds = s.cmds.filter (fun b => b.tag != tag) ∧
        t.store = s.store ++ [⟨tag, c.op, 3, s.clock.esn.toNat, t.clock.evTb % 2 ^ 48, []⟩] ∧ t.clock.esn = s.clock.esn + 1 ∧
        t = { s.toDev with
          clock := t.clock, cmds := t.cmds, store := t.store, lf := t.lf, uhf := t.uhf, uwb := t.uwb, kw := t.kw, ham := t.ham, nv := t.nv }) ∧
      (s.host.wdtWin = some w → bit 15 s.host.poison = false → field 13 12 s.host.wdtCfg.toNat = 0 → bit 15 s.host.wdtCfg.toNat = true →
        Answers .watchdogExpiry s fun t => s.closeAt w ≤ t.clock.tb ∧ t.host.wdtExpired = true ∧ (∃ v, t.host.wdtWin = some v ∧
          v.opens = t.clock.tb ∧ v.close = t.clock.tb + s.host.wdtCfg.toNat % 4096 * 124800) ∧ t.cmds = s.cmds ∧
        EventsOnly { s.toDev with host := { s.host with wdtExpired := true, wdtWin := t.host.wdtWin } } t))

/-- Deferrals, hold releases, drains and DOZE. Log entries that it rests on, which are the model's own readings or choices: 14, 16, 27, 98.
-/
def Obligations.DeferralsAndDoze : Prop :=
  -- DEFERRAL_WINDOW_CLOSE (R69, R70): at its close a deferral whose domain no hold covers any more applies; one with a hold
  -- standing sets BRK and breaks every hold of the holders, which lets the deferred POWER_OFF of another domain they held apply,
  -- and the domain is off in both cases. HOLD_RELEASE of the last hold
  -- before the close applies the POWER_OFF at once (R68). DRAIN_END switches the drained domain off (R57). No domain else
  -- changes state.
   (∀ (n holder : Nat) (s : State), s.hostUp = true → n < 24 → s.pwr.doms.length = 24 → s.clock.pos < 4000 →
      (∀ f, s.pwr.deferrals.find? (fun f => f.dom == n) = some f →
        Answers (.deferralWindowClose n) s (fun t => s.closeAt f.win ≤ t.clock.tb ∧ t.dom n = .off ∧ t.sets = s.sets ∧
          (s.domHeld n = false → t.pwr.holds = s.pwr.holds ∧ t.pwr.brk = s.pwr.brk ∧ (∀ m, m ≠ n → t.dom m = s.dom m) ∧
            t.pwr.deferrals = s.pwr.deferrals.filter (fun f => f.dom != n)) ∧
          (s.domHeld n = true → (∀ h ∈ s.pwr.holds, h.holder < 6) → t.pwr.brk = true ∧ t.domHeld n = false ∧
            (∀ m, m ≠ n → t.dom m = s.dom m ∨ (s.domDeferred m = true ∧ t.dom m = .off)) ∧
            ∀ g ∈ t.pwr.deferrals, g ∈ s.pwr.deferrals ∧ g.dom ≠ n)) ∧
        (s.pwr.holds.contains ⟨holder, n⟩ = true → s.holdNeeded ⟨holder, n⟩ = false →
          (∀ g ∈ s.pwr.deferrals, g.dom = n → s.reached g.win = false) →
          Answers (.holdRelease holder n) s fun t =>
            t.pwr.holds = s.pwr.holds.filter (· != ⟨holder, n⟩) ∧ (∀ m, m ≠ n → t.dom m = s.dom m) ∧ t.sets = s.sets ∧
            if s.pwr.holds.any (fun h => h.dom == n && h.holder != holder) then
              t.dom n = s.dom n ∧ t.pwr.deferrals = s.pwr.deferrals
            else t.dom n = .off ∧ t.pwr.deferrals = s.pwr.deferrals.filter (fun f => f.dom != n))) ∧
      (s.pwr.holds.contains ⟨holder, n⟩ = true → s.holdNeeded ⟨holder, n⟩ = false → s.domDeferred n = false →
        Answers (.holdRelease holder n) s fun t =>
          t = { s.presentOn (holderPort holder) with pwr := { s.pwr with holds := s.pwr.holds.filter (· != ⟨holder, n⟩) } }) ∧
      (s.dom n = .drain → Answers (.drainEnd n) s fun t => t.dom n = .off ∧ (∀ m, m ≠ n → t.dom m = s.dom m) ∧
        t.pwr.holds = s.pwr.holds.filter (fun h => h.dom != n) ∧ t.pwr.deferrals = s.pwr.deferrals ∧ t.sets = s.sets)) ∧
  -- DOZE (R61): entry when no tag is in flight and nothing waits, not before `PWR.DOZE_IDLE` has passed since the last of them; exit with
  -- PREV 1. Both are STATE_CHANGE (source 10) with a POWER record, and no domain changes.
   (∀ s : State, s.clock.pos < 4000 →
      (s.hostUp = true → s.cmds = [] → s.store = [] → s.bg.due = [] → s.setting 0x010001 ≠ 0 → Answers .dozeEntry s fun t =>
        t.pwr = { s.pwr with dev := .doze, runTicks := t.pwr.runTicks, runFrom := t.pwr.runFrom } ∧
        s.pwr.busyAt + ceilDiv (s.setting 0x010001 * 1248) 10 ≤ t.clock.tb ∧
        Raised 10 s.toDev t ∧ t.lastRecord = some (0x41, 0xFF, 5, 1, 0) ∧ EventsOnly s.toDev t) ∧
      (s.pwr.dev = .doze → s.clock.rootOn = true → s.jrnl.hold = false → s.jrnl.buf.length < 900 → Answers .dozeExit s fun t =>
        t.pwr = { s.pwr with dev := .run, prev := 1, runTicks := t.pwr.runTicks, runFrom := t.pwr.runFrom } ∧ s.clock.tb ≤ t.clock.tb ∧
        Raised 10 s.toDev t ∧ t.lastRecord = some (0x41, 0xFF, 1, 5, 0) ∧ EventsOnly s.toDev t))

/-- Entry to PARK, DEEP and SHELF, and the wakes. Log entries that it rests on, which are the model's own readings or choices: 11, 14, 16,
17, 100. -/
def Obligations.StandbyAndWake : Prop :=
  -- Entry to PARK, DEEP and SHELF (R61, R64, R65, R86, R159): once every completion has been popped, the device state changes, ROOT stops
  -- with TB_entry one more than TB, every Host domain is off but for a LOST one, and evidence, decisions and what waits for a sequencer are
  -- gone; SHELF keeps PD00 alone. An entry whose journal cannot be written fails with its POWER record, and the device stays in RUN.
   (∀ (keep : Bool) (s : State), s.hostUp = true → s.cmds = [] → s.store = [] →
      ∀ r ∈ [(Instr.parkEntry, 2, DevState.park), (.deepEntry, 3, .deep), (.shelfEntry, 4, .shelf)], s.pwr.sleep = some (r.2.1, keep) →
        (s.entryFails = false → Answers r.1 s fun t =>
          t.pwr.dev = r.2.2 ∧ t.clock.rootOn = false ∧ t.clock.tbEntry = t.clock.tb + 1 ∧
          (r.2.1 ≠ 4 → ∀ n, n < 24 → domFixed n = false → t.dom n = if s.dom n = .lost then .lost else .off) ∧
            t.rel.evidence = List.replicate 64 none ∧
          t.rel.decisions = List.replicate 16 none ∧ t.evc.pendA = List.replicate 160 none ∧ t.evc.pendB = List.replicate 160 none ∧
          t.bg.due = [] ∧ t.sets = s.sets ∧ (r.2.1 ≠ 2 → t.lf.polling = false) ∧
          (r.2.1 = 2 → t.lf.polling = (keep && s.lf.polling)) ∧
          (r.2.1 = 4 → t.med.state = .down ∧ ∀ n, n < 24 → t.dom n = if n = 0 then .on else .off)) ∧
        (s.entryFails = true → Answers r.1 s fun t =>
          t.pwr = { s.pwr with sleep := none } ∧ t.lastRecord = some (0x41, 0xFF, 5, 5, 6) ∧ EventsOnly s.toDev t)) ∧
  -- Wakes (R43, R61, R160, R548, R549): a watcher's trigger brings PARK and DEEP back to RUN; TB goes on past the continued value,
  -- PREV names the state left, the wake is counted, and latches, held events and the trigger are cleared.
   (∀ s : State, s.evc.trigger.isSome = true → s.clock.rootOn = false →
      ∀ r ∈ [(Instr.wakePark, DevState.park, 2), (.wakeDeep, .deep, 3)], s.pwr.dev = r.2.1 →
        Answers r.1 s fun t =>
          t.pwr.dev = .run ∧ t.pwr.prev = r.2.2 ∧ t.pwr.sleep = none ∧ t.pwr.wakes = min 65535 (s.pwr.wakes + 1) ∧
          t.clock.rootOn = true ∧ s.clock.continued s.clock.lfCycles < t.clock.tb ∧
          t.evc.latched = List.replicate 32 none ∧ t.evc.held = [] ∧ t.evc.trigger = none ∧ t.lf.stage = 0)

/-- COLD_POWER_UP, DRBG_READY and MEDIA_READY. Log entries that it rests on, which are the model's own readings or choices: 5, 6, 33, 36,
63. -/
def Obligations.ColdStartAndReady : Prop :=
  -- COLD_POWER_UP (R47, R136, R536, R539–R541, R544): with no host partition, both copies of PTABLE readable and equal, no page write asked
  -- for, no command in flight and no valid reserve seed, the start waits in phase 2 for the DRBG. The BOOT event takes ESN 0 and opens the
  -- journal; BOOT_EPOCH has grown by 1; settings, commands and sessions are at their power-on values, the relay is locked, the inputs show
  -- their balls, and the shares and the update counter stand.
   (∀ (refsel lfsrc healthy : Bool) (balls : List Bool) (dies : List DieFound) (s : State), s.partitions = [] → s.anvil.reserve = none →
      s.nv.busy = false → s.nv.queue = [] → s.nv.undo = [] → s.nv.stale = [] → s.cmds = [] → s.med.state ≠ .flushing →
        s.nvReadable 0 64 = true → s.nvReadable 64 64 = true →
      Answers (.coldPowerUp refsel lfsrc balls dies healthy) s fun t =>
        t.pwr.dev = .starting ∧ t.start.entropy = true ∧ t.host.phase = 2 ∧ t.host.cold = true ∧ t.host.ready = false ∧
        t.host.degraded = (!healthy) ∧ t.ident = { s.ident with refsel := refsel, lfsrc := lfsrc } ∧
        t.nv.bootEpoch = s.nv.bootEpoch + 1 ∧ t.clock.tb = 0 ∧ t.clock.esn = 1 ∧ t.jrnl.buf.length = 1 ∧
        t.lastRecord = some (0x42, 0, 0, 0, 0) ∧ t.cmds = [] ∧ t.store = [] ∧ t.sets = [] ∧ t.rel.relay = .locked ∧ t.sessionCount = 0 ∧
        t.cru.shareA = s.cru.shareA ∧ t.cru.shareB = s.cru.shareB ∧ t.cru.updCnt = s.cru.updCnt ∧ t.anvil.ready = false ∧
        (∀ n, n < 160 → n < balls.length → t.evc.level.getD n false = balls.getD n false)) ∧
  -- What ends a start (R372, R375, R519, R540): DRBG_READY with two blocks makes the DRBG ready (source 149) and lets held commands
  -- wait again, and a start that waits in phase 2 then goes on to READY; MEDIA_READY makes a usable medium ready in write-through
  -- (source 136) and changes nothing on another.
   (∀ s : State,
      (s.anvil.ready = false → 2 ≤ s.anvil.blocks.length → s.start.entropy = true → Answers .drbgReady s fun t =>
        t.pwr.dev = .run ∧ t.host.ready = true ∧ t.host.phase = 7) ∧
      (s.hostUp = true → s.anvil.ready = false → 2 ≤ s.anvil.blocks.length → s.start.entropy = false → Answers .drbgReady s fun t =>
        t.anvil.ready = true ∧ t.anvil.reserve.isSome = true ∧ t.anvil.blocks = [] ∧ t.anvil.requests = 1 ∧ RaisedBeside 149 s.toDev t ∧
        t.cmds = s.cmds.map (fun c => if c.phase = .held then { c with phase := .queued } else c) ∧
        EventsOnly { s.toDev with anvil := t.anvil, cru := { s.cru with scramble10 := t.cru.scramble10 } } t) ∧
      (s.hostUp = true → s.med.state = .replay → s.evc.lastEsn.length = 160 →
        (s.diesUsed ≠ 0 → s.med.foreign = false → s.med.failed = false → s.med.formatted = true → Answers .mediaReady s fun t =>
          t.med = { s.med with state := .writeThrough, ready := true, mapMismatch := t.med.mapMismatch } ∧
          s.med.mapMismatch ≤ t.med.mapMismatch ∧ t.med.mapMismatch ≤ s.med.mapMismatch + 1 ∧ t.evc.lastEsn.getD 136 0 = s.clock.esn ∧
          EventsOnly { s.toDev with med := t.med, free := t.free } t) ∧
        ((s.diesUsed = 0 ∨ s.med.foreign = true ∨ s.med.failed = true ∨ s.med.formatted = false) → Answers .mediaReady s fun t =>
          t = s.toDev)))

/-- HARD_LOSS, the hold-up trip, the supply monitors and derating. Log entries that it rests on, which are the model's own readings or
choices: 10, 28, 29, 45, 116, 123. -/
def Obligations.LossesAndMonitors : Prop :=
  -- Losses of supply (R73, R516, R519, R559): HARD_LOSS of a Host domain that is on sets LOSS with source 13 and takes its deferral and its
  -- holds with it, and no other domain changes; HOLDUP_TRIP goes to SHELF, locks the relay with cause POWER, drops every command without an
  -- entry, starts the flush and judges VSUP_LOW on VHOLD (R517); VHOLD_COLLAPSE ends the flush with the journal's buffer unwritten.
   (∀ (n vhold : Nat) (s : State),
      (s.hostUp = true → n < 24 → domFixed n = false → s.domOn n = true → s.pwr.doms.length = 24 → s.evc.lastEsn.length = 160 →
        Answers (.hardLoss n) s fun t =>
          t.dom n = .lost ∧ (∀ m, m ≠ n → t.dom m = s.dom m) ∧ t.pwr.loss = true ∧ t.evc.lastEsn.getD 13 0 = s.clock.esn ∧
          t.pwr.deferrals = s.pwr.deferrals.filter (fun f => f.dom != n) ∧ t.pwr.holds = s.pwr.holds.filter (fun h => h.dom != n) ∧
          t.sets = s.sets ∧ (n = 19 → t.rel.relay = .locked ∧ t.rel.cause = 5)) ∧
      (s.hostUp = true → s.med.state = .writeBack → s.evc.lastEsn.length = 160 → Answers (.holdupTrip vhold) s fun t =>
        t.pwr.dev = .shelf ∧ t.med = { s.med with state := .flushing, flush := true } ∧ t.rel.relay = .locked ∧ t.rel.cause = 5 ∧
        t.cmds = [] ∧ t.evc.lastEsn.getD 10 0 = s.clock.esn ∧ t.sets = s.sets ∧
        t.pwr.vsupLow = lowAt s.pwr.vsupLow (s.setting 0x0B0020) (s.setting 0x0B0020 + 300) vhold) ∧
      (s.med.state = .flushing → Answers .vholdCollapse s fun t =>
        t.pwr.dev = .shelf ∧ t.med = { s.med with flush := false, buf := [], state := .down, ready := false } ∧ t.jrnl = s.jrnl ∧
        (∀ m, m < 24 → t.dom m = if m = 0 then .on else .off))) ∧
  -- The supply monitors and temperature derating (R472, R519, R534, R558): the beginning of each condition is one event of sources
  -- 15–19 and makes it readable, its end is none; VHOLD_LOW brings the media manager to write-through with its MEDIA record, and
  -- derating puts the loops of the background at their floors.
   (∀ (sensor mv : Nat) (reading : Word) (s : State), s.hostUp = true → s.evc.lastEsn.length = 160 →
      let vm := s.setting 0x0B0020
      let vsup (low : Bool) : Dev := { s.toDev with
        pwr := { s.pwr with vsupLow := low }, evc := { s.evc with cond := s.evc.cond.set 15 false },
        nv := { s.nv with busy := s.nv.busy || (!s.nv.queue.isEmpty && s.dom 16 == .on && !low) } }
      (∀ r ∈ [(Instr.vsupLow mv, 15, lowAt s.pwr.vsupLow vm (vm + 300) mv, { s.pwr with vsupLow := true }),
          (.vlfLow mv, 16, lowAt s.pwr.vlfLow 5000 5300 mv, { s.pwr with vlfLow := true }),
          (.vbatKsLow mv, 17, lowAt s.pwr.vbatLow 2300 2400 mv, { s.pwr with vbatLow := true })],
        r.2.2.1 = true → s.evc.cond.getD r.2.1 false = false →
        Answers r.1 s fun t => Raised r.2.1 s.toDev t ∧ t.evc.cond = s.evc.cond.set r.2.1 true ∧ t.pwr = r.2.2.2 ∧ EventsOnly s.toDev t) ∧
      (∀ r ∈ [(Instr.vlfLow mv, 16, lowAt s.pwr.vlfLow 5000 5300 mv, { s.pwr with vlfLow := false }),
          (.vbatKsLow mv, 17, lowAt s.pwr.vbatLow 2300 2400 mv, { s.pwr with vbatLow := false }),
          (.vholdLow mv, 18, lowAt s.pwr.vholdLow (vm + 3000) (vm + 3300) mv, { s.pwr with vholdLow := false })],
        r.2.2.1 = false →
        Answers r.1 s fun t => t = { s.toDev with pwr := r.2.2.2, evc := { s.evc with cond := s.evc.cond.set r.2.1 false } }) ∧
      (lowAt s.pwr.vsupLow vm (vm + 300) mv = false → Answers (.vsupLow mv) s fun t => t = vsup false) ∧
      (s.pwr.vsupLow = true → vm + 300 ≤ mv → Answers (.vsupLowClear mv) s fun t => t = vsup false) ∧
      (s.pwr.vsupLow = true → s.evc.cond.getD 15 false = true → mv < vm + 300 → Answers (.vsupLowClear mv) s fun t => t = s.toDev) ∧
      (lowAt s.pwr.vholdLow (vm + 3000) (vm + 3300) mv = true → s.evc.cond.getD 18 false = false → s.med.state = .writeBack →
        Answers (.vholdLow mv) s fun t =>
        t.evc.lastEsn.getD 18 0 = s.clock.esn ∧ t.pwr = { s.pwr with vholdLow := true } ∧ t.med.state = .writeThrough ∧ t.med.buf = [] ∧
        (∃ old new, t.lastRecord = some (0x60, 0xFF, old, new, 0)) ∧ EventsOnly { s.toDev with med := t.med } t) ∧
      (s.domOn 22 = true → sensor < 4 → s.bg.derate = false → s.celsius 0x0D0000 ≤ signed 16 reading.toNat →
        (s.loop 11).pinned = false → (s.loop 12).pinned = false → s.evc.cond.getD 19 false = false →
        Answers (.tempDerate sensor reading) s fun t => Raised 19 s.toDev t ∧ t.bg.derate = true ∧
          t.loopApplied 11 = s.loopFloor 11 ∧ t.loopApplied 12 = s.loopFloor 12 ∧ EventsOnly s.toDev t) ∧
      (s.bg.derate = true → Answers .tempDerateClear s fun t => t.bg.derate = false ∧
        t = { s.toDev with bg := t.bg, evc := { s.evc with cond := s.evc.cond.set 19 false } }))

/-- Relay faults, the off-state test and TAMPER_TRIP. Log entries that it rests on, which are the model's own readings or choices: 10, 38,
100. -/
def Obligations.RelayFaultsAndTamper : Prop :=
  -- The relay's own faults (R311, R525): a short or an overtemperature found while the relay is energised latches its bit with
  -- source 34 and locks the relay with cause FAULT; a switch found conducting while it is locked latches its bit and leaves it
  -- locked.
   (∀ (b : Nat) (s : State), s.hostUp = true → s.domOn 19 = true → s.evc.lastEsn.length = 160 →
      ((b = 2 ∨ b = 6) → s.energised = true → bit b s.rel.diag = false → Answers (.relayFault (2 ^ b)) s fun t =>
        t.rel.relay = .locked ∧ t.rel.cause = 7 ∧ t.rel.fault = true ∧ t.rel.diag = s.rel.diag + 2 ^ b ∧
        t.evc.lastEsn.getD 34 0 = s.clock.esn ∧ t.sets = s.sets) ∧
      ((b = 3 ∨ b = 4) → s.energised = false → bit b s.rel.diag = false → Answers (.relayFault (2 ^ b)) s fun t =>
        t.rel = { s.rel with diag := s.rel.diag + 2 ^ b, fault := true } ∧ Raised 34 s.toDev t ∧
        EventsOnly { s.toDev with rel := t.rel } t) ∧
      (s.energised = false → bit 3 s.rel.diag = false → bit 11 s.host.fnBusy = false → s.atomBusy 0x06 = false →
        (fnDomains 11).all s.domOn = true → Answers (.offStateTest false true) s fun t =>
        t.rel = { s.rel with diag := s.rel.diag + 8, fault := true } ∧ Raised 34 s.toDev t ∧ EventsOnly { s.toDev with rel := t.rel } t)) ∧
  -- TAMPER_TRIP in RUN (R346–R349, R128): the Quench zeroes the shares, every slot's material, the contexts, the reserve seed and
  -- the wake ID; the sensor is pending in the event and the Quench line in one behind it, the relay locks with cause TAMPER, every
  -- session ends, and the commands that use a secure function are over. TLOW and THIGH trip on three readings beyond the threshold
  -- of the grade (R2), and a TAMP_IN ball that is armed at its active level.
   (∀ (n at_ : Nat) (readings : List Int) (level : Bool) (s : State), s.hostUp = true → s.rel.sessions.length = 32 →
      s.evc.lastEsn.length = 160 → s.clock.pos < 4000 →
      ((n = 4 ∨ n = 5) → s.tempTrips n readings = false → Answers (.tamperTrip n readings level at_) s fun t =>
        t = { s.toDev with cru := { s.cru with dieTemp := readings.getLast?.getD s.cru.dieTemp } }) ∧
      ((n < 6 ∧ s.sensorActive n = true ∧ ((n = 4 ∨ n = 5) → s.tempTrips n readings = true)) ∨
        ((n = 6 ∨ n = 7) ∧ s.tampActive n level = true) →
        Answers (.tamperTrip n readings level at_) s fun t =>
        t.cru.tampered = true ∧ t.cru.tampstat = s.cru.tampstat ||| 2 ^ n ||| 256 ∧ t.cru.shareA = List.replicate 32 0 ∧
        t.cru.shareB = List.replicate 32 0 ∧ t.cru.scramble = [] ∧ t.cru.wakeId = 0 ∧ (∀ k ∈ t.cru.slots, k.material = []) ∧
        t.anvil.contexts = List.replicate 8 none ∧ t.anvil.reserve = none ∧ t.rel.relay = .locked ∧ t.rel.cause = 6 ∧
        t.sessionCount = 0 ∧ (n < 6 ∨ s.evc.level.getD n false ≠ level → t.evc.lastEsn.getD n 0 = s.clock.esn) ∧
        t.evc.lastEsn.getD 8 0 = s.clock.esn + 1 ∧
        (∀ c ∈ t.cmds, c.tamperEnds = false) ∧ t.sets = s.sets ∧ t.cru.uid = s.cru.uid))

/-- Inputs, compare matches, watcher latches, resets' ends, the ratio and the spread. Log entries that it rests on, which are the model's
own readings or choices: 12, 13, 30, 40, 42, 110, 111, 112, 118. -/
def Obligations.InputsAndTimers : Prop :=
  -- The external inputs (R83, R148, R149, R309, R313): a ball that comes to differ from the filtered level and keeps its level for
  -- the filter's length changes that level, not before then, and its event is kept in `LAST_ESN`; a ball that shows the filtered
  -- level changes nothing else. An engine that stops ends an engine-held relay with cause 1, and a door that opens ends the
  -- sessions of its zones and no other. A GPIO ball that its timer channel drives takes no level from outside (R178).
   (∀ (n k stamp : Nat) (level : Bool) (i : Instr) (s : State), s.hostUp = true → s.clock.pos < 4000 → s.evc.lastEsn.length = 160 →
      ((i = .harmChange level stamp ∧ n = 24) ∨ (i = .engineRunChange level stamp ∧ n = 25) ∨
        (k < 6 ∧ i = .doorChange k level stamp ∧ n = 26 + k) ∨ (k < 8 ∧ i = .wakeInputChange k level stamp ∧ n = 120 + k) ∨
        (k < 16 ∧ i = .gpioChange k level stamp ∧ n = 104 + k ∧ s.driven k = false)) →
      (s.evc.level.getD n false = level → Answers i s fun t =>
        t = { s.toDev with evc := { s.evc with ball := s.evc.ball.set n level } }) ∧
      (s.evc.level.getD n false ≠ level → Answers i s fun t =>
        stamp + s.filterTicks n stamp ≤ t.clock.tb ∧ t.evc.level = s.evc.level.set n level ∧
        (n < 104 ∨ 120 ≤ n → t.evc.ball = s.evc.ball.set n level) ∧ t.sets = s.sets ∧ t.cmds.length = s.cmds.length ∧
          (n < 104 ∨ 120 ≤ n → t.evc.lastEsn.getD n 0 = s.clock.esn) ∧
        (n = 25 → s.rel.relay = .engineHeld → s.activeAt 25 level = false → t.rel.relay = .locked ∧ t.rel.cause = 1) ∧
        (n = 26 + k → k < 6 → s.activeAt n level = true → t.rel.relay = s.rel.relay ∧ ∀ m, m < 32 → t.rel.sessions.getD m none =
          if (s.rel.sessions.getD m none).any (fun x => bit x.zone (s.setting (0x060010 + k))) then none else s.rel.sessions.getD m none))) ∧
   (∀ (k stamp : Nat) (level : Bool) (s : State), s.driven k = true → (s.chan k).out ≠ level → Answers (.gpioChange k level stamp) s fun t =>
      t = s.toDev) ∧
  -- GPT_COMPARE_MATCH (R171, R172): the channel's event is not before the stamp of its target; its output acts, and the compare is armed
  -- again only in mode 2; a driven ball follows the output (R178). WATCHER_LATCH (R161, R162) counts its entry, keeps the first stamp and
  -- triggers where it is set to.
   (∀ (n x : Nat) (s : State),
      (s.hostUp = true → s.clock.pos < 4000 → n < 16 → s.tmr.length = 16 → (s.chan n).target = some x → (s.chan n).counts = true →
        Answers (.gptCompareMatch n) s fun t =>
          s.matchStamp n x ≤ t.clock.tb ∧ t.clock.evEsn = s.clock.esn ∧
          (if s.driven n then t.evc.ball = s.evc.ball.set (104 + n) (t.chan n).out else Raised (72 + n) s.toDev t) ∧
            EventsOnly { s.toDev with tmr := t.tmr } t ∧
          (∀ m, m ≠ n → t.chan m = s.chan m) ∧ (t.chan n).late = false ∧
          (t.chan n).target = (if (s.chan n).cmpMode = 2 then some (x + s.tmrLap n) else none) ∧
          (t.chan n).run = decide ((s.chan n).cmpMode ≠ 3) ∧
          (t.chan n).out = (match field 13 12 (s.setting (tmrBase n + 1)) with
            | 1 => true
            | 2 => false
            | 3 => !(s.chan n).out
            | _ => (s.chan n).out)) ∧
      (s.watching = true → n < 32 → bit 9 (s.evc.wcfg.getD n 0).toNat = true → Answers (.watcherLatch n) s fun t =>
        t = { s.toDev with evc := t.evc } ∧ t.evc = { s.evc with
          level := t.evc.level, ball := t.evc.ball, wcount := s.evc.wcount.set n (min 255 (s.evc.wcount.getD n 0 + 1)),
          latched := if (s.evc.latched.getD n none).isNone then s.evc.latched.set n (some s.now) else s.evc.latched,
          trigger := if bit 8 (s.evc.wcfg.getD n 0).toNat then some (min s.now (s.evc.trigger.getD s.now)) else s.evc.trigger })) ∧
  -- FUNCTION_RESET_END (R89) makes the function free and no other; RATIO_WINDOW_CLOSE (R41) keeps the measurement of the window
  -- that closes and opens the next (the length within the drift allowance is a free value); SPREAD_CHANGE (R35) puts the written
  -- depth in force at the start of the next modulation period.
   (∀ (n : Nat) (s : State), s.hostUp = true → s.clock.pos < 4000 →
      (n < 14 → bit n s.host.fnBusy = true → Answers (.functionResetEnd n) s fun t =>
        t.host = { s.host with fnBusy := s.host.fnBusy - 2 ^ n } ∧ t.sets = s.sets ∧ t.rel = s.rel ∧ t.pwr.doms = s.pwr.doms) ∧
      (∀ o, s.clock.ratioFrom = some o → Answers .ratioWindowClose s fun t =>
        ∃ close, t.clock.ratioFrom = some close ∧ t.clock.ratio = some ((close - o) * 256 % 2 ^ 32) ∧ close ≤ t.clock.tb ∧
          o + (15600000 - 156 * s.driftPpm / 10) ≤ close ∧ t = { s.toDev with clock := t.clock, free := t.free } ∧
          t.clock.esn = s.clock.esn) ∧
      (s.clock.depth ≠ s.wantDepth → Answers .spreadChange s fun t =>
        t.clock.depth = s.wantDepth ∧ t.clock.pos = 0 ∧ t.clock.rho < 512 ∧ t = { s.toDev with clock := t.clock } ∧
        512 * t.clock.tb + t.clock.rho =
          512 * s.clock.tb + s.clock.rho - edgeRu s.clock.depth s.clock.pos + edgeRu s.clock.depth 4000))

/-- COMPLETION_PRESENTED (R108–R111, R116, R119, R121): a command whose work and page writes have ended enters the completion store in one
event, with its status, ESN, stamp and payload, and leaves the command table; its effect (an evidence record and its index, a session and
its number, an entry granted) is of the same event. A payload that finds no room waits, behind those that wait already;
COMPLETION_PAYLOAD_ENTER takes the one that has waited longest once it fits. A class C command past its deadline completes DEADLINE; one
whose page writes go on, or whose clocks are gated (R128), is not presented; the presentation of one that another event has ended takes an
ESN (R575). Log entries that it rests on, which are the model's own readings or choices: 8, 57, 81, 100, 102, 129. -/
def Obligations.Completions : Prop :=
  (∀ (tag : Nat) (s : State), s.hostUp = true → s.cmd tag = none → Answers (.completionPresented tag) s fun t =>
    t.clock.esn = s.clock.esn + 1 ∧ t = { s.toDev with clock := t.clock }) ∧
  ∀ (tag : Nat) (c : Cmd) (r : Result) (s : State), s.hostUp = true → s.cmd tag = some c → s.lf.standbyDue = 0 → s.clock.pos < 4000 →
    (c.phase = .done r → s.unfinished c = true ∨ s.gateStops c = true → Answers (.completionPresented tag) s fun t => t = s.toDev) ∧
    (c.phase = .done r → s.unfinished c = false → s.gateStops c = false →
      ((c.cls ≠ 0 ∨ s.late c = false) →
        (r.payload = [] ∨ (s.fits r.payload = true ∧ s.waiters = [])) → c.op ≠ 0x31 → r.drafts = [] →
          (r.effect = .none → Answers (.completionPresented tag) s fun t =>
            t.store = s.store ++ [⟨c.tag, c.op, r.status.code, s.clock.esn.toNat, t.clock.tb % 2 ^ 48, r.payload⟩] ∧
            t.cmds = s.cmds.filter (fun b => b.tag != c.tag) ∧ t.clock.esn = s.clock.esn + 1 ∧
            t = { s.toDev with
              store := t.store, cmds := t.cmds, clock := t.clock, lf := t.lf, uhf := t.uhf, uwb := t.uwb, kw := t.kw, ham := t.ham }) ∧
          (∀ e, r.effect = .evidence e → Answers (.completionPresented tag) s fun t =>
            t.store = s.store ++ [⟨c.tag, c.op, r.status.code, s.clock.esn.toNat, t.clock.tb % 2 ^ 48,
              match r.index with | some i => r.payload.set i (word s.evidenceIndex) | none => r.payload⟩] ∧
            t.rel.evidence = s.rel.evidence.set s.evidenceIndex
              (some { e with esn := s.clock.esn, win := ⟨t.clock.tb, t.clock.tb + 249600000, s.clock.unc⟩ }) ∧
            t.rel.decisions = s.rel.decisions ∧ t.cmds = s.cmds.filter (fun b => b.tag != c.tag)) ∧
          (∀ x n, r.effect = .session x → s.rel.sessions.findIdx? Option.isNone = some n → Answers (.completionPresented tag) s fun t =>
            t.rel.sessions = s.rel.sessions.set n (some { x with win := ⟨t.clock.tb, t.clock.tb + x.win.close, s.clock.unc⟩ }) ∧
            t.store.length = s.store.length + 1 ∧ t.cmds = s.cmds.filter (fun b => b.tag != c.tag)) ∧
          (∀ n keep, r.effect = .sleep n keep → n ≠ 1 → Answers (.completionPresented tag) s fun t =>
            t.pwr = { s.pwr with sleep := some (n, keep) } ∧ t.store.length = s.store.length + 1)) ∧
      ((c.cls ≠ 0 ∨ s.late c = false) → r.payload ≠ [] → (s.fits r.payload = false ∨ s.waiters ≠ []) →
        Answers (.completionPresented tag) s fun t => t = { s.setPhase tag (.waiting r) with
          waiting := s.waiting.filter (· != tag) ++ [tag] }) ∧
      (c.cls = 0 → s.late c = true → Answers (.completionPresented tag) s fun t =>
        (t.store.getLast?.map (fun e => (e.tag, e.op, e.status, e.payload))) = some (c.tag, c.op, Status.deadline.code, []) ∧
        t.cmds = s.cmds.filter (fun b => b.tag != c.tag) ∧ t.sets = s.sets)) ∧
    (∀ ts, c.phase = .waiting r → s.waiters = tag :: ts → (c.cls ≠ 0 ∨ s.late c = false) → c.op ≠ 0x31 → r.drafts = [] →
      r.effect = .none →
      (s.fits r.payload = false → Answers .completionPayloadEnter s fun t => t = s.toDev) ∧
      (s.fits r.payload = true → Answers .completionPayloadEnter s fun t =>
        t.store = s.store ++ [⟨c.tag, c.op, r.status.code, s.clock.esn.toNat, t.clock.tb % 2 ^ 48, r.payload⟩] ∧
        t.cmds = s.cmds.filter (fun b => b.tag != c.tag) ∧ t.waiting = ts))

/-- Journal records, their way to the media, page writes and the scrub. Log entries that it rests on, which are the model's own readings or
choices: 70, 71, 72, 75, 93. -/
def Obligations.JournalAndPageWrites : Prop :=
  -- A journal record (R137, R140, R141, R144): it goes behind those buffered, with the next number, the event's ESN and stamp, and
  -- the chain tag over its bytes and the tag before it, and is folded into its class's summary when no place is left. Behind the
  -- records of the event that filled the general space, journal hold is entered with its JOURNAL record, and at no other time.
   (∀ (origin tag op : Nat) (x : Draft) (d : Dev), d.start.boot = none →
      let r := d.recordOf origin tag op x
      let t := d.log origin tag op x
      let put := d.jrnl.buf ++ [{ r with tag := d.chainTag r d.jrnl.lastTag }]
      (d.jrnl.buf.length < 1024 → t.jrnl.buf = put ∧ t.jrnl.nextNumber = d.jrnl.nextNumber + 1 ∧
        t.jrnl.lastTag = d.chainTag r d.jrnl.lastTag ∧ t.jrnl.lastEsn = r.esn ∧ t.jrnl.hold = d.jrnl.hold ∧ t.jrnl.folded = d.jrnl.folded ∧
        t = { d with jrnl := t.jrnl, nv := { d.nv with busy := t.nv.busy, queue := t.nv.queue, undo := t.nv.undo } }) ∧
      (1024 ≤ d.jrnl.buf.length →
        t = { d with jrnl := { d.jrnl with folded := t.jrnl.folded } } ∧ ∃ f ∈ t.jrnl.folded, f.1 = x.cls ∧ f.2.2.2 = d.clock.evEsn.toNat)) ∧
   (∀ before d : Dev, before.jrnl.nextNumber ≠ d.jrnl.nextNumber →
      let t := Dev.settle before d
      let n := d.jrnl.buf.length
      (d.jrnl.hold = true ∨ n < 960 → t = d) ∧
      (d.jrnl.hold = false → 960 ≤ n → t.jrnl.hold = true ∧ t.jrnl.buf.take n = d.jrnl.buf ∧ t.jrnl.buf.length = n + 1 ∧
        t.jrnl.buf.getLast?.map (fun r => (r.cls, r.old, r.new, r.auxCause)) = some (0x7F, n, n + 1, 0) ∧
        t.evc.cond = (if d.evc.cond.getD 155 false then d.evc.cond else d.evc.cond.set 155 true))) ∧
  -- The journal on the media (R142, R143): JOURNAL_FLUSH writes the buffered batch behind V2, not before the batch is due, and the
  -- chain head after it where a record's class asks for it; CHAIN_HEAD_WRITE writes the head, a second after the last at the
  -- earliest.
   (∀ s : State, s.hostUp = true → s.clock.pos < 4000 → s.jrnl.nextNumber ≠ 0 →
      (s.mediaUp = true → s.jrnl.buf ≠ [] → s.jrnl.v2.length + s.jrnl.buf.length + 1 ≤ v2Capacity → Answers .journalFlush s fun t =>
        s.batchAt ≤ t.clock.tb ∧ t.jrnl.v2 = s.jrnl.v2 ++ s.jrnl.buf ∧ t.jrnl.buf = [] ∧ t.jrnl.nextNumber = s.jrnl.nextNumber ∧
        t.jrnl.head = (if s.jrnl.buf.any headClass
          then some (s.jrnl.nextNumber - 1, s.jrnl.lastEsn, s.nv.bootEpoch, s.jrnl.lastTag, false) else s.jrnl.head) ∧
        EventsOnly s.toDev t) ∧
      (s.jrnl.headDue = true → Answers .chainHeadWrite s fun t =>
        s.jrnl.headAt + 124800000 ≤ t.clock.tb ∧ t.jrnl = { s.jrnl with
          head := some (s.jrnl.nextNumber - 1, s.jrnl.lastEsn, s.nv.bootEpoch, s.jrnl.lastTag, false), headAt := t.clock.tb,
          headDue := false, headSeq := s.jrnl.headSeq + 1 } ∧
        t = { s.toDev with clock := t.clock, jrnl := t.jrnl, nv := { s.nv with busy := t.nv.busy, queue := t.nv.queue, undo := t.nv.undo } } ∧
        t.nv.queue = s.nv.queue ++ devWrites none (headPages (s.jrnl.headSeq + 1)))) ∧
  -- The page writes and the scrub of NVSTORE (R472, R490): NV_PAGE_WRITE_END programs the bytes of the write in progress, makes
  -- their groups sound, counts it, and begins the next, or presents NV_IDLE (source 144) where none waits; a scrub pass begins when
  -- its time has come and goes page by page to its end.
   (∀ (w : PageWrite) (ws : List PageWrite) (errors : List NvError) (p : Nat) (s : State), s.hostUp = true → s.clock.pos < 4000 →
      (s.nv.queue = w :: ws → s.nv.busy = true → s.domGated 16 = false → w.page ≠ 8 → (∀ tag, w.owner = some tag → s.tokenRun tag = none) →
        Answers .nvPageWriteEnd s fun t =>
          t.nv.queue = ws ∧ t.nv.writes = (s.nv.writes + 1) % 2 ^ 32 ∧
          t.nv.cells = w.cells.foldl (fun cs c => cellPut 0xFF c.1 c.2 cs) s.nv.cells ∧ t.cmds = s.cmds ∧
          (∀ g ∈ t.nv.bad, g ∈ s.nv.bad ∧ (∀ c ∈ w.cells, c.1 / 4 ≠ g / 4) ∧ (w.cells = [] → g / 64 ≠ w.page)) ∧
          (ws = [] → t.nv.busy = false ∧ Raised 144 s.toDev t) ∧
          (ws ≠ [] → t.nv.busy = (s.dom 16 == .on && !s.pwr.vsupLow) ∧ t.clock = s.clock) ∧
          EventsOnly { s.toDev with cru := { s.cru with slots := t.cru.slots, tokens := t.cru.tokens } } t) ∧
      (s.nv.scrub = none → Answers .scrubPass s fun t => s.clock.tb + (scrubTicks - s.scrubCount) ≤ t.clock.tb ∧
        t = { s.toDev with clock := t.clock, nv := { s.nv with scrub := some 0 } }) ∧
      (s.nv.scrub = some p → bit 9 s.host.fnBusy = false → s.atomBusy 0x0A = false → (fnDomains 9).all s.domOn = true →
        Answers (.scrubAtom errors) s fun t => t.nv.scrub = (if p + 1 < 1024 then some (p + 1) else none) ∧ t.sets = s.sets ∧
          t.rel = s.rel ∧ t.cmds = s.cmds))

/-- The background of the media manager, sweeps and reloads. Log entries that it rests on, which are the model's own readings or choices:
37, 46, 73, 74. -/
def Obligations.MediaAndSweeps : Prop :=
  -- The media manager's own work (R506–R513, R529): FOLD empties the SLC buffer, GARBAGE_COLLECTION changes no byte, DEMOTION
  -- merges the fine units idle for a day, REFRESH and PROTECTION_REWRITE rewrite one block of a die in use, and SAMPLE_READ leaves
  -- what its read met.
   (∀ (k : Nat) (x : Die) (nand : NandRead) (s : State), s.hostUp = true → s.med.ready = true →
      (s.med.dies[k]? = some x → x.state = 1 → Answers (.protectionRewrite k) s fun t =>
        t = { s.toDev with med := { s.med with dies := s.med.dies.set k { x with refresh := x.refresh + 1 } } }) ∧
      (bit 8 s.host.fnBusy = false → s.atomBusy 0x0B = false → (fnDomains 8).all s.domOn = true →
        let bg := { s.bg with due := s.bg.due.filter (fun a => a.unit != 0x0B) }
        let pwr := { s.pwr with busyAt := s.clock.tb }
        ((s.atlas.active = none ∨ s.atlas.loaded = true ∨ s.atlas.reloadFailed = true) → Answers .fold s fun t =>
          t.med.slc = 0 ∧ t.med.buf = [] ∧ t.med.v4 = s.durable.med.v4 ∧ t.med.v6 = s.durable.med.v6 ∧ t.med.mapped = s.med.mapped ∧
          t = { s.toDev with bg := bg, pwr := pwr, med := t.med }) ∧
        Answers .garbageCollection s (fun t => t = { s.toDev with bg := bg, pwr := pwr }) ∧
        Answers .demotion s (fun t => t = { s.toDev with bg := bg, pwr := pwr, med := { s.med with
          units := s.med.units.filter (fun u => !(u.fine && u.lastWrite + 10782720000000 ≤ s.clock.tb)) } }) ∧
        (s.med.dies[k]? = some x → x.state = 1 → Answers (.refresh k) s fun t =>
          t = { s.toDev with
            bg := bg, pwr := pwr, med := { s.med with dies := s.med.dies.set k { x with refresh := x.refresh + 1 } } }) ∧
        (s.nandLost nand = true → Answers (.sampleRead nand) s fun t => RaisedBeside 142 s.toDev t ∧
          t.med = { s.med with uncorr := true, uncorrReads := s.med.uncorrReads + 1 } ∧ EventsOnly { s.toDev with med := t.med } t) ∧
        (s.nandLost nand = false → s.nandStripe nand = true → Answers (.sampleRead nand) s fun t =>
          t.med.rebuilt = s.med.rebuilt + 1 ∧ t.med.v4 = s.med.v4 ∧ t.med.v6 = s.med.v6 ∧ t.med.uncorr = s.med.uncorr ∧ t.sets = s.sets) ∧
        (s.nandLost nand = false → s.nandStripe nand = false → Answers (.sampleRead nand) s fun t =>
          t.med.ladderHits = s.med.ladderHits + (if 0 < nand.step then 1 else 0) ∧
          t = { s.toDev with bg := bg, pwr := pwr, free := t.free, med := { s.med with ladderHits := t.med.ladderHits, ladder := t.med.ladder } }))) ∧
  -- The hold-up test, telemetry records and dies (R497, R514, R518, R519): a test that passes brings WRITE_BACK unless VHOLD_LOW
  -- holds, one that fails is source 138 and keeps write-through; TELEMETRY_RECORD puts one record into V3; DIE_LOST and
  -- REBUILD_DONE are sources 139 and 140 with their MEDIA records.
   (∀ (vhold droop k : Nat) (x : Die) (s : State), s.hostUp = true → s.clock.pos < 4000 → s.evc.lastEsn.length = 160 →
      (s.med.ready = true → bit 8 s.host.fnBusy = false → s.atomBusy 0x0B = false → (fnDomains 8).all s.domOn = true →
        s.med.state = .writeThrough → s.pwr.vholdLow = false → s.med.testIn ≠ some s.testWindow → Answers (.holdupTest vhold droop) s fun t =>
          s.clock.tb + 124800 ≤ t.clock.tb ∧ EventsOnly { s.toDev with med := t.med } t ∧
          if s.setting 0x0B0020 ≤ vhold ∧ 750 * 900 * droop ≤ vhold * vhold - s.setting 0x0B0020 * s.setting 0x0B0020 then
            t.med.testPass = true ∧ t.med.holdupOk = true ∧ t.med.state = .writeBack ∧ t.evc.cond = s.evc.cond.set 137 false
          else t.med.testPass = false ∧ t.med.holdupOk = false ∧ t.med.state = .writeThrough ∧ Raised 138 s.toDev t) ∧
      (s.med.ready = true → s.domOn 15 = true → Answers .telemetryRecord s fun t =>
        t.med.telCount = s.med.telCount + 1 ∧ s.clock.tb + (s.med.telAt + s.setting 0x0B0050 * 7488000000 - s.runTime) ≤ t.clock.tb ∧
        t = { s.toDev with
          clock := t.clock, med := { s.med with tel := t.med.tel, telCount := t.med.telCount, telAt := t.med.telAt } } ∧
        ∃ bs, t.med.tel.getLast? = some bs ∧ bs.take 8 = leBytes 8 t.clock.tb ∧
          (s.med.tel.length < 262144 → t.med.tel = s.med.tel ++ [bs])) ∧
      (k < 8 → s.med.dies[k]? = some x → x.state = 1 → Answers (.dieLost k) s fun t =>
        t.med = { s.med with dies := s.med.dies.set k { x with state := 2 }, rebuild := s.med.rebuild || decide (2 ≤ s.diesUsed) } ∧
        Raised 139 s.toDev t ∧ t.lastRecord.map (fun r => (r.1, r.2.1, r.2.2.1)) = some (0x60, k, s.medstat) ∧
        EventsOnly { s.toDev with med := t.med } t) ∧
      (s.med.rebuild = true → s.roomFor 0 = true → Answers .rebuildDone s fun t =>
        t.med = { s.med with rebuild := false } ∧ Raised 140 s.toDev t ∧ t.lastRecord.map (fun r => r.1) = some 0x60 ∧
        EventsOnly { s.toDev with med := t.med } t)) ∧
  -- Sweeps and reloads (R278, R280, R424, R534): PARITY_SWEEP changes nothing that is stated; SENSOR_SWEEP takes its readings at
  -- the period of loop 12, and the estimate of loop 11 follows the hottest sensor; ATLAS_RELOAD loads the active image, or is
  -- source 143 where it cannot be read; SCRIPT_RESTORE without a readable medium fails, installs an image that still verifies, and
  -- clears one that does not, with its SCRIPT record.
   (∀ (items : List Word) (nand : NandRead) (q : Nat) (s : State), s.hostUp = true → s.clock.pos < 4000 → s.evc.lastEsn.length = 160 →
      (bit 7 s.host.fnBusy = false → s.atomBusy 0x08 = false → (fnDomains 7).all s.domOn = true → Answers .paritySweep s fun t =>
        t = { s.toDev with
          bg := { s.bg with due := s.bg.due.filter (fun a => a.unit != 0x08) }, pwr := { s.pwr with busyAt := s.clock.tb } }) ∧
      (s.cmds = [] → bit 13 s.host.fnBusy = false → (fnDomains 13).all s.domOn = true → s.bg.loops.length = 13 →
        (s.loop 11).pinned = false → Answers (.sensorSweep items) s fun t =>
          s.bg.sweepAt + s.loopApplied 12 * 124800 ≤ t.bg.sweepAt ∧ t.bg.sweepAt ≤ t.clock.tb ∧ EventsOnly s.toDev t ∧
          (∀ i, i < 8 → t.bg.items.getD i 0 = items.getD i 0) ∧
          (t.loop 11).est = rateEst (s.celsius 0x0D0000) t.hottest) ∧
      (s.atlas.active.isSome = true → s.atlas.loaded = false → s.atlas.reloadFailed = false → s.domOn 13 = true → s.domOn 14 = true →
        (s.mediumOk = false → Answers (.atlasReload nand) s fun t => t.atlas = { s.atlas with reloadFailed := true } ∧
          Raised 143 s.toDev t ∧ EventsOnly { s.toDev with atlas := t.atlas } t) ∧
        (s.mediumOk = true → s.med.ready = true → s.nandLost nand = true →
          Answers (.atlasReload nand) s fun t => t.atlas = { s.atlas with reloadFailed := true } ∧
          t.evc.lastEsn.getD 142 0 = s.clock.esn ∧ t.evc.lastEsn.getD 143 0 = s.clock.esn + 1 ∧
          EventsOnly { s.toDev with atlas := t.atlas, med := t.med } t) ∧
        (s.mediumOk = true → s.med.ready = true → s.nandLost nand = false → s.nandStripe nand = false → Answers (.atlasReload nand) s fun t =>
          t.atlas = { s.atlas with loaded := true, reloadFailed := false, cache := [] } ∧
          t = { s.toDev with atlas := t.atlas, free := t.free, med := t.med })) ∧
      (q < 2 → (s.seqr q).restoring = true → s.domOn (11 + q) = true → s.replaying = false →
        (s.med.ready = false → Answers (.scriptRestore q nand) s fun t =>
          t = s.onSeq q (fun u => { u with restoring := false, restoreFailed := true })) ∧
        (∀ m, s.med.ready = true → nand = ⟨0, nand.bits, false, false⟩ → s.stored q = some m → Answers (.scriptRestore q nand) s fun t =>
          match s.verifyScript q m with
          | some x => t = s.onSeq q (fun u =>
            { u with image := some x, iram := imageRam m x, restoring := false, restoreFailed := false, dirty := false })
          | none => t.seqr q = { s.seqr q with restoring := false } ∧ t.seqr (1 - q) = s.seqr (1 - q) ∧ t.stored q = none ∧
            t.lastRecord.map (fun r => (r.1, r.2.2.1, r.2.2.2.2)) = some (0x71, q, Status.imageInvalid.code) ∧
            EventsOnly { s.toDev with ham := t.ham } t)))
end

