-- ==== Sys2Proof/Laws/Cells.lean ====
section
/-!
SUPPORT. The laws of the sparse stores: read after write, and that every write keeps the canonical form.
-/

namespace Sys2Proof.Machine

variable {α : Type} [DecidableEq α]

theorem cellsFrom_weaken {d : Nat → α} {m n : Nat} (h : m ≤ n) : ∀ {cs}, cellsFrom d n cs = true → cellsFrom d m cs = true
  | [], _ => rfl
  | (a, v) :: cs, hs => by
    simp only [cellsFrom, Bool.and_eq_true, decide_eq_true_eq] at hs ⊢
    exact ⟨⟨by omega, hs.1.2⟩, hs.2⟩

/-- A key below every entry is unlisted. -/
theorem cellGet_below {d : Nat → α} {e : α} : ∀ {cs n k}, cellsFrom d n cs = true → k < n → cellGet e k cs = e
  | [], _, _, _, _ => rfl
  | (a, v) :: cs, n, k, h, hk => by
    simp only [cellsFrom, Bool.and_eq_true, decide_eq_true_eq] at h
    have ha : a ≠ k := by omega
    simp only [cellGet, ha, if_false]
    exact cellGet_below h.2 (by omega)

/-- Writing keeps the canonical form. -/
theorem cellsFrom_put {d : Nat → α} {k : Nat} {v : α} :
    ∀ {cs n}, cellsFrom d n cs = true → n ≤ k → cellsFrom d n (cellPut (d k) k v cs) = true
  | [], n, _, hk => by
    by_cases hv : v = d k <;> simp [cellPut, cellsFrom, hv, hk]
  | (a, w) :: cs, n, h, hk => by
    simp only [cellsFrom, Bool.and_eq_true, decide_eq_true_eq] at h
    by_cases h1 : a < k
    · simp only [cellPut, h1, if_true, cellsFrom, Bool.and_eq_true, decide_eq_true_eq]
      exact ⟨h.1, cellsFrom_put h.2 (by omega)⟩
    · by_cases h2 : a = k
      · subst h2
        by_cases hv : v = d a
        · simp only [cellPut, h1, hv, if_true, if_false]; exact cellsFrom_weaken (by omega) h.2
        · simp only [cellPut, h1, hv, if_true, if_false, cellsFrom, Bool.and_eq_true, decide_eq_true_eq]
          exact ⟨⟨h.1.1, hv⟩, h.2⟩
      · by_cases hv : v = d k
        · simp only [cellPut, h1, h2, hv, if_true, if_false, cellsFrom, Bool.and_eq_true, decide_eq_true_eq]
          exact h
        · simp only [cellPut, h1, h2, hv, if_false, cellsFrom, Bool.and_eq_true, decide_eq_true_eq]
          exact ⟨⟨hk, hv⟩, ⟨by omega, h.1.2⟩, h.2⟩

theorem cellsWf_put {d : Nat → α} {k : Nat} {v : α} {cs} (h : cellsWf d cs = true) : cellsWf d (cellPut (d k) k v cs) = true :=
  cellsFrom_put h (Nat.zero_le k)

/-- Read after write at the same key. -/
theorem cellGet_put_same {d : Nat → α} {k : Nat} {v : α} :
    ∀ {cs n}, cellsFrom d n cs = true → cellGet (d k) k (cellPut (d k) k v cs) = v
  | [], _, _ => by by_cases hv : v = d k <;> simp [cellPut, cellGet, hv]
  | (a, w) :: cs, n, h => by
    simp only [cellsFrom, Bool.and_eq_true, decide_eq_true_eq] at h
    by_cases h1 : a < k
    · have h2 : a ≠ k := by omega
      simp only [cellPut, h1, if_true, cellGet, h2, if_false]
      exact cellGet_put_same h.2
    · by_cases h2 : a = k
      · subst h2
        by_cases hv : v = d a
        · simp only [cellPut, h1, hv, if_true, if_false]
          exact cellGet_below h.2 (by omega)
        · simp [cellPut, cellGet, hv]
      · by_cases hv : v = d k
        · simp only [cellPut, h1, h2, hv, if_true, if_false, cellGet]
          exact cellGet_below h.2 (by omega)
        · simp [cellPut, h1, h2, cellGet, hv]

/-- A write leaves every other key alone. -/
theorem cellGet_put_other {d : Nat → α} {e : α} {k j : Nat} {v : α} (hj : j ≠ k) :
    ∀ {cs n}, cellsFrom d n cs = true → cellGet e j (cellPut (d k) k v cs) = cellGet e j cs
  | [], _, _ => by by_cases hv : v = d k <;> simp [cellPut, cellGet, hv, hj.symm]
  | (a, w) :: cs, n, h => by
    simp only [cellsFrom, Bool.and_eq_true, decide_eq_true_eq] at h
    by_cases h1 : a < k
    · simp only [cellPut, h1, if_true, cellGet, cellGet_put_other hj h.2]
    · by_cases h2 : a = k
      · subst h2
        by_cases hv : v = d a
        · simp [cellPut, cellGet, hv, hj.symm]
        · simp [cellPut, cellGet, hv, hj.symm]
      · by_cases hv : v = d k <;> simp [cellPut, h1, h2, cellGet, hv, hj.symm]

end Sys2Proof.Machine
end

