-- ==== Sys2Proof/Laws/State.lean ====
section
/-!
SUPPORT. What each shared update leaves: for every field that an update of Sys2Proof/Machine does not write, the lemma that it is kept.
-/

namespace Sys2Proof.Machine

/-! ### Dev.wait writes clock -/

@[simp] theorem Dev.wait_ident (t : Nat) (d : Dev) : (d.wait t).ident = d.ident := rfl
@[simp] theorem Dev.wait_pwr (t : Nat) (d : Dev) : (d.wait t).pwr = d.pwr := rfl
@[simp] theorem Dev.wait_host (t : Nat) (d : Dev) : (d.wait t).host = d.host := rfl
@[simp] theorem Dev.wait_start (t : Nat) (d : Dev) : (d.wait t).start = d.start := rfl
@[simp] theorem Dev.wait_cmds (t : Nat) (d : Dev) : (d.wait t).cmds = d.cmds := rfl
@[simp] theorem Dev.wait_store (t : Nat) (d : Dev) : (d.wait t).store = d.store := rfl
@[simp] theorem Dev.wait_waiting (t : Nat) (d : Dev) : (d.wait t).waiting = d.waiting := rfl
@[simp] theorem Dev.wait_sets (t : Nat) (d : Dev) : (d.wait t).sets = d.sets := rfl
@[simp] theorem Dev.wait_setLow (t : Nat) (d : Dev) : (d.wait t).setLow = d.setLow := rfl
@[simp] theorem Dev.wait_jrnl (t : Nat) (d : Dev) : (d.wait t).jrnl = d.jrnl := rfl
@[simp] theorem Dev.wait_evc (t : Nat) (d : Dev) : (d.wait t).evc = d.evc := rfl
@[simp] theorem Dev.wait_tmr (t : Nat) (d : Dev) : (d.wait t).tmr = d.tmr := rfl
@[simp] theorem Dev.wait_lf (t : Nat) (d : Dev) : (d.wait t).lf = d.lf := rfl
@[simp] theorem Dev.wait_uhf (t : Nat) (d : Dev) : (d.wait t).uhf = d.uhf := rfl
@[simp] theorem Dev.wait_uwb (t : Nat) (d : Dev) : (d.wait t).uwb = d.uwb := rfl
@[simp] theorem Dev.wait_atlas (t : Nat) (d : Dev) : (d.wait t).atlas = d.atlas := rfl
@[simp] theorem Dev.wait_rel (t : Nat) (d : Dev) : (d.wait t).rel = d.rel := rfl
@[simp] theorem Dev.wait_cru (t : Nat) (d : Dev) : (d.wait t).cru = d.cru := rfl
@[simp] theorem Dev.wait_anvil (t : Nat) (d : Dev) : (d.wait t).anvil = d.anvil := rfl
@[simp] theorem Dev.wait_tok (t : Nat) (d : Dev) : (d.wait t).tok = d.tok := rfl
@[simp] theorem Dev.wait_ham (t : Nat) (d : Dev) : (d.wait t).ham = d.ham := rfl
@[simp] theorem Dev.wait_kw (t : Nat) (d : Dev) : (d.wait t).kw = d.kw := rfl
@[simp] theorem Dev.wait_nv (t : Nat) (d : Dev) : (d.wait t).nv = d.nv := rfl
@[simp] theorem Dev.wait_med (t : Nat) (d : Dev) : (d.wait t).med = d.med := rfl
@[simp] theorem Dev.wait_bg (t : Nat) (d : Dev) : (d.wait t).bg = d.bg := rfl
@[simp] theorem Dev.wait_free (t : Nat) (d : Dev) : (d.wait t).free = d.free := rfl

/-! ### Dev.acceptOn writes clock -/

@[simp] theorem Dev.acceptOn_ident (port : Nat) (close : Bool) (d : Dev) : (d.acceptOn port close).ident = d.ident := by
  unfold Dev.acceptOn; split <;> rfl
@[simp] theorem Dev.acceptOn_pwr (port : Nat) (close : Bool) (d : Dev) : (d.acceptOn port close).pwr = d.pwr := by unfold Dev.acceptOn; split <;> rfl
@[simp] theorem Dev.acceptOn_host (port : Nat) (close : Bool) (d : Dev) : (d.acceptOn port close).host = d.host := by
  unfold Dev.acceptOn; split <;> rfl
@[simp] theorem Dev.acceptOn_start (port : Nat) (close : Bool) (d : Dev) : (d.acceptOn port close).start = d.start := by
  unfold Dev.acceptOn; split <;> rfl
@[simp] theorem Dev.acceptOn_cmds (port : Nat) (close : Bool) (d : Dev) : (d.acceptOn port close).cmds = d.cmds := by
  unfold Dev.acceptOn; split <;> rfl
@[simp] theorem Dev.acceptOn_store (port : Nat) (close : Bool) (d : Dev) : (d.acceptOn port close).store = d.store := by
  unfold Dev.acceptOn; split <;> rfl
@[simp] theorem Dev.acceptOn_waiting (port : Nat) (close : Bool) (d : Dev) : (d.acceptOn port close).waiting = d.waiting := by
  unfold Dev.acceptOn; split <;> rfl
@[simp] theorem Dev.acceptOn_sets (port : Nat) (close : Bool) (d : Dev) : (d.acceptOn port close).sets = d.sets := by
  unfold Dev.acceptOn; split <;> rfl
@[simp] theorem Dev.acceptOn_setLow (port : Nat) (close : Bool) (d : Dev) : (d.acceptOn port close).setLow = d.setLow := by
  unfold Dev.acceptOn; split <;> rfl
@[simp] theorem Dev.acceptOn_jrnl (port : Nat) (close : Bool) (d : Dev) : (d.acceptOn port close).jrnl = d.jrnl := by
  unfold Dev.acceptOn; split <;> rfl
@[simp] theorem Dev.acceptOn_evc (port : Nat) (close : Bool) (d : Dev) : (d.acceptOn port close).evc = d.evc := by unfold Dev.acceptOn; split <;> rfl
@[simp] theorem Dev.acceptOn_tmr (port : Nat) (close : Bool) (d : Dev) : (d.acceptOn port close).tmr = d.tmr := by unfold Dev.acceptOn; split <;> rfl
@[simp] theorem Dev.acceptOn_lf (port : Nat) (close : Bool) (d : Dev) : (d.acceptOn port close).lf = d.lf := by unfold Dev.acceptOn; split <;> rfl
@[simp] theorem Dev.acceptOn_uhf (port : Nat) (close : Bool) (d : Dev) : (d.acceptOn port close).uhf = d.uhf := by unfold Dev.acceptOn; split <;> rfl
@[simp] theorem Dev.acceptOn_uwb (port : Nat) (close : Bool) (d : Dev) : (d.acceptOn port close).uwb = d.uwb := by unfold Dev.acceptOn; split <;> rfl
@[simp] theorem Dev.acceptOn_atlas (port : Nat) (close : Bool) (d : Dev) : (d.acceptOn port close).atlas = d.atlas := by
  unfold Dev.acceptOn; split <;> rfl
@[simp] theorem Dev.acceptOn_rel (port : Nat) (close : Bool) (d : Dev) : (d.acceptOn port close).rel = d.rel := by unfold Dev.acceptOn; split <;> rfl
@[simp] theorem Dev.acceptOn_cru (port : Nat) (close : Bool) (d : Dev) : (d.acceptOn port close).cru = d.cru := by unfold Dev.acceptOn; split <;> rfl
@[simp] theorem Dev.acceptOn_anvil (port : Nat) (close : Bool) (d : Dev) : (d.acceptOn port close).anvil = d.anvil := by
  unfold Dev.acceptOn; split <;> rfl
@[simp] theorem Dev.acceptOn_tok (port : Nat) (close : Bool) (d : Dev) : (d.acceptOn port close).tok = d.tok := by unfold Dev.acceptOn; split <;> rfl
@[simp] theorem Dev.acceptOn_ham (port : Nat) (close : Bool) (d : Dev) : (d.acceptOn port close).ham = d.ham := by unfold Dev.acceptOn; split <;> rfl
@[simp] theorem Dev.acceptOn_kw (port : Nat) (close : Bool) (d : Dev) : (d.acceptOn port close).kw = d.kw := by unfold Dev.acceptOn; split <;> rfl
@[simp] theorem Dev.acceptOn_nv (port : Nat) (close : Bool) (d : Dev) : (d.acceptOn port close).nv = d.nv := by unfold Dev.acceptOn; split <;> rfl
@[simp] theorem Dev.acceptOn_med (port : Nat) (close : Bool) (d : Dev) : (d.acceptOn port close).med = d.med := by unfold Dev.acceptOn; split <;> rfl
@[simp] theorem Dev.acceptOn_bg (port : Nat) (close : Bool) (d : Dev) : (d.acceptOn port close).bg = d.bg := by unfold Dev.acceptOn; split <;> rfl
@[simp] theorem Dev.acceptOn_free (port : Nat) (close : Bool) (d : Dev) : (d.acceptOn port close).free = d.free := by
  unfold Dev.acceptOn; split <;> rfl

/-! ### Dev.accept writes clock -/

@[simp] theorem Dev.accept_ident (d : Dev) : d.accept.ident = d.ident := Dev.acceptOn_ident 13 false d
@[simp] theorem Dev.accept_pwr (d : Dev) : d.accept.pwr = d.pwr := Dev.acceptOn_pwr 13 false d
@[simp] theorem Dev.accept_host (d : Dev) : d.accept.host = d.host := Dev.acceptOn_host 13 false d
@[simp] theorem Dev.accept_start (d : Dev) : d.accept.start = d.start := Dev.acceptOn_start 13 false d
@[simp] theorem Dev.accept_cmds (d : Dev) : d.accept.cmds = d.cmds := Dev.acceptOn_cmds 13 false d
@[simp] theorem Dev.accept_store (d : Dev) : d.accept.store = d.store := Dev.acceptOn_store 13 false d
@[simp] theorem Dev.accept_waiting (d : Dev) : d.accept.waiting = d.waiting := Dev.acceptOn_waiting 13 false d
@[simp] theorem Dev.accept_sets (d : Dev) : d.accept.sets = d.sets := Dev.acceptOn_sets 13 false d
@[simp] theorem Dev.accept_setLow (d : Dev) : d.accept.setLow = d.setLow := Dev.acceptOn_setLow 13 false d
@[simp] theorem Dev.accept_jrnl (d : Dev) : d.accept.jrnl = d.jrnl := Dev.acceptOn_jrnl 13 false d
@[simp] theorem Dev.accept_evc (d : Dev) : d.accept.evc = d.evc := Dev.acceptOn_evc 13 false d
@[simp] theorem Dev.accept_tmr (d : Dev) : d.accept.tmr = d.tmr := Dev.acceptOn_tmr 13 false d
@[simp] theorem Dev.accept_lf (d : Dev) : d.accept.lf = d.lf := Dev.acceptOn_lf 13 false d
@[simp] theorem Dev.accept_uhf (d : Dev) : d.accept.uhf = d.uhf := Dev.acceptOn_uhf 13 false d
@[simp] theorem Dev.accept_uwb (d : Dev) : d.accept.uwb = d.uwb := Dev.acceptOn_uwb 13 false d
@[simp] theorem Dev.accept_atlas (d : Dev) : d.accept.atlas = d.atlas := Dev.acceptOn_atlas 13 false d
@[simp] theorem Dev.accept_rel (d : Dev) : d.accept.rel = d.rel := Dev.acceptOn_rel 13 false d
@[simp] theorem Dev.accept_cru (d : Dev) : d.accept.cru = d.cru := Dev.acceptOn_cru 13 false d
@[simp] theorem Dev.accept_anvil (d : Dev) : d.accept.anvil = d.anvil := Dev.acceptOn_anvil 13 false d
@[simp] theorem Dev.accept_tok (d : Dev) : d.accept.tok = d.tok := Dev.acceptOn_tok 13 false d
@[simp] theorem Dev.accept_ham (d : Dev) : d.accept.ham = d.ham := Dev.acceptOn_ham 13 false d
@[simp] theorem Dev.accept_kw (d : Dev) : d.accept.kw = d.kw := Dev.acceptOn_kw 13 false d
@[simp] theorem Dev.accept_nv (d : Dev) : d.accept.nv = d.nv := Dev.acceptOn_nv 13 false d
@[simp] theorem Dev.accept_med (d : Dev) : d.accept.med = d.med := Dev.acceptOn_med 13 false d
@[simp] theorem Dev.accept_bg (d : Dev) : d.accept.bg = d.bg := Dev.acceptOn_bg 13 false d
@[simp] theorem Dev.accept_free (d : Dev) : d.accept.free = d.free := Dev.acceptOn_free 13 false d

/-! ### Dev.setPending writes evc -/

@[simp] theorem Dev.setPending_ident (n : Nat) (d : Dev) : (d.setPending n).ident = d.ident := rfl
@[simp] theorem Dev.setPending_clock (n : Nat) (d : Dev) : (d.setPending n).clock = d.clock := rfl
@[simp] theorem Dev.setPending_pwr (n : Nat) (d : Dev) : (d.setPending n).pwr = d.pwr := rfl
@[simp] theorem Dev.setPending_host (n : Nat) (d : Dev) : (d.setPending n).host = d.host := rfl
@[simp] theorem Dev.setPending_start (n : Nat) (d : Dev) : (d.setPending n).start = d.start := rfl
@[simp] theorem Dev.setPending_cmds (n : Nat) (d : Dev) : (d.setPending n).cmds = d.cmds := rfl
@[simp] theorem Dev.setPending_store (n : Nat) (d : Dev) : (d.setPending n).store = d.store := rfl
@[simp] theorem Dev.setPending_waiting (n : Nat) (d : Dev) : (d.setPending n).waiting = d.waiting := rfl
@[simp] theorem Dev.setPending_sets (n : Nat) (d : Dev) : (d.setPending n).sets = d.sets := rfl
@[simp] theorem Dev.setPending_setLow (n : Nat) (d : Dev) : (d.setPending n).setLow = d.setLow := rfl
@[simp] theorem Dev.setPending_jrnl (n : Nat) (d : Dev) : (d.setPending n).jrnl = d.jrnl := rfl
@[simp] theorem Dev.setPending_tmr (n : Nat) (d : Dev) : (d.setPending n).tmr = d.tmr := rfl
@[simp] theorem Dev.setPending_lf (n : Nat) (d : Dev) : (d.setPending n).lf = d.lf := rfl
@[simp] theorem Dev.setPending_uhf (n : Nat) (d : Dev) : (d.setPending n).uhf = d.uhf := rfl
@[simp] theorem Dev.setPending_uwb (n : Nat) (d : Dev) : (d.setPending n).uwb = d.uwb := rfl
@[simp] theorem Dev.setPending_atlas (n : Nat) (d : Dev) : (d.setPending n).atlas = d.atlas := rfl
@[simp] theorem Dev.setPending_rel (n : Nat) (d : Dev) : (d.setPending n).rel = d.rel := rfl
@[simp] theorem Dev.setPending_cru (n : Nat) (d : Dev) : (d.setPending n).cru = d.cru := rfl
@[simp] theorem Dev.setPending_anvil (n : Nat) (d : Dev) : (d.setPending n).anvil = d.anvil := rfl
@[simp] theorem Dev.setPending_tok (n : Nat) (d : Dev) : (d.setPending n).tok = d.tok := rfl
@[simp] theorem Dev.setPending_ham (n : Nat) (d : Dev) : (d.setPending n).ham = d.ham := rfl
@[simp] theorem Dev.setPending_kw (n : Nat) (d : Dev) : (d.setPending n).kw = d.kw := rfl
@[simp] theorem Dev.setPending_nv (n : Nat) (d : Dev) : (d.setPending n).nv = d.nv := rfl
@[simp] theorem Dev.setPending_med (n : Nat) (d : Dev) : (d.setPending n).med = d.med := rfl
@[simp] theorem Dev.setPending_bg (n : Nat) (d : Dev) : (d.setPending n).bg = d.bg := rfl
@[simp] theorem Dev.setPending_free (n : Nat) (d : Dev) : (d.setPending n).free = d.free := rfl

/-! ### Dev.latchAt writes evc -/

@[simp] theorem Dev.latchAt_ident (w t : Nat) (d : Dev) : (d.latchAt w t).ident = d.ident := by unfold Dev.latchAt; dsimp only; split <;> rfl
@[simp] theorem Dev.latchAt_clock (w t : Nat) (d : Dev) : (d.latchAt w t).clock = d.clock := by unfold Dev.latchAt; dsimp only; split <;> rfl
@[simp] theorem Dev.latchAt_pwr (w t : Nat) (d : Dev) : (d.latchAt w t).pwr = d.pwr := by unfold Dev.latchAt; dsimp only; split <;> rfl
@[simp] theorem Dev.latchAt_host (w t : Nat) (d : Dev) : (d.latchAt w t).host = d.host := by unfold Dev.latchAt; dsimp only; split <;> rfl
@[simp] theorem Dev.latchAt_start (w t : Nat) (d : Dev) : (d.latchAt w t).start = d.start := by unfold Dev.latchAt; dsimp only; split <;> rfl
@[simp] theorem Dev.latchAt_cmds (w t : Nat) (d : Dev) : (d.latchAt w t).cmds = d.cmds := by unfold Dev.latchAt; dsimp only; split <;> rfl
@[simp] theorem Dev.latchAt_store (w t : Nat) (d : Dev) : (d.latchAt w t).store = d.store := by unfold Dev.latchAt; dsimp only; split <;> rfl
@[simp] theorem Dev.latchAt_waiting (w t : Nat) (d : Dev) : (d.latchAt w t).waiting = d.waiting := by unfold Dev.latchAt; dsimp only; split <;> rfl
@[simp] theorem Dev.latchAt_sets (w t : Nat) (d : Dev) : (d.latchAt w t).sets = d.sets := by unfold Dev.latchAt; dsimp only; split <;> rfl
@[simp] theorem Dev.latchAt_setLow (w t : Nat) (d : Dev) : (d.latchAt w t).setLow = d.setLow := by unfold Dev.latchAt; dsimp only; split <;> rfl
@[simp] theorem Dev.latchAt_jrnl (w t : Nat) (d : Dev) : (d.latchAt w t).jrnl = d.jrnl := by unfold Dev.latchAt; dsimp only; split <;> rfl
@[simp] theorem Dev.latchAt_tmr (w t : Nat) (d : Dev) : (d.latchAt w t).tmr = d.tmr := by unfold Dev.latchAt; dsimp only; split <;> rfl
@[simp] theorem Dev.latchAt_lf (w t : Nat) (d : Dev) : (d.latchAt w t).lf = d.lf := by unfold Dev.latchAt; dsimp only; split <;> rfl
@[simp] theorem Dev.latchAt_uhf (w t : Nat) (d : Dev) : (d.latchAt w t).uhf = d.uhf := by unfold Dev.latchAt; dsimp only; split <;> rfl
@[simp] theorem Dev.latchAt_uwb (w t : Nat) (d : Dev) : (d.latchAt w t).uwb = d.uwb := by unfold Dev.latchAt; dsimp only; split <;> rfl
@[simp] theorem Dev.latchAt_atlas (w t : Nat) (d : Dev) : (d.latchAt w t).atlas = d.atlas := by unfold Dev.latchAt; dsimp only; split <;> rfl
@[simp] theorem Dev.latchAt_rel (w t : Nat) (d : Dev) : (d.latchAt w t).rel = d.rel := by unfold Dev.latchAt; dsimp only; split <;> rfl
@[simp] theorem Dev.latchAt_cru (w t : Nat) (d : Dev) : (d.latchAt w t).cru = d.cru := by unfold Dev.latchAt; dsimp only; split <;> rfl
@[simp] theorem Dev.latchAt_anvil (w t : Nat) (d : Dev) : (d.latchAt w t).anvil = d.anvil := by unfold Dev.latchAt; dsimp only; split <;> rfl
@[simp] theorem Dev.latchAt_tok (w t : Nat) (d : Dev) : (d.latchAt w t).tok = d.tok := by unfold Dev.latchAt; dsimp only; split <;> rfl
@[simp] theorem Dev.latchAt_ham (w t : Nat) (d : Dev) : (d.latchAt w t).ham = d.ham := by unfold Dev.latchAt; dsimp only; split <;> rfl
@[simp] theorem Dev.latchAt_kw (w t : Nat) (d : Dev) : (d.latchAt w t).kw = d.kw := by unfold Dev.latchAt; dsimp only; split <;> rfl
@[simp] theorem Dev.latchAt_nv (w t : Nat) (d : Dev) : (d.latchAt w t).nv = d.nv := by unfold Dev.latchAt; dsimp only; split <;> rfl
@[simp] theorem Dev.latchAt_med (w t : Nat) (d : Dev) : (d.latchAt w t).med = d.med := by unfold Dev.latchAt; dsimp only; split <;> rfl
@[simp] theorem Dev.latchAt_bg (w t : Nat) (d : Dev) : (d.latchAt w t).bg = d.bg := by unfold Dev.latchAt; dsimp only; split <;> rfl
@[simp] theorem Dev.latchAt_free (w t : Nat) (d : Dev) : (d.latchAt w t).free = d.free := by unfold Dev.latchAt; dsimp only; split <;> rfl

/-! ### Dev.latch writes evc -/

@[simp] theorem Dev.latch_ident (w : Nat) (d : Dev) : (d.latch w).ident = d.ident := Dev.latchAt_ident w d.now d
@[simp] theorem Dev.latch_clock (w : Nat) (d : Dev) : (d.latch w).clock = d.clock := Dev.latchAt_clock w d.now d
@[simp] theorem Dev.latch_pwr (w : Nat) (d : Dev) : (d.latch w).pwr = d.pwr := Dev.latchAt_pwr w d.now d
@[simp] theorem Dev.latch_host (w : Nat) (d : Dev) : (d.latch w).host = d.host := Dev.latchAt_host w d.now d
@[simp] theorem Dev.latch_start (w : Nat) (d : Dev) : (d.latch w).start = d.start := Dev.latchAt_start w d.now d
@[simp] theorem Dev.latch_cmds (w : Nat) (d : Dev) : (d.latch w).cmds = d.cmds := Dev.latchAt_cmds w d.now d
@[simp] theorem Dev.latch_store (w : Nat) (d : Dev) : (d.latch w).store = d.store := Dev.latchAt_store w d.now d
@[simp] theorem Dev.latch_waiting (w : Nat) (d : Dev) : (d.latch w).waiting = d.waiting := Dev.latchAt_waiting w d.now d
@[simp] theorem Dev.latch_sets (w : Nat) (d : Dev) : (d.latch w).sets = d.sets := Dev.latchAt_sets w d.now d
@[simp] theorem Dev.latch_setLow (w : Nat) (d : Dev) : (d.latch w).setLow = d.setLow := Dev.latchAt_setLow w d.now d
@[simp] theorem Dev.latch_jrnl (w : Nat) (d : Dev) : (d.latch w).jrnl = d.jrnl := Dev.latchAt_jrnl w d.now d
@[simp] theorem Dev.latch_tmr (w : Nat) (d : Dev) : (d.latch w).tmr = d.tmr := Dev.latchAt_tmr w d.now d
@[simp] theorem Dev.latch_lf (w : Nat) (d : Dev) : (d.latch w).lf = d.lf := Dev.latchAt_lf w d.now d
@[simp] theorem Dev.latch_uhf (w : Nat) (d : Dev) : (d.latch w).uhf = d.uhf := Dev.latchAt_uhf w d.now d
@[simp] theorem Dev.latch_uwb (w : Nat) (d : Dev) : (d.latch w).uwb = d.uwb := Dev.latchAt_uwb w d.now d
@[simp] theorem Dev.latch_atlas (w : Nat) (d : Dev) : (d.latch w).atlas = d.atlas := Dev.latchAt_atlas w d.now d
@[simp] theorem Dev.latch_rel (w : Nat) (d : Dev) : (d.latch w).rel = d.rel := Dev.latchAt_rel w d.now d
@[simp] theorem Dev.latch_cru (w : Nat) (d : Dev) : (d.latch w).cru = d.cru := Dev.latchAt_cru w d.now d
@[simp] theorem Dev.latch_anvil (w : Nat) (d : Dev) : (d.latch w).anvil = d.anvil := Dev.latchAt_anvil w d.now d
@[simp] theorem Dev.latch_tok (w : Nat) (d : Dev) : (d.latch w).tok = d.tok := Dev.latchAt_tok w d.now d
@[simp] theorem Dev.latch_ham (w : Nat) (d : Dev) : (d.latch w).ham = d.ham := Dev.latchAt_ham w d.now d
@[simp] theorem Dev.latch_kw (w : Nat) (d : Dev) : (d.latch w).kw = d.kw := Dev.latchAt_kw w d.now d
@[simp] theorem Dev.latch_nv (w : Nat) (d : Dev) : (d.latch w).nv = d.nv := Dev.latchAt_nv w d.now d
@[simp] theorem Dev.latch_med (w : Nat) (d : Dev) : (d.latch w).med = d.med := Dev.latchAt_med w d.now d
@[simp] theorem Dev.latch_bg (w : Nat) (d : Dev) : (d.latch w).bg = d.bg := Dev.latchAt_bg w d.now d
@[simp] theorem Dev.latch_free (w : Nat) (d : Dev) : (d.latch w).free = d.free := Dev.latchAt_free w d.now d

/-! ### Dev.reach writes evc -/

@[simp] theorem Dev.reach_ident (n : Nat) (d : Dev) : (d.reach n).ident = d.ident := by unfold Dev.reach; repeat (first | split | simp)
@[simp] theorem Dev.reach_clock (n : Nat) (d : Dev) : (d.reach n).clock = d.clock := by unfold Dev.reach; repeat (first | split | simp)
@[simp] theorem Dev.reach_pwr (n : Nat) (d : Dev) : (d.reach n).pwr = d.pwr := by unfold Dev.reach; repeat (first | split | simp)
@[simp] theorem Dev.reach_host (n : Nat) (d : Dev) : (d.reach n).host = d.host := by unfold Dev.reach; repeat (first | split | simp)
@[simp] theorem Dev.reach_start (n : Nat) (d : Dev) : (d.reach n).start = d.start := by unfold Dev.reach; repeat (first | split | simp)
@[simp] theorem Dev.reach_cmds (n : Nat) (d : Dev) : (d.reach n).cmds = d.cmds := by unfold Dev.reach; repeat (first | split | simp)
@[simp] theorem Dev.reach_store (n : Nat) (d : Dev) : (d.reach n).store = d.store := by unfold Dev.reach; repeat (first | split | simp)
@[simp] theorem Dev.reach_waiting (n : Nat) (d : Dev) : (d.reach n).waiting = d.waiting := by unfold Dev.reach; repeat (first | split | simp)
@[simp] theorem Dev.reach_sets (n : Nat) (d : Dev) : (d.reach n).sets = d.sets := by unfold Dev.reach; repeat (first | split | simp)
@[simp] theorem Dev.reach_setLow (n : Nat) (d : Dev) : (d.reach n).setLow = d.setLow := by unfold Dev.reach; repeat (first | split | simp)
@[simp] theorem Dev.reach_jrnl (n : Nat) (d : Dev) : (d.reach n).jrnl = d.jrnl := by unfold Dev.reach; repeat (first | split | simp)
@[simp] theorem Dev.reach_tmr (n : Nat) (d : Dev) : (d.reach n).tmr = d.tmr := by unfold Dev.reach; repeat (first | split | simp)
@[simp] theorem Dev.reach_lf (n : Nat) (d : Dev) : (d.reach n).lf = d.lf := by unfold Dev.reach; repeat (first | split | simp)
@[simp] theorem Dev.reach_uhf (n : Nat) (d : Dev) : (d.reach n).uhf = d.uhf := by unfold Dev.reach; repeat (first | split | simp)
@[simp] theorem Dev.reach_uwb (n : Nat) (d : Dev) : (d.reach n).uwb = d.uwb := by unfold Dev.reach; repeat (first | split | simp)
@[simp] theorem Dev.reach_atlas (n : Nat) (d : Dev) : (d.reach n).atlas = d.atlas := by unfold Dev.reach; repeat (first | split | simp)
@[simp] theorem Dev.reach_rel (n : Nat) (d : Dev) : (d.reach n).rel = d.rel := by unfold Dev.reach; repeat (first | split | simp)
@[simp] theorem Dev.reach_cru (n : Nat) (d : Dev) : (d.reach n).cru = d.cru := by unfold Dev.reach; repeat (first | split | simp)
@[simp] theorem Dev.reach_anvil (n : Nat) (d : Dev) : (d.reach n).anvil = d.anvil := by unfold Dev.reach; repeat (first | split | simp)
@[simp] theorem Dev.reach_tok (n : Nat) (d : Dev) : (d.reach n).tok = d.tok := by unfold Dev.reach; repeat (first | split | simp)
@[simp] theorem Dev.reach_ham (n : Nat) (d : Dev) : (d.reach n).ham = d.ham := by unfold Dev.reach; repeat (first | split | simp)
@[simp] theorem Dev.reach_kw (n : Nat) (d : Dev) : (d.reach n).kw = d.kw := by unfold Dev.reach; repeat (first | split | simp)
@[simp] theorem Dev.reach_nv (n : Nat) (d : Dev) : (d.reach n).nv = d.nv := by unfold Dev.reach; repeat (first | split | simp)
@[simp] theorem Dev.reach_med (n : Nat) (d : Dev) : (d.reach n).med = d.med := by unfold Dev.reach; repeat (first | split | simp)
@[simp] theorem Dev.reach_bg (n : Nat) (d : Dev) : (d.reach n).bg = d.bg := by unfold Dev.reach; repeat (first | split | simp)
@[simp] theorem Dev.reach_free (n : Nat) (d : Dev) : (d.reach n).free = d.free := by unfold Dev.reach; repeat (first | split | simp)

/-! ### Dev.event writes clock and evc -/

@[simp] theorem Dev.event_ident (n : Nat) (d : Dev) : (Dev.event n d).ident = d.ident := by unfold Dev.event; simp
@[simp] theorem Dev.event_pwr (n : Nat) (d : Dev) : (Dev.event n d).pwr = d.pwr := by unfold Dev.event; simp
@[simp] theorem Dev.event_host (n : Nat) (d : Dev) : (Dev.event n d).host = d.host := by unfold Dev.event; simp
@[simp] theorem Dev.event_start (n : Nat) (d : Dev) : (Dev.event n d).start = d.start := by unfold Dev.event; simp
@[simp] theorem Dev.event_cmds (n : Nat) (d : Dev) : (Dev.event n d).cmds = d.cmds := by unfold Dev.event; simp
@[simp] theorem Dev.event_store (n : Nat) (d : Dev) : (Dev.event n d).store = d.store := by unfold Dev.event; simp
@[simp] theorem Dev.event_waiting (n : Nat) (d : Dev) : (Dev.event n d).waiting = d.waiting := by unfold Dev.event; simp
@[simp] theorem Dev.event_sets (n : Nat) (d : Dev) : (Dev.event n d).sets = d.sets := by unfold Dev.event; simp
@[simp] theorem Dev.event_setLow (n : Nat) (d : Dev) : (Dev.event n d).setLow = d.setLow := by unfold Dev.event; simp
@[simp] theorem Dev.event_jrnl (n : Nat) (d : Dev) : (Dev.event n d).jrnl = d.jrnl := by unfold Dev.event; simp
@[simp] theorem Dev.event_tmr (n : Nat) (d : Dev) : (Dev.event n d).tmr = d.tmr := by unfold Dev.event; simp
@[simp] theorem Dev.event_lf (n : Nat) (d : Dev) : (Dev.event n d).lf = d.lf := by unfold Dev.event; simp
@[simp] theorem Dev.event_uhf (n : Nat) (d : Dev) : (Dev.event n d).uhf = d.uhf := by unfold Dev.event; simp
@[simp] theorem Dev.event_uwb (n : Nat) (d : Dev) : (Dev.event n d).uwb = d.uwb := by unfold Dev.event; simp
@[simp] theorem Dev.event_atlas (n : Nat) (d : Dev) : (Dev.event n d).atlas = d.atlas := by unfold Dev.event; simp
@[simp] theorem Dev.event_rel (n : Nat) (d : Dev) : (Dev.event n d).rel = d.rel := by unfold Dev.event; simp
@[simp] theorem Dev.event_cru (n : Nat) (d : Dev) : (Dev.event n d).cru = d.cru := by unfold Dev.event; simp
@[simp] theorem Dev.event_anvil (n : Nat) (d : Dev) : (Dev.event n d).anvil = d.anvil := by unfold Dev.event; simp
@[simp] theorem Dev.event_tok (n : Nat) (d : Dev) : (Dev.event n d).tok = d.tok := by unfold Dev.event; simp
@[simp] theorem Dev.event_ham (n : Nat) (d : Dev) : (Dev.event n d).ham = d.ham := by unfold Dev.event; simp
@[simp] theorem Dev.event_kw (n : Nat) (d : Dev) : (Dev.event n d).kw = d.kw := by unfold Dev.event; simp
@[simp] theorem Dev.event_nv (n : Nat) (d : Dev) : (Dev.event n d).nv = d.nv := by unfold Dev.event; simp
@[simp] theorem Dev.event_med (n : Nat) (d : Dev) : (Dev.event n d).med = d.med := by unfold Dev.event; simp
@[simp] theorem Dev.event_bg (n : Nat) (d : Dev) : (Dev.event n d).bg = d.bg := by unfold Dev.event; simp
@[simp] theorem Dev.event_free (n : Nat) (d : Dev) : (Dev.event n d).free = d.free := by unfold Dev.event; simp

/-! ### Dev.raise writes clock and evc -/

@[simp] theorem Dev.raise_ident (n : Nat) (d : Dev) : (d.raise n).ident = d.ident := by unfold Dev.raise Dev.aside; dsimp only; split <;> simp
@[simp] theorem Dev.raise_pwr (n : Nat) (d : Dev) : (d.raise n).pwr = d.pwr := by unfold Dev.raise Dev.aside; dsimp only; split <;> simp
@[simp] theorem Dev.raise_host (n : Nat) (d : Dev) : (d.raise n).host = d.host := by unfold Dev.raise Dev.aside; dsimp only; split <;> simp
@[simp] theorem Dev.raise_start (n : Nat) (d : Dev) : (d.raise n).start = d.start := by unfold Dev.raise Dev.aside; dsimp only; split <;> simp
@[simp] theorem Dev.raise_cmds (n : Nat) (d : Dev) : (d.raise n).cmds = d.cmds := by unfold Dev.raise Dev.aside; dsimp only; split <;> simp
@[simp] theorem Dev.raise_store (n : Nat) (d : Dev) : (d.raise n).store = d.store := by unfold Dev.raise Dev.aside; dsimp only; split <;> simp
@[simp] theorem Dev.raise_waiting (n : Nat) (d : Dev) : (d.raise n).waiting = d.waiting := by unfold Dev.raise Dev.aside; dsimp only; split <;> simp
@[simp] theorem Dev.raise_sets (n : Nat) (d : Dev) : (d.raise n).sets = d.sets := by unfold Dev.raise Dev.aside; dsimp only; split <;> simp
@[simp] theorem Dev.raise_setLow (n : Nat) (d : Dev) : (d.raise n).setLow = d.setLow := by unfold Dev.raise Dev.aside; dsimp only; split <;> simp
@[simp] theorem Dev.raise_jrnl (n : Nat) (d : Dev) : (d.raise n).jrnl = d.jrnl := by unfold Dev.raise Dev.aside; dsimp only; split <;> simp
@[simp] theorem Dev.raise_tmr (n : Nat) (d : Dev) : (d.raise n).tmr = d.tmr := by unfold Dev.raise Dev.aside; dsimp only; split <;> simp
@[simp] theorem Dev.raise_lf (n : Nat) (d : Dev) : (d.raise n).lf = d.lf := by unfold Dev.raise Dev.aside; dsimp only; split <;> simp
@[simp] theorem Dev.raise_uhf (n : Nat) (d : Dev) : (d.raise n).uhf = d.uhf := by unfold Dev.raise Dev.aside; dsimp only; split <;> simp
@[simp] theorem Dev.raise_uwb (n : Nat) (d : Dev) : (d.raise n).uwb = d.uwb := by unfold Dev.raise Dev.aside; dsimp only; split <;> simp
@[simp] theorem Dev.raise_atlas (n : Nat) (d : Dev) : (d.raise n).atlas = d.atlas := by unfold Dev.raise Dev.aside; dsimp only; split <;> simp
@[simp] theorem Dev.raise_rel (n : Nat) (d : Dev) : (d.raise n).rel = d.rel := by unfold Dev.raise Dev.aside; dsimp only; split <;> simp
@[simp] theorem Dev.raise_cru (n : Nat) (d : Dev) : (d.raise n).cru = d.cru := by unfold Dev.raise Dev.aside; dsimp only; split <;> simp
@[simp] theorem Dev.raise_anvil (n : Nat) (d : Dev) : (d.raise n).anvil = d.anvil := by unfold Dev.raise Dev.aside; dsimp only; split <;> simp
@[simp] theorem Dev.raise_tok (n : Nat) (d : Dev) : (d.raise n).tok = d.tok := by unfold Dev.raise Dev.aside; dsimp only; split <;> simp
@[simp] theorem Dev.raise_ham (n : Nat) (d : Dev) : (d.raise n).ham = d.ham := by unfold Dev.raise Dev.aside; dsimp only; split <;> simp
@[simp] theorem Dev.raise_kw (n : Nat) (d : Dev) : (d.raise n).kw = d.kw := by unfold Dev.raise Dev.aside; dsimp only; split <;> simp
@[simp] theorem Dev.raise_nv (n : Nat) (d : Dev) : (d.raise n).nv = d.nv := by unfold Dev.raise Dev.aside; dsimp only; split <;> simp
@[simp] theorem Dev.raise_med (n : Nat) (d : Dev) : (d.raise n).med = d.med := by unfold Dev.raise Dev.aside; dsimp only; split <;> simp
@[simp] theorem Dev.raise_bg (n : Nat) (d : Dev) : (d.raise n).bg = d.bg := by unfold Dev.raise Dev.aside; dsimp only; split <;> simp
@[simp] theorem Dev.raise_free (n : Nat) (d : Dev) : (d.raise n).free = d.free := by unfold Dev.raise Dev.aside; dsimp only; split <;> simp

/-! ### Dev.begins writes clock and evc -/

@[simp] theorem Dev.begins_ident (n : Nat) (d : Dev) : (Dev.begins n d).ident = d.ident := by unfold Dev.begins; split <;> simp
@[simp] theorem Dev.begins_pwr (n : Nat) (d : Dev) : (Dev.begins n d).pwr = d.pwr := by unfold Dev.begins; split <;> simp
@[simp] theorem Dev.begins_host (n : Nat) (d : Dev) : (Dev.begins n d).host = d.host := by unfold Dev.begins; split <;> simp
@[simp] theorem Dev.begins_start (n : Nat) (d : Dev) : (Dev.begins n d).start = d.start := by unfold Dev.begins; split <;> simp
@[simp] theorem Dev.begins_cmds (n : Nat) (d : Dev) : (Dev.begins n d).cmds = d.cmds := by unfold Dev.begins; split <;> simp
@[simp] theorem Dev.begins_store (n : Nat) (d : Dev) : (Dev.begins n d).store = d.store := by unfold Dev.begins; split <;> simp
@[simp] theorem Dev.begins_waiting (n : Nat) (d : Dev) : (Dev.begins n d).waiting = d.waiting := by unfold Dev.begins; split <;> simp
@[simp] theorem Dev.begins_sets (n : Nat) (d : Dev) : (Dev.begins n d).sets = d.sets := by unfold Dev.begins; split <;> simp
@[simp] theorem Dev.begins_setLow (n : Nat) (d : Dev) : (Dev.begins n d).setLow = d.setLow := by unfold Dev.begins; split <;> simp
@[simp] theorem Dev.begins_jrnl (n : Nat) (d : Dev) : (Dev.begins n d).jrnl = d.jrnl := by unfold Dev.begins; split <;> simp
@[simp] theorem Dev.begins_tmr (n : Nat) (d : Dev) : (Dev.begins n d).tmr = d.tmr := by unfold Dev.begins; split <;> simp
@[simp] theorem Dev.begins_lf (n : Nat) (d : Dev) : (Dev.begins n d).lf = d.lf := by unfold Dev.begins; split <;> simp
@[simp] theorem Dev.begins_uhf (n : Nat) (d : Dev) : (Dev.begins n d).uhf = d.uhf := by unfold Dev.begins; split <;> simp
@[simp] theorem Dev.begins_uwb (n : Nat) (d : Dev) : (Dev.begins n d).uwb = d.uwb := by unfold Dev.begins; split <;> simp
@[simp] theorem Dev.begins_atlas (n : Nat) (d : Dev) : (Dev.begins n d).atlas = d.atlas := by unfold Dev.begins; split <;> simp
@[simp] theorem Dev.begins_rel (n : Nat) (d : Dev) : (Dev.begins n d).rel = d.rel := by unfold Dev.begins; split <;> simp
@[simp] theorem Dev.begins_cru (n : Nat) (d : Dev) : (Dev.begins n d).cru = d.cru := by unfold Dev.begins; split <;> simp
@[simp] theorem Dev.begins_anvil (n : Nat) (d : Dev) : (Dev.begins n d).anvil = d.anvil := by unfold Dev.begins; split <;> simp
@[simp] theorem Dev.begins_tok (n : Nat) (d : Dev) : (Dev.begins n d).tok = d.tok := by unfold Dev.begins; split <;> simp
@[simp] theorem Dev.begins_ham (n : Nat) (d : Dev) : (Dev.begins n d).ham = d.ham := by unfold Dev.begins; split <;> simp
@[simp] theorem Dev.begins_kw (n : Nat) (d : Dev) : (Dev.begins n d).kw = d.kw := by unfold Dev.begins; split <;> simp
@[simp] theorem Dev.begins_nv (n : Nat) (d : Dev) : (Dev.begins n d).nv = d.nv := by unfold Dev.begins; split <;> simp
@[simp] theorem Dev.begins_med (n : Nat) (d : Dev) : (Dev.begins n d).med = d.med := by unfold Dev.begins; split <;> simp
@[simp] theorem Dev.begins_bg (n : Nat) (d : Dev) : (Dev.begins n d).bg = d.bg := by unfold Dev.begins; split <;> simp
@[simp] theorem Dev.begins_free (n : Nat) (d : Dev) : (Dev.begins n d).free = d.free := by unfold Dev.begins; split <;> simp

/-! ### Dev.arises writes clock and evc -/

@[simp] theorem Dev.arises_ident (n : Nat) (d : Dev) : (Dev.arises n d).ident = d.ident := by unfold Dev.arises; split <;> simp
@[simp] theorem Dev.arises_pwr (n : Nat) (d : Dev) : (Dev.arises n d).pwr = d.pwr := by unfold Dev.arises; split <;> simp
@[simp] theorem Dev.arises_host (n : Nat) (d : Dev) : (Dev.arises n d).host = d.host := by unfold Dev.arises; split <;> simp
@[simp] theorem Dev.arises_start (n : Nat) (d : Dev) : (Dev.arises n d).start = d.start := by unfold Dev.arises; split <;> simp
@[simp] theorem Dev.arises_cmds (n : Nat) (d : Dev) : (Dev.arises n d).cmds = d.cmds := by unfold Dev.arises; split <;> simp
@[simp] theorem Dev.arises_store (n : Nat) (d : Dev) : (Dev.arises n d).store = d.store := by unfold Dev.arises; split <;> simp
@[simp] theorem Dev.arises_waiting (n : Nat) (d : Dev) : (Dev.arises n d).waiting = d.waiting := by unfold Dev.arises; split <;> simp
@[simp] theorem Dev.arises_sets (n : Nat) (d : Dev) : (Dev.arises n d).sets = d.sets := by unfold Dev.arises; split <;> simp
@[simp] theorem Dev.arises_setLow (n : Nat) (d : Dev) : (Dev.arises n d).setLow = d.setLow := by unfold Dev.arises; split <;> simp
@[simp] theorem Dev.arises_jrnl (n : Nat) (d : Dev) : (Dev.arises n d).jrnl = d.jrnl := by unfold Dev.arises; split <;> simp
@[simp] theorem Dev.arises_tmr (n : Nat) (d : Dev) : (Dev.arises n d).tmr = d.tmr := by unfold Dev.arises; split <;> simp
@[simp] theorem Dev.arises_lf (n : Nat) (d : Dev) : (Dev.arises n d).lf = d.lf := by unfold Dev.arises; split <;> simp
@[simp] theorem Dev.arises_uhf (n : Nat) (d : Dev) : (Dev.arises n d).uhf = d.uhf := by unfold Dev.arises; split <;> simp
@[simp] theorem Dev.arises_uwb (n : Nat) (d : Dev) : (Dev.arises n d).uwb = d.uwb := by unfold Dev.arises; split <;> simp
@[simp] theorem Dev.arises_atlas (n : Nat) (d : Dev) : (Dev.arises n d).atlas = d.atlas := by unfold Dev.arises; split <;> simp
@[simp] theorem Dev.arises_rel (n : Nat) (d : Dev) : (Dev.arises n d).rel = d.rel := by unfold Dev.arises; split <;> simp
@[simp] theorem Dev.arises_cru (n : Nat) (d : Dev) : (Dev.arises n d).cru = d.cru := by unfold Dev.arises; split <;> simp
@[simp] theorem Dev.arises_anvil (n : Nat) (d : Dev) : (Dev.arises n d).anvil = d.anvil := by unfold Dev.arises; split <;> simp
@[simp] theorem Dev.arises_tok (n : Nat) (d : Dev) : (Dev.arises n d).tok = d.tok := by unfold Dev.arises; split <;> simp
@[simp] theorem Dev.arises_ham (n : Nat) (d : Dev) : (Dev.arises n d).ham = d.ham := by unfold Dev.arises; split <;> simp
@[simp] theorem Dev.arises_kw (n : Nat) (d : Dev) : (Dev.arises n d).kw = d.kw := by unfold Dev.arises; split <;> simp
@[simp] theorem Dev.arises_nv (n : Nat) (d : Dev) : (Dev.arises n d).nv = d.nv := by unfold Dev.arises; split <;> simp
@[simp] theorem Dev.arises_med (n : Nat) (d : Dev) : (Dev.arises n d).med = d.med := by unfold Dev.arises; split <;> simp
@[simp] theorem Dev.arises_bg (n : Nat) (d : Dev) : (Dev.arises n d).bg = d.bg := by unfold Dev.arises; split <;> simp
@[simp] theorem Dev.arises_free (n : Nat) (d : Dev) : (Dev.arises n d).free = d.free := by unfold Dev.arises; split <;> simp

/-! ### Dev.ends writes evc -/

@[simp] theorem Dev.ends_ident (n : Nat) (d : Dev) : (d.ends n).ident = d.ident := rfl
@[simp] theorem Dev.ends_clock (n : Nat) (d : Dev) : (d.ends n).clock = d.clock := rfl
@[simp] theorem Dev.ends_pwr (n : Nat) (d : Dev) : (d.ends n).pwr = d.pwr := rfl
@[simp] theorem Dev.ends_host (n : Nat) (d : Dev) : (d.ends n).host = d.host := rfl
@[simp] theorem Dev.ends_start (n : Nat) (d : Dev) : (d.ends n).start = d.start := rfl
@[simp] theorem Dev.ends_cmds (n : Nat) (d : Dev) : (d.ends n).cmds = d.cmds := rfl
@[simp] theorem Dev.ends_store (n : Nat) (d : Dev) : (d.ends n).store = d.store := rfl
@[simp] theorem Dev.ends_waiting (n : Nat) (d : Dev) : (d.ends n).waiting = d.waiting := rfl
@[simp] theorem Dev.ends_sets (n : Nat) (d : Dev) : (d.ends n).sets = d.sets := rfl
@[simp] theorem Dev.ends_setLow (n : Nat) (d : Dev) : (d.ends n).setLow = d.setLow := rfl
@[simp] theorem Dev.ends_jrnl (n : Nat) (d : Dev) : (d.ends n).jrnl = d.jrnl := rfl
@[simp] theorem Dev.ends_tmr (n : Nat) (d : Dev) : (d.ends n).tmr = d.tmr := rfl
@[simp] theorem Dev.ends_lf (n : Nat) (d : Dev) : (d.ends n).lf = d.lf := rfl
@[simp] theorem Dev.ends_uhf (n : Nat) (d : Dev) : (d.ends n).uhf = d.uhf := rfl
@[simp] theorem Dev.ends_uwb (n : Nat) (d : Dev) : (d.ends n).uwb = d.uwb := rfl
@[simp] theorem Dev.ends_atlas (n : Nat) (d : Dev) : (d.ends n).atlas = d.atlas := rfl
@[simp] theorem Dev.ends_rel (n : Nat) (d : Dev) : (d.ends n).rel = d.rel := rfl
@[simp] theorem Dev.ends_cru (n : Nat) (d : Dev) : (d.ends n).cru = d.cru := rfl
@[simp] theorem Dev.ends_anvil (n : Nat) (d : Dev) : (d.ends n).anvil = d.anvil := rfl
@[simp] theorem Dev.ends_tok (n : Nat) (d : Dev) : (d.ends n).tok = d.tok := rfl
@[simp] theorem Dev.ends_ham (n : Nat) (d : Dev) : (d.ends n).ham = d.ham := rfl
@[simp] theorem Dev.ends_kw (n : Nat) (d : Dev) : (d.ends n).kw = d.kw := rfl
@[simp] theorem Dev.ends_nv (n : Nat) (d : Dev) : (d.ends n).nv = d.nv := rfl
@[simp] theorem Dev.ends_med (n : Nat) (d : Dev) : (d.ends n).med = d.med := rfl
@[simp] theorem Dev.ends_bg (n : Nat) (d : Dev) : (d.ends n).bg = d.bg := rfl
@[simp] theorem Dev.ends_free (n : Nat) (d : Dev) : (d.ends n).free = d.free := rfl

/-! ### Dev.condition writes clock and evc -/

@[simp] theorem Dev.condition_ident (n : Nat) (on : Bool) (d : Dev) : (d.condition n on).ident = d.ident := by unfold Dev.condition; split <;> simp
@[simp] theorem Dev.condition_pwr (n : Nat) (on : Bool) (d : Dev) : (d.condition n on).pwr = d.pwr := by unfold Dev.condition; split <;> simp
@[simp] theorem Dev.condition_host (n : Nat) (on : Bool) (d : Dev) : (d.condition n on).host = d.host := by unfold Dev.condition; split <;> simp
@[simp] theorem Dev.condition_start (n : Nat) (on : Bool) (d : Dev) : (d.condition n on).start = d.start := by unfold Dev.condition; split <;> simp
@[simp] theorem Dev.condition_cmds (n : Nat) (on : Bool) (d : Dev) : (d.condition n on).cmds = d.cmds := by unfold Dev.condition; split <;> simp
@[simp] theorem Dev.condition_store (n : Nat) (on : Bool) (d : Dev) : (d.condition n on).store = d.store := by unfold Dev.condition; split <;> simp
@[simp] theorem Dev.condition_waiting (n : Nat) (on : Bool) (d : Dev) : (d.condition n on).waiting = d.waiting := by
  unfold Dev.condition; split <;> simp
@[simp] theorem Dev.condition_sets (n : Nat) (on : Bool) (d : Dev) : (d.condition n on).sets = d.sets := by unfold Dev.condition; split <;> simp
@[simp] theorem Dev.condition_setLow (n : Nat) (on : Bool) (d : Dev) : (d.condition n on).setLow = d.setLow := by unfold Dev.condition; split <;> simp
@[simp] theorem Dev.condition_jrnl (n : Nat) (on : Bool) (d : Dev) : (d.condition n on).jrnl = d.jrnl := by unfold Dev.condition; split <;> simp
@[simp] theorem Dev.condition_tmr (n : Nat) (on : Bool) (d : Dev) : (d.condition n on).tmr = d.tmr := by unfold Dev.condition; split <;> simp
@[simp] theorem Dev.condition_lf (n : Nat) (on : Bool) (d : Dev) : (d.condition n on).lf = d.lf := by unfold Dev.condition; split <;> simp
@[simp] theorem Dev.condition_uhf (n : Nat) (on : Bool) (d : Dev) : (d.condition n on).uhf = d.uhf := by unfold Dev.condition; split <;> simp
@[simp] theorem Dev.condition_uwb (n : Nat) (on : Bool) (d : Dev) : (d.condition n on).uwb = d.uwb := by unfold Dev.condition; split <;> simp
@[simp] theorem Dev.condition_atlas (n : Nat) (on : Bool) (d : Dev) : (d.condition n on).atlas = d.atlas := by unfold Dev.condition; split <;> simp
@[simp] theorem Dev.condition_rel (n : Nat) (on : Bool) (d : Dev) : (d.condition n on).rel = d.rel := by unfold Dev.condition; split <;> simp
@[simp] theorem Dev.condition_cru (n : Nat) (on : Bool) (d : Dev) : (d.condition n on).cru = d.cru := by unfold Dev.condition; split <;> simp
@[simp] theorem Dev.condition_anvil (n : Nat) (on : Bool) (d : Dev) : (d.condition n on).anvil = d.anvil := by unfold Dev.condition; split <;> simp
@[simp] theorem Dev.condition_tok (n : Nat) (on : Bool) (d : Dev) : (d.condition n on).tok = d.tok := by unfold Dev.condition; split <;> simp
@[simp] theorem Dev.condition_ham (n : Nat) (on : Bool) (d : Dev) : (d.condition n on).ham = d.ham := by unfold Dev.condition; split <;> simp
@[simp] theorem Dev.condition_kw (n : Nat) (on : Bool) (d : Dev) : (d.condition n on).kw = d.kw := by unfold Dev.condition; split <;> simp
@[simp] theorem Dev.condition_nv (n : Nat) (on : Bool) (d : Dev) : (d.condition n on).nv = d.nv := by unfold Dev.condition; split <;> simp
@[simp] theorem Dev.condition_med (n : Nat) (on : Bool) (d : Dev) : (d.condition n on).med = d.med := by unfold Dev.condition; split <;> simp
@[simp] theorem Dev.condition_bg (n : Nat) (on : Bool) (d : Dev) : (d.condition n on).bg = d.bg := by unfold Dev.condition; split <;> simp
@[simp] theorem Dev.condition_free (n : Nat) (on : Bool) (d : Dev) : (d.condition n on).free = d.free := by unfold Dev.condition; split <;> simp

/-! ### Dev.setDom writes pwr -/

@[simp] theorem Dev.setDom_ident (n : Nat) (x : Domain) (d : Dev) : (d.setDom n x).ident = d.ident := rfl
@[simp] theorem Dev.setDom_clock (n : Nat) (x : Domain) (d : Dev) : (d.setDom n x).clock = d.clock := rfl
@[simp] theorem Dev.setDom_host (n : Nat) (x : Domain) (d : Dev) : (d.setDom n x).host = d.host := rfl
@[simp] theorem Dev.setDom_start (n : Nat) (x : Domain) (d : Dev) : (d.setDom n x).start = d.start := rfl
@[simp] theorem Dev.setDom_cmds (n : Nat) (x : Domain) (d : Dev) : (d.setDom n x).cmds = d.cmds := rfl
@[simp] theorem Dev.setDom_store (n : Nat) (x : Domain) (d : Dev) : (d.setDom n x).store = d.store := rfl
@[simp] theorem Dev.setDom_waiting (n : Nat) (x : Domain) (d : Dev) : (d.setDom n x).waiting = d.waiting := rfl
@[simp] theorem Dev.setDom_sets (n : Nat) (x : Domain) (d : Dev) : (d.setDom n x).sets = d.sets := rfl
@[simp] theorem Dev.setDom_setLow (n : Nat) (x : Domain) (d : Dev) : (d.setDom n x).setLow = d.setLow := rfl
@[simp] theorem Dev.setDom_jrnl (n : Nat) (x : Domain) (d : Dev) : (d.setDom n x).jrnl = d.jrnl := rfl
@[simp] theorem Dev.setDom_evc (n : Nat) (x : Domain) (d : Dev) : (d.setDom n x).evc = d.evc := rfl
@[simp] theorem Dev.setDom_tmr (n : Nat) (x : Domain) (d : Dev) : (d.setDom n x).tmr = d.tmr := rfl
@[simp] theorem Dev.setDom_lf (n : Nat) (x : Domain) (d : Dev) : (d.setDom n x).lf = d.lf := rfl
@[simp] theorem Dev.setDom_uhf (n : Nat) (x : Domain) (d : Dev) : (d.setDom n x).uhf = d.uhf := rfl
@[simp] theorem Dev.setDom_uwb (n : Nat) (x : Domain) (d : Dev) : (d.setDom n x).uwb = d.uwb := rfl
@[simp] theorem Dev.setDom_atlas (n : Nat) (x : Domain) (d : Dev) : (d.setDom n x).atlas = d.atlas := rfl
@[simp] theorem Dev.setDom_rel (n : Nat) (x : Domain) (d : Dev) : (d.setDom n x).rel = d.rel := rfl
@[simp] theorem Dev.setDom_cru (n : Nat) (x : Domain) (d : Dev) : (d.setDom n x).cru = d.cru := rfl
@[simp] theorem Dev.setDom_anvil (n : Nat) (x : Domain) (d : Dev) : (d.setDom n x).anvil = d.anvil := rfl
@[simp] theorem Dev.setDom_tok (n : Nat) (x : Domain) (d : Dev) : (d.setDom n x).tok = d.tok := rfl
@[simp] theorem Dev.setDom_ham (n : Nat) (x : Domain) (d : Dev) : (d.setDom n x).ham = d.ham := rfl
@[simp] theorem Dev.setDom_kw (n : Nat) (x : Domain) (d : Dev) : (d.setDom n x).kw = d.kw := rfl
@[simp] theorem Dev.setDom_nv (n : Nat) (x : Domain) (d : Dev) : (d.setDom n x).nv = d.nv := rfl
@[simp] theorem Dev.setDom_med (n : Nat) (x : Domain) (d : Dev) : (d.setDom n x).med = d.med := rfl
@[simp] theorem Dev.setDom_bg (n : Nat) (x : Domain) (d : Dev) : (d.setDom n x).bg = d.bg := rfl
@[simp] theorem Dev.setDom_free (n : Nat) (x : Domain) (d : Dev) : (d.setDom n x).free = d.free := rfl

/-! ### Dev.nvKick writes nv -/

@[simp] theorem Dev.nvKick_ident (d : Dev) : d.nvKick.ident = d.ident := rfl
@[simp] theorem Dev.nvKick_clock (d : Dev) : d.nvKick.clock = d.clock := rfl
@[simp] theorem Dev.nvKick_pwr (d : Dev) : d.nvKick.pwr = d.pwr := rfl
@[simp] theorem Dev.nvKick_host (d : Dev) : d.nvKick.host = d.host := rfl
@[simp] theorem Dev.nvKick_start (d : Dev) : d.nvKick.start = d.start := rfl
@[simp] theorem Dev.nvKick_cmds (d : Dev) : d.nvKick.cmds = d.cmds := rfl
@[simp] theorem Dev.nvKick_store (d : Dev) : d.nvKick.store = d.store := rfl
@[simp] theorem Dev.nvKick_waiting (d : Dev) : d.nvKick.waiting = d.waiting := rfl
@[simp] theorem Dev.nvKick_sets (d : Dev) : d.nvKick.sets = d.sets := rfl
@[simp] theorem Dev.nvKick_setLow (d : Dev) : d.nvKick.setLow = d.setLow := rfl
@[simp] theorem Dev.nvKick_jrnl (d : Dev) : d.nvKick.jrnl = d.jrnl := rfl
@[simp] theorem Dev.nvKick_evc (d : Dev) : d.nvKick.evc = d.evc := rfl
@[simp] theorem Dev.nvKick_tmr (d : Dev) : d.nvKick.tmr = d.tmr := rfl
@[simp] theorem Dev.nvKick_lf (d : Dev) : d.nvKick.lf = d.lf := rfl
@[simp] theorem Dev.nvKick_uhf (d : Dev) : d.nvKick.uhf = d.uhf := rfl
@[simp] theorem Dev.nvKick_uwb (d : Dev) : d.nvKick.uwb = d.uwb := rfl
@[simp] theorem Dev.nvKick_atlas (d : Dev) : d.nvKick.atlas = d.atlas := rfl
@[simp] theorem Dev.nvKick_rel (d : Dev) : d.nvKick.rel = d.rel := rfl
@[simp] theorem Dev.nvKick_cru (d : Dev) : d.nvKick.cru = d.cru := rfl
@[simp] theorem Dev.nvKick_anvil (d : Dev) : d.nvKick.anvil = d.anvil := rfl
@[simp] theorem Dev.nvKick_tok (d : Dev) : d.nvKick.tok = d.tok := rfl
@[simp] theorem Dev.nvKick_ham (d : Dev) : d.nvKick.ham = d.ham := rfl
@[simp] theorem Dev.nvKick_kw (d : Dev) : d.nvKick.kw = d.kw := rfl
@[simp] theorem Dev.nvKick_med (d : Dev) : d.nvKick.med = d.med := rfl
@[simp] theorem Dev.nvKick_bg (d : Dev) : d.nvKick.bg = d.bg := rfl
@[simp] theorem Dev.nvKick_free (d : Dev) : d.nvKick.free = d.free := rfl

/-! ### Dev.nvQueue writes nv -/

@[simp] theorem Dev.nvQueue_ident (ws : List PageWrite) (d : Dev) : (d.nvQueue ws).ident = d.ident := rfl
@[simp] theorem Dev.nvQueue_clock (ws : List PageWrite) (d : Dev) : (d.nvQueue ws).clock = d.clock := rfl
@[simp] theorem Dev.nvQueue_pwr (ws : List PageWrite) (d : Dev) : (d.nvQueue ws).pwr = d.pwr := rfl
@[simp] theorem Dev.nvQueue_host (ws : List PageWrite) (d : Dev) : (d.nvQueue ws).host = d.host := rfl
@[simp] theorem Dev.nvQueue_start (ws : List PageWrite) (d : Dev) : (d.nvQueue ws).start = d.start := rfl
@[simp] theorem Dev.nvQueue_cmds (ws : List PageWrite) (d : Dev) : (d.nvQueue ws).cmds = d.cmds := rfl
@[simp] theorem Dev.nvQueue_store (ws : List PageWrite) (d : Dev) : (d.nvQueue ws).store = d.store := rfl
@[simp] theorem Dev.nvQueue_waiting (ws : List PageWrite) (d : Dev) : (d.nvQueue ws).waiting = d.waiting := rfl
@[simp] theorem Dev.nvQueue_sets (ws : List PageWrite) (d : Dev) : (d.nvQueue ws).sets = d.sets := rfl
@[simp] theorem Dev.nvQueue_setLow (ws : List PageWrite) (d : Dev) : (d.nvQueue ws).setLow = d.setLow := rfl
@[simp] theorem Dev.nvQueue_jrnl (ws : List PageWrite) (d : Dev) : (d.nvQueue ws).jrnl = d.jrnl := rfl
@[simp] theorem Dev.nvQueue_evc (ws : List PageWrite) (d : Dev) : (d.nvQueue ws).evc = d.evc := rfl
@[simp] theorem Dev.nvQueue_tmr (ws : List PageWrite) (d : Dev) : (d.nvQueue ws).tmr = d.tmr := rfl
@[simp] theorem Dev.nvQueue_lf (ws : List PageWrite) (d : Dev) : (d.nvQueue ws).lf = d.lf := rfl
@[simp] theorem Dev.nvQueue_uhf (ws : List PageWrite) (d : Dev) : (d.nvQueue ws).uhf = d.uhf := rfl
@[simp] theorem Dev.nvQueue_uwb (ws : List PageWrite) (d : Dev) : (d.nvQueue ws).uwb = d.uwb := rfl
@[simp] theorem Dev.nvQueue_atlas (ws : List PageWrite) (d : Dev) : (d.nvQueue ws).atlas = d.atlas := rfl
@[simp] theorem Dev.nvQueue_rel (ws : List PageWrite) (d : Dev) : (d.nvQueue ws).rel = d.rel := rfl
@[simp] theorem Dev.nvQueue_cru (ws : List PageWrite) (d : Dev) : (d.nvQueue ws).cru = d.cru := rfl
@[simp] theorem Dev.nvQueue_anvil (ws : List PageWrite) (d : Dev) : (d.nvQueue ws).anvil = d.anvil := rfl
@[simp] theorem Dev.nvQueue_tok (ws : List PageWrite) (d : Dev) : (d.nvQueue ws).tok = d.tok := rfl
@[simp] theorem Dev.nvQueue_ham (ws : List PageWrite) (d : Dev) : (d.nvQueue ws).ham = d.ham := rfl
@[simp] theorem Dev.nvQueue_kw (ws : List PageWrite) (d : Dev) : (d.nvQueue ws).kw = d.kw := rfl
@[simp] theorem Dev.nvQueue_med (ws : List PageWrite) (d : Dev) : (d.nvQueue ws).med = d.med := rfl
@[simp] theorem Dev.nvQueue_bg (ws : List PageWrite) (d : Dev) : (d.nvQueue ws).bg = d.bg := rfl
@[simp] theorem Dev.nvQueue_free (ws : List PageWrite) (d : Dev) : (d.nvQueue ws).free = d.free := rfl

/-! ### Dev.recordWrite writes nv -/

@[simp] theorem Dev.recordWrite_ident (owner : Option Nat) (b a : List Nat) (old : OldRecord) (d : Dev) : (d.recordWrite owner b a old).ident = d.ident :=
  rfl
@[simp] theorem Dev.recordWrite_clock (owner : Option Nat) (b a : List Nat) (old : OldRecord) (d : Dev) : (d.recordWrite owner b a old).clock = d.clock :=
  rfl
@[simp] theorem Dev.recordWrite_pwr (owner : Option Nat) (b a : List Nat) (old : OldRecord) (d : Dev) : (d.recordWrite owner b a old).pwr = d.pwr :=
  rfl
@[simp] theorem Dev.recordWrite_host (owner : Option Nat) (b a : List Nat) (old : OldRecord) (d : Dev) : (d.recordWrite owner b a old).host = d.host :=
  rfl
@[simp] theorem Dev.recordWrite_start (owner : Option Nat) (b a : List Nat) (old : OldRecord) (d : Dev) : (d.recordWrite owner b a old).start = d.start :=
  rfl
@[simp] theorem Dev.recordWrite_cmds (owner : Option Nat) (b a : List Nat) (old : OldRecord) (d : Dev) : (d.recordWrite owner b a old).cmds = d.cmds :=
  rfl
@[simp] theorem Dev.recordWrite_store (owner : Option Nat) (b a : List Nat) (old : OldRecord) (d : Dev) : (d.recordWrite owner b a old).store = d.store :=
  rfl
@[simp] theorem Dev.recordWrite_waiting (owner : Option Nat) (b a : List Nat) (old : OldRecord) (d : Dev) : (d.recordWrite owner b a old).waiting = d.waiting :=
  rfl
@[simp] theorem Dev.recordWrite_sets (owner : Option Nat) (b a : List Nat) (old : OldRecord) (d : Dev) : (d.recordWrite owner b a old).sets = d.sets :=
  rfl
@[simp] theorem Dev.recordWrite_setLow (owner : Option Nat) (b a : List Nat) (old : OldRecord) (d : Dev) : (d.recordWrite owner b a old).setLow = d.setLow :=
  rfl
@[simp] theorem Dev.recordWrite_jrnl (owner : Option Nat) (b a : List Nat) (old : OldRecord) (d : Dev) : (d.recordWrite owner b a old).jrnl = d.jrnl :=
  rfl
@[simp] theorem Dev.recordWrite_evc (owner : Option Nat) (b a : List Nat) (old : OldRecord) (d : Dev) : (d.recordWrite owner b a old).evc = d.evc :=
  rfl
@[simp] theorem Dev.recordWrite_tmr (owner : Option Nat) (b a : List Nat) (old : OldRecord) (d : Dev) : (d.recordWrite owner b a old).tmr = d.tmr :=
  rfl
@[simp] theorem Dev.recordWrite_lf (owner : Option Nat) (b a : List Nat) (old : OldRecord) (d : Dev) : (d.recordWrite owner b a old).lf = d.lf := rfl
@[simp] theorem Dev.recordWrite_uhf (owner : Option Nat) (b a : List Nat) (old : OldRecord) (d : Dev) : (d.recordWrite owner b a old).uhf = d.uhf :=
  rfl
@[simp] theorem Dev.recordWrite_uwb (owner : Option Nat) (b a : List Nat) (old : OldRecord) (d : Dev) : (d.recordWrite owner b a old).uwb = d.uwb :=
  rfl
@[simp] theorem Dev.recordWrite_atlas (owner : Option Nat) (b a : List Nat) (old : OldRecord) (d : Dev) : (d.recordWrite owner b a old).atlas = d.atlas :=
  rfl
@[simp] theorem Dev.recordWrite_rel (owner : Option Nat) (b a : List Nat) (old : OldRecord) (d : Dev) : (d.recordWrite owner b a old).rel = d.rel :=
  rfl
@[simp] theorem Dev.recordWrite_cru (owner : Option Nat) (b a : List Nat) (old : OldRecord) (d : Dev) : (d.recordWrite owner b a old).cru = d.cru :=
  rfl
@[simp] theorem Dev.recordWrite_anvil (owner : Option Nat) (b a : List Nat) (old : OldRecord) (d : Dev) : (d.recordWrite owner b a old).anvil = d.anvil :=
  rfl
@[simp] theorem Dev.recordWrite_tok (owner : Option Nat) (b a : List Nat) (old : OldRecord) (d : Dev) : (d.recordWrite owner b a old).tok = d.tok :=
  rfl
@[simp] theorem Dev.recordWrite_ham (owner : Option Nat) (b a : List Nat) (old : OldRecord) (d : Dev) : (d.recordWrite owner b a old).ham = d.ham :=
  rfl
@[simp] theorem Dev.recordWrite_kw (owner : Option Nat) (b a : List Nat) (old : OldRecord) (d : Dev) : (d.recordWrite owner b a old).kw = d.kw := rfl
@[simp] theorem Dev.recordWrite_med (owner : Option Nat) (b a : List Nat) (old : OldRecord) (d : Dev) : (d.recordWrite owner b a old).med = d.med :=
  rfl
@[simp] theorem Dev.recordWrite_bg (owner : Option Nat) (b a : List Nat) (old : OldRecord) (d : Dev) : (d.recordWrite owner b a old).bg = d.bg := rfl
@[simp] theorem Dev.recordWrite_free (owner : Option Nat) (b a : List Nat) (old : OldRecord) (d : Dev) : (d.recordWrite owner b a old).free = d.free :=
  rfl

/-! ### Dev.headUnflushed writes jrnl and nv -/

@[simp] theorem Dev.headUnflushed_ident (d : Dev) : d.headUnflushed.ident = d.ident := by unfold Dev.headUnflushed; dsimp only; split <;> rfl
@[simp] theorem Dev.headUnflushed_clock (d : Dev) : d.headUnflushed.clock = d.clock := by unfold Dev.headUnflushed; dsimp only; split <;> rfl
@[simp] theorem Dev.headUnflushed_pwr (d : Dev) : d.headUnflushed.pwr = d.pwr := by unfold Dev.headUnflushed; dsimp only; split <;> rfl
@[simp] theorem Dev.headUnflushed_host (d : Dev) : d.headUnflushed.host = d.host := by unfold Dev.headUnflushed; dsimp only; split <;> rfl
@[simp] theorem Dev.headUnflushed_start (d : Dev) : d.headUnflushed.start = d.start := by unfold Dev.headUnflushed; dsimp only; split <;> rfl
@[simp] theorem Dev.headUnflushed_cmds (d : Dev) : d.headUnflushed.cmds = d.cmds := by unfold Dev.headUnflushed; dsimp only; split <;> rfl
@[simp] theorem Dev.headUnflushed_store (d : Dev) : d.headUnflushed.store = d.store := by unfold Dev.headUnflushed; dsimp only; split <;> rfl
@[simp] theorem Dev.headUnflushed_waiting (d : Dev) : d.headUnflushed.waiting = d.waiting := by unfold Dev.headUnflushed; dsimp only; split <;> rfl
@[simp] theorem Dev.headUnflushed_sets (d : Dev) : d.headUnflushed.sets = d.sets := by unfold Dev.headUnflushed; dsimp only; split <;> rfl
@[simp] theorem Dev.headUnflushed_setLow (d : Dev) : d.headUnflushed.setLow = d.setLow := by unfold Dev.headUnflushed; dsimp only; split <;> rfl
@[simp] theorem Dev.headUnflushed_evc (d : Dev) : d.headUnflushed.evc = d.evc := by unfold Dev.headUnflushed; dsimp only; split <;> rfl
@[simp] theorem Dev.headUnflushed_tmr (d : Dev) : d.headUnflushed.tmr = d.tmr := by unfold Dev.headUnflushed; dsimp only; split <;> rfl
@[simp] theorem Dev.headUnflushed_lf (d : Dev) : d.headUnflushed.lf = d.lf := by unfold Dev.headUnflushed; dsimp only; split <;> rfl
@[simp] theorem Dev.headUnflushed_uhf (d : Dev) : d.headUnflushed.uhf = d.uhf := by unfold Dev.headUnflushed; dsimp only; split <;> rfl
@[simp] theorem Dev.headUnflushed_uwb (d : Dev) : d.headUnflushed.uwb = d.uwb := by unfold Dev.headUnflushed; dsimp only; split <;> rfl
@[simp] theorem Dev.headUnflushed_atlas (d : Dev) : d.headUnflushed.atlas = d.atlas := by unfold Dev.headUnflushed; dsimp only; split <;> rfl
@[simp] theorem Dev.headUnflushed_rel (d : Dev) : d.headUnflushed.rel = d.rel := by unfold Dev.headUnflushed; dsimp only; split <;> rfl
@[simp] theorem Dev.headUnflushed_cru (d : Dev) : d.headUnflushed.cru = d.cru := by unfold Dev.headUnflushed; dsimp only; split <;> rfl
@[simp] theorem Dev.headUnflushed_anvil (d : Dev) : d.headUnflushed.anvil = d.anvil := by unfold Dev.headUnflushed; dsimp only; split <;> rfl
@[simp] theorem Dev.headUnflushed_tok (d : Dev) : d.headUnflushed.tok = d.tok := by unfold Dev.headUnflushed; dsimp only; split <;> rfl
@[simp] theorem Dev.headUnflushed_ham (d : Dev) : d.headUnflushed.ham = d.ham := by unfold Dev.headUnflushed; dsimp only; split <;> rfl
@[simp] theorem Dev.headUnflushed_kw (d : Dev) : d.headUnflushed.kw = d.kw := by unfold Dev.headUnflushed; dsimp only; split <;> rfl
@[simp] theorem Dev.headUnflushed_med (d : Dev) : d.headUnflushed.med = d.med := by unfold Dev.headUnflushed; dsimp only; split <;> rfl
@[simp] theorem Dev.headUnflushed_bg (d : Dev) : d.headUnflushed.bg = d.bg := by unfold Dev.headUnflushed; dsimp only; split <;> rfl
@[simp] theorem Dev.headUnflushed_free (d : Dev) : d.headUnflushed.free = d.free := by unfold Dev.headUnflushed; dsimp only; split <;> rfl

/-! ### Dev.append writes jrnl and nv -/

@[simp] theorem Dev.append_ident (r : Record) (d : Dev) : (d.append r).ident = d.ident := by unfold Dev.append; simp
@[simp] theorem Dev.append_clock (r : Record) (d : Dev) : (d.append r).clock = d.clock := by unfold Dev.append; simp
@[simp] theorem Dev.append_pwr (r : Record) (d : Dev) : (d.append r).pwr = d.pwr := by unfold Dev.append; simp
@[simp] theorem Dev.append_host (r : Record) (d : Dev) : (d.append r).host = d.host := by unfold Dev.append; simp
@[simp] theorem Dev.append_start (r : Record) (d : Dev) : (d.append r).start = d.start := by unfold Dev.append; simp
@[simp] theorem Dev.append_cmds (r : Record) (d : Dev) : (d.append r).cmds = d.cmds := by unfold Dev.append; simp
@[simp] theorem Dev.append_store (r : Record) (d : Dev) : (d.append r).store = d.store := by unfold Dev.append; simp
@[simp] theorem Dev.append_waiting (r : Record) (d : Dev) : (d.append r).waiting = d.waiting := by unfold Dev.append; simp
@[simp] theorem Dev.append_sets (r : Record) (d : Dev) : (d.append r).sets = d.sets := by unfold Dev.append; simp
@[simp] theorem Dev.append_setLow (r : Record) (d : Dev) : (d.append r).setLow = d.setLow := by unfold Dev.append; simp
@[simp] theorem Dev.append_evc (r : Record) (d : Dev) : (d.append r).evc = d.evc := by unfold Dev.append; simp
@[simp] theorem Dev.append_tmr (r : Record) (d : Dev) : (d.append r).tmr = d.tmr := by unfold Dev.append; simp
@[simp] theorem Dev.append_lf (r : Record) (d : Dev) : (d.append r).lf = d.lf := by unfold Dev.append; simp
@[simp] theorem Dev.append_uhf (r : Record) (d : Dev) : (d.append r).uhf = d.uhf := by unfold Dev.append; simp
@[simp] theorem Dev.append_uwb (r : Record) (d : Dev) : (d.append r).uwb = d.uwb := by unfold Dev.append; simp
@[simp] theorem Dev.append_atlas (r : Record) (d : Dev) : (d.append r).atlas = d.atlas := by unfold Dev.append; simp
@[simp] theorem Dev.append_rel (r : Record) (d : Dev) : (d.append r).rel = d.rel := by unfold Dev.append; simp
@[simp] theorem Dev.append_cru (r : Record) (d : Dev) : (d.append r).cru = d.cru := by unfold Dev.append; simp
@[simp] theorem Dev.append_anvil (r : Record) (d : Dev) : (d.append r).anvil = d.anvil := by unfold Dev.append; simp
@[simp] theorem Dev.append_tok (r : Record) (d : Dev) : (d.append r).tok = d.tok := by unfold Dev.append; simp
@[simp] theorem Dev.append_ham (r : Record) (d : Dev) : (d.append r).ham = d.ham := by unfold Dev.append; simp
@[simp] theorem Dev.append_kw (r : Record) (d : Dev) : (d.append r).kw = d.kw := by unfold Dev.append; simp
@[simp] theorem Dev.append_med (r : Record) (d : Dev) : (d.append r).med = d.med := by unfold Dev.append; simp
@[simp] theorem Dev.append_bg (r : Record) (d : Dev) : (d.append r).bg = d.bg := by unfold Dev.append; simp
@[simp] theorem Dev.append_free (r : Record) (d : Dev) : (d.append r).free = d.free := by unfold Dev.append; simp

/-! ### Dev.fold writes jrnl -/

@[simp] theorem Dev.fold_ident (cls : Nat) (d : Dev) : (d.fold cls).ident = d.ident := rfl
@[simp] theorem Dev.fold_clock (cls : Nat) (d : Dev) : (d.fold cls).clock = d.clock := rfl
@[simp] theorem Dev.fold_pwr (cls : Nat) (d : Dev) : (d.fold cls).pwr = d.pwr := rfl
@[simp] theorem Dev.fold_host (cls : Nat) (d : Dev) : (d.fold cls).host = d.host := rfl
@[simp] theorem Dev.fold_start (cls : Nat) (d : Dev) : (d.fold cls).start = d.start := rfl
@[simp] theorem Dev.fold_cmds (cls : Nat) (d : Dev) : (d.fold cls).cmds = d.cmds := rfl
@[simp] theorem Dev.fold_store (cls : Nat) (d : Dev) : (d.fold cls).store = d.store := rfl
@[simp] theorem Dev.fold_waiting (cls : Nat) (d : Dev) : (d.fold cls).waiting = d.waiting := rfl
@[simp] theorem Dev.fold_sets (cls : Nat) (d : Dev) : (d.fold cls).sets = d.sets := rfl
@[simp] theorem Dev.fold_setLow (cls : Nat) (d : Dev) : (d.fold cls).setLow = d.setLow := rfl
@[simp] theorem Dev.fold_evc (cls : Nat) (d : Dev) : (d.fold cls).evc = d.evc := rfl
@[simp] theorem Dev.fold_tmr (cls : Nat) (d : Dev) : (d.fold cls).tmr = d.tmr := rfl
@[simp] theorem Dev.fold_lf (cls : Nat) (d : Dev) : (d.fold cls).lf = d.lf := rfl
@[simp] theorem Dev.fold_uhf (cls : Nat) (d : Dev) : (d.fold cls).uhf = d.uhf := rfl
@[simp] theorem Dev.fold_uwb (cls : Nat) (d : Dev) : (d.fold cls).uwb = d.uwb := rfl
@[simp] theorem Dev.fold_atlas (cls : Nat) (d : Dev) : (d.fold cls).atlas = d.atlas := rfl
@[simp] theorem Dev.fold_rel (cls : Nat) (d : Dev) : (d.fold cls).rel = d.rel := rfl
@[simp] theorem Dev.fold_cru (cls : Nat) (d : Dev) : (d.fold cls).cru = d.cru := rfl
@[simp] theorem Dev.fold_anvil (cls : Nat) (d : Dev) : (d.fold cls).anvil = d.anvil := rfl
@[simp] theorem Dev.fold_tok (cls : Nat) (d : Dev) : (d.fold cls).tok = d.tok := rfl
@[simp] theorem Dev.fold_ham (cls : Nat) (d : Dev) : (d.fold cls).ham = d.ham := rfl
@[simp] theorem Dev.fold_kw (cls : Nat) (d : Dev) : (d.fold cls).kw = d.kw := rfl
@[simp] theorem Dev.fold_nv (cls : Nat) (d : Dev) : (d.fold cls).nv = d.nv := rfl
@[simp] theorem Dev.fold_med (cls : Nat) (d : Dev) : (d.fold cls).med = d.med := rfl
@[simp] theorem Dev.fold_bg (cls : Nat) (d : Dev) : (d.fold cls).bg = d.bg := rfl
@[simp] theorem Dev.fold_free (cls : Nat) (d : Dev) : (d.fold cls).free = d.free := rfl

/-! ### Dev.log writes jrnl and nv -/

@[simp] theorem Dev.log_ident (origin tag op : Nat) (x : Draft) (d : Dev) : (d.log origin tag op x).ident = d.ident := by
  unfold Dev.log; split <;> simp
@[simp] theorem Dev.log_clock (origin tag op : Nat) (x : Draft) (d : Dev) : (d.log origin tag op x).clock = d.clock := by
  unfold Dev.log; split <;> simp
@[simp] theorem Dev.log_pwr (origin tag op : Nat) (x : Draft) (d : Dev) : (d.log origin tag op x).pwr = d.pwr := by unfold Dev.log; split <;> simp
@[simp] theorem Dev.log_host (origin tag op : Nat) (x : Draft) (d : Dev) : (d.log origin tag op x).host = d.host := by unfold Dev.log; split <;> simp
@[simp] theorem Dev.log_start (origin tag op : Nat) (x : Draft) (d : Dev) : (d.log origin tag op x).start = d.start := by
  unfold Dev.log; split <;> simp
@[simp] theorem Dev.log_cmds (origin tag op : Nat) (x : Draft) (d : Dev) : (d.log origin tag op x).cmds = d.cmds := by unfold Dev.log; split <;> simp
@[simp] theorem Dev.log_store (origin tag op : Nat) (x : Draft) (d : Dev) : (d.log origin tag op x).store = d.store := by
  unfold Dev.log; split <;> simp
@[simp] theorem Dev.log_waiting (origin tag op : Nat) (x : Draft) (d : Dev) : (d.log origin tag op x).waiting = d.waiting := by
  unfold Dev.log; split <;> simp
@[simp] theorem Dev.log_sets (origin tag op : Nat) (x : Draft) (d : Dev) : (d.log origin tag op x).sets = d.sets := by unfold Dev.log; split <;> simp
@[simp] theorem Dev.log_setLow (origin tag op : Nat) (x : Draft) (d : Dev) : (d.log origin tag op x).setLow = d.setLow := by
  unfold Dev.log; split <;> simp
@[simp] theorem Dev.log_evc (origin tag op : Nat) (x : Draft) (d : Dev) : (d.log origin tag op x).evc = d.evc := by unfold Dev.log; split <;> simp
@[simp] theorem Dev.log_tmr (origin tag op : Nat) (x : Draft) (d : Dev) : (d.log origin tag op x).tmr = d.tmr := by unfold Dev.log; split <;> simp
@[simp] theorem Dev.log_lf (origin tag op : Nat) (x : Draft) (d : Dev) : (d.log origin tag op x).lf = d.lf := by unfold Dev.log; split <;> simp
@[simp] theorem Dev.log_uhf (origin tag op : Nat) (x : Draft) (d : Dev) : (d.log origin tag op x).uhf = d.uhf := by unfold Dev.log; split <;> simp
@[simp] theorem Dev.log_uwb (origin tag op : Nat) (x : Draft) (d : Dev) : (d.log origin tag op x).uwb = d.uwb := by unfold Dev.log; split <;> simp
@[simp] theorem Dev.log_atlas (origin tag op : Nat) (x : Draft) (d : Dev) : (d.log origin tag op x).atlas = d.atlas := by
  unfold Dev.log; split <;> simp
@[simp] theorem Dev.log_rel (origin tag op : Nat) (x : Draft) (d : Dev) : (d.log origin tag op x).rel = d.rel := by unfold Dev.log; split <;> simp
@[simp] theorem Dev.log_cru (origin tag op : Nat) (x : Draft) (d : Dev) : (d.log origin tag op x).cru = d.cru := by unfold Dev.log; split <;> simp
@[simp] theorem Dev.log_anvil (origin tag op : Nat) (x : Draft) (d : Dev) : (d.log origin tag op x).anvil = d.anvil := by
  unfold Dev.log; split <;> simp
@[simp] theorem Dev.log_tok (origin tag op : Nat) (x : Draft) (d : Dev) : (d.log origin tag op x).tok = d.tok := by unfold Dev.log; split <;> simp
@[simp] theorem Dev.log_ham (origin tag op : Nat) (x : Draft) (d : Dev) : (d.log origin tag op x).ham = d.ham := by unfold Dev.log; split <;> simp
@[simp] theorem Dev.log_kw (origin tag op : Nat) (x : Draft) (d : Dev) : (d.log origin tag op x).kw = d.kw := by unfold Dev.log; split <;> simp
@[simp] theorem Dev.log_med (origin tag op : Nat) (x : Draft) (d : Dev) : (d.log origin tag op x).med = d.med := by unfold Dev.log; split <;> simp
@[simp] theorem Dev.log_bg (origin tag op : Nat) (x : Draft) (d : Dev) : (d.log origin tag op x).bg = d.bg := by unfold Dev.log; split <;> simp
@[simp] theorem Dev.log_free (origin tag op : Nat) (x : Draft) (d : Dev) : (d.log origin tag op x).free = d.free := by unfold Dev.log; split <;> simp

/-! ### Dev.note writes jrnl and nv -/

@[simp] theorem Dev.note_ident (origin : Nat) (x : Draft) (d : Dev) : (d.note origin x).ident = d.ident := Dev.log_ident origin 0xFFFF 0xFF x d
@[simp] theorem Dev.note_clock (origin : Nat) (x : Draft) (d : Dev) : (d.note origin x).clock = d.clock := Dev.log_clock origin 0xFFFF 0xFF x d
@[simp] theorem Dev.note_pwr (origin : Nat) (x : Draft) (d : Dev) : (d.note origin x).pwr = d.pwr := Dev.log_pwr origin 0xFFFF 0xFF x d
@[simp] theorem Dev.note_host (origin : Nat) (x : Draft) (d : Dev) : (d.note origin x).host = d.host := Dev.log_host origin 0xFFFF 0xFF x d
@[simp] theorem Dev.note_start (origin : Nat) (x : Draft) (d : Dev) : (d.note origin x).start = d.start := Dev.log_start origin 0xFFFF 0xFF x d
@[simp] theorem Dev.note_cmds (origin : Nat) (x : Draft) (d : Dev) : (d.note origin x).cmds = d.cmds := Dev.log_cmds origin 0xFFFF 0xFF x d
@[simp] theorem Dev.note_store (origin : Nat) (x : Draft) (d : Dev) : (d.note origin x).store = d.store := Dev.log_store origin 0xFFFF 0xFF x d
@[simp] theorem Dev.note_waiting (origin : Nat) (x : Draft) (d : Dev) : (d.note origin x).waiting = d.waiting :=
  Dev.log_waiting origin 0xFFFF 0xFF x d
@[simp] theorem Dev.note_sets (origin : Nat) (x : Draft) (d : Dev) : (d.note origin x).sets = d.sets := Dev.log_sets origin 0xFFFF 0xFF x d
@[simp] theorem Dev.note_setLow (origin : Nat) (x : Draft) (d : Dev) : (d.note origin x).setLow = d.setLow := Dev.log_setLow origin 0xFFFF 0xFF x d
@[simp] theorem Dev.note_evc (origin : Nat) (x : Draft) (d : Dev) : (d.note origin x).evc = d.evc := Dev.log_evc origin 0xFFFF 0xFF x d
@[simp] theorem Dev.note_tmr (origin : Nat) (x : Draft) (d : Dev) : (d.note origin x).tmr = d.tmr := Dev.log_tmr origin 0xFFFF 0xFF x d
@[simp] theorem Dev.note_lf (origin : Nat) (x : Draft) (d : Dev) : (d.note origin x).lf = d.lf := Dev.log_lf origin 0xFFFF 0xFF x d
@[simp] theorem Dev.note_uhf (origin : Nat) (x : Draft) (d : Dev) : (d.note origin x).uhf = d.uhf := Dev.log_uhf origin 0xFFFF 0xFF x d
@[simp] theorem Dev.note_uwb (origin : Nat) (x : Draft) (d : Dev) : (d.note origin x).uwb = d.uwb := Dev.log_uwb origin 0xFFFF 0xFF x d
@[simp] theorem Dev.note_atlas (origin : Nat) (x : Draft) (d : Dev) : (d.note origin x).atlas = d.atlas := Dev.log_atlas origin 0xFFFF 0xFF x d
@[simp] theorem Dev.note_rel (origin : Nat) (x : Draft) (d : Dev) : (d.note origin x).rel = d.rel := Dev.log_rel origin 0xFFFF 0xFF x d
@[simp] theorem Dev.note_cru (origin : Nat) (x : Draft) (d : Dev) : (d.note origin x).cru = d.cru := Dev.log_cru origin 0xFFFF 0xFF x d
@[simp] theorem Dev.note_anvil (origin : Nat) (x : Draft) (d : Dev) : (d.note origin x).anvil = d.anvil := Dev.log_anvil origin 0xFFFF 0xFF x d
@[simp] theorem Dev.note_tok (origin : Nat) (x : Draft) (d : Dev) : (d.note origin x).tok = d.tok := Dev.log_tok origin 0xFFFF 0xFF x d
@[simp] theorem Dev.note_ham (origin : Nat) (x : Draft) (d : Dev) : (d.note origin x).ham = d.ham := Dev.log_ham origin 0xFFFF 0xFF x d
@[simp] theorem Dev.note_kw (origin : Nat) (x : Draft) (d : Dev) : (d.note origin x).kw = d.kw := Dev.log_kw origin 0xFFFF 0xFF x d
@[simp] theorem Dev.note_med (origin : Nat) (x : Draft) (d : Dev) : (d.note origin x).med = d.med := Dev.log_med origin 0xFFFF 0xFF x d
@[simp] theorem Dev.note_bg (origin : Nat) (x : Draft) (d : Dev) : (d.note origin x).bg = d.bg := Dev.log_bg origin 0xFFFF 0xFF x d
@[simp] theorem Dev.note_free (origin : Nat) (x : Draft) (d : Dev) : (d.note origin x).free = d.free := Dev.log_free origin 0xFFFF 0xFF x d

/-! ### Dev.noteRefused writes jrnl and nv -/

@[simp] theorem Dev.noteRefused_ident (origin : Nat) (x : Draft) (d : Dev) : (d.noteRefused origin x).ident = d.ident := by
  unfold Dev.noteRefused; split <;> simp
@[simp] theorem Dev.noteRefused_clock (origin : Nat) (x : Draft) (d : Dev) : (d.noteRefused origin x).clock = d.clock := by
  unfold Dev.noteRefused; split <;> simp
@[simp] theorem Dev.noteRefused_pwr (origin : Nat) (x : Draft) (d : Dev) : (d.noteRefused origin x).pwr = d.pwr := by
  unfold Dev.noteRefused; split <;> simp
@[simp] theorem Dev.noteRefused_host (origin : Nat) (x : Draft) (d : Dev) : (d.noteRefused origin x).host = d.host := by
  unfold Dev.noteRefused; split <;> simp
@[simp] theorem Dev.noteRefused_start (origin : Nat) (x : Draft) (d : Dev) : (d.noteRefused origin x).start = d.start := by
  unfold Dev.noteRefused; split <;> simp
@[simp] theorem Dev.noteRefused_cmds (origin : Nat) (x : Draft) (d : Dev) : (d.noteRefused origin x).cmds = d.cmds := by
  unfold Dev.noteRefused; split <;> simp
@[simp] theorem Dev.noteRefused_store (origin : Nat) (x : Draft) (d : Dev) : (d.noteRefused origin x).store = d.store := by
  unfold Dev.noteRefused; split <;> simp
@[simp] theorem Dev.noteRefused_waiting (origin : Nat) (x : Draft) (d : Dev) : (d.noteRefused origin x).waiting = d.waiting := by
  unfold Dev.noteRefused; split <;> simp
@[simp] theorem Dev.noteRefused_sets (origin : Nat) (x : Draft) (d : Dev) : (d.noteRefused origin x).sets = d.sets := by
  unfold Dev.noteRefused; split <;> simp
@[simp] theorem Dev.noteRefused_setLow (origin : Nat) (x : Draft) (d : Dev) : (d.noteRefused origin x).setLow = d.setLow := by
  unfold Dev.noteRefused; split <;> simp
@[simp] theorem Dev.noteRefused_evc (origin : Nat) (x : Draft) (d : Dev) : (d.noteRefused origin x).evc = d.evc := by
  unfold Dev.noteRefused; split <;> simp
@[simp] theorem Dev.noteRefused_tmr (origin : Nat) (x : Draft) (d : Dev) : (d.noteRefused origin x).tmr = d.tmr := by
  unfold Dev.noteRefused; split <;> simp
@[simp] theorem Dev.noteRefused_lf (origin : Nat) (x : Draft) (d : Dev) : (d.noteRefused origin x).lf = d.lf := by
  unfold Dev.noteRefused; split <;> simp
@[simp] theorem Dev.noteRefused_uhf (origin : Nat) (x : Draft) (d : Dev) : (d.noteRefused origin x).uhf = d.uhf := by
  unfold Dev.noteRefused; split <;> simp
@[simp] theorem Dev.noteRefused_uwb (origin : Nat) (x : Draft) (d : Dev) : (d.noteRefused origin x).uwb = d.uwb := by
  unfold Dev.noteRefused; split <;> simp
@[simp] theorem Dev.noteRefused_atlas (origin : Nat) (x : Draft) (d : Dev) : (d.noteRefused origin x).atlas = d.atlas := by
  unfold Dev.noteRefused; split <;> simp
@[simp] theorem Dev.noteRefused_rel (origin : Nat) (x : Draft) (d : Dev) : (d.noteRefused origin x).rel = d.rel := by
  unfold Dev.noteRefused; split <;> simp
@[simp] theorem Dev.noteRefused_cru (origin : Nat) (x : Draft) (d : Dev) : (d.noteRefused origin x).cru = d.cru := by
  unfold Dev.noteRefused; split <;> simp
@[simp] theorem Dev.noteRefused_anvil (origin : Nat) (x : Draft) (d : Dev) : (d.noteRefused origin x).anvil = d.anvil := by
  unfold Dev.noteRefused; split <;> simp
@[simp] theorem Dev.noteRefused_tok (origin : Nat) (x : Draft) (d : Dev) : (d.noteRefused origin x).tok = d.tok := by
  unfold Dev.noteRefused; split <;> simp
@[simp] theorem Dev.noteRefused_ham (origin : Nat) (x : Draft) (d : Dev) : (d.noteRefused origin x).ham = d.ham := by
  unfold Dev.noteRefused; split <;> simp
@[simp] theorem Dev.noteRefused_kw (origin : Nat) (x : Draft) (d : Dev) : (d.noteRefused origin x).kw = d.kw := by
  unfold Dev.noteRefused; split <;> simp
@[simp] theorem Dev.noteRefused_med (origin : Nat) (x : Draft) (d : Dev) : (d.noteRefused origin x).med = d.med := by
  unfold Dev.noteRefused; split <;> simp
@[simp] theorem Dev.noteRefused_bg (origin : Nat) (x : Draft) (d : Dev) : (d.noteRefused origin x).bg = d.bg := by
  unfold Dev.noteRefused; split <;> simp
@[simp] theorem Dev.noteRefused_free (origin : Nat) (x : Draft) (d : Dev) : (d.noteRefused origin x).free = d.free := by
  unfold Dev.noteRefused; split <;> simp

/-! ### Dev.setPhase writes cmds -/

@[simp] theorem Dev.setPhase_ident (tag : Nat) (p : Phase) (d : Dev) : (d.setPhase tag p).ident = d.ident := rfl
@[simp] theorem Dev.setPhase_clock (tag : Nat) (p : Phase) (d : Dev) : (d.setPhase tag p).clock = d.clock := rfl
@[simp] theorem Dev.setPhase_pwr (tag : Nat) (p : Phase) (d : Dev) : (d.setPhase tag p).pwr = d.pwr := rfl
@[simp] theorem Dev.setPhase_host (tag : Nat) (p : Phase) (d : Dev) : (d.setPhase tag p).host = d.host := rfl
@[simp] theorem Dev.setPhase_start (tag : Nat) (p : Phase) (d : Dev) : (d.setPhase tag p).start = d.start := rfl
@[simp] theorem Dev.setPhase_store (tag : Nat) (p : Phase) (d : Dev) : (d.setPhase tag p).store = d.store := rfl
@[simp] theorem Dev.setPhase_waiting (tag : Nat) (p : Phase) (d : Dev) : (d.setPhase tag p).waiting = d.waiting := rfl
@[simp] theorem Dev.setPhase_sets (tag : Nat) (p : Phase) (d : Dev) : (d.setPhase tag p).sets = d.sets := rfl
@[simp] theorem Dev.setPhase_setLow (tag : Nat) (p : Phase) (d : Dev) : (d.setPhase tag p).setLow = d.setLow := rfl
@[simp] theorem Dev.setPhase_jrnl (tag : Nat) (p : Phase) (d : Dev) : (d.setPhase tag p).jrnl = d.jrnl := rfl
@[simp] theorem Dev.setPhase_evc (tag : Nat) (p : Phase) (d : Dev) : (d.setPhase tag p).evc = d.evc := rfl
@[simp] theorem Dev.setPhase_tmr (tag : Nat) (p : Phase) (d : Dev) : (d.setPhase tag p).tmr = d.tmr := rfl
@[simp] theorem Dev.setPhase_lf (tag : Nat) (p : Phase) (d : Dev) : (d.setPhase tag p).lf = d.lf := rfl
@[simp] theorem Dev.setPhase_uhf (tag : Nat) (p : Phase) (d : Dev) : (d.setPhase tag p).uhf = d.uhf := rfl
@[simp] theorem Dev.setPhase_uwb (tag : Nat) (p : Phase) (d : Dev) : (d.setPhase tag p).uwb = d.uwb := rfl
@[simp] theorem Dev.setPhase_atlas (tag : Nat) (p : Phase) (d : Dev) : (d.setPhase tag p).atlas = d.atlas := rfl
@[simp] theorem Dev.setPhase_rel (tag : Nat) (p : Phase) (d : Dev) : (d.setPhase tag p).rel = d.rel := rfl
@[simp] theorem Dev.setPhase_cru (tag : Nat) (p : Phase) (d : Dev) : (d.setPhase tag p).cru = d.cru := rfl
@[simp] theorem Dev.setPhase_anvil (tag : Nat) (p : Phase) (d : Dev) : (d.setPhase tag p).anvil = d.anvil := rfl
@[simp] theorem Dev.setPhase_tok (tag : Nat) (p : Phase) (d : Dev) : (d.setPhase tag p).tok = d.tok := rfl
@[simp] theorem Dev.setPhase_ham (tag : Nat) (p : Phase) (d : Dev) : (d.setPhase tag p).ham = d.ham := rfl
@[simp] theorem Dev.setPhase_kw (tag : Nat) (p : Phase) (d : Dev) : (d.setPhase tag p).kw = d.kw := rfl
@[simp] theorem Dev.setPhase_nv (tag : Nat) (p : Phase) (d : Dev) : (d.setPhase tag p).nv = d.nv := rfl
@[simp] theorem Dev.setPhase_med (tag : Nat) (p : Phase) (d : Dev) : (d.setPhase tag p).med = d.med := rfl
@[simp] theorem Dev.setPhase_bg (tag : Nat) (p : Phase) (d : Dev) : (d.setPhase tag p).bg = d.bg := rfl
@[simp] theorem Dev.setPhase_free (tag : Nat) (p : Phase) (d : Dev) : (d.setPhase tag p).free = d.free := rfl

/-! ### Dev.finish writes cmds -/

@[simp] theorem Dev.finish_ident (tag : Nat) (r : Result) (d : Dev) : (d.finish tag r).ident = d.ident := rfl
@[simp] theorem Dev.finish_clock (tag : Nat) (r : Result) (d : Dev) : (d.finish tag r).clock = d.clock := rfl
@[simp] theorem Dev.finish_pwr (tag : Nat) (r : Result) (d : Dev) : (d.finish tag r).pwr = d.pwr := rfl
@[simp] theorem Dev.finish_host (tag : Nat) (r : Result) (d : Dev) : (d.finish tag r).host = d.host := rfl
@[simp] theorem Dev.finish_start (tag : Nat) (r : Result) (d : Dev) : (d.finish tag r).start = d.start := rfl
@[simp] theorem Dev.finish_store (tag : Nat) (r : Result) (d : Dev) : (d.finish tag r).store = d.store := rfl
@[simp] theorem Dev.finish_waiting (tag : Nat) (r : Result) (d : Dev) : (d.finish tag r).waiting = d.waiting := rfl
@[simp] theorem Dev.finish_sets (tag : Nat) (r : Result) (d : Dev) : (d.finish tag r).sets = d.sets := rfl
@[simp] theorem Dev.finish_setLow (tag : Nat) (r : Result) (d : Dev) : (d.finish tag r).setLow = d.setLow := rfl
@[simp] theorem Dev.finish_jrnl (tag : Nat) (r : Result) (d : Dev) : (d.finish tag r).jrnl = d.jrnl := rfl
@[simp] theorem Dev.finish_evc (tag : Nat) (r : Result) (d : Dev) : (d.finish tag r).evc = d.evc := rfl
@[simp] theorem Dev.finish_tmr (tag : Nat) (r : Result) (d : Dev) : (d.finish tag r).tmr = d.tmr := rfl
@[simp] theorem Dev.finish_lf (tag : Nat) (r : Result) (d : Dev) : (d.finish tag r).lf = d.lf := rfl
@[simp] theorem Dev.finish_uhf (tag : Nat) (r : Result) (d : Dev) : (d.finish tag r).uhf = d.uhf := rfl
@[simp] theorem Dev.finish_uwb (tag : Nat) (r : Result) (d : Dev) : (d.finish tag r).uwb = d.uwb := rfl
@[simp] theorem Dev.finish_atlas (tag : Nat) (r : Result) (d : Dev) : (d.finish tag r).atlas = d.atlas := rfl
@[simp] theorem Dev.finish_rel (tag : Nat) (r : Result) (d : Dev) : (d.finish tag r).rel = d.rel := rfl
@[simp] theorem Dev.finish_cru (tag : Nat) (r : Result) (d : Dev) : (d.finish tag r).cru = d.cru := rfl
@[simp] theorem Dev.finish_anvil (tag : Nat) (r : Result) (d : Dev) : (d.finish tag r).anvil = d.anvil := rfl
@[simp] theorem Dev.finish_tok (tag : Nat) (r : Result) (d : Dev) : (d.finish tag r).tok = d.tok := rfl
@[simp] theorem Dev.finish_ham (tag : Nat) (r : Result) (d : Dev) : (d.finish tag r).ham = d.ham := rfl
@[simp] theorem Dev.finish_kw (tag : Nat) (r : Result) (d : Dev) : (d.finish tag r).kw = d.kw := rfl
@[simp] theorem Dev.finish_nv (tag : Nat) (r : Result) (d : Dev) : (d.finish tag r).nv = d.nv := rfl
@[simp] theorem Dev.finish_med (tag : Nat) (r : Result) (d : Dev) : (d.finish tag r).med = d.med := rfl
@[simp] theorem Dev.finish_bg (tag : Nat) (r : Result) (d : Dev) : (d.finish tag r).bg = d.bg := rfl
@[simp] theorem Dev.finish_free (tag : Nat) (r : Result) (d : Dev) : (d.finish tag r).free = d.free := rfl

/-! ### Dev.fail writes cmds -/

@[simp] theorem Dev.fail_ident (tag : Nat) (st : Status) (d : Dev) : (d.fail tag st).ident = d.ident := rfl
@[simp] theorem Dev.fail_clock (tag : Nat) (st : Status) (d : Dev) : (d.fail tag st).clock = d.clock := rfl
@[simp] theorem Dev.fail_pwr (tag : Nat) (st : Status) (d : Dev) : (d.fail tag st).pwr = d.pwr := rfl
@[simp] theorem Dev.fail_host (tag : Nat) (st : Status) (d : Dev) : (d.fail tag st).host = d.host := rfl
@[simp] theorem Dev.fail_start (tag : Nat) (st : Status) (d : Dev) : (d.fail tag st).start = d.start := rfl
@[simp] theorem Dev.fail_store (tag : Nat) (st : Status) (d : Dev) : (d.fail tag st).store = d.store := rfl
@[simp] theorem Dev.fail_waiting (tag : Nat) (st : Status) (d : Dev) : (d.fail tag st).waiting = d.waiting := rfl
@[simp] theorem Dev.fail_sets (tag : Nat) (st : Status) (d : Dev) : (d.fail tag st).sets = d.sets := rfl
@[simp] theorem Dev.fail_setLow (tag : Nat) (st : Status) (d : Dev) : (d.fail tag st).setLow = d.setLow := rfl
@[simp] theorem Dev.fail_jrnl (tag : Nat) (st : Status) (d : Dev) : (d.fail tag st).jrnl = d.jrnl := rfl
@[simp] theorem Dev.fail_evc (tag : Nat) (st : Status) (d : Dev) : (d.fail tag st).evc = d.evc := rfl
@[simp] theorem Dev.fail_tmr (tag : Nat) (st : Status) (d : Dev) : (d.fail tag st).tmr = d.tmr := rfl
@[simp] theorem Dev.fail_lf (tag : Nat) (st : Status) (d : Dev) : (d.fail tag st).lf = d.lf := rfl
@[simp] theorem Dev.fail_uhf (tag : Nat) (st : Status) (d : Dev) : (d.fail tag st).uhf = d.uhf := rfl
@[simp] theorem Dev.fail_uwb (tag : Nat) (st : Status) (d : Dev) : (d.fail tag st).uwb = d.uwb := rfl
@[simp] theorem Dev.fail_atlas (tag : Nat) (st : Status) (d : Dev) : (d.fail tag st).atlas = d.atlas := rfl
@[simp] theorem Dev.fail_rel (tag : Nat) (st : Status) (d : Dev) : (d.fail tag st).rel = d.rel := rfl
@[simp] theorem Dev.fail_cru (tag : Nat) (st : Status) (d : Dev) : (d.fail tag st).cru = d.cru := rfl
@[simp] theorem Dev.fail_anvil (tag : Nat) (st : Status) (d : Dev) : (d.fail tag st).anvil = d.anvil := rfl
@[simp] theorem Dev.fail_tok (tag : Nat) (st : Status) (d : Dev) : (d.fail tag st).tok = d.tok := rfl
@[simp] theorem Dev.fail_ham (tag : Nat) (st : Status) (d : Dev) : (d.fail tag st).ham = d.ham := rfl
@[simp] theorem Dev.fail_kw (tag : Nat) (st : Status) (d : Dev) : (d.fail tag st).kw = d.kw := rfl
@[simp] theorem Dev.fail_nv (tag : Nat) (st : Status) (d : Dev) : (d.fail tag st).nv = d.nv := rfl
@[simp] theorem Dev.fail_med (tag : Nat) (st : Status) (d : Dev) : (d.fail tag st).med = d.med := rfl
@[simp] theorem Dev.fail_bg (tag : Nat) (st : Status) (d : Dev) : (d.fail tag st).bg = d.bg := rfl
@[simp] theorem Dev.fail_free (tag : Nat) (st : Status) (d : Dev) : (d.fail tag st).free = d.free := rfl

/-! ### Dev.reply writes cmds -/

@[simp] theorem Dev.reply_ident (tag : Nat) (ws : List Word) (d : Dev) : (d.reply tag ws).ident = d.ident := rfl
@[simp] theorem Dev.reply_clock (tag : Nat) (ws : List Word) (d : Dev) : (d.reply tag ws).clock = d.clock := rfl
@[simp] theorem Dev.reply_pwr (tag : Nat) (ws : List Word) (d : Dev) : (d.reply tag ws).pwr = d.pwr := rfl
@[simp] theorem Dev.reply_host (tag : Nat) (ws : List Word) (d : Dev) : (d.reply tag ws).host = d.host := rfl
@[simp] theorem Dev.reply_start (tag : Nat) (ws : List Word) (d : Dev) : (d.reply tag ws).start = d.start := rfl
@[simp] theorem Dev.reply_store (tag : Nat) (ws : List Word) (d : Dev) : (d.reply tag ws).store = d.store := rfl
@[simp] theorem Dev.reply_waiting (tag : Nat) (ws : List Word) (d : Dev) : (d.reply tag ws).waiting = d.waiting := rfl
@[simp] theorem Dev.reply_sets (tag : Nat) (ws : List Word) (d : Dev) : (d.reply tag ws).sets = d.sets := rfl
@[simp] theorem Dev.reply_setLow (tag : Nat) (ws : List Word) (d : Dev) : (d.reply tag ws).setLow = d.setLow := rfl
@[simp] theorem Dev.reply_jrnl (tag : Nat) (ws : List Word) (d : Dev) : (d.reply tag ws).jrnl = d.jrnl := rfl
@[simp] theorem Dev.reply_evc (tag : Nat) (ws : List Word) (d : Dev) : (d.reply tag ws).evc = d.evc := rfl
@[simp] theorem Dev.reply_tmr (tag : Nat) (ws : List Word) (d : Dev) : (d.reply tag ws).tmr = d.tmr := rfl
@[simp] theorem Dev.reply_lf (tag : Nat) (ws : List Word) (d : Dev) : (d.reply tag ws).lf = d.lf := rfl
@[simp] theorem Dev.reply_uhf (tag : Nat) (ws : List Word) (d : Dev) : (d.reply tag ws).uhf = d.uhf := rfl
@[simp] theorem Dev.reply_uwb (tag : Nat) (ws : List Word) (d : Dev) : (d.reply tag ws).uwb = d.uwb := rfl
@[simp] theorem Dev.reply_atlas (tag : Nat) (ws : List Word) (d : Dev) : (d.reply tag ws).atlas = d.atlas := rfl
@[simp] theorem Dev.reply_rel (tag : Nat) (ws : List Word) (d : Dev) : (d.reply tag ws).rel = d.rel := rfl
@[simp] theorem Dev.reply_cru (tag : Nat) (ws : List Word) (d : Dev) : (d.reply tag ws).cru = d.cru := rfl
@[simp] theorem Dev.reply_anvil (tag : Nat) (ws : List Word) (d : Dev) : (d.reply tag ws).anvil = d.anvil := rfl
@[simp] theorem Dev.reply_tok (tag : Nat) (ws : List Word) (d : Dev) : (d.reply tag ws).tok = d.tok := rfl
@[simp] theorem Dev.reply_ham (tag : Nat) (ws : List Word) (d : Dev) : (d.reply tag ws).ham = d.ham := rfl
@[simp] theorem Dev.reply_kw (tag : Nat) (ws : List Word) (d : Dev) : (d.reply tag ws).kw = d.kw := rfl
@[simp] theorem Dev.reply_nv (tag : Nat) (ws : List Word) (d : Dev) : (d.reply tag ws).nv = d.nv := rfl
@[simp] theorem Dev.reply_med (tag : Nat) (ws : List Word) (d : Dev) : (d.reply tag ws).med = d.med := rfl
@[simp] theorem Dev.reply_bg (tag : Nat) (ws : List Word) (d : Dev) : (d.reply tag ws).bg = d.bg := rfl
@[simp] theorem Dev.reply_free (tag : Nat) (ws : List Word) (d : Dev) : (d.reply tag ws).free = d.free := rfl

/-! ### Dev.markStart writes cmds and pwr and bg -/

@[simp] theorem Dev.markStart_ident (c : Cmd) (d : Dev) : (d.markStart c).ident = d.ident := rfl
@[simp] theorem Dev.markStart_clock (c : Cmd) (d : Dev) : (d.markStart c).clock = d.clock := rfl
@[simp] theorem Dev.markStart_host (c : Cmd) (d : Dev) : (d.markStart c).host = d.host := rfl
@[simp] theorem Dev.markStart_start (c : Cmd) (d : Dev) : (d.markStart c).start = d.start := rfl
@[simp] theorem Dev.markStart_store (c : Cmd) (d : Dev) : (d.markStart c).store = d.store := rfl
@[simp] theorem Dev.markStart_waiting (c : Cmd) (d : Dev) : (d.markStart c).waiting = d.waiting := rfl
@[simp] theorem Dev.markStart_sets (c : Cmd) (d : Dev) : (d.markStart c).sets = d.sets := rfl
@[simp] theorem Dev.markStart_setLow (c : Cmd) (d : Dev) : (d.markStart c).setLow = d.setLow := rfl
@[simp] theorem Dev.markStart_jrnl (c : Cmd) (d : Dev) : (d.markStart c).jrnl = d.jrnl := rfl
@[simp] theorem Dev.markStart_evc (c : Cmd) (d : Dev) : (d.markStart c).evc = d.evc := rfl
@[simp] theorem Dev.markStart_tmr (c : Cmd) (d : Dev) : (d.markStart c).tmr = d.tmr := rfl
@[simp] theorem Dev.markStart_lf (c : Cmd) (d : Dev) : (d.markStart c).lf = d.lf := rfl
@[simp] theorem Dev.markStart_uhf (c : Cmd) (d : Dev) : (d.markStart c).uhf = d.uhf := rfl
@[simp] theorem Dev.markStart_uwb (c : Cmd) (d : Dev) : (d.markStart c).uwb = d.uwb := rfl
@[simp] theorem Dev.markStart_atlas (c : Cmd) (d : Dev) : (d.markStart c).atlas = d.atlas := rfl
@[simp] theorem Dev.markStart_rel (c : Cmd) (d : Dev) : (d.markStart c).rel = d.rel := rfl
@[simp] theorem Dev.markStart_cru (c : Cmd) (d : Dev) : (d.markStart c).cru = d.cru := rfl
@[simp] theorem Dev.markStart_anvil (c : Cmd) (d : Dev) : (d.markStart c).anvil = d.anvil := rfl
@[simp] theorem Dev.markStart_tok (c : Cmd) (d : Dev) : (d.markStart c).tok = d.tok := rfl
@[simp] theorem Dev.markStart_ham (c : Cmd) (d : Dev) : (d.markStart c).ham = d.ham := rfl
@[simp] theorem Dev.markStart_kw (c : Cmd) (d : Dev) : (d.markStart c).kw = d.kw := rfl
@[simp] theorem Dev.markStart_nv (c : Cmd) (d : Dev) : (d.markStart c).nv = d.nv := rfl
@[simp] theorem Dev.markStart_med (c : Cmd) (d : Dev) : (d.markStart c).med = d.med := rfl
@[simp] theorem Dev.markStart_free (c : Cmd) (d : Dev) : (d.markStart c).free = d.free := rfl

/-! ### Dev.putSetting writes sets -/

@[simp] theorem Dev.putSetting_ident (addr v : Nat) (d : Dev) : (d.putSetting addr v).ident = d.ident := rfl
@[simp] theorem Dev.putSetting_clock (addr v : Nat) (d : Dev) : (d.putSetting addr v).clock = d.clock := rfl
@[simp] theorem Dev.putSetting_pwr (addr v : Nat) (d : Dev) : (d.putSetting addr v).pwr = d.pwr := rfl
@[simp] theorem Dev.putSetting_host (addr v : Nat) (d : Dev) : (d.putSetting addr v).host = d.host := rfl
@[simp] theorem Dev.putSetting_start (addr v : Nat) (d : Dev) : (d.putSetting addr v).start = d.start := rfl
@[simp] theorem Dev.putSetting_cmds (addr v : Nat) (d : Dev) : (d.putSetting addr v).cmds = d.cmds := rfl
@[simp] theorem Dev.putSetting_store (addr v : Nat) (d : Dev) : (d.putSetting addr v).store = d.store := rfl
@[simp] theorem Dev.putSetting_waiting (addr v : Nat) (d : Dev) : (d.putSetting addr v).waiting = d.waiting := rfl
@[simp] theorem Dev.putSetting_setLow (addr v : Nat) (d : Dev) : (d.putSetting addr v).setLow = d.setLow := rfl
@[simp] theorem Dev.putSetting_jrnl (addr v : Nat) (d : Dev) : (d.putSetting addr v).jrnl = d.jrnl := rfl
@[simp] theorem Dev.putSetting_evc (addr v : Nat) (d : Dev) : (d.putSetting addr v).evc = d.evc := rfl
@[simp] theorem Dev.putSetting_tmr (addr v : Nat) (d : Dev) : (d.putSetting addr v).tmr = d.tmr := rfl
@[simp] theorem Dev.putSetting_lf (addr v : Nat) (d : Dev) : (d.putSetting addr v).lf = d.lf := rfl
@[simp] theorem Dev.putSetting_uhf (addr v : Nat) (d : Dev) : (d.putSetting addr v).uhf = d.uhf := rfl
@[simp] theorem Dev.putSetting_uwb (addr v : Nat) (d : Dev) : (d.putSetting addr v).uwb = d.uwb := rfl
@[simp] theorem Dev.putSetting_atlas (addr v : Nat) (d : Dev) : (d.putSetting addr v).atlas = d.atlas := rfl
@[simp] theorem Dev.putSetting_rel (addr v : Nat) (d : Dev) : (d.putSetting addr v).rel = d.rel := rfl
@[simp] theorem Dev.putSetting_cru (addr v : Nat) (d : Dev) : (d.putSetting addr v).cru = d.cru := rfl
@[simp] theorem Dev.putSetting_anvil (addr v : Nat) (d : Dev) : (d.putSetting addr v).anvil = d.anvil := rfl
@[simp] theorem Dev.putSetting_tok (addr v : Nat) (d : Dev) : (d.putSetting addr v).tok = d.tok := rfl
@[simp] theorem Dev.putSetting_ham (addr v : Nat) (d : Dev) : (d.putSetting addr v).ham = d.ham := rfl
@[simp] theorem Dev.putSetting_kw (addr v : Nat) (d : Dev) : (d.putSetting addr v).kw = d.kw := rfl
@[simp] theorem Dev.putSetting_nv (addr v : Nat) (d : Dev) : (d.putSetting addr v).nv = d.nv := rfl
@[simp] theorem Dev.putSetting_med (addr v : Nat) (d : Dev) : (d.putSetting addr v).med = d.med := rfl
@[simp] theorem Dev.putSetting_bg (addr v : Nat) (d : Dev) : (d.putSetting addr v).bg = d.bg := rfl
@[simp] theorem Dev.putSetting_free (addr v : Nat) (d : Dev) : (d.putSetting addr v).free = d.free := rfl

/-! ### Dev.setNode writes kw -/

@[simp] theorem Dev.setNode_ident (a : Nat) (n : Node) (d : Dev) : (d.setNode a n).ident = d.ident := rfl
@[simp] theorem Dev.setNode_clock (a : Nat) (n : Node) (d : Dev) : (d.setNode a n).clock = d.clock := rfl
@[simp] theorem Dev.setNode_pwr (a : Nat) (n : Node) (d : Dev) : (d.setNode a n).pwr = d.pwr := rfl
@[simp] theorem Dev.setNode_host (a : Nat) (n : Node) (d : Dev) : (d.setNode a n).host = d.host := rfl
@[simp] theorem Dev.setNode_start (a : Nat) (n : Node) (d : Dev) : (d.setNode a n).start = d.start := rfl
@[simp] theorem Dev.setNode_cmds (a : Nat) (n : Node) (d : Dev) : (d.setNode a n).cmds = d.cmds := rfl
@[simp] theorem Dev.setNode_store (a : Nat) (n : Node) (d : Dev) : (d.setNode a n).store = d.store := rfl
@[simp] theorem Dev.setNode_waiting (a : Nat) (n : Node) (d : Dev) : (d.setNode a n).waiting = d.waiting := rfl
@[simp] theorem Dev.setNode_sets (a : Nat) (n : Node) (d : Dev) : (d.setNode a n).sets = d.sets := rfl
@[simp] theorem Dev.setNode_setLow (a : Nat) (n : Node) (d : Dev) : (d.setNode a n).setLow = d.setLow := rfl
@[simp] theorem Dev.setNode_jrnl (a : Nat) (n : Node) (d : Dev) : (d.setNode a n).jrnl = d.jrnl := rfl
@[simp] theorem Dev.setNode_evc (a : Nat) (n : Node) (d : Dev) : (d.setNode a n).evc = d.evc := rfl
@[simp] theorem Dev.setNode_tmr (a : Nat) (n : Node) (d : Dev) : (d.setNode a n).tmr = d.tmr := rfl
@[simp] theorem Dev.setNode_lf (a : Nat) (n : Node) (d : Dev) : (d.setNode a n).lf = d.lf := rfl
@[simp] theorem Dev.setNode_uhf (a : Nat) (n : Node) (d : Dev) : (d.setNode a n).uhf = d.uhf := rfl
@[simp] theorem Dev.setNode_uwb (a : Nat) (n : Node) (d : Dev) : (d.setNode a n).uwb = d.uwb := rfl
@[simp] theorem Dev.setNode_atlas (a : Nat) (n : Node) (d : Dev) : (d.setNode a n).atlas = d.atlas := rfl
@[simp] theorem Dev.setNode_rel (a : Nat) (n : Node) (d : Dev) : (d.setNode a n).rel = d.rel := rfl
@[simp] theorem Dev.setNode_cru (a : Nat) (n : Node) (d : Dev) : (d.setNode a n).cru = d.cru := rfl
@[simp] theorem Dev.setNode_anvil (a : Nat) (n : Node) (d : Dev) : (d.setNode a n).anvil = d.anvil := rfl
@[simp] theorem Dev.setNode_tok (a : Nat) (n : Node) (d : Dev) : (d.setNode a n).tok = d.tok := rfl
@[simp] theorem Dev.setNode_ham (a : Nat) (n : Node) (d : Dev) : (d.setNode a n).ham = d.ham := rfl
@[simp] theorem Dev.setNode_nv (a : Nat) (n : Node) (d : Dev) : (d.setNode a n).nv = d.nv := rfl
@[simp] theorem Dev.setNode_med (a : Nat) (n : Node) (d : Dev) : (d.setNode a n).med = d.med := rfl
@[simp] theorem Dev.setNode_bg (a : Nat) (n : Node) (d : Dev) : (d.setNode a n).bg = d.bg := rfl
@[simp] theorem Dev.setNode_free (a : Nat) (n : Node) (d : Dev) : (d.setNode a n).free = d.free := rfl

/-! ### Dev.putAerial writes lf -/

@[simp] theorem Dev.putAerial_ident (n : Nat) (a : Aerial) (d : Dev) : (d.putAerial n a).ident = d.ident := rfl
@[simp] theorem Dev.putAerial_clock (n : Nat) (a : Aerial) (d : Dev) : (d.putAerial n a).clock = d.clock := rfl
@[simp] theorem Dev.putAerial_pwr (n : Nat) (a : Aerial) (d : Dev) : (d.putAerial n a).pwr = d.pwr := rfl
@[simp] theorem Dev.putAerial_host (n : Nat) (a : Aerial) (d : Dev) : (d.putAerial n a).host = d.host := rfl
@[simp] theorem Dev.putAerial_start (n : Nat) (a : Aerial) (d : Dev) : (d.putAerial n a).start = d.start := rfl
@[simp] theorem Dev.putAerial_cmds (n : Nat) (a : Aerial) (d : Dev) : (d.putAerial n a).cmds = d.cmds := rfl
@[simp] theorem Dev.putAerial_store (n : Nat) (a : Aerial) (d : Dev) : (d.putAerial n a).store = d.store := rfl
@[simp] theorem Dev.putAerial_waiting (n : Nat) (a : Aerial) (d : Dev) : (d.putAerial n a).waiting = d.waiting := rfl
@[simp] theorem Dev.putAerial_sets (n : Nat) (a : Aerial) (d : Dev) : (d.putAerial n a).sets = d.sets := rfl
@[simp] theorem Dev.putAerial_setLow (n : Nat) (a : Aerial) (d : Dev) : (d.putAerial n a).setLow = d.setLow := rfl
@[simp] theorem Dev.putAerial_jrnl (n : Nat) (a : Aerial) (d : Dev) : (d.putAerial n a).jrnl = d.jrnl := rfl
@[simp] theorem Dev.putAerial_evc (n : Nat) (a : Aerial) (d : Dev) : (d.putAerial n a).evc = d.evc := rfl
@[simp] theorem Dev.putAerial_tmr (n : Nat) (a : Aerial) (d : Dev) : (d.putAerial n a).tmr = d.tmr := rfl
@[simp] theorem Dev.putAerial_uhf (n : Nat) (a : Aerial) (d : Dev) : (d.putAerial n a).uhf = d.uhf := rfl
@[simp] theorem Dev.putAerial_uwb (n : Nat) (a : Aerial) (d : Dev) : (d.putAerial n a).uwb = d.uwb := rfl
@[simp] theorem Dev.putAerial_atlas (n : Nat) (a : Aerial) (d : Dev) : (d.putAerial n a).atlas = d.atlas := rfl
@[simp] theorem Dev.putAerial_rel (n : Nat) (a : Aerial) (d : Dev) : (d.putAerial n a).rel = d.rel := rfl
@[simp] theorem Dev.putAerial_cru (n : Nat) (a : Aerial) (d : Dev) : (d.putAerial n a).cru = d.cru := rfl
@[simp] theorem Dev.putAerial_anvil (n : Nat) (a : Aerial) (d : Dev) : (d.putAerial n a).anvil = d.anvil := rfl
@[simp] theorem Dev.putAerial_tok (n : Nat) (a : Aerial) (d : Dev) : (d.putAerial n a).tok = d.tok := rfl
@[simp] theorem Dev.putAerial_ham (n : Nat) (a : Aerial) (d : Dev) : (d.putAerial n a).ham = d.ham := rfl
@[simp] theorem Dev.putAerial_kw (n : Nat) (a : Aerial) (d : Dev) : (d.putAerial n a).kw = d.kw := rfl
@[simp] theorem Dev.putAerial_nv (n : Nat) (a : Aerial) (d : Dev) : (d.putAerial n a).nv = d.nv := rfl
@[simp] theorem Dev.putAerial_med (n : Nat) (a : Aerial) (d : Dev) : (d.putAerial n a).med = d.med := rfl
@[simp] theorem Dev.putAerial_bg (n : Nat) (a : Aerial) (d : Dev) : (d.putAerial n a).bg = d.bg := rfl
@[simp] theorem Dev.putAerial_free (n : Nat) (a : Aerial) (d : Dev) : (d.putAerial n a).free = d.free := rfl

/-! ### Dev.putChan writes tmr -/

@[simp] theorem Dev.putChan_ident (n : Nat) (c : Channel) (d : Dev) : (d.putChan n c).ident = d.ident := rfl
@[simp] theorem Dev.putChan_clock (n : Nat) (c : Channel) (d : Dev) : (d.putChan n c).clock = d.clock := rfl
@[simp] theorem Dev.putChan_pwr (n : Nat) (c : Channel) (d : Dev) : (d.putChan n c).pwr = d.pwr := rfl
@[simp] theorem Dev.putChan_host (n : Nat) (c : Channel) (d : Dev) : (d.putChan n c).host = d.host := rfl
@[simp] theorem Dev.putChan_start (n : Nat) (c : Channel) (d : Dev) : (d.putChan n c).start = d.start := rfl
@[simp] theorem Dev.putChan_cmds (n : Nat) (c : Channel) (d : Dev) : (d.putChan n c).cmds = d.cmds := rfl
@[simp] theorem Dev.putChan_store (n : Nat) (c : Channel) (d : Dev) : (d.putChan n c).store = d.store := rfl
@[simp] theorem Dev.putChan_waiting (n : Nat) (c : Channel) (d : Dev) : (d.putChan n c).waiting = d.waiting := rfl
@[simp] theorem Dev.putChan_sets (n : Nat) (c : Channel) (d : Dev) : (d.putChan n c).sets = d.sets := rfl
@[simp] theorem Dev.putChan_setLow (n : Nat) (c : Channel) (d : Dev) : (d.putChan n c).setLow = d.setLow := rfl
@[simp] theorem Dev.putChan_jrnl (n : Nat) (c : Channel) (d : Dev) : (d.putChan n c).jrnl = d.jrnl := rfl
@[simp] theorem Dev.putChan_evc (n : Nat) (c : Channel) (d : Dev) : (d.putChan n c).evc = d.evc := rfl
@[simp] theorem Dev.putChan_lf (n : Nat) (c : Channel) (d : Dev) : (d.putChan n c).lf = d.lf := rfl
@[simp] theorem Dev.putChan_uhf (n : Nat) (c : Channel) (d : Dev) : (d.putChan n c).uhf = d.uhf := rfl
@[simp] theorem Dev.putChan_uwb (n : Nat) (c : Channel) (d : Dev) : (d.putChan n c).uwb = d.uwb := rfl
@[simp] theorem Dev.putChan_atlas (n : Nat) (c : Channel) (d : Dev) : (d.putChan n c).atlas = d.atlas := rfl
@[simp] theorem Dev.putChan_rel (n : Nat) (c : Channel) (d : Dev) : (d.putChan n c).rel = d.rel := rfl
@[simp] theorem Dev.putChan_cru (n : Nat) (c : Channel) (d : Dev) : (d.putChan n c).cru = d.cru := rfl
@[simp] theorem Dev.putChan_anvil (n : Nat) (c : Channel) (d : Dev) : (d.putChan n c).anvil = d.anvil := rfl
@[simp] theorem Dev.putChan_tok (n : Nat) (c : Channel) (d : Dev) : (d.putChan n c).tok = d.tok := rfl
@[simp] theorem Dev.putChan_ham (n : Nat) (c : Channel) (d : Dev) : (d.putChan n c).ham = d.ham := rfl
@[simp] theorem Dev.putChan_kw (n : Nat) (c : Channel) (d : Dev) : (d.putChan n c).kw = d.kw := rfl
@[simp] theorem Dev.putChan_nv (n : Nat) (c : Channel) (d : Dev) : (d.putChan n c).nv = d.nv := rfl
@[simp] theorem Dev.putChan_med (n : Nat) (c : Channel) (d : Dev) : (d.putChan n c).med = d.med := rfl
@[simp] theorem Dev.putChan_bg (n : Nat) (c : Channel) (d : Dev) : (d.putChan n c).bg = d.bg := rfl
@[simp] theorem Dev.putChan_free (n : Nat) (c : Channel) (d : Dev) : (d.putChan n c).free = d.free := rfl

/-! ### Dev.putLoop writes bg -/

@[simp] theorem Dev.putLoop_ident (n : Nat) (l : Loop) (d : Dev) : (d.putLoop n l).ident = d.ident := rfl
@[simp] theorem Dev.putLoop_clock (n : Nat) (l : Loop) (d : Dev) : (d.putLoop n l).clock = d.clock := rfl
@[simp] theorem Dev.putLoop_pwr (n : Nat) (l : Loop) (d : Dev) : (d.putLoop n l).pwr = d.pwr := rfl
@[simp] theorem Dev.putLoop_host (n : Nat) (l : Loop) (d : Dev) : (d.putLoop n l).host = d.host := rfl
@[simp] theorem Dev.putLoop_start (n : Nat) (l : Loop) (d : Dev) : (d.putLoop n l).start = d.start := rfl
@[simp] theorem Dev.putLoop_cmds (n : Nat) (l : Loop) (d : Dev) : (d.putLoop n l).cmds = d.cmds := rfl
@[simp] theorem Dev.putLoop_store (n : Nat) (l : Loop) (d : Dev) : (d.putLoop n l).store = d.store := rfl
@[simp] theorem Dev.putLoop_waiting (n : Nat) (l : Loop) (d : Dev) : (d.putLoop n l).waiting = d.waiting := rfl
@[simp] theorem Dev.putLoop_sets (n : Nat) (l : Loop) (d : Dev) : (d.putLoop n l).sets = d.sets := rfl
@[simp] theorem Dev.putLoop_setLow (n : Nat) (l : Loop) (d : Dev) : (d.putLoop n l).setLow = d.setLow := rfl
@[simp] theorem Dev.putLoop_jrnl (n : Nat) (l : Loop) (d : Dev) : (d.putLoop n l).jrnl = d.jrnl := rfl
@[simp] theorem Dev.putLoop_evc (n : Nat) (l : Loop) (d : Dev) : (d.putLoop n l).evc = d.evc := rfl
@[simp] theorem Dev.putLoop_tmr (n : Nat) (l : Loop) (d : Dev) : (d.putLoop n l).tmr = d.tmr := rfl
@[simp] theorem Dev.putLoop_lf (n : Nat) (l : Loop) (d : Dev) : (d.putLoop n l).lf = d.lf := rfl
@[simp] theorem Dev.putLoop_uhf (n : Nat) (l : Loop) (d : Dev) : (d.putLoop n l).uhf = d.uhf := rfl
@[simp] theorem Dev.putLoop_uwb (n : Nat) (l : Loop) (d : Dev) : (d.putLoop n l).uwb = d.uwb := rfl
@[simp] theorem Dev.putLoop_atlas (n : Nat) (l : Loop) (d : Dev) : (d.putLoop n l).atlas = d.atlas := rfl
@[simp] theorem Dev.putLoop_rel (n : Nat) (l : Loop) (d : Dev) : (d.putLoop n l).rel = d.rel := rfl
@[simp] theorem Dev.putLoop_cru (n : Nat) (l : Loop) (d : Dev) : (d.putLoop n l).cru = d.cru := rfl
@[simp] theorem Dev.putLoop_anvil (n : Nat) (l : Loop) (d : Dev) : (d.putLoop n l).anvil = d.anvil := rfl
@[simp] theorem Dev.putLoop_tok (n : Nat) (l : Loop) (d : Dev) : (d.putLoop n l).tok = d.tok := rfl
@[simp] theorem Dev.putLoop_ham (n : Nat) (l : Loop) (d : Dev) : (d.putLoop n l).ham = d.ham := rfl
@[simp] theorem Dev.putLoop_kw (n : Nat) (l : Loop) (d : Dev) : (d.putLoop n l).kw = d.kw := rfl
@[simp] theorem Dev.putLoop_nv (n : Nat) (l : Loop) (d : Dev) : (d.putLoop n l).nv = d.nv := rfl
@[simp] theorem Dev.putLoop_med (n : Nat) (l : Loop) (d : Dev) : (d.putLoop n l).med = d.med := rfl
@[simp] theorem Dev.putLoop_free (n : Nat) (l : Loop) (d : Dev) : (d.putLoop n l).free = d.free := rfl

/-! ### Dev.putEvidence writes rel -/

@[simp] theorem Dev.putEvidence_ident (e : Evidence) (d : Dev) : (d.putEvidence e).ident = d.ident := rfl
@[simp] theorem Dev.putEvidence_clock (e : Evidence) (d : Dev) : (d.putEvidence e).clock = d.clock := rfl
@[simp] theorem Dev.putEvidence_pwr (e : Evidence) (d : Dev) : (d.putEvidence e).pwr = d.pwr := rfl
@[simp] theorem Dev.putEvidence_host (e : Evidence) (d : Dev) : (d.putEvidence e).host = d.host := rfl
@[simp] theorem Dev.putEvidence_start (e : Evidence) (d : Dev) : (d.putEvidence e).start = d.start := rfl
@[simp] theorem Dev.putEvidence_cmds (e : Evidence) (d : Dev) : (d.putEvidence e).cmds = d.cmds := rfl
@[simp] theorem Dev.putEvidence_store (e : Evidence) (d : Dev) : (d.putEvidence e).store = d.store := rfl
@[simp] theorem Dev.putEvidence_waiting (e : Evidence) (d : Dev) : (d.putEvidence e).waiting = d.waiting := rfl
@[simp] theorem Dev.putEvidence_sets (e : Evidence) (d : Dev) : (d.putEvidence e).sets = d.sets := rfl
@[simp] theorem Dev.putEvidence_setLow (e : Evidence) (d : Dev) : (d.putEvidence e).setLow = d.setLow := rfl
@[simp] theorem Dev.putEvidence_jrnl (e : Evidence) (d : Dev) : (d.putEvidence e).jrnl = d.jrnl := rfl
@[simp] theorem Dev.putEvidence_evc (e : Evidence) (d : Dev) : (d.putEvidence e).evc = d.evc := rfl
@[simp] theorem Dev.putEvidence_tmr (e : Evidence) (d : Dev) : (d.putEvidence e).tmr = d.tmr := rfl
@[simp] theorem Dev.putEvidence_lf (e : Evidence) (d : Dev) : (d.putEvidence e).lf = d.lf := rfl
@[simp] theorem Dev.putEvidence_uhf (e : Evidence) (d : Dev) : (d.putEvidence e).uhf = d.uhf := rfl
@[simp] theorem Dev.putEvidence_uwb (e : Evidence) (d : Dev) : (d.putEvidence e).uwb = d.uwb := rfl
@[simp] theorem Dev.putEvidence_atlas (e : Evidence) (d : Dev) : (d.putEvidence e).atlas = d.atlas := rfl
@[simp] theorem Dev.putEvidence_cru (e : Evidence) (d : Dev) : (d.putEvidence e).cru = d.cru := rfl
@[simp] theorem Dev.putEvidence_anvil (e : Evidence) (d : Dev) : (d.putEvidence e).anvil = d.anvil := rfl
@[simp] theorem Dev.putEvidence_tok (e : Evidence) (d : Dev) : (d.putEvidence e).tok = d.tok := rfl
@[simp] theorem Dev.putEvidence_ham (e : Evidence) (d : Dev) : (d.putEvidence e).ham = d.ham := rfl
@[simp] theorem Dev.putEvidence_kw (e : Evidence) (d : Dev) : (d.putEvidence e).kw = d.kw := rfl
@[simp] theorem Dev.putEvidence_nv (e : Evidence) (d : Dev) : (d.putEvidence e).nv = d.nv := rfl
@[simp] theorem Dev.putEvidence_med (e : Evidence) (d : Dev) : (d.putEvidence e).med = d.med := rfl
@[simp] theorem Dev.putEvidence_bg (e : Evidence) (d : Dev) : (d.putEvidence e).bg = d.bg := rfl
@[simp] theorem Dev.putEvidence_free (e : Evidence) (d : Dev) : (d.putEvidence e).free = d.free := rfl

/-! ### Dev.putDecision writes rel -/

@[simp] theorem Dev.putDecision_ident (x : Decision) (d : Dev) : (d.putDecision x).ident = d.ident := rfl
@[simp] theorem Dev.putDecision_clock (x : Decision) (d : Dev) : (d.putDecision x).clock = d.clock := rfl
@[simp] theorem Dev.putDecision_pwr (x : Decision) (d : Dev) : (d.putDecision x).pwr = d.pwr := rfl
@[simp] theorem Dev.putDecision_host (x : Decision) (d : Dev) : (d.putDecision x).host = d.host := rfl
@[simp] theorem Dev.putDecision_start (x : Decision) (d : Dev) : (d.putDecision x).start = d.start := rfl
@[simp] theorem Dev.putDecision_cmds (x : Decision) (d : Dev) : (d.putDecision x).cmds = d.cmds := rfl
@[simp] theorem Dev.putDecision_store (x : Decision) (d : Dev) : (d.putDecision x).store = d.store := rfl
@[simp] theorem Dev.putDecision_waiting (x : Decision) (d : Dev) : (d.putDecision x).waiting = d.waiting := rfl
@[simp] theorem Dev.putDecision_sets (x : Decision) (d : Dev) : (d.putDecision x).sets = d.sets := rfl
@[simp] theorem Dev.putDecision_setLow (x : Decision) (d : Dev) : (d.putDecision x).setLow = d.setLow := rfl
@[simp] theorem Dev.putDecision_jrnl (x : Decision) (d : Dev) : (d.putDecision x).jrnl = d.jrnl := rfl
@[simp] theorem Dev.putDecision_evc (x : Decision) (d : Dev) : (d.putDecision x).evc = d.evc := rfl
@[simp] theorem Dev.putDecision_tmr (x : Decision) (d : Dev) : (d.putDecision x).tmr = d.tmr := rfl
@[simp] theorem Dev.putDecision_lf (x : Decision) (d : Dev) : (d.putDecision x).lf = d.lf := rfl
@[simp] theorem Dev.putDecision_uhf (x : Decision) (d : Dev) : (d.putDecision x).uhf = d.uhf := rfl
@[simp] theorem Dev.putDecision_uwb (x : Decision) (d : Dev) : (d.putDecision x).uwb = d.uwb := rfl
@[simp] theorem Dev.putDecision_atlas (x : Decision) (d : Dev) : (d.putDecision x).atlas = d.atlas := rfl
@[simp] theorem Dev.putDecision_cru (x : Decision) (d : Dev) : (d.putDecision x).cru = d.cru := rfl
@[simp] theorem Dev.putDecision_anvil (x : Decision) (d : Dev) : (d.putDecision x).anvil = d.anvil := rfl
@[simp] theorem Dev.putDecision_tok (x : Decision) (d : Dev) : (d.putDecision x).tok = d.tok := rfl
@[simp] theorem Dev.putDecision_ham (x : Decision) (d : Dev) : (d.putDecision x).ham = d.ham := rfl
@[simp] theorem Dev.putDecision_kw (x : Decision) (d : Dev) : (d.putDecision x).kw = d.kw := rfl
@[simp] theorem Dev.putDecision_nv (x : Decision) (d : Dev) : (d.putDecision x).nv = d.nv := rfl
@[simp] theorem Dev.putDecision_med (x : Decision) (d : Dev) : (d.putDecision x).med = d.med := rfl
@[simp] theorem Dev.putDecision_bg (x : Decision) (d : Dev) : (d.putDecision x).bg = d.bg := rfl
@[simp] theorem Dev.putDecision_free (x : Decision) (d : Dev) : (d.putDecision x).free = d.free := rfl

/-! ### Dev.onSeq writes ham -/

@[simp] theorem Dev.onSeq_ident (q : Nat) (f : Seqr → Seqr) (d : Dev) : (d.onSeq q f).ident = d.ident := by unfold Dev.onSeq; split <;> rfl
@[simp] theorem Dev.onSeq_clock (q : Nat) (f : Seqr → Seqr) (d : Dev) : (d.onSeq q f).clock = d.clock := by unfold Dev.onSeq; split <;> rfl
@[simp] theorem Dev.onSeq_pwr (q : Nat) (f : Seqr → Seqr) (d : Dev) : (d.onSeq q f).pwr = d.pwr := by unfold Dev.onSeq; split <;> rfl
@[simp] theorem Dev.onSeq_host (q : Nat) (f : Seqr → Seqr) (d : Dev) : (d.onSeq q f).host = d.host := by unfold Dev.onSeq; split <;> rfl
@[simp] theorem Dev.onSeq_start (q : Nat) (f : Seqr → Seqr) (d : Dev) : (d.onSeq q f).start = d.start := by unfold Dev.onSeq; split <;> rfl
@[simp] theorem Dev.onSeq_cmds (q : Nat) (f : Seqr → Seqr) (d : Dev) : (d.onSeq q f).cmds = d.cmds := by unfold Dev.onSeq; split <;> rfl
@[simp] theorem Dev.onSeq_store (q : Nat) (f : Seqr → Seqr) (d : Dev) : (d.onSeq q f).store = d.store := by unfold Dev.onSeq; split <;> rfl
@[simp] theorem Dev.onSeq_waiting (q : Nat) (f : Seqr → Seqr) (d : Dev) : (d.onSeq q f).waiting = d.waiting := by unfold Dev.onSeq; split <;> rfl
@[simp] theorem Dev.onSeq_sets (q : Nat) (f : Seqr → Seqr) (d : Dev) : (d.onSeq q f).sets = d.sets := by unfold Dev.onSeq; split <;> rfl
@[simp] theorem Dev.onSeq_setLow (q : Nat) (f : Seqr → Seqr) (d : Dev) : (d.onSeq q f).setLow = d.setLow := by unfold Dev.onSeq; split <;> rfl
@[simp] theorem Dev.onSeq_jrnl (q : Nat) (f : Seqr → Seqr) (d : Dev) : (d.onSeq q f).jrnl = d.jrnl := by unfold Dev.onSeq; split <;> rfl
@[simp] theorem Dev.onSeq_evc (q : Nat) (f : Seqr → Seqr) (d : Dev) : (d.onSeq q f).evc = d.evc := by unfold Dev.onSeq; split <;> rfl
@[simp] theorem Dev.onSeq_tmr (q : Nat) (f : Seqr → Seqr) (d : Dev) : (d.onSeq q f).tmr = d.tmr := by unfold Dev.onSeq; split <;> rfl
@[simp] theorem Dev.onSeq_lf (q : Nat) (f : Seqr → Seqr) (d : Dev) : (d.onSeq q f).lf = d.lf := by unfold Dev.onSeq; split <;> rfl
@[simp] theorem Dev.onSeq_uhf (q : Nat) (f : Seqr → Seqr) (d : Dev) : (d.onSeq q f).uhf = d.uhf := by unfold Dev.onSeq; split <;> rfl
@[simp] theorem Dev.onSeq_uwb (q : Nat) (f : Seqr → Seqr) (d : Dev) : (d.onSeq q f).uwb = d.uwb := by unfold Dev.onSeq; split <;> rfl
@[simp] theorem Dev.onSeq_atlas (q : Nat) (f : Seqr → Seqr) (d : Dev) : (d.onSeq q f).atlas = d.atlas := by unfold Dev.onSeq; split <;> rfl
@[simp] theorem Dev.onSeq_rel (q : Nat) (f : Seqr → Seqr) (d : Dev) : (d.onSeq q f).rel = d.rel := by unfold Dev.onSeq; split <;> rfl
@[simp] theorem Dev.onSeq_cru (q : Nat) (f : Seqr → Seqr) (d : Dev) : (d.onSeq q f).cru = d.cru := by unfold Dev.onSeq; split <;> rfl
@[simp] theorem Dev.onSeq_anvil (q : Nat) (f : Seqr → Seqr) (d : Dev) : (d.onSeq q f).anvil = d.anvil := by unfold Dev.onSeq; split <;> rfl
@[simp] theorem Dev.onSeq_tok (q : Nat) (f : Seqr → Seqr) (d : Dev) : (d.onSeq q f).tok = d.tok := by unfold Dev.onSeq; split <;> rfl
@[simp] theorem Dev.onSeq_kw (q : Nat) (f : Seqr → Seqr) (d : Dev) : (d.onSeq q f).kw = d.kw := by unfold Dev.onSeq; split <;> rfl
@[simp] theorem Dev.onSeq_nv (q : Nat) (f : Seqr → Seqr) (d : Dev) : (d.onSeq q f).nv = d.nv := by unfold Dev.onSeq; split <;> rfl
@[simp] theorem Dev.onSeq_med (q : Nat) (f : Seqr → Seqr) (d : Dev) : (d.onSeq q f).med = d.med := by unfold Dev.onSeq; split <;> rfl
@[simp] theorem Dev.onSeq_bg (q : Nat) (f : Seqr → Seqr) (d : Dev) : (d.onSeq q f).bg = d.bg := by unfold Dev.onSeq; split <;> rfl
@[simp] theorem Dev.onSeq_free (q : Nat) (f : Seqr → Seqr) (d : Dev) : (d.onSeq q f).free = d.free := by unfold Dev.onSeq; split <;> rfl

/-! ### Dev.setKey writes cru -/

@[simp] theorem Dev.setKey_ident (n attr : Nat) (material : Bytes) (d : Dev) : (d.setKey n attr material).ident = d.ident := rfl
@[simp] theorem Dev.setKey_clock (n attr : Nat) (material : Bytes) (d : Dev) : (d.setKey n attr material).clock = d.clock := rfl
@[simp] theorem Dev.setKey_pwr (n attr : Nat) (material : Bytes) (d : Dev) : (d.setKey n attr material).pwr = d.pwr := rfl
@[simp] theorem Dev.setKey_host (n attr : Nat) (material : Bytes) (d : Dev) : (d.setKey n attr material).host = d.host := rfl
@[simp] theorem Dev.setKey_start (n attr : Nat) (material : Bytes) (d : Dev) : (d.setKey n attr material).start = d.start := rfl
@[simp] theorem Dev.setKey_cmds (n attr : Nat) (material : Bytes) (d : Dev) : (d.setKey n attr material).cmds = d.cmds := rfl
@[simp] theorem Dev.setKey_store (n attr : Nat) (material : Bytes) (d : Dev) : (d.setKey n attr material).store = d.store := rfl
@[simp] theorem Dev.setKey_waiting (n attr : Nat) (material : Bytes) (d : Dev) : (d.setKey n attr material).waiting = d.waiting := rfl
@[simp] theorem Dev.setKey_sets (n attr : Nat) (material : Bytes) (d : Dev) : (d.setKey n attr material).sets = d.sets := rfl
@[simp] theorem Dev.setKey_setLow (n attr : Nat) (material : Bytes) (d : Dev) : (d.setKey n attr material).setLow = d.setLow := rfl
@[simp] theorem Dev.setKey_jrnl (n attr : Nat) (material : Bytes) (d : Dev) : (d.setKey n attr material).jrnl = d.jrnl := rfl
@[simp] theorem Dev.setKey_evc (n attr : Nat) (material : Bytes) (d : Dev) : (d.setKey n attr material).evc = d.evc := rfl
@[simp] theorem Dev.setKey_tmr (n attr : Nat) (material : Bytes) (d : Dev) : (d.setKey n attr material).tmr = d.tmr := rfl
@[simp] theorem Dev.setKey_lf (n attr : Nat) (material : Bytes) (d : Dev) : (d.setKey n attr material).lf = d.lf := rfl
@[simp] theorem Dev.setKey_uhf (n attr : Nat) (material : Bytes) (d : Dev) : (d.setKey n attr material).uhf = d.uhf := rfl
@[simp] theorem Dev.setKey_uwb (n attr : Nat) (material : Bytes) (d : Dev) : (d.setKey n attr material).uwb = d.uwb := rfl
@[simp] theorem Dev.setKey_atlas (n attr : Nat) (material : Bytes) (d : Dev) : (d.setKey n attr material).atlas = d.atlas := rfl
@[simp] theorem Dev.setKey_rel (n attr : Nat) (material : Bytes) (d : Dev) : (d.setKey n attr material).rel = d.rel := rfl
@[simp] theorem Dev.setKey_anvil (n attr : Nat) (material : Bytes) (d : Dev) : (d.setKey n attr material).anvil = d.anvil := rfl
@[simp] theorem Dev.setKey_tok (n attr : Nat) (material : Bytes) (d : Dev) : (d.setKey n attr material).tok = d.tok := rfl
@[simp] theorem Dev.setKey_ham (n attr : Nat) (material : Bytes) (d : Dev) : (d.setKey n attr material).ham = d.ham := rfl
@[simp] theorem Dev.setKey_kw (n attr : Nat) (material : Bytes) (d : Dev) : (d.setKey n attr material).kw = d.kw := rfl
@[simp] theorem Dev.setKey_nv (n attr : Nat) (material : Bytes) (d : Dev) : (d.setKey n attr material).nv = d.nv := rfl
@[simp] theorem Dev.setKey_med (n attr : Nat) (material : Bytes) (d : Dev) : (d.setKey n attr material).med = d.med := rfl
@[simp] theorem Dev.setKey_bg (n attr : Nat) (material : Bytes) (d : Dev) : (d.setKey n attr material).bg = d.bg := rfl
@[simp] theorem Dev.setKey_free (n attr : Nat) (material : Bytes) (d : Dev) : (d.setKey n attr material).free = d.free := rfl

/-! ### Dev.putToken writes cru and nv -/

@[simp] theorem Dev.putToken_ident (owner : Option Nat) (n : Nat) (t : TokenSlot) (d : Dev) : (d.putToken owner n t).ident = d.ident := rfl
@[simp] theorem Dev.putToken_clock (owner : Option Nat) (n : Nat) (t : TokenSlot) (d : Dev) : (d.putToken owner n t).clock = d.clock := rfl
@[simp] theorem Dev.putToken_pwr (owner : Option Nat) (n : Nat) (t : TokenSlot) (d : Dev) : (d.putToken owner n t).pwr = d.pwr := rfl
@[simp] theorem Dev.putToken_host (owner : Option Nat) (n : Nat) (t : TokenSlot) (d : Dev) : (d.putToken owner n t).host = d.host := rfl
@[simp] theorem Dev.putToken_start (owner : Option Nat) (n : Nat) (t : TokenSlot) (d : Dev) : (d.putToken owner n t).start = d.start := rfl
@[simp] theorem Dev.putToken_cmds (owner : Option Nat) (n : Nat) (t : TokenSlot) (d : Dev) : (d.putToken owner n t).cmds = d.cmds := rfl
@[simp] theorem Dev.putToken_store (owner : Option Nat) (n : Nat) (t : TokenSlot) (d : Dev) : (d.putToken owner n t).store = d.store := rfl
@[simp] theorem Dev.putToken_waiting (owner : Option Nat) (n : Nat) (t : TokenSlot) (d : Dev) : (d.putToken owner n t).waiting = d.waiting := rfl
@[simp] theorem Dev.putToken_sets (owner : Option Nat) (n : Nat) (t : TokenSlot) (d : Dev) : (d.putToken owner n t).sets = d.sets := rfl
@[simp] theorem Dev.putToken_setLow (owner : Option Nat) (n : Nat) (t : TokenSlot) (d : Dev) : (d.putToken owner n t).setLow = d.setLow := rfl
@[simp] theorem Dev.putToken_jrnl (owner : Option Nat) (n : Nat) (t : TokenSlot) (d : Dev) : (d.putToken owner n t).jrnl = d.jrnl := rfl
@[simp] theorem Dev.putToken_evc (owner : Option Nat) (n : Nat) (t : TokenSlot) (d : Dev) : (d.putToken owner n t).evc = d.evc := rfl
@[simp] theorem Dev.putToken_tmr (owner : Option Nat) (n : Nat) (t : TokenSlot) (d : Dev) : (d.putToken owner n t).tmr = d.tmr := rfl
@[simp] theorem Dev.putToken_lf (owner : Option Nat) (n : Nat) (t : TokenSlot) (d : Dev) : (d.putToken owner n t).lf = d.lf := rfl
@[simp] theorem Dev.putToken_uhf (owner : Option Nat) (n : Nat) (t : TokenSlot) (d : Dev) : (d.putToken owner n t).uhf = d.uhf := rfl
@[simp] theorem Dev.putToken_uwb (owner : Option Nat) (n : Nat) (t : TokenSlot) (d : Dev) : (d.putToken owner n t).uwb = d.uwb := rfl
@[simp] theorem Dev.putToken_atlas (owner : Option Nat) (n : Nat) (t : TokenSlot) (d : Dev) : (d.putToken owner n t).atlas = d.atlas := rfl
@[simp] theorem Dev.putToken_rel (owner : Option Nat) (n : Nat) (t : TokenSlot) (d : Dev) : (d.putToken owner n t).rel = d.rel := rfl
@[simp] theorem Dev.putToken_anvil (owner : Option Nat) (n : Nat) (t : TokenSlot) (d : Dev) : (d.putToken owner n t).anvil = d.anvil := rfl
@[simp] theorem Dev.putToken_tok (owner : Option Nat) (n : Nat) (t : TokenSlot) (d : Dev) : (d.putToken owner n t).tok = d.tok := rfl
@[simp] theorem Dev.putToken_ham (owner : Option Nat) (n : Nat) (t : TokenSlot) (d : Dev) : (d.putToken owner n t).ham = d.ham := rfl
@[simp] theorem Dev.putToken_kw (owner : Option Nat) (n : Nat) (t : TokenSlot) (d : Dev) : (d.putToken owner n t).kw = d.kw := rfl
@[simp] theorem Dev.putToken_med (owner : Option Nat) (n : Nat) (t : TokenSlot) (d : Dev) : (d.putToken owner n t).med = d.med := rfl
@[simp] theorem Dev.putToken_bg (owner : Option Nat) (n : Nat) (t : TokenSlot) (d : Dev) : (d.putToken owner n t).bg = d.bg := rfl
@[simp] theorem Dev.putToken_free (owner : Option Nat) (n : Nat) (t : TokenSlot) (d : Dev) : (d.putToken owner n t).free = d.free := rfl

/-! ### Dev.putKey writes cru and nv -/

@[simp] theorem Dev.putKey_ident (owner : Option Nat) (n attr : Nat) (material : Bytes) (d : Dev) : (d.putKey owner n attr material).ident = d.ident := by
  unfold Dev.putKey; split <;> simp
@[simp] theorem Dev.putKey_clock (owner : Option Nat) (n attr : Nat) (material : Bytes) (d : Dev) : (d.putKey owner n attr material).clock = d.clock := by
  unfold Dev.putKey; split <;> simp
@[simp] theorem Dev.putKey_pwr (owner : Option Nat) (n attr : Nat) (material : Bytes) (d : Dev) : (d.putKey owner n attr material).pwr = d.pwr := by
  unfold Dev.putKey; split <;> simp
@[simp] theorem Dev.putKey_host (owner : Option Nat) (n attr : Nat) (material : Bytes) (d : Dev) : (d.putKey owner n attr material).host = d.host := by
  unfold Dev.putKey; split <;> simp
@[simp] theorem Dev.putKey_start (owner : Option Nat) (n attr : Nat) (material : Bytes) (d : Dev) : (d.putKey owner n attr material).start = d.start := by
  unfold Dev.putKey; split <;> simp
@[simp] theorem Dev.putKey_cmds (owner : Option Nat) (n attr : Nat) (material : Bytes) (d : Dev) : (d.putKey owner n attr material).cmds = d.cmds := by
  unfold Dev.putKey; split <;> simp
@[simp] theorem Dev.putKey_store (owner : Option Nat) (n attr : Nat) (material : Bytes) (d : Dev) : (d.putKey owner n attr material).store = d.store := by
  unfold Dev.putKey; split <;> simp
@[simp] theorem Dev.putKey_waiting (owner : Option Nat) (n attr : Nat) (material : Bytes) (d : Dev) : (d.putKey owner n attr material).waiting = d.waiting := by
  unfold Dev.putKey; split <;> simp
@[simp] theorem Dev.putKey_sets (owner : Option Nat) (n attr : Nat) (material : Bytes) (d : Dev) : (d.putKey owner n attr material).sets = d.sets := by
  unfold Dev.putKey; split <;> simp
@[simp] theorem Dev.putKey_setLow (owner : Option Nat) (n attr : Nat) (material : Bytes) (d : Dev) : (d.putKey owner n attr material).setLow = d.setLow := by
  unfold Dev.putKey; split <;> simp
@[simp] theorem Dev.putKey_jrnl (owner : Option Nat) (n attr : Nat) (material : Bytes) (d : Dev) : (d.putKey owner n attr material).jrnl = d.jrnl := by
  unfold Dev.putKey; split <;> simp
@[simp] theorem Dev.putKey_evc (owner : Option Nat) (n attr : Nat) (material : Bytes) (d : Dev) : (d.putKey owner n attr material).evc = d.evc := by
  unfold Dev.putKey; split <;> simp
@[simp] theorem Dev.putKey_tmr (owner : Option Nat) (n attr : Nat) (material : Bytes) (d : Dev) : (d.putKey owner n attr material).tmr = d.tmr := by
  unfold Dev.putKey; split <;> simp
@[simp] theorem Dev.putKey_lf (owner : Option Nat) (n attr : Nat) (material : Bytes) (d : Dev) : (d.putKey owner n attr material).lf = d.lf := by
  unfold Dev.putKey; split <;> simp
@[simp] theorem Dev.putKey_uhf (owner : Option Nat) (n attr : Nat) (material : Bytes) (d : Dev) : (d.putKey owner n attr material).uhf = d.uhf := by
  unfold Dev.putKey; split <;> simp
@[simp] theorem Dev.putKey_uwb (owner : Option Nat) (n attr : Nat) (material : Bytes) (d : Dev) : (d.putKey owner n attr material).uwb = d.uwb := by
  unfold Dev.putKey; split <;> simp
@[simp] theorem Dev.putKey_atlas (owner : Option Nat) (n attr : Nat) (material : Bytes) (d : Dev) : (d.putKey owner n attr material).atlas = d.atlas := by
  unfold Dev.putKey; split <;> simp
@[simp] theorem Dev.putKey_rel (owner : Option Nat) (n attr : Nat) (material : Bytes) (d : Dev) : (d.putKey owner n attr material).rel = d.rel := by
  unfold Dev.putKey; split <;> simp
@[simp] theorem Dev.putKey_anvil (owner : Option Nat) (n attr : Nat) (material : Bytes) (d : Dev) : (d.putKey owner n attr material).anvil = d.anvil := by
  unfold Dev.putKey; split <;> simp
@[simp] theorem Dev.putKey_tok (owner : Option Nat) (n attr : Nat) (material : Bytes) (d : Dev) : (d.putKey owner n attr material).tok = d.tok := by
  unfold Dev.putKey; split <;> simp
@[simp] theorem Dev.putKey_ham (owner : Option Nat) (n attr : Nat) (material : Bytes) (d : Dev) : (d.putKey owner n attr material).ham = d.ham := by
  unfold Dev.putKey; split <;> simp
@[simp] theorem Dev.putKey_kw (owner : Option Nat) (n attr : Nat) (material : Bytes) (d : Dev) : (d.putKey owner n attr material).kw = d.kw := by
  unfold Dev.putKey; split <;> simp
@[simp] theorem Dev.putKey_med (owner : Option Nat) (n attr : Nat) (material : Bytes) (d : Dev) : (d.putKey owner n attr material).med = d.med := by
  unfold Dev.putKey; split <;> simp
@[simp] theorem Dev.putKey_bg (owner : Option Nat) (n attr : Nat) (material : Bytes) (d : Dev) : (d.putKey owner n attr material).bg = d.bg := by
  unfold Dev.putKey; split <;> simp
@[simp] theorem Dev.putKey_free (owner : Option Nat) (n attr : Nat) (material : Bytes) (d : Dev) : (d.putKey owner n attr material).free = d.free := by
  unfold Dev.putKey; split <;> simp

/-! ### Dev.putNode writes kw and nv -/

@[simp] theorem Dev.putNode_ident (owner : Option Nat) (a : Nat) (n : Node) (d : Dev) : (d.putNode owner a n).ident = d.ident := rfl
@[simp] theorem Dev.putNode_clock (owner : Option Nat) (a : Nat) (n : Node) (d : Dev) : (d.putNode owner a n).clock = d.clock := rfl
@[simp] theorem Dev.putNode_pwr (owner : Option Nat) (a : Nat) (n : Node) (d : Dev) : (d.putNode owner a n).pwr = d.pwr := rfl
@[simp] theorem Dev.putNode_host (owner : Option Nat) (a : Nat) (n : Node) (d : Dev) : (d.putNode owner a n).host = d.host := rfl
@[simp] theorem Dev.putNode_start (owner : Option Nat) (a : Nat) (n : Node) (d : Dev) : (d.putNode owner a n).start = d.start := rfl
@[simp] theorem Dev.putNode_cmds (owner : Option Nat) (a : Nat) (n : Node) (d : Dev) : (d.putNode owner a n).cmds = d.cmds := rfl
@[simp] theorem Dev.putNode_store (owner : Option Nat) (a : Nat) (n : Node) (d : Dev) : (d.putNode owner a n).store = d.store := rfl
@[simp] theorem Dev.putNode_waiting (owner : Option Nat) (a : Nat) (n : Node) (d : Dev) : (d.putNode owner a n).waiting = d.waiting := rfl
@[simp] theorem Dev.putNode_sets (owner : Option Nat) (a : Nat) (n : Node) (d : Dev) : (d.putNode owner a n).sets = d.sets := rfl
@[simp] theorem Dev.putNode_setLow (owner : Option Nat) (a : Nat) (n : Node) (d : Dev) : (d.putNode owner a n).setLow = d.setLow := rfl
@[simp] theorem Dev.putNode_jrnl (owner : Option Nat) (a : Nat) (n : Node) (d : Dev) : (d.putNode owner a n).jrnl = d.jrnl := rfl
@[simp] theorem Dev.putNode_evc (owner : Option Nat) (a : Nat) (n : Node) (d : Dev) : (d.putNode owner a n).evc = d.evc := rfl
@[simp] theorem Dev.putNode_tmr (owner : Option Nat) (a : Nat) (n : Node) (d : Dev) : (d.putNode owner a n).tmr = d.tmr := rfl
@[simp] theorem Dev.putNode_lf (owner : Option Nat) (a : Nat) (n : Node) (d : Dev) : (d.putNode owner a n).lf = d.lf := rfl
@[simp] theorem Dev.putNode_uhf (owner : Option Nat) (a : Nat) (n : Node) (d : Dev) : (d.putNode owner a n).uhf = d.uhf := rfl
@[simp] theorem Dev.putNode_uwb (owner : Option Nat) (a : Nat) (n : Node) (d : Dev) : (d.putNode owner a n).uwb = d.uwb := rfl
@[simp] theorem Dev.putNode_atlas (owner : Option Nat) (a : Nat) (n : Node) (d : Dev) : (d.putNode owner a n).atlas = d.atlas := rfl
@[simp] theorem Dev.putNode_rel (owner : Option Nat) (a : Nat) (n : Node) (d : Dev) : (d.putNode owner a n).rel = d.rel := rfl
@[simp] theorem Dev.putNode_cru (owner : Option Nat) (a : Nat) (n : Node) (d : Dev) : (d.putNode owner a n).cru = d.cru := rfl
@[simp] theorem Dev.putNode_anvil (owner : Option Nat) (a : Nat) (n : Node) (d : Dev) : (d.putNode owner a n).anvil = d.anvil := rfl
@[simp] theorem Dev.putNode_tok (owner : Option Nat) (a : Nat) (n : Node) (d : Dev) : (d.putNode owner a n).tok = d.tok := rfl
@[simp] theorem Dev.putNode_ham (owner : Option Nat) (a : Nat) (n : Node) (d : Dev) : (d.putNode owner a n).ham = d.ham := rfl
@[simp] theorem Dev.putNode_med (owner : Option Nat) (a : Nat) (n : Node) (d : Dev) : (d.putNode owner a n).med = d.med := rfl
@[simp] theorem Dev.putNode_bg (owner : Option Nat) (a : Nat) (n : Node) (d : Dev) : (d.putNode owner a n).bg = d.bg := rfl
@[simp] theorem Dev.putNode_free (owner : Option Nat) (a : Nat) (n : Node) (d : Dev) : (d.putNode owner a n).free = d.free := rfl

end Sys2Proof.Machine
end

