-- ==== Sys2Proof/Laws/Commands.lean ====
section
/-!
SUPPORT. What starting and ending a rung command does: the lemmas a proof about an opcode row cites in place of unfolding the start.
-/

namespace Sys2Proof.Machine

/-- A row that makes no journal record answers what its meaning leaves. -/
theorem settle_same {s t : Dev} (h : t.jrnl.nextNumber = s.jrnl.nextNumber) : Dev.settle s t = t := by simp [Dev.settle, h]

/-- So does one whose records leave the general space of the buffer unfilled, or that ends in journal hold (R144). -/
theorem settle_room {s t : Dev} (h : t.jrnl.hold = true ∨ t.jrnl.buf.length < 960) : Dev.settle s t = t := by
  unfold Dev.settle Dev.holdEntry
  rcases h with h | h
  · simp [h]
  · simp [Nat.not_le.mpr h]

theorem answers_run {i : Instr} {s : State} {f : Dev → Dev} {P : Dev → Prop} (he : exec i s = run f s)
    (hn : (f s.toDev).jrnl.nextNumber = s.jrnl.nextNumber) (h : P (f s.toDev)) : Answers i s P :=
  ⟨_, he, rfl, by simpa [settle_same hn] using h⟩

theorem answers_room {i : Instr} {s : State} {f : Dev → Dev} {P : Dev → Prop} (he : exec i s = run f s)
    (hn : (f s.toDev).jrnl.hold = true ∨ (f s.toDev).jrnl.buf.length < 960) (h : P (f s.toDev)) : Answers i s P :=
  ⟨_, he, rfl, by simpa [settle_room hn] using h⟩

/-- A command that can run, and that a row picks out, goes straight to its own checks and work. -/
theorem startCmd_of_sel {sel : Cmd → Bool} {op tag : Nat} {c : Cmd} {d : Dev} (body : Cmd → Dev → Dev)
    (h : d.canRun op tag c = true) (hs : sel c = true) :
    Dev.startCmd sel tag body d = body (d.started c) (d.markStart c) := by
  simp only [Dev.canRun, Bool.and_eq_true, Bool.not_eq_true', Bool.or_eq_true, beq_iff_eq] at h
  obtain ⟨⟨⟨⟨⟨⟨⟨hc, ho⟩, hr⟩, hm⟩, hp⟩, hl⟩, hk⟩, hx⟩ := h
  have hn : d.check c (d.recordClass c) = none := Option.isNone_iff_eq_none.mp hk
  have hx' : (c.random && !d.anvil.ready) = false := by rcases hx with h | h <;> simp [h]
  simp [Dev.startCmd, hc, hs, hr, hm, hp, hl, hn, hx']

/-- What a start notes of a command leaves its words, its tag and its doorbell as they are. -/
@[simp] theorem started_desc (c : Cmd) (d : Dev) : (d.started c).desc = c.desc := rfl
@[simp] theorem started_payload (c : Cmd) (d : Dev) : (d.started c).payload = c.payload := rfl
@[simp] theorem started_tag (c : Cmd) (d : Dev) : (d.started c).tag = c.tag := rfl
@[simp] theorem started_phase (c : Cmd) (d : Dev) : (d.started c).phase = c.phase := rfl
@[simp] theorem started_sets (c : Cmd) (d : Dev) : (d.started c).sets = d.sets := rfl

theorem op_of_canRun {op tag : Nat} {c : Cmd} {d : Dev} (h : d.canRun op tag c = true) : c.op = op := by
  simp only [Dev.canRun, Bool.and_eq_true, beq_iff_eq] at h
  exact h.1.1.1.1.1.1.2

/-- The same for a row that one opcode starts. -/
theorem startCmd_of_canRun {op tag : Nat} {c : Cmd} {d : Dev} (body : Cmd → Dev → Dev) (h : d.canRun op tag c = true) :
    Dev.startCmd (isOp op) tag body d = body (d.started c) (d.markStart c) :=
  startCmd_of_sel body h (by simp [isOp, op_of_canRun h])

/-- A row leaves the device as it is while its tag names no rung command. -/
theorem startCmd_none {sel : Cmd → Bool} {tag : Nat} {d : Dev} (body : Cmd → Dev → Dev) (h : d.cmd tag = none) :
    Dev.startCmd sel tag body d = d := by simp [Dev.startCmd, h]

/-- A row leaves the device as it is while the command its tag names is another row's, or may not start yet. -/
theorem startCmd_waits {sel : Cmd → Bool} {tag : Nat} {c : Cmd} {d : Dev} (body : Cmd → Dev → Dev) (hc : d.cmd tag = some c)
    (h : (sel c && d.ready c) = false) : Dev.startCmd sel tag body d = d := by simp [Dev.startCmd, hc, h]

/-- A command that may start after its window has closed completes DEADLINE at the close (R117). -/
theorem startCmd_late {sel : Cmd → Bool} {tag : Nat} {c : Cmd} {d : Dev} (body : Cmd → Dev → Dev) (hc : d.cmd tag = some c)
    (h : (sel c && d.ready c) = true) (hm : (c.malformed || d.poisoned c) = false) (hl : d.late c = true) :
    Dev.startCmd sel tag body d = d.expire c := by
  simp only [Bool.or_eq_false_iff] at hm
  simp [Dev.startCmd, hc, h, hm.1, hm.2, hl]

theorem cmd_of_canRun {op tag : Nat} {c : Cmd} {d : Dev} (h : d.canRun op tag c = true) : d.cmd tag = some c := by
  simp only [Dev.canRun, Bool.and_eq_true, beq_iff_eq] at h
  exact h.1.1.1.1.1.1.1

/-- A map that keeps tags keeps which command a tag names. -/
theorem find_map_tag {f : Cmd → Cmd} (hf : ∀ c, (f c).tag = c.tag) (tag : Nat) :
    ∀ cs : List Cmd, (cs.map f).find? (fun c => c.tag == tag) = (cs.find? (fun c => c.tag == tag)).map f
  | [] => rfl
  | c :: cs => by
    by_cases h : (c.tag == tag) = true
    · simp [hf, h]
    · simp only [Bool.not_eq_true] at h
      simp [hf, h, find_map_tag hf tag cs]

theorem cmd_setPhase (tag : Nat) (p : Phase) (d : Dev) :
    (d.setPhase tag p).cmd tag = (d.cmd tag).map (Cmd.into p) := by
  unfold Dev.setPhase Dev.cmd
  rw [find_map_tag (by intro c; split <;> rfl)]
  cases h : d.cmds.find? (fun c => c.tag == tag) with
  | none => rfl
  | some c =>
    have hc : c.tag = tag := by simpa using List.find?_some h
    simp [hc]

theorem cmd_markStart (c : Cmd) (tag : Nat) (d : Dev) :
    (d.markStart c).cmd tag = (d.cmd tag).map (fun b => if b.tag = c.tag then d.started b else b) := by
  unfold Dev.markStart Dev.cmd
  exact find_map_tag (by intro b; split <;> rfl) tag d.cmds

@[simp] theorem Cmd.into_phase (p : Phase) (c : Cmd) : (c.into p).phase = p := rfl

@[simp] theorem Cmd.into_tag (p : Phase) (c : Cmd) : (c.into p).tag = c.tag := rfl

/-- A result set is the result read. -/
theorem ended_finish {tag : Nat} {r : Result} {d : Dev} (h : (d.cmd tag).isSome = true) : (d.finish tag r).ended tag = some r := by
  obtain ⟨c, hc⟩ := Option.isSome_iff_exists.mp h
  simp [Dev.finish, Dev.ended, cmd_setPhase, hc]

theorem ended_reply {tag : Nat} {ws : List Word} {d : Dev} (h : (d.cmd tag).isSome = true) :
    (d.reply tag ws).ended tag = some (.gives .done ws) := ended_finish h

theorem ended_fail {tag : Nat} {st : Status} {d : Dev} (h : (d.cmd tag).isSome = true) :
    (d.fail tag st).ended tag = some (.gives st []) := ended_finish h

theorem working_setPhase {tag : Nat} {w : Work} {d : Dev} (h : (d.cmd tag).isSome = true) :
    (d.setPhase tag (.running w)).working tag = some w := by
  obtain ⟨c, hc⟩ := Option.isSome_iff_exists.mp h
  simp [Dev.working, cmd_setPhase, hc]

theorem markStart_isSome {op tag : Nat} {c : Cmd} {d : Dev} (h : d.canRun op tag c = true) :
    ((d.markStart c).cmd tag).isSome = true := by
  rw [cmd_markStart, cmd_of_canRun h]; rfl

end Sys2Proof.Machine
end

