-- ==== Sys2Proof/Laws/Nv.lean ====
section
/-!
SUPPORT. What the NV store's shared operations can do: dropping page writes, and taking back the records they would have written.
-/

namespace Sys2Proof.Machine

/-- Nothing differs but the units whose records EEPROM keeps: keys, tokens, settings of sequencers, nodes, the atlas, the chain head and the
NV store. -/
def RecordsOnly (d t : Dev) : Prop :=
  t = { d with cru := t.cru, tok := t.tok, ham := t.ham, kw := t.kw, atlas := t.atlas, jrnl := t.jrnl, nv := t.nv }

theorem RecordsOnly.refl (d : Dev) : RecordsOnly d d := rfl

theorem RecordsOnly.trans {a b c : Dev} (h : RecordsOnly a b) (k : RecordsOnly b c) : RecordsOnly a c := by
  unfold RecordsOnly at *
  rw [k, h]

/-- Steps that each keep to those units keep to them together. -/
theorem RecordsOnly.foldl {α : Type} {f : Dev → α → Dev} (hf : ∀ d x, RecordsOnly d (f d x)) :
    ∀ (xs : List α) (d : Dev), RecordsOnly d (xs.foldl f d)
  | [], d => .refl d
  | x :: xs, d => (hf d x).trans (RecordsOnly.foldl hf xs (f d x))

/-- Taking a record back touches its own unit alone. -/
theorem restoreRecord_frame (r : OldRecord) (d : Dev) : RecordsOnly d (d.restoreRecord r) := by cases r <;> rfl

/-- A record written whole by a rewrite that is dropped stands in its own unit. -/
theorem keepRecord_frame (c : Cmd) (d : Dev) : RecordsOnly d (d.keepRecord c) := by
  unfold Dev.keepRecord
  split
  all_goals
    dsimp only
    try split
    all_goals rfl

/-- Dropping page writes touches the queue of page writes and the records it takes back or keeps, and nothing else. -/
theorem nvDrop_frame (p : Option Nat → Bool) (d : Dev) : RecordsOnly d (d.nvDrop p) := by
  unfold Dev.nvDrop
  have taken : ∀ (e : Dev) (u : Undo), RecordsOnly e (Dev.restoreRecord u.record { e with nv := e.nv.seqStep u.page (2 ^ 32 - 1) }) :=
    fun e u => .trans (b := { e with nv := e.nv.seqStep u.page (2 ^ 32 - 1) }) rfl (restoreRecord_frame u.record _)
  dsimp only
  refine .trans ?_ (.foldl (fun e c => keepRecord_frame c e) _ _)
  refine .trans ?_ (.foldl taken _ _)
  rfl

/-- A record's rewrite asks for its page writes behind those that wait. -/
theorem recordWrite_queue (owner : Option Nat) (b a : List Nat) (old : OldRecord) (d : Dev) :
    (d.recordWrite owner b a old).nv.queue = d.nv.queue ++ devWrites owner (b ++ a) := by
  unfold Dev.recordWrite Dev.nvQueue Dev.nvKick Nv.seqStep
  dsimp only
  split <;> rfl

/-- A record's rewrite touches the NV store alone. -/
theorem recordWrite_frame (owner : Option Nat) (b a : List Nat) (old : OldRecord) (d : Dev) :
    d.recordWrite owner b a old = { d with nv := (d.recordWrite owner b a old).nv } := rfl

end Sys2Proof.Machine
end

