-- ==== Sys2Proof/WellFormed.lean ====
section
/-!
DEFINITION. Well-formed commands: every operand lies in the range the spec gives the thing it names. Nothing in the machine rests on it:
a meaning answers on ill-formed operands too.
-/

namespace Sys2Proof

/-- A tag of a rung command: 0–511 (chapter 5). -/
def tagOk (tag : Nat) : Bool := tag < 512

/-- A Hammer sequencer: 0 A, 1 B (chapter 17). -/
def seqOk (seq : Nat) : Bool := seq < 2

/-- A power domain: PD00–PD23 (R53). -/
def domOk (dom : Nat) : Bool := dom < 24

/-- A 16-bit host word given as a number (R5). -/
def wordOk (n : Nat) : Bool := n < 65536

/-- A UHF path, a node trunk or an LF bank: 0 or 1. -/
def pairOk (n : Nat) : Bool := n < 2

/-- A signal-strength code: 10–240, or 0 for no signal (R216). -/
def rssiOk (code : Nat) : Bool := code == 0 || (10 ≤ code && code ≤ 240)

/-- The ladder has 16 steps (R504); only a read that also tried the stripe can be lost. -/
def NandRead.wf (n : NandRead) : Bool := n.step < 16 && (!n.lost || n.stripe)

/-- An EEPROM group lies in the array (R470). -/
def NvError.wf (e : NvError) : Bool := e.addr < 65536

/-- A frame comes in on a path, with codes of R216 and a body of at most 64 bytes (R218). -/
def UhfRx.wf (x : UhfRx) : Bool :=
  1 ≤ x.paths && x.paths ≤ 3 && rssiOk x.rssiA && rssiOk x.rssiB && x.bytes.length ≤ 78

/-- Early energy is a percentage (R249), and a PSDU has at most 127 bytes. -/
def UwbRx.wf (x : UwbRx) : Bool := x.rmarker < 2 ^ 40 && x.early.all (fun e => e.2 ≤ 100) && x.psdu.length ≤ 127

/-- A node frame comes in on a trunk (R436). -/
def NodeRx.wf (x : NodeRx) : Bool := pairOk x.trunk

/-- Every operand in its range. -/
def Instr.wf : Instr → Bool
  | .nop t | .sleepEnter t | .telemetryRead t _ | .pollConfig t | .pollStart t | .pollStop t | .lfWakeLocate t | .lfTelegram t
  | .transponderRead t | .rangeBound t | .uwbConfig t | .proxDecide t | .startLock t | .sessionOpen t
  | .sessionClose t | .policyLoad t | .tokenAuth t | .tokenMemRead t | .tokenMemWrite t | .tokenEnrol t | .tokenRevoke t | .learnBegin t
  | .learnAdd t | .learnCommit t | .keyUpdateStage t | .keyUpdatePrepare t | .keyUpdateCommit t | .keyUpdateDiscard t | .keyGenerate t
  | .keyDerive t | .attestIdentity t | .attestKey t | .sha256 t | .hmacGen t | .hmacVer t | .cmacGen t | .cmacVer t | .cbcEnc t | .cbcDec t
  | .ctrEnc t | .ctrDec t | .gcmEnc t | .gcmDec t | .hkdf t | .ecdsaSign t | .ecdsaVerify t | .ecdhDerive t | .keyWrap t | .keyUnwrap t
  | .random t | .atlasLoad t | .atlasInfo t | .nodePair t | .nodeUnpair t | .nodeGrant t | .nodeRevokeGrant t | .nodeMsg t
  | .nodeScanStatus t | .nodeScanDiscover t | .nodeScanUplinks t | .nvWrite t | .nvRecordAppend t | .nvCounterInc t | .mediaWrite t
  | .mediaDiscard t | .mediaSecureDiscard t | .mediaHealth t | .mediaFlush t | .scriptLoad t | .scriptRun t | .scriptStop t
  | .deadlineClose t | .completionPresented t => tagOk t
  | .selftest t failing => tagOk t && failing < 2 ^ 14
  | .aerialCal t _ faults => tagOk t && faults.all (· < 16)
  | .startRelease t coil => tagOk t && wordOk coil
  | .logRead t n | .logVerify t n | .atlasQuery t n | .atlasCommit t n | .mediaRead t n => tagOk t && n.wf
  | .nvRead t es | .nvRecordRead t es => tagOk t && es.all NvError.wf
  | .pwrreqSelect d | .powerOn d | .powerOff d | .clkGate d | .clkUngate d | .hardLoss d | .deferralWindowClose d | .drainEnd d => domOk d
  | .holdRelease holder d => 1 ≤ holder && holder < 16 && domOk d
  | .fnrst m | .tmrGo m | .tmrHalt m => wordOk m
  | .claim line _ => line < 4
  | .jrnlHeadCapture sel => sel < 8
  | .registerWrite offset _ _ => offset < 256 && offset % 2 == 0
  | .unlockAttempt sig => sig.length == 64
  | .warmReset cause _ => cause < 5
  | .tamperTrip sensor _ _ _ => sensor < 8
  | .doorChange n _ _ => n < 6
  | .wakeInputChange n _ _ => n < 8
  | .gpioChange n _ _ | .gptCompareMatch n => n < 16
  | .watcherLatch entry => entry < 32
  | .tempDerate sensor _ => sensor < 4
  | .aerialFault n b => n < 8 && b < 4
  | .relayFault diag => diag < 128
  | .uhfJam p code _ | .squelchMeasure p code => pairOk p && rssiOk code
  | .uhfUnlock p | .uhfRfFault p => pairOk p
  | .trunkFault k | .replyWindowClose k => pairOk k
  | .dieLost k | .refresh k | .protectionRewrite k => k < 8
  | .uhfFrame x | .pollReply x | .locateReport x | .authM2 x | .memData x | .rangeReady x => x.wf
  | .tpM2 _ depth bytes => depth < 256 && bytes.length == 21
  | .response x | .report x => x.wf
  | .ack x | .pairReply x | .msgUp x | .uplink x | .idle x | .anchorReport x => x.wf
  | .evidenceExpiry i => i < 64
  | .sessionTimeout n => n < 32
  | .grantExpiry a => 1 ≤ a && a < 256
  | .loopPinExpiry n => n ≤ 12
  | .starvationClose unit => unit < 17
  | .functionResetEnd n => n < 14
  | .bellowsPoll noise => rssiOk noise
  | .scrubAtom es => es.all NvError.wf
  | .trimAtom n _ _ _ => n < 8
  | .sampleRead n | .atlasReload n => n.wf
  | .scriptRestore q n | .atlasq q n => seqOk q && n.wf
  | .synthesiserRelock unit => unit < 3
  | .bridgeOvertempClear bank => pairOk bank
  | .uhfrx q rx => seqOk q && rx.all UhfRx.wf
  | .uwbrange q ready resp rep => seqOk q && ready.all UhfRx.wf && resp.all UwbRx.wf && rep.all UwbRx.wf
  | .debugMemoryWrite q space _ _ => seqOk q && space < 4
  | .debugHalt q | .breakpoint q | .singleStep q | .waitevTimeout q | .waittEnd q | .hammerEntry q | .add q | .sub q | .and q | .or q | .xor q
  | .shl q | .shr q | .sar q | .mul q | .mov q | .cmp q | .tst q | .not q | .load q | .store q | .branch q | .call q | .ret q | .jr q
  | .waitev q | .waitt q | .lftx q | .aesn q | .cmacn q | .unitHkdf q | .ecmul q | .ecdsa q | .copy q | .crc q | .halt q | .reti q | .ien q
  | .signal q | .tbread q | .setr q | .setw q | .draw q | .getsrc q | .sysNop q => seqOk q
  | .coldPowerUp _ _ _ dies _ => dies.length ≤ 8
  | .blockAccepted ss | .healthTestFail ss => ss.all (· < 256)
  | .sqPortWrite _ | .doorbell | .stagingDiscard | .cqPortRead _ | .pop | .rewind | .evcDataWrite _ | .setDataWrite _ | .setDataRead _
  | .tbSnapshot | .locknow | .wdtKick _ | .relock _ | .warmRst _ | .holdupTrip _ | .vsupLow _ | .vlfLow _ | .vbatKsLow _ | .vholdLow _
  | .harmChange _ _ | .engineRunChange _ _ | .uwbUnlock | .uwbJam | .uwbRfFault | .listenWindowClose | .uwbWindowClose | .kwewinCycle
  | .relayHoldClose | .learnWindowClose | .watchdogExpiry | .entropyWindowClose | .ratioWindowClose | .spreadChange | .stageChange
  | .dozeEntry | .dozeExit | .parkEntry | .deepEntry | .shelfEntry | .wakePark | .wakeDeep | .completionPayloadEnter | .drbgReady
  | .reseed | .remask | .journalFlush | .chainHeadWrite | .nvPageWriteEnd | .scrubPass | .uwbRetune
  | .offStateTest _ _ | .paritySweep | .sensorSweep _ | .fold | .garbageCollection | .demotion | .holdupTest _ _ | .telemetryRecord
  | .rebuildDone | .mediaReady | .emissionEnd _ _ | .turnaroundWindowClose | .vsupLowClear _ | .vlfLimit _ | .tempDerateClear
  | .vholdCollapse | .hrstNRise => true

end Sys2Proof
end

