-- ==== Sys2Proof/Tests/Slice0.lean ====
section
/-!
SUPPORT. Small tests: an ill-formed command for each check of Sys2Proof/WellFormed.lean, and, for every clause of every statement that
has hypotheses, a concrete state and operands that meet them together.
-/

open Sys2Proof Sys2Proof.Machine

namespace Sys2Proof.Tests

set_option Elab.async false

/-- A die in use. -/
def aDie : Die := { state := 1, mib := 65536, blocks := 4096, spare := 100, retired := 0, refresh := 0, retirals := [], tempBin := 0, endurance := 0 }

/-- A provisioned device in RUN, every domain on, READY, its DRBG ready and its medium in use. -/
def up : State :=
  { State.reset with
    pwr := { Power.reset with dev := .run, doms := List.replicate 24 .on },
    host := { HostIf.reset with ready := true }, start := { Dev.reset.start with cold := false },
    cru := { Crucible.reset with provisioned := true }, anvil := { Anvil.reset with ready := true },
    med := { Media.reset with
      state := .writeBack, through := false, ready := true, dies := aDie :: List.replicate 7 { aDie with state := 0 } } }

/-- A command with tag 7 that has been rung: opcode, words 6 on, payload. -/
def cmd (op : Nat) (ps : List Nat := []) (pay : List Word := []) : Cmd :=
  { tag := 7, desc := fit 16 0 ([word (256 * op), 7, word pay.length, 0, 0, 0] ++ ps.map word), payload := pay, bellTb := 0, bellEsn := 0,
    uOpen := 0, phase := .queued, startTb := 0, lanes := 0, hammer := none, sets := [], begun := false, early := false }

/-- A state whose one command in flight is `c`. -/
def ring (c : Cmd) (s : State) : State := { s with cmds := [c] }

/-- The command with its work under way. -/
def doing (c : Cmd) (w : Work) : Cmd := { c with phase := .running w }

/-- The wake ID and every aerial enabled. -/
def lfUp : State :=
  { up with
    cru := { up.cru with wakeId := 5, keyhdr := some ([], 5, 0) },
    lf := { up.lf with config := some ⟨0xFF, false, false, List.replicate 8 6⟩ } }

/-! ### Well-formedness: for each check an ill-formed command that it refuses -/

theorem test_wf_tag : (Instr.nop 512).wf = false ∧ (Instr.nop 511).wf = true := by decide +kernel
theorem test_wf_seq : (Instr.add 2).wf = false ∧ (Instr.add 1).wf = true := by decide +kernel
theorem test_wf_dom : (Instr.powerOn 24).wf = false ∧ (Instr.powerOn 23).wf = true := by decide +kernel
theorem test_wf_word : (Instr.tmrGo 65536).wf = false ∧ (Instr.tmrGo 65535).wf = true := by decide +kernel
theorem test_wf_pair : (Instr.uhfUnlock 2).wf = false ∧ (Instr.uhfUnlock 1).wf = true := by decide +kernel
theorem test_wf_rssi : (Instr.bellowsPoll 241).wf = false ∧ (Instr.bellowsPoll 9).wf = false ∧ (Instr.bellowsPoll 0).wf = true := by
  decide +kernel
theorem test_wf_nand :
    (Instr.sampleRead ⟨16, 0, false, false⟩).wf = false ∧ (Instr.sampleRead ⟨0, 0, false, true⟩).wf = false ∧
      (Instr.sampleRead ⟨15, 0, true, true⟩).wf = true := by decide +kernel
theorem test_wf_nv_error : (Instr.scrubAtom [⟨65536, false⟩]).wf = false ∧ (Instr.scrubAtom [⟨65535, true⟩]).wf = true := by decide +kernel
theorem test_wf_uhf_rx :
    (Instr.uhfFrame ⟨1, 0, 0, 100, 100, 0, 0, true, []⟩).wf = false ∧ (Instr.uhfFrame ⟨1, 0, 1, 5, 100, 0, 0, true, []⟩).wf = false ∧
      (Instr.uhfFrame ⟨1, 0, 1, 100, 100, 0, 0, true, List.replicate 79 0⟩).wf = false ∧
      (Instr.uhfFrame ⟨1, 0, 3, 240, 10, 0, 0, true, List.replicate 78 0⟩).wf = true := by decide +kernel
theorem test_wf_uwb_rx :
    (Instr.report ⟨0, 1, 1, 0, [(64, 101)], 0, 0, 0, []⟩).wf = false ∧ (Instr.report ⟨2 ^ 40, 1, 1, 0, [], 0, 0, 0, []⟩).wf = false ∧
      (Instr.report ⟨0, 1, 1, 0, [], 0, 0, 0, List.replicate 128 0⟩).wf = false ∧
      (Instr.report ⟨0, 1, 1, 0, [(64, 100)], 0, 0, 0, List.replicate 127 0⟩).wf = true := by decide +kernel
theorem test_wf_node_rx : (Instr.ack ⟨2, []⟩).wf = false ∧ (Instr.ack ⟨1, []⟩).wf = true := by decide +kernel
theorem test_wf_ranges :
    (Instr.selftest 0 (2 ^ 14)).wf = false ∧ (Instr.aerialCal 0 [] [16]).wf = false ∧ (Instr.holdRelease 0 9).wf = false ∧
      (Instr.claim 4 false).wf = false ∧ (Instr.jrnlHeadCapture 8).wf = false ∧ (Instr.registerWrite 3 0 false).wf = false ∧
      (Instr.unlockAttempt []).wf = false ∧ (Instr.warmReset 5 []).wf = false ∧ (Instr.tamperTrip 8 [] false 0).wf = false ∧
      (Instr.doorChange 6 true 0).wf = false ∧ (Instr.wakeInputChange 8 true 0).wf = false ∧ (Instr.gpioChange 16 true 0).wf = false ∧
      (Instr.watcherLatch 32).wf = false ∧ (Instr.tempDerate 4 0).wf = false ∧ (Instr.aerialFault 0 4).wf = false ∧
      (Instr.relayFault 128).wf = false ∧ (Instr.dieLost 8).wf = false ∧ (Instr.tpM2 0 0 []).wf = false ∧
      (Instr.evidenceExpiry 64).wf = false ∧ (Instr.sessionTimeout 32).wf = false ∧ (Instr.grantExpiry 0).wf = false ∧
      (Instr.loopPinExpiry 13).wf = false ∧ (Instr.starvationClose 17).wf = false ∧ (Instr.functionResetEnd 14).wf = false ∧
      (Instr.trimAtom 8 0 0 0).wf = false ∧ (Instr.synthesiserRelock 3).wf = false ∧ (Instr.debugMemoryWrite 0 4 0 []).wf = false ∧
      (Instr.coldPowerUp false false [] (List.replicate 9 ⟨0, 0, 0, true, 0, true, false⟩) true).wf = false := by decide +kernel

/-! ### Time and the system commands -/

theorem witness_step_front :
    let s : State := { up with pending := [.rewind, .pop] }
    s.pending = .rewind :: [.pop] := by decide +kernel

theorem witness_canonical_step :
    let s : State := { up with sets := [(0x010001, 3)], pending := [.rewind] }
    cellsWf settingDefault s.sets = true ∧ s.pending = [.rewind] := by decide +kernel

theorem witness_rewind_steps : step { up with pending := [.rewind] } = .next up := by rfl

theorem witness_time_edge :
    let s : State := { up with clock := { Clock.reset with rho := 511, pos := 3999, depth := 20 } }
    s.pending = [] ∧ s.med.state ≠ .flushing ∧ s.pwr.dev ≠ .shelf ∧ s.clock.rootOn = true ∧ s.clock.rho < 512 ∧ s.clock.pos < 4000 ∧
      s.clock.depth ≤ 20 := by decide +kernel

theorem witness_wait : up.clock.rootOn = true ∧ up.clock.pos < 4000 := by decide +kernel

theorem witness_nop :
    let c := cmd 0x00 [] [1, 2]
    let s := ring c up
    s.canRun 0x00 7 c = true ∧ c.zeroFrom 6 = true := by decide +kernel

theorem witness_sleep_enter :
    let c := cmd 0x01 [4, 1]
    let s := ring c up
    s.canRun 0x01 7 c = true ∧ 1 ≤ c.w 6 ∧ c.w 6 ≤ 4 ∧ c.w 7 ≤ 1 ∧ c.zeroFrom 8 = true := by decide +kernel

theorem witness_selftest :
    let c := cmd 0x02 [2 ^ 14 - 1]
    let s := ring c up
    s.canRun 0x02 7 c = true ∧ c.w 6 < 2 ^ 14 ∧ c.zeroFrom 7 = true ∧ (∃ f, f < 14 ∧ bit f (c.w 6) = true) := by
  refine ⟨by decide +kernel, by decide +kernel, by decide +kernel, 13, by decide +kernel, by decide +kernel⟩

theorem witness_telemetry_read :
    let c := cmd 0x03 [0, 32]
    let s := ring c up
    s.canRun 0x03 7 c = true ∧ 1 ≤ c.w 7 ∧ c.w 6 + c.w 7 ≤ 32 ∧ c.zeroFrom 8 = true ∧ s.lf.aerials.length = 8 := by decide +kernel

/-! ### The journal's reads -/

/-- A journal record with a number and tag. -/
def aRecord (n : Nat) (tag : Bytes) : Record :=
  { number := n, esn := n, epoch := 0, tb := n, origin := 0, cls := 4, unit := 0, subject := 0, old := 0, new := 0, auxTag := 0, auxOp := 0,
    auxCause := 0, auxDetail := 0, tag := tag }

/-- A device whose journal buffer holds records. -/
def logged (rs : List Record) (s : State) : State := { s with jrnl := { s.jrnl with buf := rs, nextNumber := rs.length } }

theorem witness_log_read :
    let c := cmd 0x08 [0, 0, 0, 21]
    let s := ring c (logged [aRecord 0 zeroTag, aRecord 1 zeroTag] up)
    s.canRun 0x08 7 c = true ∧ c.w 9 ≤ 21 ∧ c.zeroFrom 10 = true ∧ s.med.ready = true ∧ 1 ≤ c.w 9 ∧ s.oldest ≤ c.w3 6 ∧
      c.w3 6 < s.jrnl.nextNumber ∧ (ring (cmd 0x08) up).canRun 0x08 7 (cmd 0x08) = true ∧ (cmd 0x08).w 9 = 0 := by decide +kernel

theorem witness_log_verify_zero_tag :
    let c := cmd 0x09 [1, 0, 0, 1]
    let s := ring c (logged [aRecord 0 zeroTag, aRecord 1 zeroTag] up)
    let r := aRecord 1 zeroTag
    s.canRun 0x09 7 c = true ∧ c.w2 9 = 1 ∧ c.zeroFrom 11 = true ∧ s.med.ready = true ∧ s.cru.provisioned = true ∧ s.oldest ≤ c.w3 6 ∧
      c.w3 6 + 1 ≤ s.jrnl.nextNumber ∧
      s.records.filter (fun x => c.w3 6 ≤ x.number) = r :: (s.records.filter (fun x => c.w3 6 ≤ x.number)).tail ∧ r.number = c.w3 6 ∧
      s.outside r.number = false ∧ r.tag = zeroTag := by decide +kernel

/-- Record 0 with the chain tag that goes with it. -/
def chainedRecord : Record := { aRecord 0 zeroTag with tag := [229, 194, 43, 144, 150, 150, 132, 11] }

def chained : State := ring (cmd 0x09 [0, 0, 0, 1]) (logged [chainedRecord] up)

theorem witness_log_verify_chained :
    chained.canRun 0x09 7 (cmd 0x09 [0, 0, 0, 1]) = true ∧ chained.oldest ≤ 0 ∧ 1 ≤ chained.jrnl.nextNumber ∧
      chained.records.filter (fun x => 0 ≤ x.number) = chainedRecord :: (chained.records.filter (fun x => 0 ≤ x.number)).tail ∧
      chainedRecord.number = 0 ∧ chained.outside chainedRecord.number = false ∧ chainedRecord.tag ≠ zeroTag ∧
      chained.chainTag chainedRecord (chained.predecessor chainedRecord) = chainedRecord.tag ∧
      chained.records.find? (fun x => x.number + 1 == 0) = none := by
  decide +kernel

/-! ### The LF field unit -/

theorem witness_poll_commands :
    let c := cmd 0x10 [] ((0x0FF : Word) :: 0 :: List.replicate 8 6)
    (ring c lfUp).canRun 0x10 7 c = true ∧ c.zeroFrom 6 = true ∧ pollConfigOk c.payload = true ∧
      (∀ op ∈ [0x11, 0x12], (ring (cmd op) lfUp).canRun op 7 (cmd op) = true ∧ (cmd op).zeroFrom 6 = true ∧ (cmd op).plen = 0) ∧
      lfUp.lf.emission = none := by decide +kernel

theorem witness_lf_wake_locate :
    let c := cmd 0x13 [0xFF, 128, 2, 1, 0]
    let s := ring c lfUp
    s.lf.emission = none ∧ s.canRun 0x13 7 c = true ∧ c.w 6 < 256 ∧ 32 ≤ c.w 7 ∧ c.w 7 ≤ 128 ∧ c.w 7 % 8 = 0 ∧ c.w 8 ≤ 2 ∧
      c.zeroFrom 11 = true ∧ s.usable (s.maskOf (c.w 6)) ≠ 0 := by decide +kernel

theorem witness_lf_telegram :
    let c := cmd 0x14 [1, 2, 0x50] (List.replicate 8 1)
    let s := ring c lfUp
    s.lf.emission = none ∧ s.canRun 0x14 7 c = true ∧ c.w 7 ≤ 2 ∧ 0x40 ≤ c.w 8 ∧ c.w 8 ≤ 0x50 ∧ c.w 6 < 256 ∧
      c.plen = (c.w 8 - 0x40 + 1) / 2 ∧ c.zeroFrom 9 = true ∧ s.usable (c.w 6) ≠ 0 := by decide +kernel

theorem witness_aerial_cal :
    let c := cmd 0x15 [0xFF, 1]
    let s := ring c lfUp
    s.canRun 0x15 7 c = true ∧ c.w 6 < 256 ∧ c.w 7 ≤ 1 ∧ c.zeroFrom 8 = true ∧ s.lf.emission = none ∧ s.lf.aerials.length = 8 ∧
      (List.range 8).filter (fun n => bit n (c.w 6) && s.domOn (aerialBank n)) ≠ [] := by decide +kernel

/-- An emission under way that ends at 100 on aerials 0 and 7. -/
def emitting (k : Emission) (s : State) : State := { s with lf := { s.lf with emission := some (100, k, 0x81) } }

theorem witness_emission_end :
    let c := doing (cmd 0x13) (.locate 0 0x81 32 0 [])
    let d := doing (cmd 0x13) (.locate 1 0x81 32 0 [])
    let e := doing (cmd 0x14) .telegram
    (emitting .poll up).lf.emission = some (100, .poll, 0x81) ∧ up.lf.aerials.length = 8 ∧ up.hostUp = true ∧ up.clock.pos < 4000 ∧
      up.cmds = [] ∧ bit 7 0x81 = true ∧
      (∀ x ∈ [c, d, e], (ring x (emitting (.command 7) up)).hostUp = true ∧ (ring x (emitting (.command 7) up)).cmd 7 = some x ∧
        (ring x (emitting (.command 7) up)).cmds.find? (fun c => c.op == 0x16 && c.executing) = none) ∧
      e.op = 0x14 ∧ e.phase = .running .telegram ∧ e.window = none ∧ (ring e up).gateStops e = false ∧ (ring e up).writesLeft 7 = false ∧
      up.lf.standbyDue = 0 ∧ ({ ring d up with sets := d.setsAmong up.sets } : Dev).anyPath = true := by decide +kernel

/-- An emission of 32 periods on aerial 7 with no current in it shuts the aerial; one of 31 does not tell. -/
theorem witness_emission_open :
    let s : State := emitting .poll { up with lf := { up.lf with airLen := 32, airIcodes := List.replicate 8 6 } }
    32 ≤ s.lf.airLen ∧ s.evc.cond.getD 63 false = false ∧ 4 * 0 < icodePeak (s.lf.airIcodes.getD 7 0) ∧ up.lf.airLen < 32 := by
  decide +kernel

theorem witness_bellows_poll :
    let s : State := { lfUp with lf := { lfUp.lf with polling := true } }
    let x : PollConfig := ⟨0xFF, false, false, List.replicate 8 6⟩
    s.hostUp = true ∧ s.lf.polling = true ∧ s.lf.config = some x ∧ (s.pollAerials x.rotate).1 ≠ 0 ∧ s.occupants 0 = 0 ∧
      bit 0 s.host.fnBusy = false ∧ s.lf.emission = none ∧ s.domOn 4 = true ∧ s.domGated 4 = false := by decide +kernel

theorem witness_stage_change :
    let s (n : Nat) : State := { lfUp with
      pwr := { up.pwr with dev := .park, sleep := some (2, true) }, clock := { up.clock with rootOn := false },
      lf := { lfUp.lf with polling := true, stage := n } }
    (∀ n ∈ [0, 6], (s n).pwr.dev = .park ∧ (s n).bellows = true ∧ (s n).bg.loops.length = 13) ∧ (s 0).lf.stage ≠ 6 ∧ (s 6).lf.stage = 6 := by
  decide +kernel

theorem witness_aerial_events :
    let c := doing (cmd 0x16) (.telegram)
    let s := ring c lfUp
    s.lf.aerials.length = 8 ∧ s.bg.loops.length = 13 ∧ s.evc.cond.length = 160 ∧ s.hostUp = true ∧ bit 1 (s.aerial 6).diag = false ∧
      s.cmds.find? (fun c => c.op == 0x16 && c.executing) = some c ∧ s.cmd c.tag = some c ∧ c.phase = .running .telegram ∧
      s.evc.cond.getD 63 false = false ∧ s.aerialShut 7 = false ∧ bit 2 (s.aerial 0).diag = false ∧ 0 < s.setting 0x020021 ∧
      s.setting 0x020021 ≤ 65535 := by decide +kernel

theorem witness_trim_atom :
    let s : State := { lfUp with bg := { lfUp.bg with items := lfUp.bg.items.set 1 64 } }
    s.aerialOk 7 = true ∧ s.trimDue 7 = true ∧ (s.loop 8).pinned = false ∧ s.lf.emission = none ∧ s.domOn 4 = true ∧
      bit 0 s.host.fnBusy = false ∧ s.atomBusy 0x02 = false := by decide +kernel

theorem witness_transponder_read :
    let c := cmd 0x16 [0xFF, 30, 1, 0]
    let s := ring c lfUp
    s.canRun 0x16 7 c = true ∧ c.w 6 < 256 ∧ c.w 7 ≤ 30 ∧ c.zeroFrom 10 = true ∧ s.lf.emission = none ∧ s.aerialEn 7 = true ∧
      s.domOn 3 = true ∧ s.aerialShut 7 = false := by decide +kernel

/-- An exchange with the backup transponder at a stage. -/
def aTpRun (stage : Nat) : TpRun := ⟨stage, 6, 10, 0xFFFFFFFF, List.replicate 8 0, 0, 0, 1, 0, 0⟩

theorem witness_tp_m2 :
    let c := doing (cmd 0x16) (.transponder (aTpRun 2))
    let s := ring c up
    s.tpRun = some (c, aTpRun 2) ∧ s.cmd c.tag = some c ∧ (aTpRun 2).stage = 2 ∧ 16 ≤ 15980 * s.lf.airFtw / 2 ^ 27 ∧
      19950 * s.lf.airFtw / 2 ^ 27 < 20 := by decide +kernel

/-! ### Ranging -/

/-- Token 1 is the current authenticated one, in slot 0. -/
def tokenUp : State :=
  { lfUp with
    cru := { lfUp.cru with tokens := { TokenSlot.empty with state := 1, id := 1 } :: List.replicate 31 TokenSlot.empty },
    tok := { lfUp.tok with session := some ⟨0, 1, 63, 0, 0⟩ } }

theorem witness_range_bound :
    let c := cmd 0x20 [0xFF, 9, 65535]
    let s := ring c tokenUp
    s.canRun 0x20 7 c = true ∧ c.w 6 < 256 ∧ c.w 7 = 9 ∧ c.zeroFrom 9 = true ∧ s.lf.emission = none ∧ s.tok.session.isSome = true ∧
      s.uwb.x ≤ 65535 ∧ s.uwbBad = false ∧ s.usable (s.maskOf (c.w 6)) ≠ 0 := by decide +kernel

/-- A range configuration of sixteen words, ten of them ones. -/
def uwbConfigCmd : Cmd := cmd 0x21 [] [1, 1, 1, 1, 1, 1, 1, 1, 1, 1, 0, 0, 0, 0, 0, 0]

theorem witness_uwb_config :
    (ring uwbConfigCmd up).canRun 0x21 7 uwbConfigCmd = true ∧ uwbConfigCmd.zeroFrom 6 = true ∧ uwbConfigCmd.plen = 16 ∧
      (∀ w ∈ uwbConfigCmd.payload.drop 10, w = 0) :=
  ⟨by decide +kernel, by decide +kernel, by decide +kernel, by simp [uwbConfigCmd, cmd]⟩

/-- A ranging exchange at a stage, with replies awaited after 1,000 µs. -/
def aRange (stage : Nat) : RangeRun :=
  { stage := stage, x := 0, chan := 9, sts := 1, pcode := 1, da := 1000, db := 1000, bound := 1000, pollDly := 500, pdoa := 1, stsMin := 160,
    fpTol := 64, earlyWin := 64, earlyMax := 20, cfoMax := 50, cal := [], slot := 0, token := 1, ks := 63, authEsn := 0, accepted := 0,
    base := 0, poll := 0, resp := 0, fin := 0, score := 0, fpDiff := 0, early := 0, cfo := 0, power := 0, az := 0, el := 0 }

/-- A packet at an RMARKER. -/
def aPacket (t : Nat) (psdu : Bytes) : UwbRx := ⟨t, 1, 1, 0, [], 0, 0, 0, psdu⟩

theorem witness_response :
    let c := doing (cmd 0x20) (.range (aRange 2))
    let s := ring c tokenUp
    s.rangeRun = some (c, aRange 2) ∧ s.cmd c.tag = some c ∧ (aRange 2).stage = 2 ∧
      (takeResponse (aPacket (512 * (124800 - 312)) []) (aRange 2)).isSome = true ∧
      (takeResponse (aPacket (512 * (124800 + 624)) []) (aRange 2)).isSome = true ∧
      takeResponse (aPacket (512 * (124800 + 625)) []) (aRange 2) = none ∧
      (takeResponse (aPacket (512 * (124800 - 312)) []) (aRange 2)).all (fun y =>
        !(s.toStamp (aRange 2) y.resp).closedBy c.tag ((aRange 2).clean y.fin / 512)) = true := by decide +kernel

/-- A REPORT of token 1 for exchange 0, its MAC written out. -/
def aReport : Bytes :=
  let m : Bytes := [0xB5, 1, 0, 0, 0, 1, 0, 0] ++ List.replicate 16 0 ++ [213, 116, 41, 86, 221, 98, 12, 214]
  m ++ leBytes 2 (fcs16 m)

/-- A REPORT awaited. -/
def reportAwaited : State := ring (doing (cmd 0x20) (.range (aRange 3))) tokenUp

theorem witness_report :
    reportAwaited.rangeRun = some (doing (cmd 0x20) (.range (aRange 3)), aRange 3) ∧
      reportAwaited.cmd 7 = some (doing (cmd 0x20) (.range (aRange 3))) ∧ (aRange 3).stage = 3 ∧
      (reportAwaited.openReport (aPacket (512 * 124800) aReport) (aRange 3)).isSome = true := by decide +kernel

theorem witness_uwb_faults :
    let c := doing (cmd 0x20) (.range (aRange 2))
    let s := ring c tokenUp
    s.hostUp = true ∧ s.domOn 7 = true ∧ s.domOn 8 = true ∧ s.rangeRun = some (c, aRange 2) ∧ tokenUp.rangeRun = none ∧
      bit 2 tokenUp.host.fnBusy = false ∧ tokenUp.atomBusy 0x04 = false ∧
      ({ tokenUp with bg := { tokenUp.bg with items := tokenUp.bg.items.set 0 80 } } : State).uwbTemp - tokenUp.uwb.tuneTemp = 80 := by
  decide +kernel

/-! ### Token frames -/

/-- A frame of token 1 with sequence byte 1, with a wake MAC written out. -/
def tokenFrame (code : Nat) (body mac : Bytes) : Bytes :=
  let m := [0, 0, 0, 1, 1, byte code, byte body.length] ++ body ++ [0] ++ mac
  m ++ beBytes 2 (crc 16 0x1021 0xFFFF m)

/-- Its reception at stamp 100 on both paths, in the band and modulation of reset. -/
def tokenRx (code : Nat) (body mac : Bytes) : UhfRx := ⟨1, 0, 3, 100, 100, 100, 100, true, tokenFrame code body mac⟩

/-- A command with work `w` that listens for a code, token 1 enrolled. -/
def listens (code : Nat) (w : Work) : State :=
  ring (doing (cmd 0x13) w)
    { tokenUp with uhf := { tokenUp.uhf with windows := [⟨some 7, 0, 50, 101, [code], 1, 0⟩] } }

/-- The state in which nobody listens. -/
def silent : State := tokenUp

/-- MEM_DATA of page 0 with result 0, for memory counter 0. -/
def memBody : Bytes := [0, 0, 0, 0, 30, 87, 38, 66, 83, 47, 127, 6]

def aTokenRun (kind : Nat) : TokenRun :=
  { kind := kind, stage := 1, seq := 0, mask := 1, rate := 0, slot := 0, token := 1, nb := List.replicate 8 0, nt := [], page := 0,
    first := 0, count := 1,
    at_ := 0, tries := 0, data := [], got := [], klm := 0, prio := 0, ticket := 0 }

/-- An unsolicited REPORT of token 1 with a right wake MAC passes the tests; the same frame with a wrong MAC goes nowhere. -/
theorem witness_frame_unawaited :
    silent.hostUp = true ∧ silent.evc.lastEsn.length = 160 ∧
      (silent.hears (tokenRx 1 [] [195, 27, 31, 122])).2 = some ⟨frameOf (tokenFrame 1 [] [195, 27, 31, 122]), 3, some 0, none⟩ ∧
      (silent.hears (tokenRx 1 [] [0, 27, 31, 122])).2 = none := by decide +kernel

def polled : State := { tokenUp with uhf := { tokenUp.uhf with windows := [⟨none, 0, 50, 101, [1], 1, 0⟩] } }

theorem witness_poll_reply :
    (polled.hears (tokenRx 1 [] [195, 27, 31, 122])).2 =
        some ⟨frameOf (tokenFrame 1 [] [195, 27, 31, 122]), 3, some 0, some ⟨none, 0, 50, 101, [1], 1, 0⟩⟩ ∧
      frameCode (tokenFrame 1 [] [195, 27, 31, 122]) = 1 := by decide +kernel

theorem witness_locate_report :
    ((listens 2 (.locate 2 1 32 0xFFFFFFFF [])).hears (tokenRx 2 (List.replicate 24 0) [43, 139, 135, 64])).2 =
        some ⟨frameOf (tokenFrame 2 (List.replicate 24 0) [43, 139, 135, 64]), 3, some 0, some ⟨some 7, 0, 50, 101, [2], 1, 0⟩⟩ ∧
      (listens 2 (.locate 2 1 32 0xFFFFFFFF [])).cmd 7 = some (doing (cmd 0x13) (.locate 2 1 32 0xFFFFFFFF [])) := by decide +kernel

theorem witness_auth_m2 :
    ((listens 3 (.token (aTokenRun 0))).hears (tokenRx 3 (List.replicate 16 0) [178, 180, 106, 127])).2 =
        some ⟨frameOf (tokenFrame 3 (List.replicate 16 0) [178, 180, 106, 127]), 3, some 0, some ⟨some 7, 0, 50, 101, [3], 1, 0⟩⟩ ∧
      (listens 3 (.token (aTokenRun 0))).cmd 7 = some (doing (cmd 0x13) (.token (aTokenRun 0))) ∧ (aTokenRun 0).kind = 0 ∧
      (frameOf (tokenFrame 3 (List.replicate 16 0) [178, 180, 106, 127])).id = (aTokenRun 0).token := by decide +kernel

theorem witness_mem_data :
    ((listens 5 (.token (aTokenRun 2))).hears (tokenRx 5 memBody [207, 14, 7, 25])).2 =
        some ⟨frameOf (tokenFrame 5 memBody [207, 14, 7, 25]), 3, some 0, some ⟨some 7, 0, 50, 101, [5], 1, 0⟩⟩ ∧
      (listens 5 (.token (aTokenRun 2))).cmd 7 = some (doing (cmd 0x13) (.token (aTokenRun 2))) ∧
      (frameOf (tokenFrame 5 memBody [207, 14, 7, 25])).body = memBody ∧ memBody.length = 12 ∧
      (memBody.getD 0 0).toNat = (aTokenRun 2).page ∧ (memBody.getD 1 0).toNat ∈ [0, 1, 2, 4] ∧
      (cmac (listens 5 (.token (aTokenRun 2))).kmm (ascii "MA" ++ idBytes 1 ++ beBytes 4 0 ++ memBody.take 4)).take 8 = memBody.drop 4 := by
  decide +kernel

theorem witness_range_ready :
    ((listens 6 (.range (aRange 1))).hears (tokenRx 6 [0, 0, 0, 0] [117, 75, 254, 219])).2 =
        some ⟨frameOf (tokenFrame 6 [0, 0, 0, 0] [117, 75, 254, 219]), 3, some 0, some ⟨some 7, 0, 50, 101, [6], 1, 0⟩⟩ ∧
      (listens 6 (.range (aRange 1))).cmd 7 = some (doing (cmd 0x13) (.range (aRange 1))) ∧
      (frameOf (tokenFrame 6 [0, 0, 0, 0] [117, 75, 254, 219])).id = (aRange 1).token := by decide +kernel

theorem witness_listen_window_close :
    let s := listens 2 (.locate 2 1 32 0 [])
    s.hostUp = true ∧ s.bg.loops.length = 13 ∧ leastBy Listen.close 0 s.uhf.windows = some (0, 101) ∧ s.clock.pos < 4000 ∧
      s.uhf.windows[0]? = some ⟨some 7, 0, 50, 101, [2], 1, 0⟩ ∧ s.cmd 7 = some (doing (cmd 0x13) (.locate 2 1 32 0 [])) := by decide +kernel

theorem witness_uhf_faults :
    let s : State := { listens 2 (.locate 2 1 32 0 []) with
      uhf := { (listens 2 (.locate 2 1 32 0 [])).uhf with unlocked := [false, true] } }
    s.hostUp = true ∧ s.setting 0x030004 ≤ 240 ∧ 10 < s.setting 0x030004 ∧ s.uhf.jammed.getD 1 false = false ∧
      s.setting 0x030005 * 124800 ≤ 2 ^ 32 ∧ 0 < s.setting 0x030005 * 124800 ∧
      (∃ c ∈ s.cmds, s.uhf.windows.any (fun w => w.tag == some c.tag) = true) ∧ s.domOn 6 = true ∧ (s.loop 10).pinned = false := by
  decide +kernel

/-! ### Decisions, the relay and sessions -/

/-- An ALLOW for zone 0 and token slot 0. -/
def anAllow : Decision := ⟨true, 0, true, 0, 0, 1, 3, ⟨0, 1000000, 0⟩⟩

/-- HARM high, a policy of no rules, and a governing decision. -/
def allowed : State :=
  { tokenUp with
    evc := { tokenUp.evc with level := tokenUp.evc.level.set 24 true },
    rel := { tokenUp.rel with policy := some ⟨1, 1, []⟩, decisions := some anAllow :: List.replicate 15 none } }

theorem witness_prox_decide :
    let c := cmd 0x30 [0xFF00]
    let s := ring c { allowed with atlas := { allowed.atlas with active := some (0, []) } }
    s.canRun 0x30 7 c = true ∧ c.w 6 = 0 + 256 * 0xFF ∧ c.zeroFrom 7 = true ∧ s.rel.policy = some ⟨1, 1, []⟩ ∧ s.enrolled 0 = true ∧
      s.atlas.active.isSome = true := by decide +kernel

theorem witness_policy_load :
    let c := cmd 0x35 [1087, 1] [0]
    let s := ring c { allowed with rel := { allowed.rel with policyStage := List.replicate 1087 0 } }
    s.canRun 0x35 7 c = true ∧ c.w 6 < 1088 ∧ c.w 7 ≤ 1 ∧ c.zeroFrom 8 = true ∧ c.w 6 = s.rel.policyStage.length := by decide +kernel

theorem witness_start_release :
    let c := cmd 0x31
    let s := ring c allowed
    let held : State := { s with rel := { s.rel with relay := .engineHeld } }
    s.canRun 0x31 7 c = true ∧ c.zeroFrom 6 = true ∧ s.harm = true ∧ s.governing 0 = [(0, anAllow)] ∧ s.rel.diag = 0 ∧
      s.rel.relay = .locked ∧ s.setting 0x060001 ≤ s.setting 0x060001 ∧ s.setting 0x060001 < s.setting 0x060002 ∧
      held.canRun 0x31 7 c = true ∧ held.energised = true ∧ held.harm = true ∧ held.governing 0 = [(0, anAllow)] ∧
      (ring c up).canRun 0x31 7 c = true ∧ (ring c up).harm = false ∧ up.governing 0 = [] := by decide +kernel

theorem witness_start_release_denied :
    let c := cmd 0x31
    let s := ring c { allowed with rel := { allowed.rel with decisions := List.replicate 16 none } }
    let f := ring c { allowed with rel := { allowed.rel with diag := 1 } }
    s.canRun 0x31 7 c = true ∧ s.harm = true ∧ s.governing 0 = [] ∧ f.canRun 0x31 7 c = true ∧ f.harm = true ∧
      f.governing 0 = [(0, anAllow)] ∧ f.rel.diag ≠ 0 := by decide +kernel

theorem witness_lock_and_sessions :
    let o := cmd 0x33 [0, 3600]
    let k := cmd 0x34 [31]
    (ring (cmd 0x32) allowed).canRun 0x32 7 (cmd 0x32) = true ∧ (cmd 0x32).zeroFrom 6 = true ∧
      cellsWf (fun _ => Node.empty) allowed.kw.nodes = true ∧ (ring o allowed).canRun 0x33 7 o = true ∧ o.w 6 < 16 ∧ o.w 7 ≤ 3600 ∧
      o.zeroFrom 8 = true ∧ allowed.governing (o.w 6) = [(0, anAllow)] ∧ allowed.rel.sessions.findIdx? Option.isNone = some 0 ∧
      (ring k allowed).canRun 0x34 7 k = true ∧ k.w 6 < 32 ∧ k.zeroFrom 7 = true := by decide +kernel

/-! ### Keys and cryptography -/

/-- A device with one key of a type and uses in slot `n`. -/
def keyed (n ty use : Nat) : State :=
  { up with cru := { up.cru with
      slots := up.cru.slots.set n { KeySlot.empty with
        attr := attrOf use ty 1 true false false false 0 0, material := List.replicate (materialLen ty) 1 } } }

theorem witness_key_generate :
    ∀ n ∈ [63, 0xFE, 0xFF],
      let c := cmd 0x49 [n, 3, 1, 0, 0]
      let s := ring c up
      s.canRun 0x49 7 c = true ∧ s.cru.slots.length = 64 ∧ c.plen = 0 ∧ c.zeroFrom 11 = true ∧ c.w 6 = n ∧
        attrReserved (c.w3 7 + 2 ^ 48 * c.w 10) = false ∧ usesOk (c.w3 7 + 2 ^ 48 * c.w 10) = true := by decide +kernel

theorem witness_key_derive :
    let c := cmd 0x4A [6, 63, 0x40, 2, 0, 0, 128] (List.replicate 64 1)
    let s := ring c (keyed 6 2 0x4F)
    s.canRun 0x4A 7 c = true ∧ s.cru.slots.length = 64 ∧ c.w 6 < 64 ∧ 6 ≤ c.w 7 ∧ c.w 7 < 64 ∧
      attrReserved (c.w3 8 + 2 ^ 48 * c.w 11) = false ∧ 1 ≤ c.w 12 ∧ c.w 12 ≤ 128 ∧ c.plen = (c.w 12 + 1) / 2 ∧ c.zeroFrom 13 = true ∧
      s.keyBad (c.w 6) = false ∧ attrType (s.key (c.w 6)).attr ≠ 0 ∧ bit 6 (attrUse (s.key (c.w 6)).attr) = true ∧
      attrSecure (s.key (c.w 6)).attr = false ∧
      (childAttr (c.w 6) (s.key (c.w 6)).attr (c.w 7) (c.w3 8 + 2 ^ 48 * c.w 11)).isSome = true ∧ s.keyEmpty (c.w 7) = true ∧
      48 ≤ c.w 7 ∧ attrLimit (s.key (c.w 6)).attr = 0 := by decide +kernel

/-- A finished derivation whose page writes have ended, of a key for slot 63. -/
theorem witness_key_presented :
    let c := { cmd 0x4A with phase := .done ⟨.done, [], .key 63 (attrOf 0x40 2 1 false false false false 0 0) (List.replicate 32 1), none, []⟩ }
    let s := ring c up
    s.hostUp = true ∧ s.cmd c.tag = some c ∧ c.op = 0x4A ∧ s.cru.slots.length = 64 ∧ s.writesLeft c.tag = false ∧ s.gateStops c = false ∧
      c.window = none := by decide +kernel

theorem witness_key_update_parts :
    let a := cmd 0x48 [0, 0] [1, 2]
    let d := cmd 0x48 [3]
    (ring a up).canRun 0x48 7 a = true ∧ a.w 6 = 0 ∧ a.zeroFrom 8 = true ∧ (ring d up).canRun 0x48 7 d = true ∧ d.w 6 = 3 ∧
      d.zeroFrom 7 = true ∧ d.plen = 0 := by decide +kernel

/-- A KIND 1 message of one entry, for the UID of zeros. -/
def aMessage : Bytes :=
  [0x4B, 0x55, 0x4D, 0x31, 1, 0, 1, 1] ++ List.replicate 100 0 ++ [96, 0, 0, 0] ++ List.replicate 16 0 ++ List.replicate 176 0

/-- The message staged. -/
def staged : State :=
  ring (cmd 0x48 [1]) { up with cru := { up.cru with stage := bytesToWords aMessage, staging := true } }

theorem witness_key_update_prepare :
    staged.canRun 0x48 7 (cmd 0x48 [1]) = true ∧ (cmd 0x48 [1]).w 6 = 1 ∧ (cmd 0x48 [1]).w 7 = 0 ∧ (cmd 0x48 [1]).zeroFrom 8 = true ∧
      (cmd 0x48 [1]).plen = 0 ∧ staged.cru.tampered = false ∧ staged.cru.prepared = none ∧
      wordsToBytes staged.cru.stage = aMessage ∧ 128 ≤ aMessage.length ∧ aMessage.length = updateLen aMessage ∧
      staged.updateSound aMessage = true ∧ (aMessage.getD 6 0).toNat = 1 ∧ staged.cru.provisioned = true := by decide +kernel

/-- A prepared KIND 1 update of slot 47, committed. -/
def committed : State :=
  { up with cru := { up.cru with
      prepared := some ⟨1, 1, [⟨47, attrOf 1 1 1 false false false false 0 0, List.replicate 16 1⟩], [47], [], []⟩,
      commit := some ⟨1, 1, [], []⟩ } }

theorem witness_roll_forward :
    committed.cru.commit = some ⟨1, 1, [], []⟩ ∧ committed.cru.prepared.map Prepared.kind = some 1 ∧ committed.cru.slots.length = 64 ∧
      committed.cru.prepared.map Prepared.shadows =
        some [⟨47, attrOf 1 1 1 false false false false 0 0, List.replicate 16 1⟩] := by decide +kernel

theorem witness_key_update_commit :
    let c := cmd 0x48 [2]
    let s := ring c committed
    s.canRun 0x48 7 c = true ∧ c.w 6 = 2 ∧ c.zeroFrom 7 = true ∧ c.plen = 0 ∧ s.cru.tampered = false ∧
      s.cru.prepared.map Prepared.kind = some 1 ∧ s.cru.commit.isSome = true ∧ s.cru.slots.length = 64 := by decide +kernel

/-- The state `s` with the record of slot `n` failed. -/
def failedSlot (n : Nat) (s : State) : State :=
  { s with cru := { s.cru with slots := s.cru.slots.set n { s.key n with okA := false, okB := false } } }

theorem witness_failed_slots :
    let a := cmd 0x4B [] (List.replicate 16 0)
    (ring a (failedSlot 2 up)).canRun 0x4B 7 a = true ∧ (ring a (failedSlot 2 up)).keyBad 2 = true ∧ up.keyBad 2 = false ∧
      up.keyBad 5 = false ∧ (failedSlot 5 up).keyBad 5 = true ∧ (failedSlot 1 up).keyBad 1 = true ∧ up.keyBad 1 = false ∧
      (failedSlot 4 up).keyBad 4 = true ∧ up.keyBad 4 = false := by decide +kernel

theorem witness_attestations :
    let a := cmd 0x4B [] (List.replicate 16 0)
    let k := cmd 0x4C [63] (List.replicate 16 0)
    let r := cmd 0x4E [1020]
    a.plen = 16 ∧ (ring a up).canRun 0x4B 7 a = true ∧ a.zeroFrom 6 = true ∧ k.plen = 16 ∧
      (ring k (keyed 63 1 1)).canRun 0x4C 7 k = true ∧ k.w 6 < 64 ∧ k.zeroFrom 7 = true ∧ (keyed 63 1 1).keyBad (k.w 6) = false ∧
        (keyed 63 1 1).keyBad 2 = false ∧
      (ring r up).canRun 0x4E 7 r = true ∧ 1 ≤ r.w 6 ∧ r.w 6 ≤ 1020 ∧ r.zeroFrom 7 = true := by decide +kernel

theorem witness_entropy :
    let cold : State := { up with anvil := { up.anvil with ready := false, cold := true } }
    let hard : State := { up with anvil := { up.anvil with ready := false, requests := 2 ^ 20 } }
    up.hostUp = true ∧ up.domOn 10 = true ∧ up.clock.pos < 4000 ∧ up.anvil.ready = true ∧ up.cru.tampered = false ∧
      up.domDeferred 10 = false ∧ up.anvil.failed = false ∧ up.anvil.failWin = none ∧ cold.hostUp = true ∧
      cold.anvil.blocks.length < 2 ∧ hard.anvil.ready = false ∧ 2 ^ 20 ≤ hard.anvil.requests := by decide +kernel

/-- The last sample of a block and of the start-up test; one sample early; and 41 equal samples, or the 840th of a window of 1,024 (R370).
-/
theorem witness_health :
    let h (p g : Nat) : Health := { Health.reset with passed := p, gathered := g }
    ((h 1023 639).feedAll [3]).map (fun x => (x.passed, x.gathered)) = some (1024, 640) ∧
      ((h 1022 639).feedAll [3]).map (fun x => (x.passed, x.gathered)) = some (1023, 640) ∧
      (Health.reset.feedAll (List.replicate 40 3)).isSome = true ∧ Health.reset.feedAll (List.replicate 41 3) = none ∧
      ({ h 0 0 with first := 3, pos := 1023, same := 839 }).feedAll [3] = none := by decide +kernel

/-- CRYPTO_OP `o` with a key and a whole message. -/
def crypt (o key dlen : Nat) (ps : List Nat) (n : Nat) : Cmd := cmd 0x4D ([o + 256 * key, 0x18, dlen] ++ ps) (List.replicate n 0)

theorem witness_sha256 :
    let c := crypt 1 0 3 [] 2
    let s := ring c up
    s.canRun 0x4D 7 c = true ∧ c.w 6 % 256 = 1 ∧ c.cryptoReserved { multi := true } = false ∧ (s.partContext c).isSome = true ∧
      c.last = true ∧ c.dlen ≤ 2048 ∧ c.plen = (c.dlen + 1) / 2 := by decide +kernel

theorem witness_macs :
    let u : CryptoUse := { multi := true, tlen := true }
    (∀ r ∈ [(2, 4, 32, 2), (3, 4, 16, 3), (4, 1, 4, 2), (5, 2, 16, 3)],
      let c := crypt r.1 6 3 [0, r.2.2.1] ((3 + (if r.1 % 2 = 1 then r.2.2.1 else 0) + 1) / 2)
      let s := ring c (keyed 6 r.2.1 (2 ^ r.2.2.2))
      s.canRun 0x4D 7 c = true ∧ c.cryptoReserved u = false ∧ (s.partContext c).isSome = true ∧ c.last = true ∧ c.w 6 % 256 = r.1 ∧
        c.tlen = r.2.2.1 ∧ c.dlen + c.tlen ≤ 2048 ∧ c.plen = (c.dlen + (if r.1 % 2 = 1 then c.tlen else 0) + 1) / 2 ∧
        s.keyGate c [r.2.1] r.2.2.2 = none) := by decide +kernel

theorem witness_ciphers :
    (∀ r ∈ [(6, 0), (7, 1), (8, 0), (9, 1)],
      let c := crypt r.1 63 960 [] 488
      let s := ring c (keyed 63 2 (2 ^ r.2))
      s.canRun 0x4D 7 c = true ∧ (s.partContext c).isSome = true ∧ c.last = true ∧ c.dlen ≤ 960 ∧
        c.plen = (c.ivBytes 16 + c.dlen + 1) / 2 ∧ c.w 6 % 256 = r.1 ∧ c.cryptoReserved { multi := true } = false ∧ c.dlen % 16 = 0 ∧
        s.keyGate c [1, 2] r.2 = none) := by decide +kernel

theorem witness_gcm :
    let e := crypt 10 6 5 [7, 12] 12
    let d := crypt 11 6 5 [7, 16] 20
    (ring e (keyed 6 1 1)).canRun 0x4D 7 e = true ∧ e.dlen ≤ 960 ∧
      e.cryptoReserved { multi := true, alen := true, tlen := true, ivgen := true } = false ∧
      ((ring e (keyed 6 1 1)).partContext e).isSome = true ∧ e.last = true ∧ e.first = true ∧ e.tlen = 12 ∧
      e.plen = (e.ivBytes 12 + e.alen + e.dlen + 1) / 2 ∧ (keyed 6 1 1).keyGate e [1, 2] 0 = none ∧
      (ring d (keyed 6 1 2)).canRun 0x4D 7 d = true ∧ d.cryptoReserved { alen := true, tlen := true } = false ∧ d.first = true ∧
      d.last = true ∧ d.tlen = 16 ∧ d.plen = (12 + d.alen + d.dlen + d.tlen + 1) / 2 ∧ (keyed 6 1 2).keyGate d [1, 2] 1 = none := by
  decide +kernel

theorem witness_hkdf_and_ecdsa :
    let h := crypt 12 0 256 [256, 256, 0, 1020] 384
    let g := crypt 16 6 1880 [] 940
    let v := crypt 17 0 32 [0, 0, 0x200] 80
    (ring h up).canRun 0x4D 7 h = true ∧ h.first = true ∧ h.last = true ∧ h.cryptoReserved { alen := true, tlen := true, len := true } = false ∧
      h.dlen ≤ 256 ∧ h.alen ≤ 256 ∧ h.tlen ≤ 256 ∧ 1 ≤ h.w 12 ∧ h.w 12 ≤ 1020 ∧ h.plen = (h.alen + h.dlen + h.tlen + 1) / 2 ∧
      (ring g (keyed 6 3 16)).canRun 0x4D 7 g = true ∧ g.cryptoReserved { hashed := true } = false ∧ digestLenOk g = true ∧
      g.plen = (g.dlen + 1) / 2 ∧ (keyed 6 3 16).keyGate g [3] 4 = none ∧
      (ring v up).canRun 0x4D 7 v = true ∧ v.cryptoReserved { hashed := true } = false ∧ digestLenOk v = true ∧
      v.plen = (128 + v.dlen + 1) / 2 := by decide +kernel

theorem witness_ecdh_derive :
    let c := crypt 18 6 64 [1, 1, 63, 0x40, 1] 33
    let s := ring c (keyed 6 3 32)
    s.canRun 0x4D 7 c = true ∧ s.cru.slots.length = 64 ∧ c.first = true ∧ c.last = true ∧ c.w 6 % 256 = 18 ∧
      c.cryptoReserved { alen := true, tlen := true, slot := true, attrs := true } = false ∧ c.alen ≤ 256 ∧ c.tlen ≤ 256 ∧
      c.plen = (64 + c.alen + c.tlen + 1) / 2 ∧ s.keyGate c [3] 5 = none ∧ attrReserved c.attrs = false ∧ s.targetOk c.target = true ∧
      attrType c.attrs = 1 ∧ attrUse c.attrs &&& 0x130 = 0 ∧ usesOk c.attrs = true := by decide +kernel

theorem witness_key_wrap :
    let w := crypt 20 6 0 [0, 0, 7] 0
    let s := ring w (keyed 6 2 0x80)
    s.canRun 0x4D 7 w = true ∧ w.first = true ∧ w.last = true ∧ w.w 6 % 256 = 20 ∧ w.cryptoReserved { slot := true } = false ∧ w.plen = 0 ∧
      s.keyGate w [2] 7 = none ∧ s.keyBad w.target = false := by decide +kernel

theorem witness_key_unwrap :
    let u : Cmd := cmd 0x4D [21 + 256 * 6, 0x18, 0, 0, 0, 63] ((1 : Word) :: 1 :: List.replicate 24 0)
    let s := ring u (keyed 6 2 0x100)
    s.canRun 0x4D 7 u = true ∧ s.cru.slots.length = 64 ∧ u.first = true ∧ u.last = true ∧ u.w 6 % 256 = 21 ∧
      u.cryptoReserved { slot := true } = false ∧ u.plen = (36 + materialLen (attrType (leNat (u.bytes.take 8))) + 1) / 2 ∧
      s.keyGate u [2] 8 = none ∧ s.targetOk u.target = true ∧ attrReserved (leNat (u.bytes.take 8)) = false ∧
      attrType (leNat (u.bytes.take 8)) ≠ 0 ∧ usesOk (leNat (u.bytes.take 8)) = true := by decide +kernel

/-! ### The atlas -/

/-- One query of the raw kind. -/
def aQuery : List Word := List.replicate 36 0

theorem witness_atlas_query :
    let c := cmd 0x60 [1, 1] aQuery
    let s := ring c { up with atlas := { up.atlas with active := some (0, []), loaded := true } }
    s.canRun 0x60 7 c = true ∧ c.w 6 ≤ 1 ∧ c.zeroFrom 8 = true ∧ (queryEntries (c.w 7) c.payload).isSome = true ∧
      s.atlas.active = some (0, []) ∧ s.atlas.loaded = true ∧ (ring c up).canRun 0x60 7 c = true ∧ up.atlas.active = none := by decide +kernel

theorem witness_atlas_load :
    let b := cmd 0x61 [1, 0, 0, 0, 0, 1] [1]
    let n := cmd 0x61 [1, 0, 2, 0, 0, 0] [1]
    let s := ring n { up with atlas := { up.atlas with load := { AtlasLoad.idle with state := 1, image := 1, bytes := [1, 0] } } }
    (ring b up).canRun 0x61 7 b = true ∧ b.w 11 = 1 ∧ b.zeroFrom 12 = true ∧ up.med.ready = true ∧ up.atlas.load.state = 0 ∧ b.w3 8 = 0 ∧
      b.bytes.length < 256 ∧ s.canRun 0x61 7 n = true ∧ n.w 11 = 0 ∧ s.atlas.load.state = 1 ∧ s.atlas.load.verified = false ∧
      n.w2 6 = s.atlas.load.image ∧ n.w3 8 = s.atlas.load.bytes.length ∧ (s.atlas.load.bytes ++ n.bytes).length < 256 ∧
      (ring n up).canRun 0x61 7 n = true ∧ up.atlas.load.state = 0 := by decide +kernel

theorem witness_atlas_commit_and_info :
    ∀ op ∈ [0x62, 0x63], (ring (cmd op) up).canRun op 7 (cmd op) = true ∧ (cmd op).zeroFrom 6 = true := by decide +kernel

/-! ### Tokens -/

theorem witness_token_auth :
    let c := cmd 0x40 [0xFF, 0xFF, 2]
    let e : Evidence := ⟨.lf [] 1, 0, 1, ⟨0, 1000, 0⟩⟩
    let s := ring c { tokenUp with rel := { tokenUp.rel with evidence := tokenUp.rel.evidence.set 0 (some e) } }
    s.canRun 0x40 7 c = true ∧ c.w 6 = 0xFF ∧ c.w 7 < 256 ∧ c.w 8 ≤ 2 ∧ c.zeroFrom 9 = true ∧ s.authSlot (c.w 6) = some 0 ∧
      s.ksSlot = some 63 ∧ s.lf.emission = none ∧ s.tokenBad 0 = false ∧ s.enrolled 0 = true ∧ s.usable (s.maskOf (c.w 7)) ≠ 0 := by
  decide +kernel

theorem witness_token_mem :
    let r := cmd 0x41 [255, 0, 0, 0xFF, 2]
    let w := cmd 0x42 [255, 127, 0, 0xFF, 2] (List.replicate 4 0)
    (ring r tokenUp).canRun 0x41 7 r = true ∧ r.w 6 < 256 ∧ r.w 9 < 256 ∧ r.w 10 ≤ 2 ∧ r.zeroFrom 11 = true ∧
      (ring w tokenUp).canRun 0x42 7 w = true ∧ w.w 8 = 0 ∧ 4 ≤ w.plen ∧ w.plen % 4 = 0 ∧ w.w 7 + w.plen / 4 ≤ 128 ∧
      tokenUp.lf.emission = none ∧ tokenUp.tok.session.isSome = true ∧ tokenUp.usable (tokenUp.maskOf 0xFF) ≠ 0 := by decide +kernel

/-- An admission that is open. -/
def opened : State :=
  { tokenUp with tok := { tokenUp.tok with adm := { Admission.closed with state := 2, kind := 1, klm := 6, win := ⟨0, 1000000, 0⟩ } } }

theorem witness_admissions :
    let l := cmd 0x46 [2, 0, 0xFF, 2]
    (∀ op ∈ [0x43, 0x45], (ring (cmd op) up).canRun op 7 (cmd op) = true ∧ (cmd op).zeroFrom 6 = true) ∧
      (ring l opened).canRun 0x46 7 l = true ∧ l.w 8 < 256 ∧ l.w 9 ≤ 2 ∧ l.zeroFrom 10 = true ∧ opened.lf.emission = none ∧
      opened.admOpen = true := by decide +kernel

theorem witness_revocations :
    let r := cmd 0x44 [31]
    let k := cmd 0x47
    (ring r tokenUp).canRun 0x44 7 r = true ∧ field 14 5 (r.w 6) = 0 ∧ r.zeroFrom 7 = true ∧ (ring k opened).canRun 0x47 7 k = true ∧
      k.zeroFrom 6 = true ∧ k.plen = 0 ∧ opened.admOpen = true ∧ opened.keyBad 1 = false := by decide +kernel

/-! ### Node commands -/

/-- An ACTIVE, synchronised node on trunk 0 with a grant. -/
def aNode : Node :=
  { Node.empty with
    state := 2, type := 2, synced := true, kn := List.replicate 16 0, gnum := 1, grant := some ⟨1, 0xFF, 0, ⟨0, 200, 0⟩⟩ }

/-- Node 5 is paired, and the relay is held. -/
def nodeUp : State :=
  { up with kw := { up.kw with nodes := [(5, aNode)], started := true }, rel := { up.rel with relay := .engineHeld } }

theorem witness_node_pair :
    let c := cmd 0x70 [255, 4 + 256, 0] (List.replicate 32 0)
    let s := ring c nodeUp
    s.canRun 0x70 7 c = true ∧ c.w 6 = 255 ∧ c.w 7 = 4 + 256 * b2n true ∧ c.zeroFrom 9 = true ∧ c.plen = 32 ∧ (s.node 255).state = 0 := by
  decide +kernel

theorem witness_node_unpair_and_revoke :
    (∀ op ∈ [0x71, 0x73], (ring (cmd op [5]) nodeUp).canRun op 7 (cmd op [5]) = true ∧ (cmd op [5]).w 6 ≤ 255 ∧
      (cmd op [5]).zeroFrom 7 = true) ∧ cellsWf (fun _ => Node.empty) nodeUp.kw.nodes = true ∧ (nodeUp.node 5).state ≠ 0 ∧
      (nodeUp.node 5).grant ≠ none := by decide +kernel

theorem witness_node_grant :
    let c := cmd 0x72 [5, 7, 0xFF, 0, 100, 0, 0xFFFF]
    let s := ring c nodeUp
    s.canRun 0x72 7 c = true ∧ c.w 6 ≤ 255 ∧ c.w 7 ≤ 7 ∧ c.w 8 = 0xFF ∧ c.w 12 = 0xFFFF ∧ c.zeroFrom 13 = true ∧
      s.now + 2496000 < near48 s.now (c.w3 9) ∧ near48 s.now (c.w3 9) ≤ s.now + s.setting 0x090001 * 124800000 ∧ s.energised = true := by
  decide +kernel

theorem witness_node_msg_and_scan :
    let m := cmd 0x74 [5, 1, 47] (List.replicate 24 0)
    (ring m nodeUp).canRun 0x74 7 m = true ∧ m.w 6 ≤ 255 ∧ m.w 7 ≤ 1 ∧ m.w 8 ≤ 47 ∧ m.zeroFrom 9 = true ∧ m.plen = (m.w 8 + 1) / 2 ∧
      nodeUp.trunkOk 0 = true ∧
      ∀ n ∈ [0, 1, 2], (ring (cmd 0x75 [n + 256]) nodeUp).canRun 0x75 7 (cmd 0x75 [n + 256]) = true ∧
        (cmd 0x75 [n + 256]).w 6 = n + 256 * b2n true ∧ (cmd 0x75 [n + 256]).zeroFrom 7 = true := by decide +kernel

/-! ### The node bus -/

/-- A frame of node 5 with counter 1 on trunk 0, its MAC written out. -/
def nodeRx (type : Nat) (pay mac : Bytes) : NodeRx := ⟨0, nodeFrame 5 type 1 pay mac⟩

/-- The reply window of a frame of type `sent` to node 5 is open, and a node command with `c.op` awaits it. -/
def awaiting (sent op : Nat) : State :=
  ring (doing (cmd op) (.node (NodeRun.new 5 0 [1, 2, 3, 4, 5] [])))
    { nodeUp with kw := { nodeUp.kw with replies := [⟨0, 5, sent, some 7⟩] } }

theorem witness_ack :
    (awaiting 0 0x74).nodeTakes 8 (nodeRx 8 [] [48, 218, 165, 90]) ⟨0, 5, 0, some 7⟩ 1 = true ∧
      (awaiting 0 0x74).runFor 0x70 5 = none ∧ (awaiting 0 0x74).hostUp = true ∧ (awaiting 0 0x74).evc.lastEsn.length = 160 ∧
      cellsWf (fun _ => Node.empty) (awaiting 0 0x74).kw.nodes = true ∧
      ((awaiting 1 0x72).nodeTaken (nodeRx 8 [] [48, 218, 165, 90]) ⟨0, 5, 1, some 7⟩ 1).grantLate
        (doing (cmd 0x72) (.node (NodeRun.new 5 0 [1, 2, 3, 4, 5] []))) = false ∧
      (∀ r ∈ [(1, 0x72), (2, 0x73), (7, 0x71)], nodeExpects r.1 8 = true ∧
        (awaiting r.1 r.2).runFor r.2 5 = some (doing (cmd r.2) (.node (NodeRun.new 5 0 [1, 2, 3, 4, 5] [])), NodeRun.new 5 0 [1, 2, 3, 4, 5] []) ∧
        (awaiting r.1 r.2).cmd 7 = some (doing (cmd r.2) (.node (NodeRun.new 5 0 [1, 2, 3, 4, 5] [])))) := by decide +kernel

theorem witness_pair_reply :
    let rx : NodeRx := ⟨0, nodeFrame 0 0xC 1 (0x80 :: List.replicate 9 1) [0, 0, 0, 0]⟩
    let c := doing (cmd 0x75) (.node (NodeRun.new 0 0 [0] []))
    let s := ring c { nodeUp with kw := { nodeUp.kw with replies := [⟨0, 0, 6, some 7⟩] } }
    s.nodeFits 0xC rx ⟨0, 0, 6, some 7⟩ = true ∧ s.nodeRun = some (c, NodeRun.new 0 0 [0] []) ∧ s.cmd 7 = some c ∧ c.op = 0x75 ∧
      (nodePay rx).getD 0 0 = 0x80 ∧ (nodePay rx).length = 10 := by decide +kernel

theorem witness_msg_up :
    (awaiting 4 0x74).nodeTakes 0xA (nodeRx 0xA [1, 2] [199, 171, 51, 10]) ⟨0, 5, 4, some 7⟩ 1 = true ∧
      (awaiting 4 0x74).runFor 0x74 5 = some (doing (cmd 0x74) (.node (NodeRun.new 5 0 [1, 2, 3, 4, 5] [])), NodeRun.new 5 0 [1, 2, 3, 4, 5] []) :=
  by decide +kernel

theorem witness_uplink : (awaiting 3 0x74).nodeTakes 9 (nodeRx 9 [0x81, 0, 0, 0, 0] [201, 200, 78, 51]) ⟨0, 5, 3, some 7⟩ 1 = true := by
  decide +kernel

theorem witness_idle : (awaiting 3 0x74).nodeTakes 0xD (nodeRx 0xD [1] [146, 8, 133, 78]) ⟨0, 5, 3, some 7⟩ 1 = true := by decide +kernel

theorem witness_anchor_report :
    (awaiting 3 0x74).nodeTakes 0xB (nodeRx 0xB (List.replicate 11 0) [79, 213, 67, 157]) ⟨0, 5, 3, some 7⟩ 1 = true := by decide +kernel

theorem witness_reply_window_close :
    (awaiting 3 0x74).kw.replies.find? (fun v => v.trunk == 0) = some ⟨0, 5, 3, some 7⟩ ∧ ((awaiting 3 0x74).node 5).state ≠ 0 ∧
      (awaiting 3 0x74).nodeRun.all (fun p => p.1.op != 0x72) = true ∧
      (awaiting 3 0x74).hostUp = true ∧ (awaiting 3 0x74).evc.lastEsn.length = 160 ∧
      cellsWf (fun _ => Node.empty) (awaiting 3 0x74).kw.nodes = true := by decide +kernel

theorem witness_key_window_close :
    let c := doing (cmd 0x70) (.node (NodeRun.new 255 1 [] []))
    let s := ring c { nodeUp with kw := { nodeUp.kw with replies := [⟨1, 0, 6, some 7⟩] } }
    s.kw.replies.find? (fun v => v.trunk == 1) = some ⟨1, 0, 6, some 7⟩ ∧ s.nodeRun = some (c, NodeRun.new 255 1 [] []) ∧ s.cmd 7 = some c ∧
      c.op = 0x70 ∧ (NodeRun.new 255 1 [] []).stage = 0 := by decide +kernel

theorem witness_node_bus :
    nodeUp.kwRuns = true ∧ nodeUp.clock.pos < 4000 ∧ up.kw.started = false ∧ up.kw.replies = [] ∧ nodeUp.trunkFaulted (1 % 2) = false ∧
      (nodeUp.node 5).grant = some ⟨1, 0xFF, 0, ⟨0, 200, 0⟩⟩ := by decide +kernel

/-! ### The NV store -/

/-- Partitions 0x20 RAW, 0x21 TWIN, 0x22 RECORD and 0x23 COUNTER of two pages each, formatted. -/
def nvUp : State :=
  let t : Bytes := [0x20, 0, 0, 3, 2, 0, 0, 0, 0x21, 1, 2, 3, 2, 0, 0, 0, 0x22, 2, 4, 3, 2, 0, 0, 0, 0x23, 3, 6, 3, 2, 0, 0, 0]
  let zeros : List Host.Cell := (List.range 4).map (fun i => (64 * 774 + i, 0)) ++ (List.range 4).map (fun i => (64 * 775 + i, 0))
  { up with nv := { up.nv with table := some (t ++ List.replicate 24 0), cells := zeros } }

/-- Record 1 of partition 0x22 in both its copies. -/
def nvRecorded : State :=
  let p : Partition := ⟨0x22, 2, false, false, 772, 2, 0⟩
  let bs := recBytes (List.replicate 8 1) 1
  { nvUp with nv := { nvUp.nv with cells := cellsWrite 0xFF (p.copyA 1) bs (cellsWrite 0xFF (p.copyB 1) bs nvUp.nv.cells) } }

theorem witness_nv_read :
    ∀ m ∈ [0, 1, 2, 3],
      let c := cmd 0x80 [0x20 + m, 0, 0, if m = 3 then 2 else 24]
      let s := ring c nvUp
      c.w 6 ≠ 0 ∧ c.w 6 < 256 ∧ c.zeroFrom 10 = true ∧ c.plen = 0 ∧ s.canRun 0x80 7 c = true ∧
        s.partition (c.w 6) = some ⟨0x20 + m, m, false, false, 768 + 2 * m, 2, 0⟩ ∧ c.w 9 ≠ 0 ∧ c.w 9 ≤ 1024 ∧ c.w2 7 + c.w 9 ≤ 64 - 8 := by
  decide +kernel

theorem witness_nv_record_read :
    let c := cmd 0x83 [0x22, 1, 0, 1]
    let s := ring c nvRecorded
    let p : Partition := ⟨0x22, 2, false, false, 772, 2, 0⟩
    s.canRun 0x83 7 c = true ∧ s.partition (c.w 6) = some p ∧ p.size ≤ 1024 ∧ c.w 9 = 1 ∧ 1 ≤ c.w2 7 ∧ c.w2 7 ≤ s.newestRec p ∧
      c.w2 7 < 0xFFFFFFFF ∧ s.newestRec p < c.w2 7 + p.ring ∧ c.zeroFrom 10 = true ∧ c.plen = 0 := by decide +kernel

theorem witness_nv_writes :
    let r := cmd 0x81 [0x20, 127, 0, 1024, 1] (List.replicate 512 1)
    let t := cmd 0x81 [0x21, 0, 0, 56, 0] (List.replicate 28 1)
    let a := cmd 0x82 [0x22] (List.replicate 4 1)
    let i := cmd 0x84 [0x23, 1]
    (ring r nvUp).canRun 0x81 7 r = true ∧ r.w 10 ≤ 1 ∧ r.zeroFrom 11 = true ∧ r.plen = (r.w 9 + 1) / 2 ∧
      nvUp.partition (r.w 6) = some ⟨0x20, 0, false, false, 768, 2, 0⟩ ∧ r.w2 7 < 64 * 2 ∧
      (ring t nvUp).canRun 0x81 7 t = true ∧ nvUp.partition (t.w 6) = some ⟨0x21, 1, false, false, 770, 2, 0⟩ ∧ t.w2 7 = 0 ∧ t.w 10 = 0 ∧
      t.w 9 ≠ 0 ∧ t.w 9 ≤ 64 - 8 ∧ t.plen = (t.w 9 + 1) / 2 ∧ nvUp.hostProtected = false ∧
      (ring a nvUp).canRun 0x82 7 a = true ∧ a.zeroFrom 7 = true ∧ nvUp.partition (a.w 6) = some ⟨0x22, 2, false, false, 772, 2, 0⟩ ∧
      a.plen = ((⟨0x22, 2, false, false, 772, 2, 0⟩ : Partition).size - 8) / 2 ∧
      (ring i nvUp).canRun 0x84 7 i = true ∧ i.zeroFrom 8 = true ∧ i.plen = 0 ∧
      nvUp.partition (i.w 6) = some ⟨0x23, 3, false, false, 774, 2, 0⟩ ∧ i.w 7 < 2 ∧ nvUp.counterNow (64 * 774 + 64) = some 0 := by decide +kernel

/-! ### The media -/

/-- A formatted medium with a profile volume of 16 MiB. -/
def medUp : State := { up with med := { up.med with formatted := true, userUnits := 1000, profMib := 16, atlasMib := 16 } }

theorem witness_media_commands :
    let r := cmd 0x88 [4, 0, 0, 0, 1024]
    let w := cmd 0x89 [4, 512, 0, 0, 2048, 1] (List.replicate 1024 1)
    let d := cmd 0x8A [4, 4096, 0, 0, 4096, 0, 0]
    let e := cmd 0x8B [4, 4096, 0, 0, 4096, 0, 0]
    medUp.med.ready = true ∧ (ring r medUp).canRun 0x88 7 r = true ∧ r.vol < 8 ∧ r.off % 2 = 0 ∧ 2 ≤ r.w 10 ∧ r.w 10 ≤ 1024 ∧
      r.w 10 % 2 = 0 ∧ r.zeroFrom 11 = true ∧ r.plen = 0 ∧ r.off + r.w 10 ≤ medUp.med.size r.vol ∧
      (ring w medUp).canRun 0x89 7 w = true ∧ w.vol < 8 ∧ w.off % 512 = 0 ∧ 1 ≤ w.w 10 ∧ w.w 10 ≤ 2048 ∧ w.w 10 % 512 = 0 ∧ w.w 11 ≤ 1 ∧
      w.zeroFrom 12 = true ∧ w.plen = w.w 10 / 2 ∧ medUp.roomFor 1 = true ∧ medUp.diesUsed ≠ 0 ∧
      (ring d medUp).canRun 0x8A 7 d = true ∧ (ring e medUp).canRun 0x8B 7 e = true ∧ d.vol = 4 ∧ d.off % 4096 = 0 ∧ d.w3 10 % 4096 = 0 ∧
      d.zeroFrom 13 = true ∧ d.plen = 0 := by decide +kernel

theorem witness_media_health_and_flush :
    (∀ op ∈ [0x8C, 0x8D], (ring (cmd op) medUp).canRun op 7 (cmd op) = true ∧ (cmd op).zeroFrom 6 = true ∧ (cmd op).plen = 0 ∧ (cmd op).vol < 8) ∧
      medUp.dom 15 = .on ∧ medUp.jrnl.hold = false ∧ medUp.jrnl.v2.length + medUp.jrnl.buf.length < v2Capacity := by decide +kernel

/-! ### Scripts -/

/-- One instruction word of R406. -/
def hw (cls op d a b : Nat) (x : Bool) (i : Nat) : Nat := cls * 2 ^ 28 + op * 2 ^ 24 + d * 2 ^ 20 + a * 2 ^ 16 + b * 2 ^ 12 + b2n x * 2048 + i

/-- The word of R406's example, ADD W3, W1, #100. -/
theorem test_instruction_word :
    hWordOf 0x10310064 0 = ⟨1, 0, 3, 1, 0, false, 100, 0⟩ ∧ hw 1 0 3 1 0 false 100 = 0x10310064 := by decide +kernel

def aScript : Script :=
  { id := 1, seq := 0, signer := 0, secure := false, settings := true, banks := 1, entry := 0, handler := some 8, codeLen := 64, data := [] }

/-- Hammer A runs a script of these words, with these bytes in its bank and W1 = `w1`. -/
def running (ws : List Nat) (bank : Bytes) (w1 : Nat) : State :=
  { tokenUp with ham := { tokenUp.ham with
      banks := (indexedFrom 0 bank).filter (fun c => c.2 != 0),
      a := { tokenUp.ham.a with
        running := some 7, claimed := 1, image := some aScript, w := (List.replicate 16 (0 : BitVec 32)).set 1 (BitVec.ofNat 32 w1),
        iram := (indexedFrom 0 (ws.flatMap (leBytes 4))).filter (fun c => c.2 != 0) } } }

theorem witness_script_commands :
    let l := cmd 0x90 [1, 0, 0] [1, 2]
    let r := cmd 0x91 [0, 0, 0]
    let k := cmd 0x92 [1]
    let s := ring r { up with ham := { up.ham with storedA := some [], a := { up.ham.a with image := some aScript } } }
    (ring l up).canRun 0x90 7 l = true ∧ l.w 6 = 1 ∧ l.w 8 = 0 ∧ l.zeroFrom 9 = true ∧ s.canRun 0x91 7 r = true ∧ r.w 6 = 0 ∧
      r.zeroFrom 9 = true ∧ s.runWaits 0 = false ∧ (s.stored 0).isSome = true ∧ (s.seqr 0).restoreFailed = false ∧
      (s.seqr 0).image = some aScript ∧ aScript.secure = false ∧ aScript.banks &&& (s.seqr 1).claimed = 0 ∧
      (ring k up).canRun 0x92 7 k = true ∧ k.w 6 = 1 ∧ k.zeroFrom 7 = true ∧ (ring k up).loadedRuns 1 = false := by decide +kernel

/-- The test port unlocked. -/
def unlocked (s : State) : State := { s with host := { s.host with dbgUnlocked := true, dbgAllow := true } }

theorem witness_debug :
    let s := unlocked (running [hw 7 9 0 0 0 false 0] [] 0)
    let h : State := { s with ham := { s.ham with a := { s.ham.a with halted := true } } }
    let r : State := { s with ham := { s.ham with a := { s.ham.a with rom := true } } }
    let b : State := { s with ham := { s.ham with a := { s.ham.a with breakpoints := [0] } } }
    s.hostUp = true ∧ s.anvil.ready = true ∧ s.host.dbgUnlocked = true ∧ (s.seqr 0).halted = false ∧ (s.seqr 0).rom = false ∧
      (s.seqr 0).secure = false ∧ (r.seqr 0).rom = true ∧ b.scriptRuns 0 = true ∧ (b.seqr 0).breakpoints.contains (b.seqr 0).pc = true ∧
      b.host.dbgUnlocked = true ∧ (b.seqr 0).secure = false ∧ h.host.dbgUnlocked = true ∧
      (h.seqr 0).halted = true ∧
      (h.onSeq 0 (fun u => { u with halted := false, breakpoints := [] })).atWord 0 7 9 = true ∧
      (h.seqr 0).inData 0xFF0 16 = true ∧ cellsWf (fun _ => (0 : Byte)) h.ham.banks = true := by decide +kernel

/-! ### Power requests, ports and windows -/

theorem witness_domain_requests :
    let on : State := { up with pwr := { up.pwr with doms := (up.pwr.doms.set 23 .off).set 5 .gated } }
    let held : State := { up with pwr := { up.pwr with holds := [⟨3, 10⟩] } }
    up.hostUp = true ∧ up.pwr.doms.length = 24 ∧ (∀ a ∈ [1, 2, 3, 4], up.requestBarred 20 a = true ∧ up.requestBarred 23 a = false ∧
      held.requestBarred 10 a = false) ∧ on.dom 23 = .off ∧ on.dom 5 = .gated ∧ held.domDeferred 10 = false ∧ held.domOn 10 = true ∧
      held.dom 10 ≠ .drain ∧ held.domHeld 10 = true := by decide +kernel

theorem witness_host_ports :
    let full : State := { up with cmds := List.replicate 512 (cmd 0x00) }
    let rung : State := { up with host := { up.host with staged := [0x0300, 511] ++ List.replicate 14 0 } }
    up.hostUp = true ∧ up.host.staged.length < 1040 ∧ full.hostUp = true ∧ full.sqFree = 0 ∧ rung.hostUp = true ∧ rung.sqFree ≠ 0 ∧
      rung.stagedBad = false ∧ bit 3 (rung.host.staged.getD 0 0).toNat = false ∧ rung.pwr.sleep = none ∧ rung.cmds = [] ∧ rung.store = [] := by
  decide +kernel

theorem witness_evc_window :
    let s : State := { up with host := { up.host with evcAddr := 0x9F } }
    let l : State := { s with evc := { s.evc with lock := true } }
    s.hostUp = true ∧ s.evc.srcCfg.length = 160 ∧ s.host.evcAddr.toNat % 4096 = 0x9F ∧ s.judgeEvc 0x9F 0 = 0 ∧ l.hostUp = true ∧
      l.judgeEvc 0x9F 0 = 1 := by decide +kernel

theorem witness_settings_window :
    let s : State := { up with host := { up.host with setAddrLo := 0x0006, setAddrHi := 0x0002 } }
    let l : State := { s with sets := [(0x000000, 4)] }
    s.hostUp = true ∧ (settingRow s.setAddr).map (fun r => (r.addr, r.words)) = some (0x020006, 1) ∧ s.setAddr = 0x020006 ∧
      ((settingRow s.setAddr).map SettingRow.lock ≠ some 1) ∧ loopAt 0x020006 = none ∧ s.judge false 0x020006 64 = 0 ∧
      (settingRow s.setAddr).all (fun r => decide (r.addr / 65536 ≠ 0x0C)) = true ∧ s.judge false 0x020006 1 ≠ 4 ∧
        s.judge false 0x020006 1 ≠ 0 ∧ l.judge false 0x020006 64 = 1 := by decide +kernel

theorem witness_timers :
    let go : State := { up with tmr := up.tmr.set 0 { Channel.reset with run := true } }
    up.hostUp = true ∧ up.tmr.length = 16 ∧ up.judge false 0x0C0200 0xFFFF = 0 ∧ go.judge false 0x0C0201 1 = 0 ∧ go.hostUp = true ∧
      (∀ n < 16, up.tmrPast n = false ∧ go.tmrPast n = false) := by decide +kernel

theorem witness_register_writes :
    let s : State := { up with host := { up.host with wdtCfg := 0x8001, wdtWin := some ⟨0, 124800, 0⟩ } }
    s.hostUp = true ∧ s.host.wdtWin.any s.reached = false ∧ field 13 12 s.host.wdtCfg.toNat = 0 ∧ (0 : Word) ≠ 0x6B2E ∧
      bit 14 ({ s.host with wdtCfg := 0xC001 }).wdtCfg.toNat = true := by decide +kernel

theorem witness_warm_resets :
    let h : State := { up with
      start := { up.start with waitHrst := true }, clock := { up.clock with rootOn := false }, pwr := { up.pwr with dev := .starting } }
    up.hostUp = true ∧ up.start.due = none ∧ up.rel.sessions.length = 32 ∧ up.anvil.reserve = none ∧ 0x3FFF < 0x4000 ∧ up.host.fnBusy = 0 ∧
      h.start.waitHrst = true ∧ h.start.due = none ∧ h.clock.rootOn = false ∧ h.anvil.reserve = none := by decide +kernel

/-! ### Instructions -/

theorem witness_alu :
    ∀ op < 13, ∀ cls < 2,
      (running [hw cls op (if op = 10 ∨ op = 11 then 0 else 3) (if op = 9 ∨ op = 12 then 0 else 1) 0 false (if cls = 1 then 2047 else 0)] [] 0
        ).atWord 0 cls op = true := by decide +kernel

theorem witness_loads_and_stores :
    ∀ op < 3, ∀ cls ∈ [2, 3],
      let s (w1 : Nat) := running [hw cls op 3 1 0 false 0] [] w1
      let n := [4, 2, 1].getD op 0
      (s (0x1000 - n)).atWord 0 cls op = true ∧ (0x1000 - n) % n = 0 ∧ ((s 0).seqr 0).inData (0x1000 - n) n = true ∧
        ((s 0).seqr 0).writable (0x1000 - n) n = true ∧ ((s 0).seqr 0).inData 0x1000 n = false ∧
        ((s 0).seqr 0).inData 0x103FC n = true ∧ (op < 2 → 1 % n ≠ 0) := by decide +kernel

theorem witness_branches :
    (∀ op < 10, (running [hw 4 op 0 0 0 false 15] [] 0).atWord 0 4 op = true) ∧
      (running [hw 4 10 0 0 0 false 0] [] 0).atWord 0 4 10 = true ∧ (running [hw 4 11 0 1 0 false 0] [] 64).atWord 0 4 11 = true ∧
      ((running [] [] 0).seqr 0).codeLen = 64 := by decide +kernel

theorem witness_waits :
    let e := running [hw 5 0 3 0 1 false 128] [] 1000
    let p : State := { e with evc := { e.evc with pendA := e.evc.pendA.set 128 (some 0) } }
    let w := e.onSeq 0 (fun u => { u with wait := some ⟨0, 1000, 0⟩ })
    let t := running [hw 5 1 0 1 0 false 0] [] 1000
    e.atWord 0 5 0 = true ∧ (e.seqr 0).wait = none ∧ (e.seqr 0).num 1 ≠ 0 ∧ (e.seqr 0).fetch.b = 1 ∧ (e.seqr 0).fetch.iBits = 128 ∧
      (p.pendOf 0).getD 128 none = some 0 ∧ 0 < p.now + 1000 ∧ (e.pendOf 0).getD 128 none = none ∧
      w.atWord 0 5 0 = true ∧ (w.seqr 0).wait = some ⟨0, 1000, 0⟩ ∧ t.atWord 0 5 1 = true ∧ (t.seqr 0).wait = none ∧
      (t.onSeq 0 (fun u => { u with wait := some ⟨0, 1000, 0⟩ })).atWord 0 5 1 = true := by decide +kernel

theorem witness_sys :
    (∀ i < 4, (running [hw 7 0 0 1 0 false i] [] 512).atWord 0 7 0 = true) ∧ (running [hw 7 1 0 0 0 false 0] [] 0).atWord 0 7 1 = true ∧
      (running [hw 7 2 0 0 0 false 1] [] 0).atWord 0 7 2 = true ∧ (running [hw 7 3 0 0 0 false 3] [] 0).atWord 0 7 3 = true ∧
      (running [hw 7 3 0 0 0 false 3] [] 0).hostUp = true ∧ (running [hw 7 4 2 0 0 false 0] [] 0).atWord 0 7 4 = true ∧
      (running [hw 7 5 3 1 0 false 0] [] 0).atWord 0 7 5 = true ∧ (running [hw 7 8 3 0 0 false 0] [] 0).atWord 0 7 8 = true ∧
      (running [hw 7 9 0 0 0 false 0] [] 0).atWord 0 7 9 = true := by decide +kernel

theorem witness_hammer_entry :
    let r := running [] [] 0
    let s : State := { r with evc := { r.evc with pendA := r.evc.pendA.set 128 (some 0) } }
    let s := s.onSeq 0 (fun u => { u with flags := 16 })
    s.clock.pos < 4000 ∧ (s.seqr 0).image.bind Script.handler = some 8 ∧ s.offered 0 = some 128 ∧ s.scriptRuns 0 = true ∧
      bit 4 (s.seqr 0).flags = true ∧ (s.seqr 0).awaits = none := by decide +kernel

theorem witness_setw_and_draw :
    let s := running [hw 7 6 3 1 0 false 0] [] 0x020006
    let d := running [hw 7 7 3 1 2 false 0] [] 0
    let d := d.onSeq 0 (fun u => u.setReg 2 4)
    s.hostUp = true ∧ s.atWord 0 7 6 = true ∧ (settingRow ((s.seqr 0).num 1 % 2 ^ 24)).map SettingRow.addr = some 0x020006 ∧
      ((settingRow 0x020006).all (fun r => decide (r.addr / 65536 ≠ 0x0C ∧ r.lock ≠ 1 ∧ r.words = 1))) = true ∧ loopAt 0x020006 = none ∧
      d.atWord 0 7 7 = true ∧ (d.seqr 0).secure = false ∧ (d.seqr 0).num 2 = 4 ∧ (d.seqr 0).writable ((d.seqr 0).num 1) 4 = true ∧
        d.dom 9 = .on ∧ d.dom 10 = .on ∧
      bit 3 d.host.fnBusy = false ∧ d.anvil.ready = true := by decide +kernel

/-- A unit operation with its parameter block, in little-endian words, at the start of the bank. -/
def unitCall (op : Nat) (ps : List Nat) : State := running [hw 6 op 3 1 0 false 0] (ps.flatMap (leBytes 4)) 0

theorem witness_units_off :
    ∀ op ∈ [0, 1, 2, 3, 4, 5, 6, 7, 8],
      let s : State := { unitCall op [] with pwr := { up.pwr with doms := List.replicate 24 .off |>.set 11 .on } }
      s.atWord 0 6 op = true ∧ ((s.seqr 0).num 1) % 4 = 0 ∧ (s.seqr 0).inData ((s.seqr 0).num 1) 32 = true ∧
        [4, 5, 6, 7, 8, 9, 10, 13, 14].any (fun k => !s.domOn k) = true := by decide +kernel

theorem witness_copy_and_crc :
    let c := unitCall 9 [0, 2048, 2048]
    let o := unitCall 9 [0, 1, 2]
    let k := unitCall 10 [1, 0, 4, 100]
    c.unitReady 0 9 3 [] [] = true ∧ c.param 0 3 2 ≤ 16384 ∧ c.param 0 3 0 + c.param 0 3 2 ≤ c.param 0 3 1 ∧ (c.seqr 0).inData 0 2048 = true ∧
      (c.seqr 0).writable 2048 2048 = true ∧ o.unitReady 0 9 3 [] [] = true ∧ o.param 0 3 0 < o.param 0 3 1 + o.param 0 3 2 ∧
      o.param 0 3 1 < o.param 0 3 0 + o.param 0 3 2 ∧ k.unitReady 0 10 4 [] [] = true ∧ k.param 0 4 0 ≤ 1 ∧ (k.seqr 0).inData 0 4 = true ∧
      (k.seqr 0).writable 100 2 = true := by decide +kernel

theorem witness_atlasq :
    let s := unitCall 8 [256, 512, 1]
    let e := (queryEntries 1 (bytesToWords (s.dataRead 0 256 72))).getD []
    s.unitReady 0 8 3 [13, 14] [] = true ∧ (s.seqr 0).inData 256 72 = true ∧ e.length = 1 ∧ e.all (fun x => !x.fromEvidence) = true ∧
      s.param 0 3 2 ≤ 1 ∧ e.all (fun x => (s.seqr 0).writable 512 (4 + 10 * x.k)) = true ∧ s.atlas.active = none := by decide +kernel

theorem witness_atlasq_loaded :
    let s : State := { unitCall 8 [256, 512, 1] with atlas := { up.atlas with active := some (0, []), loaded := true } }
    let e := (queryEntries 1 (bytesToWords (s.dataRead 0 256 72))).getD []
    let r := s.scanLists [] true e ⟨0, 0, false, false⟩
    s.unitReady 0 8 3 [13, 14] [] = true ∧ bit 7 s.host.fnBusy = false ∧ r.1 = none ∧ r.2.ham = s.ham := by decide +kernel

/-- A key of a type and with USE bits in slot 63. -/
def withKey (ty use : Nat) (s : State) : State :=
  { s with cru := { s.cru with
      slots := s.cru.slots.set 63 { KeySlot.empty with
        attr := attrOf use ty 1 false false false false 0 0, material := List.replicate (materialLen ty) 1 } } }

theorem witness_aesn :
    let s := withKey 1 1 (unitCall 3 [63, 0, 256, 512, 1, 1024])
    s.anvil.ready = true ∧ s.unitReady 0 3 6 [9, 10] [3] = true ∧ s.param 0 6 1 ≤ 2 ∧ 1 ≤ s.param 0 6 4 ∧ s.param 0 6 4 ≤ 256 ∧
      (s.seqr 0).inData (s.param 0 6 2) 16 = true ∧ (s.seqr 0).writable (s.param 0 6 5) 16 = true ∧
      (s.seqr 0).writable (s.param 0 6 3) 16 = true ∧
      s.hammerKey (s.seqr 0) (s.param 0 6 0) [1, 2] (some 0) = .inr (List.replicate 16 1, some 63) ∧
      (cbcEncPart (List.replicate 16 1) (List.replicate 16 0) (List.replicate 16 0)).1.length = 16 ∧
      (cbcEncPart (List.replicate 16 1) (List.replicate 16 0) (List.replicate 16 0)).2.length = 16 ∧
      s.hammerKey (s.seqr 0) 0 [1, 2] (some 0) = .inl .protected_ := by decide +kernel

theorem witness_cmacn :
    ∀ v ∈ [(false, 2), (true, 3)],
      let s := withKey 2 (2 ^ v.2) (unitCall 4 [63, 256, 0, 512, 16 + b2n v.1 * 256])
      s.unitReady 0 4 5 [9, 10] [3] = true ∧ s.param 0 5 4 = 16 + b2n v.1 * 256 ∧ s.param 0 5 2 ≤ 4096 ∧ (s.seqr 0).inData 256 0 = true ∧
        (s.seqr 0).writable 512 16 = true ∧
        s.hammerKey (s.seqr 0) (s.param 0 5 0) [1, 2] (some v.2) = .inr (List.replicate 32 1, some 63) := by decide +kernel

theorem witness_unit_hkdf :
    let s := unitCall 5 [256, 16, 512, 0, 512, 0, 768, 64]
    s.unitReady 0 5 8 [9, 10] [3] = true ∧ s.param 0 8 1 ≤ 256 ∧ s.param 0 8 3 ≤ 256 ∧ s.param 0 8 5 ≤ 256 ∧ bit 31 (s.param 0 8 6) = false ∧
      s.param 0 8 7 ≤ 64 ∧ bit 31 (s.param 0 8 0) = false ∧ (s.seqr 0).inData 256 16 = true ∧ (s.seqr 0).inData 512 0 = true ∧
      (s.seqr 0).writable 768 64 = true := by decide +kernel

theorem witness_ecmul_and_ecdsa :
    let m := withKey 3 48 (unitCall 6 [63, 0, 0, 512])
    let k := withKey 3 48 (unitCall 6 [63, 0, 256, 47])
    let v := unitCall 7 [1, 2 ^ 31 + 512, 256, 1024]
    let g := withKey 3 48 (unitCall 7 [0, 63, 256, 1024])
    m.unitReady 0 6 4 [9, 10] [3] = true ∧ m.param 0 4 0 ≠ 0xFF ∧
      m.hammerKey (m.seqr 0) (m.param 0 4 0) [3] (some 5) = .inr (List.replicate 32 1, some 63) ∧ m.param 0 4 2 = 0 ∧
      (m.seqr 0).writable 512 64 = true ∧ k.unitReady 0 6 4 [9, 10] [3] = true ∧ k.param 0 4 2 ≠ 0 ∧ (k.seqr 0).inData 256 64 = true ∧
      (k.seqr 0).ib.length = 1024 ∧ (k.seqr 0).ob.length = 1024 ∧
      k.param 0 4 3 < 48 ∧ v.unitReady 0 7 4 [9, 10] [3] = true ∧ v.param 0 4 0 = 1 ∧ bit 31 (v.param 0 4 1) = true ∧
      (v.seqr 0).inData (v.param 0 4 1 % 2 ^ 31) 64 = true ∧ (v.seqr 0).inData 256 32 = true ∧ (v.seqr 0).inData 1024 64 = true ∧
      g.unitReady 0 7 4 [9, 10] [3] = true ∧ g.param 0 4 0 = 0 ∧ bit 31 (g.param 0 4 1) = false ∧
      g.hammerKey (g.seqr 0) (g.param 0 4 1) [3] (some 4) = .inr (List.replicate 32 1, some 63) ∧ (g.seqr 0).writable 1024 64 = true := by
  decide +kernel

theorem witness_lftx :
    let s := unitCall 0 [1 + 0x400000, 0, 4, 0]
    s.hostUp = true ∧ s.lf.emission = none ∧ s.unitReady 0 0 5 [4] [0] = true ∧ s.param 0 5 0 = 1 + 256 * 0 + 65536 * 0x40 ∧
      s.param 0 5 2 ≤ 16 ∧ s.param 0 5 3 = 0 ∧ (s.seqr 0).inData (s.param 0 5 1) (s.param 0 5 2) = true ∧
      (s.seqr 0).writable (0 + 16) 4 = true ∧ s.usable (s.maskOf 1) ≠ 0 := by decide +kernel

/-- UHFRX of code 1 in slot 0 of a telegram that ended at 0. -/
def hearing : State := unitCall 1 [1, 0xFFFFFFFF, 0, 256, 0, 0]

theorem witness_uhfrx :
    let w := hearing.listenAt (some noTag) (near32 hearing.now 0) 0 [1] 0
    let rx : UhfRx := { tokenRx 1 [] [195, 27, 31, 122] with detect := 162240, detectB := 162240 }
    hearing.unitReady 0 1 6 [5] [1] = true ∧ hearing.param 0 6 0 = 1 ∧ hearing.anyPath = true ∧ hearing.param 0 6 2 = 0 ∧
      (hearing.seqr 0).writable (hearing.param 0 6 3) 80 = true ∧ (hearing.seqr 0).writable (0 + 16) 8 = true ∧
      (hearing.listenOnce w (some rx) (fun f => hearing.param 0 6 1 == 0xFFFFFFFF || f.id == hearing.param 0 6 1)).1 =
        some (frameOf rx.bytes) ∧ rx.bytes.length = 14 + (frameOf rx.bytes).body.length := by decide +kernel

/-- UWBRANGE on channel 9, its result at 256. -/
def ranging : State := unitCall 2 [9 + 16, 0, 256]

/-- The exchange of `ranging`: its state once RANGE_READY has been accepted, and what RESPONSE and REPORT bring. -/
def ranged : Option TokenFrame × Dev :=
  let x := { ranging.newRange ⟨0, 1, 63, 0, 0⟩ 9 0 with sts := 1 }
  let mask := ranging.usable (ranging.maskOf 0)
  let d := (ranging.send (.command noTag) mask (ranging.bitTime 0) 6 (beBytes 2 x.x ++ [armByte x, byte (x.da / 25)])).airOut
  let d := { d with lf := { d.lf with standbyDue := mask } }
  let w := d.listenAt (some noTag) d.now 4 [6] 0
  d.listenOnce w (some { tokenRx 6 [0, 0, 0, 0] [117, 75, 254, 219] with detect := w.opens, detectB := w.opens }) (fun f => f.id == x.token)

theorem witness_uwbrange_ready :
    ranging.hostUp = true ∧ ranging.lf.emission = none ∧ ranging.unitReady 0 2 3 [4, 5, 7, 8, 9, 10] [0, 1, 2] = true ∧
      ranging.param 0 3 0 = 9 + 16 * 1 ∧ (ranging.seqr 0).writable (ranging.param 0 3 2) 48 = true ∧
      ranging.tok.session = some ⟨0, 1, 63, 0, 0⟩ ∧ ranging.anvil.ready = true ∧ ranging.uwb.x ≤ 65535 ∧ ranging.uwbBad = false ∧
      ranging.usable (ranging.maskOf 0) ≠ 0 ∧ ranged.1.map (fun f => (f.body.take 2, f.body.getD 3 1)) = some ([0, 0], 0) := by
  decide +kernel

/-- A REPORT whose first paths agree with RESPONSE, its ciphertext and MAC written out. -/
def soundReport : Bytes :=
  let m : Bytes := [0xB5, 1, 0, 0, 0, 1, 0, 0, 183, 197, 57, 56, 134, 210, 137, 3, 3, 185, 3, 13, 79, 57, 132, 135, 118, 14, 148, 100, 154,
    177, 185, 142]
  m ++ leBytes 2 (fcs16 m)

theorem witness_uwbrange_ends :
    let r := ranged.2.rangeRest { ranging.newRange ⟨0, 1, 63, 0, 0⟩ 9 0 with sts := 1 } (some (aPacket (2229257728 + 25559040) []))
      (some (aPacket (2229257728 + 3 * 25559040) soundReport))
    r.1 = .done ∧ r.2.1.length = 24 ∧ r.2.2.ham = ranging.ham := by decide +kernel

/-! ### Windows, power states and starts -/

/-- A window that closes at 1,000. -/
def aWindow : Window := ⟨0, 1000, 0⟩

theorem witness_windows :
    let e : Evidence := ⟨.lf [] 1, 0, 1, aWindow⟩
    let s : State := { nodeUp with
      rel := { nodeUp.rel with
        evidence := nodeUp.rel.evidence.set 63 (some e), sessions := nodeUp.rel.sessions.set 31 (some ⟨0, 0, aWindow⟩), relay := .held aWindow },
      tok := { nodeUp.tok with adm := { Admission.closed with state := 2, win := aWindow } },
      bg := { nodeUp.bg with due := [⟨2, aWindow, false, false⟩], loops := nodeUp.bg.loops.set 12 ⟨1000, false, true, some aWindow, false⟩ } }
    let r : State := { s with evc := { s.evc with level := s.evc.level.set 25 true } }
    s.hostUp = true ∧ s.clock.pos < 4000 ∧ s.evc.lastEsn.length = 160 ∧ cellsWf (fun _ => Node.empty) s.kw.nodes = true ∧
      s.bg.loops.length = 13 ∧ s.rel.evidence.getD 63 none = some e ∧ s.rel.sessions.getD 31 none = some ⟨0, 0, aWindow⟩ ∧
      s.rel.relay = .held aWindow ∧ s.engineRun = false ∧ r.engineRun = true ∧ s.tok.adm.state = 2 ∧ s.tok.adm.win = aWindow ∧
      s.dueOf 2 = some ⟨2, aWindow, false, false⟩ ∧ (s.loop 12).win = some aWindow ∧ (s.loop 12).pinned = true := by decide +kernel

theorem witness_entropy_and_deadlines :
    let c := { cmd 0x4E [4] with phase := .held }
    let s := ring c { up with anvil := { up.anvil with ready := false, failWin := some aWindow } }
    let d := { cmd 0x00 with desc := fit 16 0 [8, 7, 0, 1000] }
    let t := ring d up
    let w : State := { up with host := { up.host with wdtCfg := 0x8001, wdtWin := some aWindow } }
    s.hostUp = true ∧ s.clock.pos < 4000 ∧ s.anvil.failWin = some aWindow ∧ s.cmd 7 = some c ∧ (∀ b ∈ s.cmds, b.tag = 7 → b = c) ∧
      c.phase = .held ∧ c.window = none ∧ (s.wait (s.closeAt aWindow)).late { c with desc := fit 16 0 [0x4E08, 7, 2, 1000] } = true ∧
      t.nv.undo = [] ∧
      t.cmd 7 = some d ∧ d.queued = true ∧ d.op ≠ 0x31 ∧ d.window = some aWindow ∧ w.host.wdtWin = some aWindow ∧
      bit 15 w.host.poison = false ∧ field 13 12 w.host.wdtCfg.toNat = 0 ∧ bit 15 w.host.wdtCfg.toNat = true := by decide +kernel

theorem witness_deferrals :
    let s : State := { up with
      pwr := { up.pwr with
        deferrals := [⟨9, 0, aWindow⟩], holds := [⟨4, 9⟩, ⟨5, 9⟩, ⟨3, 10⟩], doms := up.pwr.doms.set 15 .drain } }
    s.hostUp = true ∧ s.pwr.doms.length = 24 ∧ s.clock.pos < 4000 ∧ s.pwr.deferrals.find? (fun f => f.dom == 9) = some ⟨9, 0, aWindow⟩ ∧
      s.domHeld 9 = true ∧ (∀ h ∈ s.pwr.holds, h.holder < 6) ∧ s.pwr.holds.contains ⟨5, 9⟩ = true ∧ s.holdNeeded ⟨5, 9⟩ = false ∧
      s.reached aWindow = false ∧ s.pwr.holds.contains ⟨3, 10⟩ = true ∧ s.holdNeeded ⟨3, 10⟩ = false ∧ s.domDeferred 10 = false ∧
      s.dom 15 = .drain := by decide +kernel

theorem witness_doze :
    let s : State := { up with sets := [(0x010001, 3)] }
    let z : State := { up with pwr := { up.pwr with dev := .doze } }
    s.clock.pos < 4000 ∧ s.hostUp = true ∧ s.cmds = [] ∧ s.store = [] ∧ s.bg.due = [] ∧ s.setting 0x010001 ≠ 0 ∧ z.pwr.dev = .doze ∧
      z.clock.rootOn = true ∧
      z.jrnl.hold = false ∧ z.jrnl.buf.length < 900 ∧ z.clock.pos < 4000 := by decide +kernel

theorem witness_standby :
    (∀ n ∈ [2, 3, 4],
      let s : State := { up with pwr := { up.pwr with sleep := some (n, true) } }
      let f : State := { s with jrnl := { s.jrnl with buf := [aRecord 0 []] }, pwr := { s.pwr with doms := s.pwr.doms.set 15 .off } }
      s.hostUp = true ∧ s.cmds = [] ∧ s.store = [] ∧ s.entryFails = false ∧ f.hostUp = true ∧ f.entryFails = true) ∧
    (∀ x ∈ [DevState.park, .deep],
      let s : State := { up with
        pwr := { up.pwr with dev := x }, clock := { up.clock with rootOn := false }, evc := { up.evc with trigger := some 0 } }
      s.evc.trigger.isSome = true ∧ s.clock.rootOn = false ∧ s.pwr.dev = x) := by decide +kernel

theorem witness_starts :
    let w : State := { State.reset with start := { Dev.reset.start with entropy := true }, anvil := { Anvil.reset with blocks := [[], []] } }
    let d : State := { up with anvil := { up.anvil with ready := false, blocks := [[], []] } }
    let m : State := { medUp with med := { medUp.med with state := .replay, ready := false } }
    State.reset.partitions = [] ∧ State.reset.nv.busy = false ∧ State.reset.nv.queue = [] ∧ State.reset.nv.undo = [] ∧
      State.reset.nv.stale = [] ∧ State.reset.cmds = [] ∧ State.reset.med.state ≠ .flushing ∧ State.reset.nvReadable 0 64 = true ∧
      State.reset.nvReadable 64 64 = true ∧ State.reset.anvil.reserve = none ∧ w.anvil.ready = false ∧ 2 ≤ w.anvil.blocks.length ∧
      w.start.entropy = true ∧ d.hostUp = true ∧ d.anvil.ready = false ∧ 2 ≤ d.anvil.blocks.length ∧ d.start.entropy = false ∧
      m.hostUp = true ∧ m.med.state = .replay ∧ m.evc.lastEsn.length = 160 ∧ m.diesUsed ≠ 0 ∧ m.med.foreign = false ∧ m.med.failed = false ∧
      m.med.formatted = true ∧ up.med.formatted = false := by decide +kernel

theorem witness_losses :
    let f : State := { up with med := { up.med with state := .flushing } }
    up.hostUp = true ∧ domFixed 23 = false ∧ up.domOn 23 = true ∧ up.pwr.doms.length = 24 ∧ up.evc.lastEsn.length = 160 ∧
      up.med.state = .writeBack ∧ f.med.state = .flushing ∧ (∀ n ∈ [15, 16, 17, 18, 19], up.evc.cond.getD n false = false) ∧
      (let vm := up.setting 0x0B0020
       lowAt false vm (vm + 300) 0 = true ∧ lowAt false vm (vm + 300) 65535 = false ∧ lowAt true vm (vm + 300) (vm + 299) = true ∧
         lowAt false 5000 5300 4999 = true ∧ lowAt true 5000 5300 5300 = false ∧ lowAt false 2300 2400 2299 = true ∧
         lowAt true 2300 2400 2400 = false ∧ lowAt false (vm + 3000) (vm + 3300) (vm + 2999) = true ∧
         lowAt true (vm + 3000) (vm + 3300) (vm + 3300) = false) ∧
      up.domOn 22 = true ∧ up.bg.derate = false ∧ up.celsius 0x0D0000 ≤ signed 16 0x7FFF ∧ (up.loop 11).pinned = false ∧
      (up.loop 12).pinned = false := by decide +kernel

theorem witness_relay_faults_and_tamper :
    nodeUp.hostUp = true ∧ nodeUp.domOn 19 = true ∧ nodeUp.evc.lastEsn.length = 160 ∧ nodeUp.energised = true ∧
      (∀ b ∈ [2, 3, 4, 6], bit b nodeUp.rel.diag = false) ∧ up.energised = false ∧ bit 3 up.rel.diag = false ∧ bit 11 up.host.fnBusy = false ∧
      up.atomBusy 0x06 = false ∧ (fnDomains 11).all up.domOn = true ∧ up.sensorActive 0 = true ∧ up.sensorActive 4 = true ∧
      up.clock.pos < 4000 ∧ up.rel.sessions.length = 32 := by decide +kernel

/-- TLOW below −50 °C and THIGH of grade B1 above +150 °C on three readings (R346), and an armed TAMP_IN ball at its active level. -/
theorem witness_tamper_thresholds :
    let armed : State := { up with cru := { up.cru with tinCfg := 15 } }
    up.tempTrips 4 [-401, -401, -401] = true ∧ up.tempTrips 4 [-401, -400, -401] = false ∧ up.tempTrips 4 [-401, -401] = false ∧
      ({ up with ident := { up.ident with grade0 := false } } : State).tempTrips 5 [1201, 1201, 1201] = true ∧
      ({ up with ident := { up.ident with grade0 := true } } : State).tempTrips 5 [1201, 1201, 1201] = false ∧
      ({ up with ident := { up.ident with grade0 := true } } : State).tempTrips 5 [1321, 1321, 1321] = true ∧
      (∀ n ∈ [6, 7], armed.tampActive n true = true ∧ armed.tampActive n false = false) := by decide +kernel

theorem witness_inputs :
    let s : State := { up with rel := { up.rel with relay := .engineHeld, sessions := up.rel.sessions.set 0 (some ⟨0, 0, aWindow⟩) } }
    s.hostUp = true ∧ s.clock.pos < 4000 ∧ s.evc.lastEsn.length = 160 ∧ (∀ n ∈ [24, 25, 26, 31, 104, 119, 120, 127],
      s.evc.level.getD n false = false) ∧ (∀ k < 16, s.driven k = false) ∧ s.rel.relay = .engineHeld ∧ s.activeAt 25 false = bit 9 (s.srcCfg 25) ∧
      s.activeAt 26 true = !bit 9 (s.srcCfg 26) := by decide +kernel

theorem witness_timers_and_watchers :
    let s : State := { up with tmr := up.tmr.set 15 { Channel.reset with run := true, target := some 1000, cmpMode := 2 } }
    let p : State := { up with
      pwr := { up.pwr with dev := .park }, clock := { up.clock with rootOn := false },
      evc := { up.evc with wcfg := up.evc.wcfg.set 31 0x300 } }
    let o : State := { s with sets := [(tmrBase 15 + 1, 0x4000)] }
    s.hostUp = true ∧ s.clock.pos < 4000 ∧ s.tmr.length = 16 ∧ (s.chan 15).target = some 1000 ∧ (s.chan 15).counts = true ∧
      s.driven 15 = false ∧ o.driven 15 = true ∧ (o.chan 15).out ≠ true ∧ (o.chan 15).counts = true ∧ o.hostUp = true ∧
      p.watching = true ∧ bit 9 (p.evc.wcfg.getD 31 0).toNat = true := by decide +kernel

theorem witness_reset_end_ratio_and_spread :
    let s : State := { up with
      host := { up.host with fnBusy := 2 ^ 13 }, clock := { up.clock with ratioFrom := some 0 }, sets := [(0x000010, 5)] }
    s.hostUp = true ∧ s.clock.pos < 4000 ∧ bit 13 s.host.fnBusy = true ∧ s.clock.ratioFrom = some 0 ∧ s.clock.depth ≠ s.wantDepth := by
  decide +kernel

/-! ### Completions, the journal and the background -/

/-- A command whose work has ended with a result. -/
def ended (op : Nat) (r : Result) (s : State) : State := ring { cmd op with phase := .done r } s

theorem witness_completions :
    (∀ r ∈ [Result.gives .done [1], ⟨.done, [0], .evidence ⟨.lf [] 1, 0, 0, aWindow⟩, some 0, []⟩,
        ⟨.done, [0, 0], .session ⟨0, 0, aWindow⟩, some 0, []⟩, ⟨.done, [], .sleep 2 true, none, []⟩],
      let s := ended 0x00 r up
      let c := { cmd 0x00 with phase := .done r }
      s.hostUp = true ∧ s.cmd 7 = some c ∧ s.lf.standbyDue = 0 ∧ s.clock.pos < 4000 ∧ s.unfinished c = false ∧ s.late c = false ∧
        s.gateStops c = false ∧ s.fits r.payload = true ∧ s.waiters = [] ∧ c.op ≠ 0x31 ∧ r.drafts = []) ∧
      up.cmd 7 = none ∧ up.rel.sessions.findIdx? Option.isNone = some 0 := by decide +kernel

theorem witness_payload_waits :
    let full : State := { up with store := [⟨1, 0, 0, 0, 0, List.replicate 16384 0⟩] }
    let r := Result.gives .done [1]
    let c := { cmd 0x00 with phase := .waiting r }
    let w : State := { ring c up with waiting := [7] }
    (ended 0x00 r full).fits r.payload = false ∧ (ended 0x00 r full).hostUp = true ∧ r.payload ≠ [] ∧ w.cmd 7 = some c ∧ w.waiters = [7] ∧
      w.late c = false ∧ w.fits r.payload = true ∧ r.drafts = [] ∧ r.effect = .none ∧
      ({ w with store := full.store } : State).fits r.payload = false := by decide +kernel

/-- A result whose page writes go on, and one whose domain's clock is gated. -/
theorem witness_completion_held :
    let c := { cmd 0x30 with phase := .done (Result.gives .done []) }
    let w : State := { ring c up with nv := { up.nv with queue := [⟨some 7, 100, []⟩] } }
    let g : State := { ring c up with pwr := { up.pwr with doms := up.pwr.doms.set 10 .gated } }
    let k := { cmd 0x4A with phase := .done (Result.gives .done []) }
    w.unfinished c = true ∧ w.cmd 7 = some c ∧ w.hostUp = true ∧ k.phase = .done (Result.gives .done []) ∧ g.gateStops k = true := by
  decide +kernel

theorem witness_late_completion :
    let c := { cmd 0x00 with desc := fit 16 0 [8, 7, 0, 0], phase := .done (Result.gives .done []) }
    let s := ring c up
    s.cmd 7 = some c ∧ c.cls = 0 ∧ s.late c = true ∧ s.unfinished c = false ∧ s.hostUp = true := by decide +kernel

/-- An event that left its record beside 959 others enters journal hold; with 958 others, or in a hold, it does not. -/
theorem witness_settle :
    let s (n : Nat) (h : Bool) : State := { up with jrnl := { up.jrnl with buf := List.replicate n (aRecord 0 []), nextNumber := n, hold := h } }
    (s 959 false).jrnl.nextNumber ≠ (s 960 false).jrnl.nextNumber ∧ (s 960 false).jrnl.hold = false ∧ 960 ≤ (s 960 false).jrnl.buf.length ∧
      (s 959 false).jrnl.buf.length < 960 ∧ (s 961 true).jrnl.hold = true := by decide +kernel

theorem witness_journal_places :
    let s (n : Nat) (h : Bool) : State := { up with jrnl := { up.jrnl with buf := List.replicate n (aRecord 0 []), hold := h } }
    up.start.boot = none ∧ (s 958 false).jrnl.buf.length < 959 ∧ (s 959 false).jrnl.buf.length = 959 ∧ (s 1023 true).jrnl.hold = true ∧
      (s 1023 true).jrnl.buf.length < 1024 ∧ 1024 ≤ (s 1024 true).jrnl.buf.length := by decide +kernel

theorem witness_journal_on_media :
    let s : State := { up with jrnl := { up.jrnl with buf := [aRecord 0 []], nextNumber := 1, headDue := true } }
    s.hostUp = true ∧ s.clock.pos < 4000 ∧ s.jrnl.nextNumber ≠ 0 ∧ s.mediaUp = true ∧ s.jrnl.buf ≠ [] ∧
      s.jrnl.v2.length + s.jrnl.buf.length + 1 ≤ v2Capacity ∧ s.jrnl.headDue = true := by decide +kernel

theorem witness_page_writes :
    let w : PageWrite := ⟨none, 1023, [(65535, 0)]⟩
    let s (ws : List PageWrite) : State := { up with nv := { up.nv with queue := w :: ws, busy := true } }
    let p : State := { up with nv := { up.nv with scrub := some 1023 } }
    (∀ ws ∈ [[], [w]], (s ws).hostUp = true ∧ (s ws).clock.pos < 4000 ∧ (s ws).nv.busy = true ∧ (s ws).domGated 16 = false ∧ w.page ≠ 8 ∧
      w.owner = none) ∧ up.nv.scrub = none ∧ p.nv.scrub = some 1023 ∧ bit 9 p.host.fnBusy = false ∧ p.atomBusy 0x0A = false ∧
      (fnDomains 9).all p.domOn = true ∧ p.hostUp = true := by decide +kernel

theorem witness_media_background :
    let t : State := { medUp with med := { medUp.med with state := .writeThrough, rebuild := true } }
    medUp.hostUp = true ∧ medUp.med.ready = true ∧ medUp.med.dies[0]? = some aDie ∧ aDie.state = 1 ∧ bit 8 medUp.host.fnBusy = false ∧
      medUp.atomBusy 0x0B = false ∧ (fnDomains 8).all medUp.domOn = true ∧ medUp.atlas.active = none ∧ medUp.evc.lastEsn.length = 160 ∧
      t.med.state = .writeThrough ∧ t.pwr.vholdLow = false ∧ t.med.testIn ≠ some t.testWindow ∧ t.med.rebuild = true ∧
      t.roomFor 0 = true ∧ t.domOn 15 = true := by decide +kernel

/-- What a NAND read may meet, with one die and with two (R496, R504). -/
theorem witness_nand :
    let two : State := { medUp with med := { medUp.med with dies := aDie :: aDie :: List.replicate 6 { aDie with state := 0 } } }
    let ladder : State := { medUp with sets := [(0x0B0040, 1)] }
    medUp.nandLost ⟨0, 0, true, true⟩ = true ∧ medUp.nandLost ⟨0, 0, true, false⟩ = true ∧ two.nandLost ⟨0, 0, true, false⟩ = false ∧
      two.nandStripe ⟨0, 0, true, false⟩ = true ∧ two.nandStripe ⟨15, 0, false, false⟩ = true ∧
      ladder.nandLost ⟨15, 0, false, false⟩ = false ∧ ladder.nandStripe ⟨15, 0, false, false⟩ = false := by decide +kernel

theorem witness_sweeps_and_reloads :
    let a : State := { medUp with atlas := { medUp.atlas with active := some (0, []) } }
    let q : State := { medUp with ham := { medUp.ham with storedB := some [], b := { medUp.ham.b with restoring := true } } }
    let n : State := { q with med := { q.med with ready := false } }
    up.hostUp = true ∧ bit 7 up.host.fnBusy = false ∧ up.atomBusy 0x08 = false ∧ (fnDomains 7).all up.domOn = true ∧ up.cmds = [] ∧
      bit 13 up.host.fnBusy = false ∧ (fnDomains 13).all up.domOn = true ∧ up.bg.loops.length = 13 ∧ (up.loop 11).pinned = false ∧
      a.atlas.active.isSome = true ∧ a.atlas.loaded = false ∧ a.med.ready = true ∧ a.domOn 13 = true ∧ a.domOn 14 = true ∧
      (q.seqr 1).restoring = true ∧ q.domOn 12 = true ∧ q.med.state ≠ .replay ∧ q.med.ready = true ∧ q.stored 1 = some [] ∧
      n.med.ready = false ∧ (n.seqr 1).restoring = true ∧ a.mediumOk = true ∧ a.atlas.reloadFailed = false ∧ q.replaying = false ∧
      n.replaying = false ∧ n.domOn 12 = true ∧
      ({ a with med := { a.med with formatted := false } } : State).mediumOk = false := by decide +kernel


/-! ### The spec's worked examples: the expected values are the spec's -/

/-- FIPS 180-4 4.2.2 and 5.3.3: the packed words are the first 32 bits of the fractional parts of the roots of the primes. -/
theorem test_sha_roots :
    let primes := (List.range 312).filter (fun p => 2 ≤ p && (List.range 18).all (fun q => q < 2 || p ≤ q || p % q != 0))
    primes.length = 64 ∧
      (∀ i < 64, ∃ w < 7, let x := w * 2 ^ 32 + (packed32 shaRoots3 i).toNat
        x ^ 3 ≤ primes.getD i 0 * 2 ^ 96 ∧ primes.getD i 0 * 2 ^ 96 < (x + 1) ^ 3) ∧
      ∀ i < 8, ∃ w < 5, let x := w * 2 ^ 32 + (packed32 shaRoots2 i).toNat
        x ^ 2 ≤ primes.getD i 0 * 2 ^ 64 ∧ primes.getD i 0 * 2 ^ 64 < (x + 1) ^ 2 := by decide +kernel

/-- A skip at the spread peak: 40,000,002 is never held (example after R38). -/
theorem test_spread_skip :
    let c := { Dev.reset.clock with depth := 10, pos := 1877, tb := 40000000, rho := 507 }
    let a := c.tick 10
    let b := a.tick 10
    let e := b.tick 10
    [(a.tb, a.rho), (b.tb, b.rho), (e.tb, e.rho)] = [(40000001, 510), (40000003, 0), (40000004, 3)] := by decide +kernel

/-- 20 s of PARK at 300 ppm, the session's close, and TBSTAT (example after R46). -/
theorem test_park_uncertainty :
    uncGrowth 2496000000 300 = 748802 ∧
      { Dev.reset with clock := { Dev.reset.clock with unc := 748802 } }.closeAt ⟨1000000000, 8488000000, 0⟩ = 8487251198 ∧
      tbstat 748802 true = word (183 + 4 * 1024 + 16384) := by decide +kernel

/-- A token clock 10 ppm fast at 2.00 m gives 427 RU (example after R247). -/
theorem test_time_of_flight : tofOf 25559896 25560148 25559300 25559040 = 427 := by decide +kernel

/-- LOCATE at B = 32 and M1 and M3 at B = 16 (examples after R198 and R384), with LF.BURST at its default of 188 T_c. -/
theorem test_telegram_lengths :
    (up.telegramLen 32 6, up.telegramLen 16 12, up.telegramLen 16 8) = (3548, 2636, 2124) := by decide +kernel

/-- A LOCATE_REPORT of 24 body bytes lasts 2,146,560 ticks (example after R228). -/
theorem test_report_frame : frameTicks 24 = 2146560 := by decide +kernel

/-- W(0), W(12) and W(48) of the node bus (R436). -/
theorem test_worst_frame : [0, 12, 48].map frameMaxBits = [121, 241, 601] := by decide +kernel

/-- raw_24 of a ToF of 427 RU (example after R266). -/
theorem test_raw_distance :
    (rawVector [] (some (427, 0x8000, 0x8000, word (65536 - 21120)))).getD 24 none = some 513 := by decide +kernel

/-- The hold-up capacitor of the sizing example passes at 13.0 V, with 0.178 V of droop, and writes back (example after R519). -/
theorem test_hold_up : ((holdupTest 13000 178 up.toDev).med.testPass, (holdupTest 13000 200 up.toDev).med.testPass) = (true, false) := by
  decide +kernel

/-- R479, R493: a key record whose page writes are dropped before copy B is whole is the old one; once copy B is whole it is the new one. -/
theorem test_dropped_record :
    let a := attrOf 1 1 1 false false false false 0 0
    let d := up.putKey (some 7) 20 a (List.replicate 16 1)
    let e := nvPageWriteEnd (nvPageWriteEnd d)
    (d.nvDrop (fun _ => true)).key 20 = up.key 20 ∧ ((nvPageWriteEnd d).nvDrop (fun _ => true)).key 20 = d.key 20 ∧
      (e.nvDrop (fun _ => true)).key 20 = d.key 20 ∧ d.key 20 ≠ up.key 20 := by decide +kernel

end Sys2Proof.Tests
end

section
/-!
PROOFS. The sequencers' ALU, LOAD and STORE (R407, R408). First what R407 says of each operation on words; then what an instruction
row does where the sequencer stands at its word, and what a fault leaves (R405, R425, R426); then the two obligations.
-/

namespace Sys2Proof.Machine

/-! ### What R407 says of the operations on words -/

/-- A signed addition overflows where its word is not the sum of its operands. -/
theorem saddOverflow_iff (a x : BitVec 32) : a.saddOverflow x = true ↔ (a + x).toInt ≠ a.toInt + x.toInt := by
  rw [BitVec.toInt_add, ne_eq, Int.bmod_eq_iff (by decide)]
  simp only [BitVec.saddOverflow, Bool.or_eq_true, decide_eq_true_eq]
  omega

/-- A signed subtraction overflows where its word is not the difference of its operands. -/
theorem ssubOverflow_iff (a x : BitVec 32) : a.ssubOverflow x = true ↔ (a - x).toInt ≠ a.toInt - x.toInt := by
  rw [BitVec.toInt_sub, ne_eq, Int.bmod_eq_iff (by decide)]
  simp only [BitVec.ssubOverflow, Bool.or_eq_true, decide_eq_true_eq]
  omega

theorem aluSays_add (a x : BitVec 32) : AluSays 0 a x (alu 0 a x).1 (alu 0 a x).2.1 (alu 0 a x).2.2 := by
  refine ⟨BitVec.toNat_add a x, decide_eq_true_iff, Iff.trans ?_ (saddOverflow_iff a x)⟩
  rw [BitVec.saddOverflow_eq]
  rfl

theorem aluSays_sub (a x : BitVec 32) : AluSays 1 a x (alu 1 a x).1 (alu 1 a x).2.1 (alu 1 a x).2.2 := by
  refine ⟨?_, decide_eq_true_iff, Iff.trans ?_ (ssubOverflow_iff a x)⟩
  · show ((a - x).toNat + x.toNat) % 2 ^ 32 = a.toNat
    rw [← BitVec.toNat_add, BitVec.sub_add_cancel]
  · rw [BitVec.ssubOverflow_eq]
    show (a.msb != x.msb && (a - x).msb != a.msb) = true ↔ _
    cases a.msb <;> cases x.msb <;> cases (a - x).msb <;> decide

/-- The bit a shift moves out last is the carry. -/
theorem shiftedOut_iff (a : BitVec 32) (n k : Nat) :
    (n != 0 && a.getLsbD k) = true ↔ n ≠ 0 ∧ a.toNat / 2 ^ k % 2 = 1 := by
  simp [BitVec.getLsbD, Nat.testBit_eq_decide_div_mod_eq]

theorem aluSays_shl (a x : BitVec 32) : AluSays 5 a x (alu 5 a x).1 (alu 5 a x).2.1 (alu 5 a x).2.2 :=
  ⟨by simp [alu, Nat.shiftLeft_eq], shiftedOut_iff a _ _, rfl⟩

theorem aluSays_shr (a x : BitVec 32) : AluSays 6 a x (alu 6 a x).1 (alu 6 a x).2.1 (alu 6 a x).2.2 :=
  ⟨by simp [alu, Nat.shiftRight_eq_div_pow], shiftedOut_iff a _ _, rfl⟩

theorem aluSays_sar (a x : BitVec 32) : AluSays 7 a x (alu 7 a x).1 (alu 7 a x).2.1 (alu 7 a x).2.2 :=
  ⟨by simp [alu, BitVec.toInt_sshiftRight, Int.shiftRight_eq_div_pow], shiftedOut_iff a _ _, rfl⟩

theorem aluSays_not (a x : BitVec 32) : AluSays 12 a x (alu 12 a x).1 (alu 12 a x).2.1 (alu 12 a x).2.2 := by
  refine ⟨?_, rfl, rfl⟩
  have hx := x.isLt
  simp only [alu, BitVec.toNat_not]
  omega

/-- The model's ALU is R407's. -/
theorem aluSays_alu (op : Nat) (hop : op < 13) (a x : BitVec 32) :
    AluSays op a x (alu op a x).1 (alu op a x).2.1 (alu op a x).2.2 := by
  match op, hop with
  | 0, _ => exact aluSays_add a x
  | 1, _ | 10, _ => exact aluSays_sub a x
  | 2, _ | 11, _ => exact ⟨fun _ => BitVec.getLsbD_and, rfl, rfl⟩
  | 3, _ => exact ⟨fun _ => BitVec.getLsbD_or, rfl, rfl⟩
  | 4, _ => exact ⟨fun _ => BitVec.getLsbD_xor, rfl, rfl⟩
  | 5, _ => exact aluSays_shl a x
  | 6, _ => exact aluSays_shr a x
  | 7, _ => exact aluSays_sar a x
  | 8, _ => exact ⟨BitVec.toNat_mul a x, rfl, rfl⟩
  | 9, _ => exact ⟨rfl, rfl, rfl⟩
  | 12, _ => exact aluSays_not a x

/-! ### An instruction row at its word (R406, R409, R429) -/

/-- What stands where an instruction has come to `o` on `d`: where it went on, the script's end by its fault, or `d` as it was. -/
def HOut.leaves (q : Nat) (d : Dev) : HOut → Dev
  | .go e => e
  | .fault c => d.endScript q c (Result.plain .stateConflict)
  | .stay => d

theorem atWord_iff {q cls op : Nat} {d : Dev} : d.atWord q cls op = true ↔
    q < 2 ∧ d.scriptRuns q = true ∧ (d.seqr q).breakpoints.contains (d.seqr q).pc = false ∧
    (d.seqr q).pc + (d.seqr q).fetch.len ≤ (d.seqr q).codeLen ∧ (d.seqr q).fetch.legal = true ∧
    (d.seqr q).fetch.cls = cls ∧ (d.seqr q).fetch.op = op := by
  simp only [Dev.atWord, Bool.and_eq_true, Bool.not_eq_true', decide_eq_true_eq, beq_iff_eq, and_assoc]

theorem HWord.len_pos (h : HWord) : 0 < h.len := by
  unfold HWord.len
  split <;> decide

/-- A row whose word stands at PC leaves what its body comes to. -/
theorem instr_of_atWord {q cls op : Nat} {ops : List Nat} {d : Dev} (body : HWord → Seqr → Dev → HOut)
    (h : d.atWord q cls op = true) (hops : op ∈ ops) :
    Dev.instr q cls ops body d = (body (d.seqr q).fetch (d.seqr q) d).leaves q d := by
  obtain ⟨hq, hruns, hbreak, hlen, hlegal, hcls, hop⟩ := atWord_iff.mp h
  have hpos := (d.seqr q).fetch.len_pos
  have hpc : ¬ (d.seqr q).codeLen ≤ (d.seqr q).pc := by omega
  simp only [Dev.instr, Nat.mod_eq_of_lt hq, hruns, hbreak, hpc, hlegal, Nat.not_lt.mpr hlen, hcls, hop, List.contains_iff_mem.mpr hops,
    Bool.not_true, Bool.or_false, Bool.false_eq_true, decide_false, decide_true, Bool.and_true, if_false, if_true]
  cases body (d.seqr q).fetch (d.seqr q) d <;> rfl

/-- An instruction that completes leaves the device advanced. -/
@[simp] theorem leaves_next (q p : Nat) (h : HWord) (f : Seqr → Seqr) (d e : Dev) : (e.next p h f).leaves q d = e.advanced p h f := rfl

@[simp] theorem leaves_fault (q c : Nat) (d : Dev) : (HOut.fault c).leaves q d = d.endScript q c (Result.plain .stateConflict) := rfl

/-! ### What the end of a script leaves (R405, R425, R426) -/

@[simp] theorem seqr_onSeq (q : Nat) (f : Seqr → Seqr) (d : Dev) : (d.onSeq q f).seqr q = f (d.seqr q) := by
  by_cases hq : q = 0 <;> simp [Dev.onSeq, Dev.seqr, hq]

/-- A script's own state zeroised: its registers, frames, claims and buffers, and that it runs (R405). -/
theorem seqr_zeroiseSeq (q : Nat) (d : Dev) : (d.zeroiseSeq q).seqr q = { d.seqr q with
    w := List.replicate 16 0, flags := 0, prog := 0, frames := [], claimed := 0, ib := List.replicate 1024 0,
    ob := List.replicate 1024 0, running := none, rom := false, wait := none } :=
  seqr_onSeq q _ { d with ham := { d.ham with banks := clearBanks (d.seqr q).claimed d.ham.banks } }

theorem zeroiseSeq_cmds (q : Nat) (d : Dev) : (d.zeroiseSeq q).cmds = d.cmds := Dev.onSeq_cmds q _ _

/-- A change of a sequencer is a change of the hammer. -/
theorem onSeq_frame (q : Nat) (f : Seqr → Seqr) (d : Dev) : d.onSeq q f = { d with ham := (d.onSeq q f).ham } := by
  unfold Dev.onSeq
  split <;> rfl

/-- Nothing differs but the sequencers' state, the sources active on them and the commands. -/
def ScriptOnly (s t : Dev) : Prop :=
  t = { s with ham := t.ham, cmds := t.cmds, evc := { s.evc with actA := t.evc.actA, actB := t.evc.actB } }

theorem zeroiseSeq_frame (q : Nat) (d : Dev) : ScriptOnly d (d.zeroiseSeq q) := by
  unfold ScriptOnly Dev.zeroiseSeq
  dsimp only
  rw [onSeq_frame]
  split <;> rfl

theorem seqr_endScript (q cause : Nat) (r : Result) (d : Dev) :
    (d.endScript q cause r).seqr q = { (d.zeroiseSeq q).seqr q with endCause := cause, endPc := (d.seqr q).pc } := by
  unfold Dev.endScript
  dsimp only
  split
  · exact seqr_onSeq q _ _
  · exact seqr_onSeq q _ _

theorem endScript_frame (q cause : Nat) (r : Result) (d : Dev) : ScriptOnly d (d.endScript q cause r) := by
  have hz := zeroiseSeq_frame q d
  unfold ScriptOnly at hz ⊢
  unfold Dev.endScript
  dsimp only
  rw [onSeq_frame, hz]
  split <;> rfl

theorem ended_endScript {q cause tag : Nat} {r : Result} {d : Dev} (hrun : (d.seqr q).running = some tag)
    (htag : (d.cmd tag).isSome = true) : (d.endScript q cause r).ended tag = some r := by
  simp only [Dev.endScript, hrun]
  apply ended_finish
  rwa [Dev.cmd, Dev.onSeq_cmds, zeroiseSeq_cmds]

/-- A script that ends leaves what R405 and R425 say. -/
theorem scriptEnded_endScript (q cause : Nat) (st : Status) (ws : List Word) (d : Dev) :
    ScriptEnded q cause st ws d (d.endScript q cause (Result.gives st ws)) := by
  unfold ScriptEnded
  rw [seqr_endScript, seqr_zeroiseSeq]
  exact ⟨rfl, rfl, rfl, rfl, rfl, rfl, rfl, rfl, fun _ => ended_endScript, endScript_frame q cause _ d⟩

theorem endScript_jrnl (q cause : Nat) (r : Result) (d : Dev) : (d.endScript q cause r).jrnl = d.jrnl := by
  rw [endScript_frame]

/-! ### What an instruction answers -/

@[simp] theorem advanced_jrnl (q : Nat) (h : HWord) (f : Seqr → Seqr) (d : Dev) : (d.advanced q h f).jrnl = d.jrnl :=
  Dev.onSeq_jrnl q _ d

/-- An instruction that makes no journal record answers the device that its row leaves. -/
theorem answers_leaves {i : Instr} {s : State} {f : Dev → Dev} {t : Dev} {P : Dev → Prop} (he : exec i s = run f s)
    (ht : f s.toDev = t) (hj : t.jrnl = s.jrnl) (hP : P t) : Answers i s P := by
  subst ht
  exact answers_run he (by rw [hj]) hP

/-- An instruction that faults ends the script with STATE_CONFLICT and the fault's cause (R426). -/
theorem answers_fault {i : Instr} {s : State} {f : Dev → Dev} {q cause : Nat} (he : exec i s = run f s)
    (ht : f s.toDev = s.endScript q cause (Result.plain .stateConflict)) :
    Answers i s fun t => ScriptEnded q cause .stateConflict [] s.toDev t :=
  answers_leaves he ht (endScript_jrnl ..) (scriptEnded_endScript q cause .stateConflict [] s.toDev)

/-! ### The ALU (R407) -/

/-- An ALU operation's result taken: to W[D], but for CMP and TST, and to the flags. -/
def Seqr.takes (op dst : Nat) (r : BitVec 32 × Bool × Bool) (u : Seqr) : Seqr :=
  (if op = 10 || op = 11 then u else u.setReg dst r.1).setFlags (r.1 == 0) r.1.msb r.2.1 r.2.2

/-- Z, N, C and V are the low four flags; IE and SEC stay. -/
theorem takes_eq (op dst : Nat) (r : BitVec 32 × Bool × Bool) (u : Seqr) :
    u.takes op dst r = { (if op = 10 ∨ op = 11 then u else u.setReg dst r.1) with
      flags := u.flags / 16 * 16 + (if r.1 = 0 then 1 else 0) + (if r.1.msb then 2 else 0) + (if r.2.1 then 4 else 0) +
        (if r.2.2 then 8 else 0) } := by
  have hflags : (if op = 10 ∨ op = 11 then u else u.setReg dst r.1).flags = u.flags := by split <;> rfl
  simp only [Seqr.takes, Seqr.setFlags, Bool.or_eq_true, decide_eq_true_eq, hflags, bitsNat, b2n, beq_iff_eq]
  congr 1
  split_ifs <;> rfl

theorem aluOp_of_atWord {q cls op : Nat} {d : Dev} (hcls : cls < 2) (h : d.atWord q cls op = true) :
    let u := d.seqr q
    aluOp q op d = d.advanced q u.fetch (Seqr.takes op u.fetch.d (alu op (u.reg u.fetch.a) (u.operand u.fetch))) := by
  obtain ⟨hq, -, -, -, -, hfetch, -⟩ := atWord_iff.mp h
  have hclass : (if (d.seqr q).fetch.cls = 1 then 1 else 0) = cls := by rw [hfetch]; split <;> omega
  simp only [aluOp, Nat.mod_eq_of_lt hq, hclass]
  exact instr_of_atWord _ h (List.mem_singleton_self op)

/-- The ALU's instructions, each with its OP (R407). -/
def aluRows (q : Nat) : List (Instr × Nat) :=
  [(.add q, 0), (.sub q, 1), (.and q, 2), (.or q, 3), (.xor q, 4), (.shl q, 5), (.shr q, 6), (.sar q, 7), (.mul q, 8), (.mov q, 9),
    (.cmp q, 10), (.tst q, 11), (.not q, 12)]

theorem exec_aluRows (q : Nat) (s : State) : ∀ r ∈ aluRows q, r.2 < 13 ∧ exec r.1 s = run (aluOp q r.2) s := by
  simp only [aluRows, List.forall_mem_cons]
  exact ⟨⟨by decide, rfl⟩, ⟨by decide, rfl⟩, ⟨by decide, rfl⟩, ⟨by decide, rfl⟩, ⟨by decide, rfl⟩, ⟨by decide, rfl⟩, ⟨by decide, rfl⟩,
    ⟨by decide, rfl⟩, ⟨by decide, rfl⟩, ⟨by decide, rfl⟩, ⟨by decide, rfl⟩, ⟨by decide, rfl⟩, ⟨by decide, rfl⟩, nofun⟩

/-- Settles O44: an ALU row at its word advances with the ALU's result taken, which is R407's. -/
theorem aluOperations : Obligations.AluOperations := by
  intro q s r hr cls hcls hat
  obtain ⟨hop, hexec⟩ := exec_aluRows q s r hr
  obtain ⟨-, -, -, -, -, rfl, -⟩ := atWord_iff.mp hat
  refine answers_leaves hexec (aluOp_of_atWord hcls hat) (advanced_jrnl ..) ⟨_, _, _, aluSays_alu r.2 hop _ _, ?_⟩
  exact congrArg (fun f => s.advanced q (s.seqr q).fetch f) (funext fun u => takes_eq r.2 _ _ u)

/-! ### LOAD and STORE (R408) -/

theorem length_leBytes : ∀ n v, (leBytes n v).length = n
  | 0, _ => rfl
  | n + 1, v => congrArg (· + 1) (length_leBytes n (v / 256))

theorem mem_widths : ∀ op < 3, op ∈ [0, 1, 2] := by decide

theorem widthOf_eq : ∀ op < 3, widthOf op = [4, 2, 1].getD op 0 := by decide

theorem widthOf_pos (op : Nat) : 0 < widthOf op := by
  unfold widthOf
  split_ifs <;> decide

/-- Bytes in reach are read; out of reach they are a BOUNDS fault (R404). -/
theorem need_inData {d : Dev} {q a n : Nat} (k : Bytes → HOut) (h : (d.seqr q).inData a n = true) :
    d.need q a n k = k (d.dataRead q a n) := if_pos h

theorem need_outOfReach {d : Dev} {q a n : Nat} (k : Bytes → HOut) (h : (d.seqr q).inData a n = false) :
    d.need q a n k = .fault 3 := if_neg (by simp [h])

/-- Bytes in reach and outside IB are written. -/
theorem put_writable {d : Dev} {q a : Nat} {bs : Bytes} (k : Dev → HOut) (h : (d.seqr q).writable a bs.length = true) :
    d.put q a bs k = k (d.dataWrite q a bs) := by
  simp only [Seqr.writable, Bool.and_eq_true, Bool.not_eq_true'] at h
  simp [Dev.put, h.1, h.2]

theorem put_outOfReach {d : Dev} {q a : Nat} {bs : Bytes} (k : Dev → HOut) (h : (d.seqr q).inData a bs.length = false) :
    d.put q a bs k = .fault 3 := by simp [Dev.put, h]

theorem put_ib {d : Dev} {q a : Nat} {bs : Bytes} (k : Dev → HOut) (h : (d.seqr q).inData a bs.length = true) (hbs : bs ≠ [])
    (hlo : 0x10000 ≤ a) (hhi : a < 0x10400) : d.put q a bs k = .fault 4 := by simp [Dev.put, h, hbs, hlo, hhi]

@[simp] theorem dataWrite_jrnl (q a : Nat) (bs : Bytes) (d : Dev) : (d.dataWrite q a bs).jrnl = d.jrnl := by
  unfold Dev.dataWrite
  split
  · rfl
  · exact Dev.onSeq_jrnl q _ d

/-- The address that the LOAD or STORE at PC names. -/
def Dev.pointer (q : Nat) (d : Dev) : Nat := (d.seqr q).address (d.seqr q).fetch

section
variable {q op n : Nat} {d : Dev} (hop : op < 3) (hn : widthOf op = n)
include hop hn

theorem loadOp_of_atWord (h : d.atWord q 2 op = true) :
    loadOp q d = (if d.pointer q % n != 0 then .fault 2 else d.need q (d.pointer q) n fun bs =>
      d.next q (d.seqr q).fetch fun u => u.setReg (d.seqr q).fetch.d (BitVec.ofNat 32 (leNat bs)) : HOut).leaves q d := by
  subst hn
  have hops := mem_widths op hop
  obtain ⟨hq, -, -, -, -, -, rfl⟩ := atWord_iff.mp h
  rw [loadOp, instr_of_atWord _ h hops, Nat.mod_eq_of_lt hq]
  rfl

theorem storeOp_of_atWord (h : d.atWord q 3 op = true) :
    storeOp q d = (if d.pointer q % n != 0 then .fault 2
      else d.put q (d.pointer q) (leBytes n ((d.seqr q).num (d.seqr q).fetch.d)) fun e =>
        e.next q (d.seqr q).fetch id : HOut).leaves q d := by
  subst hn
  have hops := mem_widths op hop
  obtain ⟨hq, -, -, -, -, -, rfl⟩ := atWord_iff.mp h
  rw [storeOp, instr_of_atWord _ h hops, Nat.mod_eq_of_lt hq]
  rfl

theorem loadOp_reads (h : d.atWord q 2 op = true) (ha : d.pointer q % n = 0) (hin : (d.seqr q).inData (d.pointer q) n = true) :
    loadOp q d = d.answers q (d.seqr q).fetch (leNat (d.dataRead q (d.pointer q) n)) := by
  rw [loadOp_of_atWord hop hn h, if_neg (by simp [ha]), need_inData _ hin]
  rfl

theorem loadOp_misaligned (h : d.atWord q 2 op = true) (ha : d.pointer q % n ≠ 0) :
    loadOp q d = d.endScript q 2 (Result.plain .stateConflict) := by
  rw [loadOp_of_atWord hop hn h, if_pos (bne_iff_ne.mpr ha), leaves_fault]

theorem loadOp_outOfReach (h : d.atWord q 2 op = true) (ha : d.pointer q % n = 0)
    (hin : (d.seqr q).inData (d.pointer q) n = false) : loadOp q d = d.endScript q 3 (Result.plain .stateConflict) := by
  rw [loadOp_of_atWord hop hn h, if_neg (by simp [ha]), need_outOfReach _ hin, leaves_fault]

theorem storeOp_writes (h : d.atWord q 3 op = true) (ha : d.pointer q % n = 0) (hw : (d.seqr q).writable (d.pointer q) n = true) :
    storeOp q d =
      (d.dataWrite q (d.pointer q) (leBytes n ((d.seqr q).num (d.seqr q).fetch.d))).advanced q (d.seqr q).fetch id := by
  rw [storeOp_of_atWord hop hn h, if_neg (by simp [ha]), put_writable _ (by rwa [length_leBytes]), leaves_next]

theorem storeOp_misaligned (h : d.atWord q 3 op = true) (ha : d.pointer q % n ≠ 0) :
    storeOp q d = d.endScript q 2 (Result.plain .stateConflict) := by
  rw [storeOp_of_atWord hop hn h, if_pos (bne_iff_ne.mpr ha), leaves_fault]

theorem storeOp_outOfReach (h : d.atWord q 3 op = true) (ha : d.pointer q % n = 0)
    (hin : (d.seqr q).inData (d.pointer q) n = false) : storeOp q d = d.endScript q 3 (Result.plain .stateConflict) := by
  rw [storeOp_of_atWord hop hn h, if_neg (by simp [ha]), put_outOfReach _ (by rwa [length_leBytes]), leaves_fault]

theorem storeOp_ib (h : d.atWord q 3 op = true) (ha : d.pointer q % n = 0) (hin : (d.seqr q).inData (d.pointer q) n = true)
    (hlo : 0x10000 ≤ d.pointer q) (hhi : d.pointer q < 0x10400) :
    storeOp q d = d.endScript q 4 (Result.plain .stateConflict) := by
  have hbytes : leBytes n ((d.seqr q).num (d.seqr q).fetch.d) ≠ [] := by
    rw [← List.length_pos_iff, length_leBytes, ← hn]
    exact widthOf_pos op
  rw [storeOp_of_atWord hop hn h, if_neg (by simp [ha]), put_ib _ (by rwa [length_leBytes]) hbytes hlo hhi, leaves_fault]

end

/-- Settles O45, from what the two rows leave at their word: aligned and in reach, misaligned, out of reach, and a STORE to IB. -/
theorem loadsAndStores : Obligations.LoadsAndStores := by
  intro q op s hop
  have hn := widthOf_eq op hop
  refine ⟨fun hat => ⟨fun ha hin => ?_, fun ha => ?_, fun ha hin => ?_⟩,
    fun hat => ⟨fun ha hw => ?_, fun ha => ?_, fun ha hin => ?_, fun ha hin hlo hhi => ?_⟩⟩
  · exact answers_leaves rfl (loadOp_reads hop hn hat ha hin) (advanced_jrnl ..) rfl
  · exact answers_fault rfl (loadOp_misaligned hop hn hat ha)
  · exact answers_fault rfl (loadOp_outOfReach hop hn hat ha hin)
  · exact answers_leaves rfl (storeOp_writes hop hn hat ha hw) (by simp) rfl
  · exact answers_fault rfl (storeOp_misaligned hop hn hat ha)
  · exact answers_fault rfl (storeOp_outOfReach hop hn hat ha hin)
  · exact answers_fault rfl (storeOp_ib hop hn hat ha hin hlo hhi)

end Sys2Proof.Machine
end

section
/-!
PROOFS. The step itself and the state at reset (R38, R52), and the commands of the system and of the journal (R122-R124, R145, R146).
-/

namespace Sys2Proof.Machine

/-- Settles O1: every arm of the dispatch is a `run`, which answers a next state with the queue as it was. -/
theorem stepRunsFrontAndAnswers : Obligations.StepRunsFrontAndAnswers := by
  refine ⟨fun c cs s h => ?_, fun i s => ?_⟩
  · simp only [step, h]
  · cases i <;> exact ⟨_, rfl, rfl⟩

/-- Settles O2: the reset state is a literal, and every setting is read at its default from an empty store. -/
theorem resetState : Obligations.ResetState := by
  refine ⟨⟨rfl, rfl, rfl, rfl, rfl, rfl, rfl, fun _ => rfl, rfl, rfl, ?_, rfl, rfl, rfl⟩, rfl⟩
  decide

/-! ### A rung command's row -/

@[simp] theorem started_w (d : Dev) (c : Cmd) (n : Nat) : (d.started c).w n = c.w n := rfl
@[simp] theorem started_w2 (d : Dev) (c : Cmd) (n : Nat) : (d.started c).w2 n = c.w2 n := rfl
@[simp] theorem started_w3 (d : Dev) (c : Cmd) (n : Nat) : (d.started c).w3 n = c.w3 n := rfl
@[simp] theorem started_zeroFrom (d : Dev) (c : Cmd) (n : Nat) : (d.started c).zeroFrom n = c.zeroFrom n := rfl
@[simp] theorem started_plen (d : Dev) (c : Cmd) : (d.started c).plen = c.plen := rfl
@[simp] theorem started_bytes (d : Dev) (c : Cmd) : (d.started c).bytes = c.bytes := rfl

/-- A row that an opcode starts answers what its body leaves of the command started. -/
theorem answers_command {i : Instr} {s : State} {op tag : Nat} {c : Cmd} {body : Cmd → Dev → Dev} {t : Dev} {P : Dev → Prop}
    (he : exec i s = run (Dev.startCmd (isOp op) tag body) s) (h : s.canRun op tag c = true)
    (ht : body (s.started c) (s.markStart c) = t) (hj : t.jrnl = s.jrnl) (hP : P t) : Answers i s P :=
  answers_leaves he ((startCmd_of_canRun body h).trans ht) hj hP

/-- A command that has started and ended has its result, -/
theorem ended_started {op tag : Nat} {c : Cmd} {d : Dev} (h : d.canRun op tag c = true) (r : Result) :
    ((d.markStart c).finish tag r).ended tag = some r := ended_finish (markStart_isSome h)

/-- and nothing but the command table, the secure holds and the owed atoms differs. -/
theorem onlyCommands_started (d : Dev) (c : Cmd) (tag : Nat) (r : Result) : OnlyCommands d ((d.markStart c).finish tag r) := rfl

/-- A row whose command ends at once answers its result, and nothing else differs. -/
theorem answers_finish {i : Instr} {s : State} {op tag : Nat} {c : Cmd} {body : Cmd → Dev → Dev} {r : Result}
    (he : exec i s = run (Dev.startCmd (isOp op) tag body) s) (h : s.canRun op tag c = true)
    (ht : body (s.started c) (s.markStart c) = (s.markStart c).finish tag r) :
    Answers i s fun t => t.ended tag = some r ∧ OnlyCommands s.toDev t :=
  answers_command he h ht rfl ⟨ended_started h r, onlyCommands_started ..⟩

theorem Answers.imp {i : Instr} {s : State} {P Q : Dev → Prop} (h : Answers i s P) (hpq : ∀ t, P t → Q t) : Answers i s Q := by
  obtain ⟨t, ht, hq, hp⟩ := h
  exact ⟨t, ht, hq, hpq _ hp⟩

/-! ### NOP, SLEEP_ENTER, SELFTEST and TELEMETRY_READ -/

theorem nop_copies {tag : Nat} {c : Cmd} {s : State} (h : s.canRun 0x00 tag c = true) (hz : c.zeroFrom 6 = true) :
    Answers (.nop tag) s fun t => t.ended tag = some (.gives .done c.payload) ∧ OnlyCommands s.toDev t :=
  answers_finish rfl h (if_pos hz)

theorem sleepEnter_answers {tag : Nat} {c : Cmd} {s : State} (h : s.canRun 0x01 tag c = true) (hlo : 1 ≤ c.w 6) (hhi : c.w 6 ≤ 4)
    (hkeep : c.w 7 ≤ 1) (hz : c.zeroFrom 8 = true) :
    Answers (.sleepEnter tag) s fun t => t.ended tag = some (if (s.markStart c).sleepConflict tag (c.w 6) then .gives .stateConflict []
      else ⟨.done, [], .sleep (c.w 6) (c.w 7 == 1), none, []⟩) ∧ OnlyCommands s.toDev t := by
  apply answers_finish rfl h
  have ht : ¬ c.w 6 = 0 := by omega
  simp only [started_w, started_zeroFrom, ht, hz, Nat.not_lt.mpr hhi, Nat.not_lt.mpr hkeep, decide_false, Bool.not_true,
    Bool.or_false, Bool.false_eq_true, if_false]
  rw [beq_eq_decide]
  by_cases hc : (s.markStart c).sleepConflict tag (c.w 6) = true
  · simp only [hc, if_true]
    rfl
  · simp only [hc, if_false, Bool.false_eq_true]
    rfl

/-- The bits of a list's number are its entries. -/
theorem bit_bitsNat : ∀ (l : List Bool) (i : Nat), bit i (bitsNat l) = l.getD i false
  | [], i => by simp [bit, bitsNat]
  | b :: bs, 0 => by cases b <;> simp [bit, bitsNat, b2n]
  | b :: bs, i + 1 => by
    have h := bit_bitsNat bs i
    simp only [bit] at h ⊢
    rw [Nat.testBit_succ, List.getD_cons_succ, ← h]
    congr 1
    cases b <;> simp only [bitsNat, b2n, if_true, if_false, Bool.false_eq_true] <;> omega

theorem bitsNat_lt : ∀ l : List Bool, bitsNat l < 2 ^ l.length
  | [] => by decide
  | b :: bs => by
    have h := bitsNat_lt bs
    cases b <;> simp only [bitsNat, b2n, List.length_cons, Nat.pow_succ, if_true, if_false, Bool.false_eq_true] <;> omega

theorem fnMask_lt (p : Nat → Bool) : fnMask p < 2 ^ 14 := by simpa [fnMask] using bitsNat_lt ((List.range 14).map p)

theorem bit_fnMask (p : Nat → Bool) {f : Nat} (hf : f < 14) : bit f (fnMask p) = p f := by
  rw [fnMask, bit_bitsNat, List.getD_eq_getElem _ _ (by simpa using hf)]
  simp

theorem toNat_word {n : Nat} (h : n < 65536) : (word n).toNat = n := by simp [word, Nat.mod_eq_of_lt h]

theorem toNat_word_fnMask (p : Nat → Bool) : (word (fnMask p)).toNat = fnMask p :=
  toNat_word (Nat.lt_trans (fnMask_lt p) (by decide))

theorem word_fnMask_eq_zero (p : Nat → Bool) : word (fnMask p) = 0 ↔ fnMask p = 0 := by
  rw [← BitVec.toNat_inj, toNat_word_fnMask]; rfl

/-- The masks of the functions that a SELFTEST names: skipped, failed and passed (R123). -/
def Dev.skipped (c : Cmd) (d : Dev) : Nat := fnMask (fun f => bit f (c.w 6) && d.fnOff f)
def Dev.failed (failing : Nat) (c : Cmd) (d : Dev) : Nat := fnMask (fun f => bit f (c.w 6) && !bit f (d.skipped c) && bit f failing)
def Dev.passed (failing : Nat) (c : Cmd) (d : Dev) : Nat := fnMask (fun f => bit f (c.w 6) && !bit f (d.skipped c) && !bit f failing)

/-- What a SELFTEST leaves of the device before it ends, and its result. -/
def Dev.tested (failing : Nat) (c : Cmd) (d : Dev) : Dev :=
  { d.markStart c with
    host := { d.host with degraded := d.host.degraded || d.failed failing c != 0 },
    rel := { d.rel with diag := if bit 11 (d.passed failing c) then 0 else d.rel.diag } }
def Dev.testResult (failing : Nat) (c : Cmd) (d : Dev) : Result :=
  .gives (if d.failed failing c = 0 then .done else .hwFault) [word (d.passed failing c), word (d.failed failing c), word (d.skipped c)]

theorem selftest_answers {tag failing : Nat} {c : Cmd} {s : State} (h : s.canRun 0x02 tag c = true) (hw : c.w 6 < 2 ^ 14)
    (hz : c.zeroFrom 7 = true) : Answers (.selftest tag failing) s fun t =>
      ∃ p q k : Word,
        t.ended tag = some (.gives (if q = 0 then .done else .hwFault) [p, q, k]) ∧
        (∀ f, f < 14 → bit f p.toNat = (bit f (c.w 6) && !s.fnOff f && !bit f failing) ∧
          bit f q.toNat = (bit f (c.w 6) && !s.fnOff f && bit f failing) ∧ bit f k.toNat = (bit f (c.w 6) && s.fnOff f)) ∧
        t.host.degraded = (s.host.degraded || q != 0) ∧ t.sets = s.sets ∧ t.lf = s.lf ∧ t.clock = s.clock ∧ t.jrnl = s.jrnl := by
  have hno : ¬ 0x4000 ≤ c.w 6 := by omega
  have hbad (p q r : Bool) : (p && !(p && q) && r) = (p && !q && r) := by cases p <;> cases q <;> rfl
  apply answers_command rfl h (t := (s.tested failing c).finish tag (s.testResult failing c))
  · simp only [started_w, started_zeroFrom, hno, hz, decide_false, Bool.not_true, Bool.or_false, Bool.false_eq_true, if_false]
    rfl
  · rfl
  · refine ⟨word (s.passed failing c), word (s.failed failing c), word (s.skipped c), ?_, fun f hf => ?_, ?_, rfl, rfl, rfl, rfl⟩
    · rw [ended_finish (d := s.tested failing c) (markStart_isSome h), Dev.testResult, Dev.failed]
      simp only [word_fnMask_eq_zero]
    · simp only [Dev.passed, Dev.failed, Dev.skipped, toNat_word_fnMask, bit_fnMask _ hf, hbad, and_self]
    · show (s.host.degraded || s.failed failing c != 0) = _
      rw [Bool.eq_iff_iff]
      simp only [Bool.or_eq_true, bne_iff_ne, ne_eq, Dev.failed, word_fnMask_eq_zero]

theorem length_fit {α : Type} (n : Nat) (d : α) (l : List α) : (fit n d l).length = n := by simp [fit]

theorem getD_fit {α : Type} {n i : Nat} (d : α) (l : List α) (h : i < n) : (fit n d l).getD i d = l.getD i d := by
  simp only [fit, List.getD_eq_getElem?_getD, List.getElem?_take, h, if_true, List.getElem?_append]
  split
  · rfl
  · rw [List.getElem?_replicate, List.getElem?_eq_none (by omega)]
    split <;> rfl

theorem length_telemetry (d : Dev) (items : List Word) : (d.telemetry items).length = 32 := by simp [Dev.telemetry, length_fit]

/-- Each telemetry item (R124). -/
theorem getD_telemetry {d : Dev} (items : List Word) (n : Nat) (hn : n < 32) (ha : d.lf.aerials.length = 8) :
    (d.telemetry items).getD n 0 = if n < 8 then items.getD n 0 else if n < 16 then word (d.aerial (n - 8)).ipeak
      else if n = 16 then items.getD 8 0 else if n = 17 then word (min 65535 d.pwr.wakes) else 0 := by
  rw [Dev.telemetry]
  by_cases h8 : n < 8
  · rw [List.append_assoc, List.append_assoc, List.getD_append _ _ _ _ (by simpa [length_fit]), getD_fit _ _ h8, if_pos h8]
  · by_cases h16 : n < 16
    · rw [List.append_assoc, List.append_assoc, List.getD_append_right _ _ _ _ (by simpa [length_fit] using h8), length_fit,
        List.getD_append _ _ _ _ (by rw [length_fit]; omega), getD_fit _ _ (by omega), if_neg h8, if_pos h16,
        List.getD_eq_getElem _ _ (by rw [List.length_map]; omega), List.getElem_map, Dev.aerial,
        List.getD_eq_getElem _ _ (by omega)]
    · rw [List.append_assoc, List.getD_append_right _ _ _ _ (by simpa [length_fit] using h16)]
      simp only [List.length_append, length_fit, h8, h16, if_false]
      obtain ⟨k, rfl⟩ := Nat.exists_eq_add_of_le (Nat.not_lt.mp h16)
      rw [show 16 + k - (8 + 8) = k by omega]
      match k with
      | 0 => rfl
      | 1 => rfl
      | k + 2 =>
        rw [if_neg (by omega), if_neg (by omega)]
        exact List.getD_replicate (0 : Word) (by omega)

theorem getD_slice {α : Type} (d : α) (o n i : Nat) (l : List α) (h : i < n) : (slice o n l).getD i d = l.getD (o + i) d := by
  simp [slice, List.getD_eq_getElem?_getD, h]

theorem telemetryRead_answers {tag : Nat} {items : List Word} {c : Cmd} {s : State} (h : s.canRun 0x03 tag c = true) (hlo : 1 ≤ c.w 7)
    (hhi : c.w 6 + c.w 7 ≤ 32) (hz : c.zeroFrom 8 = true) :
    Answers (.telemetryRead tag items) s fun t =>
      t.ended tag = some (.gives .done (slice (c.w 6) (c.w 7) (s.telemetry items))) ∧ OnlyCommands s.toDev t := by
  apply answers_finish rfl h
  have hne : ¬ c.w 7 = 0 := by omega
  simp only [started_w, started_zeroFrom, hne, hz, Nat.not_lt.mpr hhi, decide_false, Bool.not_true, Bool.or_false, Bool.false_eq_true,
    if_false]
  rfl

/-- Settles O5, from what each of the four rows answers of its command started. -/
theorem systemCommands : Obligations.SystemCommands := by
  refine ⟨fun tag c s => ⟨nop_copies, fun h h1 h2 h3 h4 => (sleepEnter_answers h h1 h2 h3 h4).imp fun t => And.symm⟩,
    fun tag failing c s => selftest_answers, fun tag items c s h hlo hhi hz ha => ?_⟩
  refine (telemetryRead_answers h hlo hhi hz).imp fun t ⟨hend, honly⟩ => ⟨_, hend, ?_, honly, fun i hi => ?_⟩
  · simp only [slice, List.length_take, List.length_drop, length_telemetry]
    omega
  · rw [getD_slice 0 _ _ _ _ hi, getD_telemetry items _ (by omega) ha]

/-! ### LOG_READ and LOG_VERIFY -/

/-- A read that met nothing: no later step of the ladder, no stripe, nothing lost. -/
theorem nandLost_clean (d : Dev) (bits : Nat) : d.nandLost ⟨0, bits, false, false⟩ = false := rfl

theorem nandMet_clean (d : Dev) (bits : Nat) : d.nandMet ⟨0, bits, false, false⟩ = d := rfl

theorem logRead_numbers {tag : Nat} {nand : NandRead} {c : Cmd} {s : State} (h : s.canRun 0x08 tag c = true) (hz : c.zeroFrom 10 = true)
    (hready : s.med.ready = true) (hcount : c.w 9 = 0) : Answers (.logRead tag nand) s fun t =>
      t.ended tag = some (.gives .done (leWords 3 s.oldest ++ leWords 3 s.jrnl.nextNumber ++ leWords 2 v2Capacity)) ∧
      OnlyCommands s.toDev t := by
  apply answers_finish rfl h
  simp [hz, hcount, hready]
  rfl

theorem logRead_records {tag bits : Nat} {c : Cmd} {s : State} (h : s.canRun 0x08 tag c = true) (hmax : c.w 9 ≤ 21)
    (hz : c.zeroFrom 10 = true) (hready : s.med.ready = true) (hcount : 1 ≤ c.w 9) (hold : s.oldest ≤ c.w3 6)
    (hnext : c.w3 6 < s.jrnl.nextNumber) : Answers (.logRead tag ⟨0, bits, false, false⟩) s fun t =>
      t.ended tag = some (.gives .done
        (((s.records.filter (fun r => c.w3 6 ≤ r.number)).take (c.w 9)).flatMap (fun r => bytesToWords r.all))) ∧
      OnlyCommands s.toDev t := by
  apply answers_finish rfl h
  have hne : c.w 9 ≠ 0 := by omega
  have hold' : (s.markStart c).oldest ≤ c.w3 6 := hold
  simp [hz, hne, hready, Nat.not_lt.mpr hmax, Nat.not_lt.mpr hold', Nat.not_le.mpr hnext, nandLost_clean, nandMet_clean]
  rfl

/-- No record is verified of none. -/
theorem verifyRange_zero (d : Dev) (n : Nat) (prev : Option Record) (rs : List Record) : d.verifyRange n 0 prev rs = none := by
  cases rs <;> rfl

/-- One record that stands in the chain fails only with a zero tag, and passes with the chain's (R146). -/
theorem verifyRange_one_zeroTag {d : Dev} {r : Record} {rs : List Record} (prev : Option Record) (hin : d.outside r.number = false)
    (ht : r.tag = zeroTag) : d.verifyRange r.number 1 prev (r :: rs) = some (r.number, 3) := by
  simp [Dev.verifyRange, hin, ht]

theorem verifyRange_one_chained {d : Dev} {r : Record} {rs : List Record} {prev : Option Record} (hin : d.outside r.number = false)
    (ht : r.tag ≠ zeroTag) (hc : d.chainTag r (d.predecessor r) = r.tag) (hp : ∀ p, prev = some p → inOrder p r = true) :
    d.verifyRange r.number 1 prev (r :: rs) = none := by
  have hprev : prev.any (fun p => !inOrder p r) = false := by
    cases prev with
    | none => rfl
    | some p => simp [hp p rfl]
  simp [Dev.verifyRange, hin, ht, hc, hprev, verifyRange_zero]

theorem verifyRange_markStart (d : Dev) (c : Cmd) : ∀ (rs : List Record) (n count : Nat) (prev : Option Record),
    (d.markStart c).verifyRange n count prev rs = d.verifyRange n count prev rs
  | [], _, _, _ => rfl
  | r :: rs, n, count, prev => by
    simp only [Dev.verifyRange, verifyRange_markStart d c rs]
    rfl

/-- The result of LOG_VERIFY of record `n`, by what the check of its range found. -/
def Dev.verifyResult (d : Dev) (n : Nat) : Option (Nat × Nat) → Result
  | some (bad, why) => .gives .authFail (leWords 3 bad ++ [word why, 0, 0, 0, 0])
  | none => .gives .done (leWords 3 n ++ bytesToWords (d.tagOf n) ++ [0])

/-- LOG_VERIFY of one record that is kept ends with what the range's check says. -/
theorem logVerify_one {tag bits : Nat} {c : Cmd} {s : State} {v : Option (Nat × Nat)} (h : s.canRun 0x09 tag c = true)
    (hcount : c.w2 9 = 1) (hz : c.zeroFrom 11 = true) (hready : s.med.ready = true) (hprov : s.cru.provisioned = true)
    (hold : s.oldest ≤ c.w3 6) (hnext : c.w3 6 + 1 ≤ s.jrnl.nextNumber)
    (hv : s.verifyRange (c.w3 6) 1 (s.records.find? (fun r => r.number + 1 == c.w3 6)) (s.records.filter (fun r => c.w3 6 ≤ r.number))
      = v) :
    Answers (.logVerify tag ⟨0, bits, false, false⟩) s fun t =>
      t.ended tag = some (s.verifyResult (c.w3 6) v) ∧ OnlyCommands s.toDev t := by
  apply answers_finish rfl h
  have hold' : (s.markStart c).oldest ≤ c.w3 6 := hold
  simp only [started_w3, started_w2, started_zeroFrom, hcount, hz, hready, hprov, Nat.not_lt.mpr hold', Nat.not_lt.mpr hnext,
    nandLost_clean, nandMet_clean, Dev.markStart_med, Dev.markStart_cru, Dev.markStart_jrnl, Nat.add_sub_cancel, ite_self,
    decide_false, Bool.not_true, Bool.or_false, Bool.and_false, Bool.false_eq_true, if_false, one_ne_zero]
  rw [verifyRange_markStart]
  split <;> rename_i heq <;> obtain rfl := heq.symm.trans hv <;> rfl

/-- Settles O6, from what the two rows answer of their command started. -/
theorem logCommands : Obligations.LogCommands := by
  refine ⟨fun tag nand c s h hmax hz hready => ⟨logRead_numbers h hz hready, fun hcount hold hnext hnand => ?_⟩,
    fun tag nand c s r h hcount hz hready hprov hold hnext hrs hnum hin hnand => ⟨fun ht => ?_, fun ht hc hp => ?_⟩⟩
  · rw [hnand]
    exact logRead_records h hmax hz hready hcount hold hnext
  · rw [hnand, hnum]
    refine logVerify_one h hcount hz hready hprov hold hnext (v := some (c.w3 6, 3)) ?_
    rw [hrs, ← hnum, verifyRange_one_zeroTag _ hin ht]
  · rw [hnand]
    refine logVerify_one h hcount hz hready hprov hold hnext (v := none) ?_
    rw [hrs, ← hnum, verifyRange_one_chained hin ht hc (by rwa [hnum])]

end Sys2Proof.Machine
end

section
/-!
PROOFS. The settings store (R130-R136): which functions of the model leave it as it is, one lemma each in the order of the model, and that
every step keeps its canonical form. A fold, an event aside, the start of a command, an instruction and the other functions that take a
function leave it where that function does. Simp is told not to prove by unfolding (`-implicitDefEqProofs`) where it has to discharge such
a hypothesis from lemmas that hold by `rfl`.
-/

namespace Sys2Proof.Machine

/-! ### Ops -/

@[simp] theorem Dev.toClose_sets (w : Window) (d : Dev) : (Dev.toClose w d).sets = d.sets := rfl
@[simp] theorem Dev.freeNat_sets (d : Dev) : (Dev.freeNat d).2.sets = d.sets := rfl
@[simp] theorem Dev.freeWord_sets (d : Dev) : (Dev.freeWord d).2.sets = d.sets := rfl
@[simp] theorem Dev.freeBool_sets (d : Dev) : (Dev.freeBool d).2.sets = d.sets := rfl
@[simp] theorem Dev.freeBytes_sets (d : Dev) (n : Nat) : (Dev.freeBytes d n).2.sets = d.sets := rfl

/-- A fold leaves the settings where each of its steps does. -/
theorem foldl_sets {α : Type} (f : Dev → α → Dev) (xs : List α) (h : ∀ d x, (f d x).sets = d.sets) (d : Dev) :
    (xs.foldl f d).sets = d.sets := by
  induction xs generalizing d with
  | nil => rfl
  | cons x xs ih => rw [List.foldl_cons, ih, h]

@[simp] theorem Dev.aside_sets (port : Nat) (f : Dev → Dev) (h : ∀ e, (f e).sets = e.sets) (d : Dev) : (d.aside port f).sets = d.sets := by
  unfold Dev.aside
  dsimp only
  rw [h]
  split <;> rfl

/-! ### Journal -/

@[simp] theorem Dev.holdEntry_sets (d : Dev) : (Dev.holdEntry d).sets = d.sets := by
  unfold Dev.holdEntry
  split <;> simp

@[simp] theorem Dev.settle_sets (before : Dev) (d1 : Dev) : (Dev.settle before d1).sets = d1.sets := by
  unfold Dev.settle
  split <;> simp

@[simp] theorem Dev.logs_sets (origin : Nat) (tag : Nat) (op : Nat) (xs : List Draft) (d : Dev) :
    (Dev.logs origin tag op xs d).sets = d.sets := foldl_sets _ _ (by simp) d

@[simp] theorem Dev.stateChange_sets (x0 : DevState) (d : Dev) : (Dev.stateChange x0 d).sets = d.sets := by
  unfold Dev.stateChange
  dsimp only
  split <;> simp

@[simp] theorem Dev.undoze_sets (d : Dev) : (Dev.undoze d).sets = d.sets := by
  unfold Dev.undoze
  split <;> simp

@[simp] theorem Dev.presentOn_sets (port : Nat) (d : Dev) : (Dev.presentOn port d).sets = d.sets := by simp [Dev.presentOn]
@[simp] theorem Dev.present_sets (d : Dev) : (Dev.present d).sets = d.sets := by simp [Dev.present]
@[simp] theorem Dev.closeOn_sets (port : Nat) (d : Dev) : (Dev.closeOn port d).sets = d.sets := by simp [Dev.closeOn]

@[simp] theorem Dev.closes_sets (port : Nat) (w : Option Window) (f : Dev → Dev) (h : ∀ e, (f e).sets = e.sets) (d : Dev) :
    (Dev.closes port w f d).sets = d.sets := by
  unfold Dev.closes
  repeat' split
  all_goals simp [h]

@[simp] theorem Dev.signal_sets (n : Nat) (d : Dev) : (Dev.signal n d).sets = d.sets := by simp [Dev.signal]

@[simp] theorem Dev.starts_sets (n : Nat) (d : Dev) : (Dev.starts n d).sets = d.sets := by
  unfold Dev.starts
  split <;> simp

@[simp] theorem Dev.alsoSignal_sets (n : Nat) (d : Dev) : (Dev.alsoSignal n d).sets = d.sets := by simp [Dev.alsoSignal]

@[simp] theorem Dev.alsoStarts_sets (n : Nat) (d : Dev) : (Dev.alsoStarts n d).sets = d.sets := by
  unfold Dev.alsoStarts
  split <;> simp

@[simp] theorem Dev.noteOn_sets (port : Nat) (origin : Nat) (x : Draft) (d : Dev) :
    (Dev.noteOn port origin x d).sets = d.sets := Dev.aside_sets _ _ (by simp) d

/-! ### Shared -/

@[simp] theorem Dev.freeSlotRecords_sets (s : Nat) (d : Dev) : (Dev.freeSlotRecords s d).sets = d.sets := rfl

@[simp] theorem Dev.endGrant_sets (origin : Nat) (tag : Nat) (op : Nat) (cause : Nat) (a : Nat) (d : Dev) :
    (Dev.endGrant origin tag op cause a d).sets = d.sets := by
  unfold Dev.endGrant
  dsimp only
  split <;> simp

@[simp] theorem Dev.endGrants_sets (origin : Nat) (tag : Nat) (op : Nat) (cause : Nat) (as : List Nat) (d : Dev) :
    (Dev.endGrants origin tag op cause as d).sets = d.sets := foldl_sets _ _ (by simp) d
@[simp] theorem Dev.grantFalls_sets (p : Nat → Bool) (cause : Nat) (d : Dev) : (Dev.grantFalls p cause d).sets = d.sets := rfl

@[simp] theorem Dev.closeSession_sets (origin : Nat) (tag : Nat) (op : Nat) (cause : Nat) (num : Nat) (d : Dev) :
    (Dev.closeSession origin tag op cause num d).sets = d.sets := by
  unfold Dev.closeSession
  split <;> simp

@[simp] theorem Dev.endList_sets (origin : Nat) (tag : Nat) (op : Nat) (gcause : Nat) (cause : Nat) (ns : List Nat) (d : Dev) :
    (Dev.endList origin tag op gcause cause ns d).sets = d.sets := by
  simp [Dev.endList, foldl_sets]

@[simp] theorem Dev.endSession_sets (origin : Nat) (tag : Nat) (op : Nat) (gcause : Nat) (cause : Nat) (num : Nat) (d : Dev) :
    (Dev.endSession origin tag op gcause cause num d).sets = d.sets := by
  unfold Dev.endSession
  split <;> simp

@[simp] theorem Dev.endSessions_sets (origin : Nat) (tag : Nat) (op : Nat) (gcause : Nat) (cause : Nat) (p : Session → Bool) (d : Dev) :
    (Dev.endSessions origin tag op gcause cause p d).sets = d.sets := by simp [Dev.endSessions]
@[simp] theorem Dev.switchOff_sets (origin : Nat) (tag : Nat) (op : Nat) (cause : Nat) (d : Dev) :
    (Dev.switchOff origin tag op cause d).sets = d.sets := by simp [Dev.switchOff]
@[simp] theorem Dev.lockRelay_sets (origin : Nat) (tag : Nat) (op : Nat) (cause : Nat) (gcause : Nat) (d : Dev) :
    (Dev.lockRelay origin tag op cause gcause d).sets = d.sets := by simp [Dev.lockRelay]

@[simp] theorem Dev.quell_sets (origin cause scause rcause gcause : Nat) (d : Dev) :
    (Dev.quell origin cause scause rcause gcause d).sets = d.sets := by
  simp [Dev.quell, foldl_sets]

@[simp] theorem Dev.stopAir_sets (d : Dev) : (Dev.stopAir d).sets = d.sets := rfl

@[simp] theorem Dev.endExchange_sets (tag : Nat) (d : Dev) : (Dev.endExchange tag d).sets = d.sets := by
  unfold Dev.endExchange
  split <;> simp

@[simp] theorem Dev.dropWork_sets (tag : Nat) (d : Dev) : (Dev.dropWork tag d).sets = d.sets := by
  unfold Dev.dropWork
  dsimp only
  split <;> simp

/-! ### Commands -/

@[simp] theorem Dev.hostError_sets (c : Cmd) (d : Dev) : (Dev.hostError c d).sets = d.sets := rfl

@[simp] theorem Dev.unpredictable_sets (c : Cmd) (d : Dev) : (Dev.unpredictable c d).sets = d.sets := by
  unfold Dev.unpredictable
  dsimp only
  split <;> simp

@[simp] theorem Dev.enter_sets (c : Cmd) (status : Nat) (ws : List Word) (d : Dev) : (Dev.enter c status ws d).sets = d.sets := rfl

@[simp] theorem Dev.releaseLogged_sets (c : Cmd) (st : Nat) (esn : Nat) (old : Nat) (d : Dev) :
    (Dev.releaseLogged c st esn old d).sets = d.sets := by
  unfold Dev.releaseLogged
  split <;> simp

@[simp] theorem Dev.dropChild_sets (c : Cmd) (d : Dev) : (Dev.dropChild c d).sets = d.sets := by
  unfold Dev.dropChild
  split <;> simp

@[simp] theorem Dev.endBy_sets (st : Status) (c : Cmd) (d : Dev) : (Dev.endBy st c d).sets = d.sets := by simp [Dev.endBy]

@[simp] theorem Dev.expire_sets (c : Cmd) (d : Dev) : (Dev.expire c d).sets = d.sets := by
  unfold Dev.expire
  split <;> simp

@[simp] theorem Dev.endCmd_sets (st : Status) (c : Cmd) (d : Dev) : (Dev.endCmd st c d).sets = d.sets := Dev.aside_sets _ _ (by simp) d
@[simp] theorem Dev.endCmds_sets (st : Status) (p : Cmd → Bool) (d : Dev) : (Dev.endCmds st p d).sets = d.sets := foldl_sets _ _ (by simp) d

theorem Dev.startCmd_sets {sel : Cmd → Bool} {tag : Nat} {body : Cmd → Dev → Dev} (h : ∀ c e, (body c e).sets = e.sets) (d : Dev) :
    (Dev.startCmd sel tag body d).sets = d.sets := by
  unfold Dev.startCmd
  repeat' split
  all_goals simp [h]

@[simp] theorem Dev.sampled_sets (tag : Nat) (f : Dev → Dev) (h : ∀ e, (f e).sets = e.sets) (d : Dev) :
    (Dev.sampled tag f d).sets = d.sets := by
  unfold Dev.sampled
  split
  · exact h d
  · split
    · exact h d
    · rfl

/-! ### Nand -/

@[simp] theorem Dev.noteMedia_sets (die : Nat) (old : Nat) (d : Dev) : (Dev.noteMedia die old d).sets = d.sets := by simp [Dev.noteMedia]

@[simp] theorem Dev.dieGone_sets (k : Nat) (d : Dev) : (Dev.dieGone k d).sets = d.sets := by
  unfold Dev.dieGone
  split <;> simp

@[simp] theorem Dev.dieNoted_sets (k : Nat) (old : Nat) (d : Dev) : (Dev.dieNoted k old d).sets = d.sets := by simp [Dev.dieNoted]

@[simp] theorem Dev.retireBlock_sets (d : Dev) : (Dev.retireBlock d).sets = d.sets := by
  unfold Dev.retireBlock
  dsimp only
  split
  · simp
  · split <;> split <;> simp

@[simp] theorem Dev.nandMet_sets (n : NandRead) (d : Dev) : (Dev.nandMet n d).sets = d.sets := by
  unfold Dev.nandMet
  dsimp only
  repeat' split
  all_goals simp

/-! ### Loops -/

@[simp] theorem Dev.satCheck_sets (d : Dev) : (Dev.satCheck d).sets = d.sets := by
  unfold Dev.satCheck
  split <;> simp

@[simp] theorem Dev.setEst_sets (n : Nat) (v : Nat) (d : Dev) : (Dev.setEst n v d).sets = d.sets := by
  unfold Dev.setEst
  split <;> simp

@[simp] theorem Dev.wishBelow_sets (n : Nat) (d : Dev) : (Dev.wishBelow n d).sets = d.sets := by
  unfold Dev.wishBelow
  split <;> simp

@[simp] theorem Dev.overrideCheck_sets (n : Nat) (d : Dev) : (Dev.overrideCheck n d).sets = d.sets := by
  unfold Dev.overrideCheck
  dsimp only
  repeat' split
  all_goals simp

@[simp] theorem Dev.pinLoop_sets (n : Nat) (d : Dev) : (Dev.pinLoop n d).sets = d.sets := by simp [Dev.pinLoop]

@[simp] theorem Dev.unpinLoop_sets (n : Nat) (v : Nat) (d : Dev) : (Dev.unpinLoop n v d).sets = d.sets := by
  unfold Dev.unpinLoop
  split <;> simp

@[simp] theorem Dev.atom_sets (unit : Nat) (body : Dev → Dev) (h : ∀ e, (body e).sets = e.sets) (d : Dev) :
    (Dev.atom unit body d).sets = d.sets := by
  unfold Dev.atom
  repeat' split
  all_goals simp [h]

/-! ### Lf -/

@[simp] theorem Dev.latchFault_sets (b : Nat) (n : Nat) (d : Dev) : (Dev.latchFault b n d).sets = d.sets := by
  unfold Dev.latchFault
  dsimp only
  split <;> simp

@[simp] theorem Dev.faultOn_sets (b n : Nat) (d : Dev) : (Dev.faultOn b n d).sets = d.sets := by
  unfold Dev.faultOn
  split <;> simp [foldl_sets]

@[simp] theorem Dev.clearFaults_sets (n : Nat) (d : Dev) : (Dev.clearFaults n d).sets = d.sets := rfl
@[simp] theorem Dev.drive_sets (wish : List Nat) (d : Dev) : (Dev.drive wish d).sets = d.sets := rfl

@[simp] theorem Dev.lfHeat_sets (d : Dev) : (Dev.lfHeat d).sets = d.sets := by
  unfold Dev.lfHeat
  dsimp only
  repeat' split
  all_goals simp

@[simp] theorem Dev.emit_sets (e : Emission) (mask : Nat) (b : Nat) (n : Nat) (wish : List Nat) (d : Dev) :
    (Dev.emit e mask b n wish d).sets = d.sets := by simp [Dev.emit]
@[simp] theorem Dev.sendAt_sets (wish : List Nat) (e : Emission) (mask : Nat) (b : Nat) (code : Nat) (data : Bytes) (d : Dev) :
    (Dev.sendAt wish e mask b code data d).sets = d.sets := by simp [Dev.sendAt]
@[simp] theorem Dev.send_sets (e : Emission) (mask : Nat) (b : Nat) (code : Nat) (data : Bytes) (d : Dev) :
    (Dev.send e mask b code data d).sets = d.sets := by simp [Dev.send]
@[simp] theorem Dev.emitOn_sets (e : Emission) (mask : Nat) (gap : Nat) (n : Nat) (wish : List Nat) (d : Dev) :
    (Dev.emitOn e mask gap n wish d).sets = d.sets := by simp [Dev.emitOn]
@[simp] theorem Dev.locatePhase_sets (e : Emission) (mask : Nat) (s : Nat) (d : Dev) :
    (Dev.locatePhase e mask s d).sets = d.sets := by simp [Dev.locatePhase]

@[simp] theorem Dev.cutEmission_sets (d : Dev) : (Dev.cutEmission d).sets = d.sets := by
  unfold Dev.cutEmission
  dsimp only
  repeat' split
  all_goals simp

@[simp] theorem Dev.takeLf_sets (d : Dev) : (Dev.takeLf d).sets = d.sets := by
  unfold Dev.takeLf
  split <;> simp

@[simp] theorem Dev.pollFrom_sets (d : Dev) : (Dev.pollFrom d).sets = d.sets := by simp [Dev.pollFrom]

@[simp] theorem Dev.burstOn_sets (mask : Nat) (d : Dev) : (Dev.burstOn mask d).sets = d.sets := by
  unfold Dev.burstOn
  repeat' split
  all_goals simp -implicitDefEqProofs [foldl_sets]

@[simp] theorem Dev.burstOff_sets (d : Dev) : (Dev.burstOff d).sets = d.sets := by
  simp [Dev.burstOff, apply_ite Dev.sets]

@[simp] theorem Dev.parkToDeep_sets (d : Dev) : (Dev.parkToDeep d).sets = d.sets := by simp [Dev.parkToDeep]

@[simp] theorem Dev.nextStage_sets (d : Dev) : (Dev.nextStage d).sets = d.sets := by
  unfold Dev.nextStage
  dsimp only
  split <;> simp

@[simp] theorem Dev.stagesTo_sets (t n : Nat) (d : Dev) : (Dev.stagesTo t n d).sets = d.sets := by
  induction n generalizing d with
  | zero => rfl
  | succ n ih =>
    unfold Dev.stagesTo
    split <;> simp [ih]

@[simp] theorem Dev.pollDone_sets (d : Dev) : (Dev.pollDone d).sets = d.sets := by
  unfold Dev.pollDone
  dsimp only
  repeat' split
  all_goals simp

@[simp] theorem pollConfig_sets (tag : Nat) (d : Dev) : (pollConfig tag d).sets = d.sets := by
  refine Dev.startCmd_sets (fun c e => ?_) _
  dsimp only
  repeat' split
  all_goals simp

@[simp] theorem pollStart_sets (tag : Nat) (d : Dev) : (pollStart tag d).sets = d.sets := by
  simp [pollStart, Dev.startCmd_sets, apply_ite Dev.sets]

@[simp] theorem Dev.stopPolling_sets (d : Dev) : (Dev.stopPolling d).sets = d.sets := by
  unfold Dev.stopPolling
  split <;> simp

@[simp] theorem pollStop_sets (tag : Nat) (d : Dev) : (pollStop tag d).sets = d.sets := by
  simp [pollStop, Dev.startCmd_sets, apply_ite Dev.sets]

@[simp] theorem lfWakeLocate_sets (tag : Nat) (d : Dev) : (lfWakeLocate tag d).sets = d.sets := by
  refine Dev.startCmd_sets (fun c e => ?_) _
  dsimp only
  repeat' split
  all_goals simp

@[simp] theorem lfTelegram_sets (tag : Nat) (d : Dev) : (lfTelegram tag d).sets = d.sets := by
  refine Dev.startCmd_sets (fun c e => ?_) _
  dsimp only
  repeat' split
  all_goals simp

@[simp] theorem Dev.calAerial_sets (apply : Bool) (n : Nat) (peaks : List Nat) (fault : Nat) (d : Dev) :
    (Dev.calAerial apply n peaks fault d).1.sets = d.sets := by
  simp [Dev.calAerial, foldl_sets, apply_ite Dev.sets]

@[simp] theorem Dev.calFrom_sets (apply : Bool) (mask : Nat) (peaks : List (List Nat)) (faults : List Nat) (k n : Nat) (d : Dev) :
    (Dev.calFrom apply mask peaks faults k n d).1.sets = d.sets := by
  induction k generalizing n d with
  | zero => rfl
  | succ k ih =>
    unfold Dev.calFrom
    dsimp only
    rw [ih]
    split <;> simp

@[simp] theorem aerialCal_sets (tag : Nat) (peaks : List (List Nat)) (faults : List Nat) (d : Dev) :
    (aerialCal tag peaks faults d).sets = d.sets := by
  refine Dev.startCmd_sets (fun c e => ?_) _
  dsimp only
  repeat' split
  all_goals simp

@[simp] theorem Dev.coilLost_sets (d : Dev) : (Dev.coilLost d).sets = d.sets := by
  unfold Dev.coilLost
  repeat' split
  all_goals simp

@[simp] theorem Dev.pollLost_sets (d : Dev) : (Dev.pollLost d).sets = d.sets := by
  unfold Dev.pollLost
  split <;> simp

@[simp] theorem aerialFault_sets (n : Nat) (b : Nat) (d : Dev) : (aerialFault n b d).sets = d.sets := by
  unfold aerialFault
  split <;> simp

@[simp] theorem bridgeOvertempClear_sets (bank : Nat) (d : Dev) : (bridgeOvertempClear bank d).sets = d.sets := by
  refine foldl_sets _ _ (fun e x => ?_) _
  dsimp only
  repeat' split
  all_goals simp

@[simp] theorem vlfLimit_sets (mv : Nat) (d : Dev) : (vlfLimit mv d).sets = d.sets := by
  unfold vlfLimit
  dsimp only
  split <;> simp

@[simp] theorem trimAtom_sets (n : Nat) (below : Nat) (at_ : Nat) (above : Nat) (d : Dev) :
    (trimAtom n below at_ above d).sets = d.sets := by
  simp [trimAtom, apply_ite Dev.sets]

@[simp] theorem bellowsPoll_sets (noise : Nat) (d : Dev) : (bellowsPoll noise d).sets = d.sets := by
  unfold bellowsPoll
  split
  · rfl
  · dsimp only
    repeat' split
    all_goals simp

@[simp] theorem stageChangeRow_sets (d : Dev) : (stageChangeRow d).sets = d.sets := by
  unfold stageChangeRow
  split <;> simp

/-! ### Uhf -/

@[simp] theorem Dev.retuneWindows_sets (d : Dev) : (Dev.retuneWindows d).sets = d.sets := rfl

@[simp] theorem Dev.openWindows_sets (tag : Option Nat) (e : Nat) (n : Nat) (codes : List Nat) (slots : List Nat) (d : Dev) :
    (Dev.openWindows tag e n codes slots d).sets = d.sets := by
  unfold Dev.openWindows
  dsimp only
  repeat' split
  all_goals simp

@[simp] theorem Dev.releaseWindows_sets (tag : Nat) (d : Dev) : (Dev.releaseWindows tag d).sets = d.sets := rfl
@[simp] theorem Dev.closeWindows_sets (tag : Option Nat) (d : Dev) : (Dev.closeWindows tag d).sets = d.sets := rfl
@[simp] theorem Dev.frameBad_sets (noisy : Bool) (win : Option Listen) (d : Dev) : (Dev.frameBad noisy win d).sets = d.sets := rfl
@[simp] theorem Dev.frameSeen_sets (m : Nat) (f : TokenFrame) (d : Dev) : (Dev.frameSeen m f d).sets = d.sets := rfl
@[simp] theorem Dev.frameAccepted_sets (rx : UhfRx) (m : Nat) (slot : Option Nat) (f : TokenFrame) (d : Dev) :
    (Dev.frameAccepted rx m slot f d).sets = d.sets := rfl
@[simp] theorem Dev.synced_sets (rx : UhfRx) (d : Dev) : (Dev.synced rx d).sets = d.sets := rfl

@[simp] theorem Dev.receive_sets (rx : UhfRx) (d : Dev) : (Dev.receive rx d).1.sets = d.sets := by
  unfold Dev.receive
  dsimp only
  repeat' split
  all_goals simp

@[simp] theorem Dev.pathLost_sets (d : Dev) : (Dev.pathLost d).sets = d.sets := by
  unfold Dev.pathLost
  repeat' split
  all_goals simp -implicitDefEqProofs [foldl_sets]

@[simp] theorem uhfJam_sets (path : Nat) (code : Nat) (held : Nat) (d : Dev) : (uhfJam path code held d).sets = d.sets := by
  unfold uhfJam
  dsimp only
  repeat' split
  all_goals simp

@[simp] theorem uhfUnlock_sets (path : Nat) (d : Dev) : (uhfUnlock path d).sets = d.sets := by
  unfold uhfUnlock
  split <;> simp

@[simp] theorem uhfRfFault_sets (path : Nat) (d : Dev) : (uhfRfFault path d).sets = d.sets := by
  unfold uhfRfFault
  split <;> simp

@[simp] theorem synthesiserRelock_sets (unit : Nat) (d : Dev) : (synthesiserRelock unit d).sets = d.sets := by
  unfold synthesiserRelock
  split <;> simp

@[simp] theorem squelchMeasure_sets (path : Nat) (code : Nat) (d : Dev) : (squelchMeasure path code d).sets = d.sets := by
  unfold squelchMeasure
  split <;> simp

/-! ### Secure -/

@[simp] theorem Dev.draw_sets (n : Nat) (d : Dev) : (Dev.draw n d).2.sets = d.sets := rfl
@[simp] theorem Dev.drawScalar_sets (d : Dev) : (Dev.drawScalar d).2.sets = d.sets := rfl
@[simp] theorem Dev.newReserve_sets (d : Dev) : (Dev.newReserve d).sets = d.sets := rfl

@[simp] theorem Dev.instantiate_sets (seed : Bytes) (d : Dev) : (Dev.instantiate seed d).sets = d.sets := by
  unfold Dev.instantiate
  dsimp only
  split <;> simp

@[simp] theorem Dev.reseedWith_sets (block : Bytes) (d : Dev) : (Dev.reseedWith block d).sets = d.sets := rfl
@[simp] theorem Dev.freshBlock_sets (d : Dev) : (Dev.freshBlock d).2.sets = d.sets := rfl

@[simp] theorem Dev.entropyHold_sets (d : Dev) : (Dev.entropyHold d).sets = d.sets := by
  unfold Dev.entropyHold
  split <;> simp

@[simp] theorem Dev.drbgStart_sets (d : Dev) : (Dev.drbgStart d).sets = d.sets := by
  unfold Dev.drbgStart
  dsimp only
  split <;> simp

@[simp] theorem Dev.slotBadEvent_sets (n : Option Nat) (d : Dev) : (Dev.slotBadEvent n d).sets = d.sets := by simp [Dev.slotBadEvent]
@[simp] theorem Dev.slotFail_sets (tag : Nat) (n : Nat) (d : Dev) : (Dev.slotFail tag n d).sets = d.sets := by simp [Dev.slotFail]

@[simp] theorem Dev.childDone_sets (tag : Nat) (slot : Nat) (attr : Nat) (material : Bytes) (payload : List Word) (d : Dev) :
    (Dev.childDone tag slot attr material payload d).sets = d.sets := by
  unfold Dev.childDone
  split <;> simp

@[simp] theorem Dev.useKey_sets (owner : Option Nat) (n : Nat) (d : Dev) : (Dev.useKey owner n d).2.sets = d.sets := by
  unfold Dev.useKey
  dsimp only
  repeat' split
  all_goals simp

@[simp] theorem Dev.clearVolatile_sets (d : Dev) : (Dev.clearVolatile d).sets = d.sets := rfl

@[simp] theorem Dev.expireSlots_sets (d : Dev) : (Dev.expireSlots d).sets = d.sets := by
  simp [Dev.expireSlots, foldl_sets]

@[simp] theorem Dev.endToken_sets (d : Dev) : (Dev.endToken d).sets = d.sets := by
  unfold Dev.endToken
  split <;> simp

@[simp] theorem Dev.dropSlots_sets (tag : Nat) (op : Nat) (ss : List Nat) (d : Dev) : (Dev.dropSlots tag op ss d).sets = d.sets := by
  unfold Dev.dropSlots
  simp -implicitDefEqProofs [foldl_sets, apply_ite Dev.sets]

@[simp] theorem Dev.writeCommit_sets (p : Prepared) (d : Dev) : (Dev.writeCommit p d).sets = d.sets := by
  unfold Dev.writeCommit
  split <;> simp

@[simp] theorem Dev.eraseRecords_sets (owner : Option Nat) (d : Dev) : (Dev.eraseRecords owner d).sets = d.sets := by
  unfold Dev.eraseRecords
  simp -implicitDefEqProofs [foldl_sets]

@[simp] theorem Dev.rollForward_sets (write : Bool) (origin : Nat) (tag : Nat) (op : Nat) (d : Dev) :
    (Dev.rollForward write origin tag op d).sets = d.sets := by
  unfold Dev.rollForward
  repeat' split
  all_goals simp [foldl_sets]

@[simp] theorem Dev.rollBack_sets (origin : Nat) (tag : Nat) (op : Nat) (d : Dev) : (Dev.rollBack origin tag op d).sets = d.sets := by
  unfold Dev.rollBack
  split <;> simp

@[simp] theorem Dev.recoverUpdate_sets (d : Dev) : (Dev.recoverUpdate d).sets = d.sets := by
  unfold Dev.recoverUpdate
  dsimp only
  repeat' split
  all_goals simp

@[simp] theorem Dev.rootCheck_sets (d : Dev) : (Dev.rootCheck d).sets = d.sets := by
  unfold Dev.rootCheck
  dsimp only
  repeat' split
  all_goals simp

@[simp] theorem Dev.crucibleStart_sets (afterReset : Bool) (d : Dev) : (Dev.crucibleStart afterReset d).sets = d.sets := by
  unfold Dev.crucibleStart
  dsimp only
  repeat' split
  all_goals simp

/-! ### Token -/

@[simp] theorem Dev.saveAdm_sets (owner : Option Nat) (a : Admission) (d : Dev) : (Dev.saveAdm owner a d).sets = d.sets := rfl
@[simp] theorem Dev.setToken_sets (tag : Nat) (x1 : TokenRun) (d : Dev) : (Dev.setToken tag x1 d).sets = d.sets := rfl
@[simp] theorem Dev.tokenEnd_sets (tag : Nat) (r : Result) (d : Dev) : (Dev.tokenEnd tag r d).sets = d.sets := by simp [Dev.tokenEnd]
@[simp] theorem Dev.tokenFail_sets (tag : Nat) (st : Status) (d : Dev) : (Dev.tokenFail tag st d).sets = d.sets := by simp [Dev.tokenFail]
@[simp] theorem Dev.tokenSend_sets (tag : Nat) (x1 : TokenRun) (code : Nat) (data : Bytes) (d : Dev) :
    (Dev.tokenSend tag x1 code data d).sets = d.sets := by simp [Dev.tokenSend]
@[simp] theorem Dev.tokenBegin_sets (tag : Nat) (x1 : TokenRun) (code : Nat) (data : Bytes) (d : Dev) :
    (Dev.tokenBegin tag x1 code data d).sets = d.sets := by simp [Dev.tokenBegin]

@[simp] theorem tokenAuth_sets (tag : Nat) (d : Dev) : (tokenAuth tag d).sets = d.sets := by
  refine Dev.startCmd_sets (fun c e => ?_) _
  dsimp only
  repeat' split
  all_goals simp

@[simp] theorem Dev.authDone_sets (tag : Nat) (x1 : TokenRun) (d : Dev) : (Dev.authDone tag x1 d).sets = d.sets := by
  unfold Dev.authDone
  split <;> simp

@[simp] theorem Dev.applyAuth_sets (x0 : TokenSession) (key : Bytes) (d : Dev) :
    (Dev.applyAuth x0 key d).sets = d.sets := by simp [Dev.applyAuth]

@[simp] theorem Dev.memReq_sets (tag : Nat) (x1 : TokenRun) (op : Nat) (arg : Nat) (body : Nat → Bytes) (d : Dev) :
    (Dev.memReq tag x1 op arg body d).sets = d.sets := by
  unfold Dev.memReq
  split <;> simp

@[simp] theorem Dev.memRead_sets (tag : Nat) (x1 : TokenRun) (d : Dev) : (Dev.memRead tag x1 d).sets = d.sets := by simp [Dev.memRead]

@[simp] theorem tokenMemRead_sets (tag : Nat) (d : Dev) : (tokenMemRead tag d).sets = d.sets := by
  refine Dev.startCmd_sets (fun c e => ?_) _
  dsimp only
  repeat' split
  all_goals simp

@[simp] theorem Dev.memWrite_sets (tag : Nat) (x1 : TokenRun) (d : Dev) : (Dev.memWrite tag x1 d).sets = d.sets := by
  unfold Dev.memWrite
  split <;> simp

@[simp] theorem tokenMemWrite_sets (tag : Nat) (d : Dev) : (tokenMemWrite tag d).sets = d.sets := by
  refine Dev.startCmd_sets (fun c e => ?_) _
  dsimp only
  repeat' split
  all_goals simp

@[simp] theorem Dev.readEnd_sets (tag : Nat) (x1 : TokenRun) (d : Dev) : (Dev.readEnd tag x1 d).sets = d.sets := by
  unfold Dev.readEnd
  dsimp only
  repeat' split
  all_goals simp

@[simp] theorem Dev.readFrame_sets (tag : Nat) (x1 : TokenRun) (body : Bytes) (d : Dev) : (Dev.readFrame tag x1 body d).sets = d.sets := by
  unfold Dev.readFrame
  dsimp only
  split <;> simp

@[simp] theorem Dev.writeEnd_sets (tag : Nat) (x1 : TokenRun) (answer : Option Nat) (d : Dev) :
    (Dev.writeEnd tag x1 answer d).sets = d.sets := by
  unfold Dev.writeEnd
  repeat' split
  all_goals simp

@[simp] theorem Dev.writeFrame_sets (tag : Nat) (x1 : TokenRun) (body : Bytes) (d : Dev) :
    (Dev.writeFrame tag x1 body d).sets = d.sets := by
  unfold Dev.writeFrame
  split <;> simp

@[simp] theorem Dev.saveRevoked_sets (ids : List Nat) (d : Dev) : (Dev.saveRevoked ids d).sets = d.sets := rfl

@[simp] theorem Dev.listRevoked_sets (origin : Nat) (tag : Nat) (op : Nat) (id : Nat) (d : Dev) :
    (Dev.listRevoked origin tag op id d).sets = d.sets := by
  unfold Dev.listRevoked
  dsimp only
  repeat' split
  all_goals simp

@[simp] theorem Dev.applyRevoke_sets (tag : Nat) (op : Nat) (slot : Option Nat) (ids : List Nat) (d : Dev) :
    (Dev.applyRevoke tag op slot ids d).sets = d.sets := by
  unfold Dev.applyRevoke
  simp -implicitDefEqProofs [foldl_sets]

@[simp] theorem tokenRevoke_sets (tag : Nat) (d : Dev) : (tokenRevoke tag d).sets = d.sets := by
  refine Dev.startCmd_sets (fun c e => ?_) _
  dsimp only
  repeat' split
  all_goals simp

@[simp] theorem Dev.ticketFail_sets (tag : Nat) (st : Status) (d : Dev) : (Dev.ticketFail tag st d).sets = d.sets := by
  unfold Dev.ticketFail
  split <;> simp

@[simp] theorem Dev.ticketTaken_sets (tag : Nat) (a : Admission) (erase : Bool) (lift : List Nat) (d : Dev) :
    (Dev.ticketTaken tag a erase lift d).sets = d.sets := by
  unfold Dev.ticketTaken
  split <;> simp

@[simp] theorem learnBegin_sets (tag : Nat) (d : Dev) : (learnBegin tag d).sets = d.sets := by
  refine Dev.startCmd_sets (fun c e => ?_) _
  dsimp only
  repeat' split
  all_goals simp

@[simp] theorem tokenEnrol_sets (tag : Nat) (d : Dev) : (tokenEnrol tag d).sets = d.sets := by
  refine Dev.startCmd_sets (fun c e => ?_) _
  dsimp only
  repeat' split
  all_goals simp

@[simp] theorem Dev.eraseTokens_sets (tag : Nat) (op : Nat) (d : Dev) : (Dev.eraseTokens tag op d).sets = d.sets := by
  unfold Dev.eraseTokens
  simp -implicitDefEqProofs [foldl_sets]

@[simp] theorem Dev.applyAdmit_sets (tag : Nat) (op : Nat) (a : Admission) (erase : Bool) (lift : List Nat) (d : Dev) :
    (Dev.applyAdmit tag op a erase lift d).sets = d.sets := by
  unfold Dev.applyAdmit
  dsimp only
  repeat' split
  all_goals simp

@[simp] theorem Dev.closeAdm_sets (origin : Nat) (tag : Nat) (op : Nat) (cause : Nat) (d : Dev) :
    (Dev.closeAdm origin tag op cause d).sets = d.sets := by simp [Dev.closeAdm]
@[simp] theorem learnWindowClose_sets (d : Dev) : (learnWindowClose d).sets = d.sets := by simp [learnWindowClose]

@[simp] theorem learnCommit_sets (tag : Nat) (d : Dev) : (learnCommit tag d).sets = d.sets := by
  unfold learnCommit
  simp -implicitDefEqProofs [foldl_sets, Dev.startCmd_sets, apply_ite Dev.sets]

@[simp] theorem learnAdd_sets (tag : Nat) (d : Dev) : (learnAdd tag d).sets = d.sets := by
  refine Dev.startCmd_sets (fun c e => ?_) _
  dsimp only
  repeat' split
  all_goals simp

@[simp] theorem Dev.keepNew_sets (tag : Nat) (d : Dev) : (Dev.keepNew tag d).sets = d.sets := rfl
@[simp] theorem Dev.learnCounted_sets (tag : Nat) (x1 : TokenRun) (d : Dev) :
    (Dev.learnCounted tag x1 d).sets = d.sets := by simp [Dev.learnCounted]

@[simp] theorem Dev.learnWritten_sets (tag : Nat) (d : Dev) : (Dev.learnWritten tag d).sets = d.sets := by
  unfold Dev.learnWritten
  repeat' split
  all_goals simp

@[simp] theorem Dev.learnDone_sets (tag : Nat) (x1 : TokenRun) (d : Dev) : (Dev.learnDone tag x1 d).sets = d.sets := by simp [Dev.learnDone]

@[simp] theorem Dev.tokenAired_sets (tag : Nat) (x1 : TokenRun) (d : Dev) : (Dev.tokenAired tag x1 d).sets = d.sets := by
  unfold Dev.tokenAired
  split <;> simp

@[simp] theorem Dev.tokenMissed_sets (tag : Nat) (x1 : TokenRun) (d : Dev) : (Dev.tokenMissed tag x1 d).sets = d.sets := by
  unfold Dev.tokenMissed
  repeat' split
  all_goals simp

@[simp] theorem Dev.authFrame_sets (tag : Nat) (x1 : TokenRun) (body : Bytes) (d : Dev) : (Dev.authFrame tag x1 body d).sets = d.sets := by
  unfold Dev.authFrame
  dsimp only
  repeat' split
  all_goals simp

@[simp] theorem Dev.tokenFrame_sets (tag : Nat) (x1 : TokenRun) (f : TokenFrame) (win : Listen) (d : Dev) :
    (Dev.tokenFrame tag x1 f win d).sets = d.sets := by
  unfold Dev.tokenFrame
  dsimp only
  repeat' split
  all_goals simp

/-! ### Kwewin -/

@[simp] theorem Dev.eraseNode_sets (owner : Option Nat) (a : Nat) (d : Dev) : (Dev.eraseNode owner a d).sets = d.sets := rfl

@[simp] theorem Dev.nodeSend_sets (trunk : Nat) (f : KwFrame) (d : Dev) : (Dev.nodeSend trunk f d).sets = d.sets := by
  unfold Dev.nodeSend
  dsimp only
  split <;> simp

@[simp] theorem Dev.kwSample_sets (d : Dev) : (Dev.kwSample d).sets = d.sets := rfl

@[simp] theorem Dev.kwStart_sets (d : Dev) : (Dev.kwStart d).sets = d.sets := by
  unfold Dev.kwStart
  dsimp only
  split <;> simp

@[simp] theorem Dev.kwBump_sets (d : Dev) : (Dev.kwBump d).sets = d.sets := rfl
@[simp] theorem Dev.kwEpochWritten_sets (d : Dev) : (Dev.kwEpochWritten d).sets = d.sets := rfl
@[simp] theorem Dev.kwStop_sets (d : Dev) : (Dev.kwStop d).sets = d.sets := rfl
@[simp] theorem Dev.setRun_sets (tag : Nat) (x1 : NodeRun) (d : Dev) : (Dev.setRun tag x1 d).sets = d.sets := rfl

@[simp] theorem nodePair_sets (tag : Nat) (d : Dev) : (nodePair tag d).sets = d.sets := by
  refine Dev.startCmd_sets (fun c e => ?_) _
  dsimp only
  repeat' split
  all_goals simp

@[simp] theorem Dev.pairAnswer_sets (c : Cmd) (x1 : NodeRun) (body : Bytes) (d : Dev) : (Dev.pairAnswer c x1 body d).sets = d.sets := by
  unfold Dev.pairAnswer
  dsimp only
  repeat' split
  all_goals simp

@[simp] theorem Dev.pairDone_sets (c : Cmd) (x1 : NodeRun) (d : Dev) : (Dev.pairDone c x1 d).sets = d.sets := rfl
@[simp] theorem Dev.rollbackEnd_sets (a : Nat) (d : Dev) : (Dev.rollbackEnd a d).sets = d.sets := by simp [Dev.rollbackEnd]

@[simp] theorem nodeUnpair_sets (tag : Nat) (d : Dev) : (nodeUnpair tag d).sets = d.sets := by
  refine Dev.startCmd_sets (fun c e => ?_) _
  dsimp only
  repeat' split
  all_goals simp

@[simp] theorem Dev.unpairEnd_sets (st : Status) (c : Cmd) (x2 : NodeRun) (d : Dev) : (Dev.unpairEnd st c x2 d).sets = d.sets := rfl

@[simp] theorem nodeGrant_sets (tag : Nat) (d : Dev) : (nodeGrant tag d).sets = d.sets := by
  refine Dev.startCmd_sets (fun c e => ?_) _
  dsimp only
  repeat' split
  all_goals simp

@[simp] theorem Dev.grantDone_sets (c : Cmd) (x1 : NodeRun) (d : Dev) : (Dev.grantDone c x1 d).sets = d.sets := rfl

@[simp] theorem Dev.applyGrant_sets (tag : Nat) (op : Nat) (a : Nat) (g : Grant) (num : Nat) (ended : Option Nat) (d : Dev) :
    (Dev.applyGrant tag op a g num ended d).sets = d.sets := by
  unfold Dev.applyGrant
  split <;> simp

@[simp] theorem Dev.grantSilent_sets (c : Cmd) (x1 : NodeRun) (d : Dev) :
    (Dev.grantSilent c x1 d).sets = d.sets := by simp [Dev.grantSilent]

@[simp] theorem Dev.grantTime_sets (d : Dev) : (Dev.grantTime d).sets = d.sets := by
  unfold Dev.grantTime
  repeat' split
  all_goals simp

@[simp] theorem nodeRevokeGrant_sets (tag : Nat) (d : Dev) : (nodeRevokeGrant tag d).sets = d.sets := by
  refine Dev.startCmd_sets (fun c e => ?_) _
  dsimp only
  repeat' split
  all_goals simp

@[simp] theorem nodeMsg_sets (tag : Nat) (d : Dev) : (nodeMsg tag d).sets = d.sets := by
  refine Dev.startCmd_sets (fun c e => ?_) _
  dsimp only
  repeat' split
  all_goals simp

@[simp] theorem Dev.msgDone_sets (c : Cmd) (body : Bytes) (d : Dev) : (Dev.msgDone c body d).sets = d.sets := rfl

@[simp] theorem nodeScanStatus_sets (tag : Nat) (d : Dev) : (nodeScanStatus tag d).sets = d.sets := by
  unfold nodeScanStatus
  simp [Dev.startCmd_sets, apply_ite Dev.sets]

@[simp] theorem nodeScanDiscover_sets (tag : Nat) (d : Dev) : (nodeScanDiscover tag d).sets = d.sets := by
  refine Dev.startCmd_sets (fun c e => ?_) _
  dsimp only
  repeat' split
  all_goals simp

@[simp] theorem nodeScanUplinks_sets (tag : Nat) (d : Dev) : (nodeScanUplinks tag d).sets = d.sets := by
  refine Dev.startCmd_sets (fun c e => ?_) _
  dsimp only
  repeat' split
  all_goals simp

theorem ite_sets {c : Prop} [Decidable c] {a b : Dev} {x : List (Nat × Nat)} (ha : a.sets = x) (hb : b.sets = x) :
    (if c then a else b).sets = x := by split <;> assumption

@[simp] theorem Dev.nodeMissed_sets (r : Reply) (d : Dev) : (Dev.nodeMissed r d).sets = d.sets := by
  unfold Dev.nodeMissed
  extract_lets +onlyGivenNames n now goes d₁ kw e n'
  have h : e.sets = d.sets := by
    simp only [e]
    repeat' split
    all_goals simp [d₁, kw]
  clear_value e n'
  rw [← h]
  split
  · repeat' split
    all_goals simp
  · repeat' split
    all_goals simp
  · dsimp only
    repeat' split
    all_goals simp
  · repeat' split
    all_goals simp
  · repeat' split
    all_goals simp
  · repeat' split
    all_goals simp
  · rfl

@[simp] theorem Dev.closeReply_sets (t : Nat) (d : Dev) : (Dev.closeReply t d).sets = d.sets := rfl

@[simp] theorem replyWindowClose_sets (trunk : Nat) (d : Dev) : (replyWindowClose trunk d).sets = d.sets := by
  unfold replyWindowClose
  split <;> simp

@[simp] theorem Dev.nodeReject_sets (r : Reply) (d : Dev) : (Dev.nodeReject r d).sets = d.sets := by
  simp [Dev.nodeReject]

theorem Dev.nodeFrameIn_sets {type : Nat} {rx : NodeRx} {body : Reply → Nat → Bytes → Dev → Dev}
    (h : ∀ r n p e, (body r n p e).sets = e.sets) (d : Dev) : (Dev.nodeFrameIn type rx body d).sets = d.sets := by
  unfold Dev.nodeFrameIn
  extract_lets +onlyGivenNames b a n ctr pay mac
  cases d.kw.replies.find? (fun r => r.trunk == rx.trunk) with
  | none => rfl
  | some r =>
    refine ite_sets rfl (ite_sets (by simp [h]) (ite_sets (by simp [h]) ?_))
    cases fullCounter _ ctr with
    | none => simp
    | some full => exact ite_sets (by simp [h]) (by simp)

@[simp] theorem ackRow_sets (rx : NodeRx) (d : Dev) : (ackRow rx d).sets = d.sets := by
  refine Dev.nodeFrameIn_sets (fun r n p e => ?_) d
  dsimp only
  repeat' split
  all_goals simp

@[simp] theorem pairReply_sets (rx : NodeRx) (d : Dev) : (pairReply rx d).sets = d.sets := by
  refine Dev.nodeFrameIn_sets (fun r n p e => ?_) d
  dsimp only
  repeat' split
  all_goals simp

@[simp] theorem msgUp_sets (rx : NodeRx) (d : Dev) : (msgUp rx d).sets = d.sets := by
  refine Dev.nodeFrameIn_sets (fun r n p e => ?_) d
  dsimp only
  split <;> simp

@[simp] theorem uplink_sets (rx : NodeRx) (d : Dev) : (uplink rx d).sets = d.sets := by
  refine Dev.nodeFrameIn_sets (fun r n p e => ?_) d
  dsimp only
  split <;> simp

@[simp] theorem idleRow_sets (rx : NodeRx) (d : Dev) : (idleRow rx d).sets = d.sets := by
  refine Dev.nodeFrameIn_sets (fun r n p e => ?_) d
  split <;> simp

@[simp] theorem anchorReport_sets (rx : NodeRx) (d : Dev) : (anchorReport rx d).sets = d.sets := by
  refine Dev.nodeFrameIn_sets (fun r n p e => ?_) d
  dsimp only
  split <;> simp

@[simp] theorem Dev.sendFrames_sets (t n : Nat) (fs : List KwFrame) (d : Dev) : (Dev.sendFrames t n fs d).sets = d.sets := by
  induction fs generalizing n d with
  | nil => rfl
  | cons f fs ih =>
    unfold Dev.sendFrames
    split <;> simp [ih]

@[simp] theorem Dev.unsent_sets (d : Dev) : (Dev.unsent d).sets = d.sets := by
  unfold Dev.unsent
  split
  · exact ite_sets (by simp) rfl
  · rfl

@[simp] theorem Dev.scanDraw_sets (d : Dev) : (Dev.scanDraw d).sets = d.sets := by
  unfold Dev.scanDraw
  dsimp only
  repeat' split
  all_goals simp

@[simp] theorem Dev.scanNext_sets (d : Dev) : (Dev.scanNext d).sets = d.sets := by
  unfold Dev.scanNext
  repeat' split
  all_goals simp

@[simp] theorem Dev.trunkTest_sets (t : Nat) (d : Dev) : (Dev.trunkTest t d).sets = d.sets := by
  unfold Dev.trunkTest
  dsimp only
  repeat' split
  all_goals simp

@[simp] theorem Dev.trunksUp_sets (d : Dev) : (Dev.trunksUp d).sets = d.sets := rfl
@[simp] theorem Dev.findRollbacks_sets (d : Dev) : (Dev.findRollbacks d).sets = d.sets := rfl

@[simp] theorem kwewinCycle_sets (d : Dev) : (kwewinCycle d).sets = d.sets := by
  unfold kwewinCycle
  refine ite_sets rfl ?_
  extract_lets +onlyGivenNames k e left kw e'
  have h : e'.sets = d.sets := by simp [e', e, foldl_sets]
  clear_value e'
  rw [← h]
  refine ite_sets rfl ?_
  extract_lets +onlyGivenNames x y key go 
  have hx : x.sets = e'.sets := by simp [x]
  have hy : y.sets = x.sets := ite_sets (by simp) rfl
  have hgo (t : Nat) (f : Dev) : (go t f).sets = f.sets := ite_sets (by simp) rfl
  rw [Dev.scanNext_sets, hgo, hgo, hy, hx]

@[simp] theorem trunkFault_sets (trunk : Nat) (d : Dev) : (trunkFault trunk d).sets = d.sets := by
  unfold trunkFault
  dsimp only
  repeat' split
  all_goals simp

@[simp] theorem grantExpiry_sets (addr : Nat) (d : Dev) : (grantExpiry addr d).sets = d.sets := by simp [grantExpiry]

/-! ### Uwb -/

@[simp] theorem Dev.toStamp_sets (x : RangeRun) (t : Nat) (d : Dev) : (Dev.toStamp x t d).sets = d.sets := by
  unfold Dev.toStamp
  rfl

@[simp] theorem Dev.launch_sets (x0 : RangeRun) (j : Nat) (ru : Nat) (d : Dev) : (Dev.launch x0 j ru d).sets = d.sets := rfl
@[simp] theorem Dev.setRange_sets (tag : Nat) (x1 : RangeRun) (d : Dev) : (Dev.setRange tag x1 d).sets = d.sets := rfl
@[simp] theorem Dev.anchorsFor_sets (x0 : RangeRun) (d : Dev) : (Dev.anchorsFor x0 d).sets = d.sets := rfl

@[simp] theorem rangeBound_sets (tag : Nat) (d : Dev) : (rangeBound tag d).sets = d.sets := by
  refine Dev.startCmd_sets (fun c e => ?_) _
  dsimp only
  repeat' split
  all_goals simp

@[simp] theorem Dev.rangeAired_sets (tag : Nat) (x1 : RangeRun) (d : Dev) :
    (Dev.rangeAired tag x1 d).sets = d.sets := by simp [Dev.rangeAired]
@[simp] theorem Dev.sendPoll_sets (tag : Nat) (x : RangeRun) (d : Dev) : (Dev.sendPoll tag x d).sets = d.sets := by simp [Dev.sendPoll]
@[simp] theorem Dev.anchorsOpen_sets (x0 : RangeRun) (d : Dev) : (Dev.anchorsOpen x0 d).sets = d.sets := rfl

@[simp] theorem Dev.rangeFrame_sets (tag : Nat) (x1 : RangeRun) (f : TokenFrame) (d : Dev) : (Dev.rangeFrame tag x1 f d).sets = d.sets := by
  unfold Dev.rangeFrame
  dsimp only
  repeat' split
  all_goals simp

@[simp] theorem Dev.sendFinal_sets (x : RangeRun) (d : Dev) : (Dev.sendFinal x d).sets = d.sets := by simp [Dev.sendFinal]
@[simp] theorem Dev.rangeNoted_sets (x0 : RangeRun) (m : Bytes) (d : Dev) : (Dev.rangeNoted x0 m d).sets = d.sets := rfl

@[simp] theorem Dev.anchorsNoted_sets (x : RangeRun) (m : Bytes) (d : Dev) : (Dev.anchorsNoted x m d).sets = d.sets := by
  unfold Dev.anchorsNoted
  rfl

@[simp] theorem Dev.rangeDone_sets (x0 : Nat) (d : Dev) : (Dev.rangeDone x0 d).sets = d.sets := by
  unfold Dev.rangeDone
  split <;> simp

@[simp] theorem Dev.rangeEnd_sets (tag : Nat) (x1 : RangeRun) (rx : UwbRx) (m : Bytes) (d : Dev) :
    (Dev.rangeEnd tag x1 rx m d).sets = d.sets := by
  unfold Dev.rangeEnd
  dsimp only
  split <;> simp

@[simp] theorem response_sets (rx : UwbRx) (d : Dev) : (response rx d).sets = d.sets := by
  unfold response
  repeat' split
  all_goals simp -implicitDefEqProofs [apply_ite Dev.sets]

@[simp] theorem report_sets (rx : UwbRx) (d : Dev) : (report rx d).sets = d.sets := by
  unfold report
  repeat' split
  all_goals simp

@[simp] theorem uwbWindowClose_sets (d : Dev) : (uwbWindowClose d).sets = d.sets := by
  unfold uwbWindowClose
  split <;> simp

@[simp] theorem uwbConfig_sets (tag : Nat) (d : Dev) : (uwbConfig tag d).sets = d.sets := by
  refine Dev.startCmd_sets (fun c e => ?_) _
  dsimp only
  repeat' split
  all_goals simp

@[simp] theorem Dev.rangeFault_sets (d : Dev) : (Dev.rangeFault d).sets = d.sets := by
  unfold Dev.rangeFault
  split <;> simp

@[simp] theorem uwbUnlock_sets (d : Dev) : (uwbUnlock d).sets = d.sets := by
  unfold uwbUnlock
  split <;> simp

@[simp] theorem uwbJam_sets (d : Dev) : (uwbJam d).sets = d.sets := by
  unfold uwbJam
  repeat' split
  all_goals simp

@[simp] theorem uwbRfFault_sets (d : Dev) : (uwbRfFault d).sets = d.sets := by
  unfold uwbRfFault
  split <;> simp

@[simp] theorem uwbRetune_sets (d : Dev) : (uwbRetune d).sets = d.sets := by
  unfold uwbRetune
  simp [apply_ite Dev.sets]

/-! ### Air -/

@[simp] theorem Dev.standby_sets (d : Dev) : (Dev.standby d).sets = d.sets := by
  unfold Dev.standby
  dsimp only
  split <;> simp

@[simp] theorem Dev.setTp_sets (tag : Nat) (x1 : TpRun) (d : Dev) : (Dev.setTp tag x1 d).sets = d.sets := rfl

@[simp] theorem transponderRead_sets (tag : Nat) (d : Dev) : (transponderRead tag d).sets = d.sets := by
  refine Dev.startCmd_sets (fun c e => ?_) _
  dsimp only
  repeat' split
  all_goals simp

@[simp] theorem Dev.tpFrame_sets (tag : Nat) (gap : Nat) (x2 : TpRun) (m : Bytes) (d : Dev) :
    (Dev.tpFrame tag gap x2 m d).sets = d.sets := by simp [Dev.tpFrame]

@[simp] theorem Dev.tpAired_sets (tag : Nat) (x1 : TpRun) (load : Bool) (d : Dev) : (Dev.tpAired tag x1 load d).sets = d.sets := by
  unfold Dev.tpAired
  dsimp only
  repeat' split
  all_goals simp

@[simp] theorem tpM2_sets (turn depth : Nat) (bytes : Bytes) (d : Dev) : (tpM2 turn depth bytes d).sets = d.sets := by
  unfold tpM2
  split
  · refine Dev.sampled_sets _ _ (fun e => ?_) d
    dsimp only
    repeat' split
    all_goals simp
  · rfl

@[simp] theorem turnaroundWindowClose_sets (d : Dev) : (turnaroundWindowClose d).sets = d.sets := by
  unfold turnaroundWindowClose
  repeat' split
  all_goals simp

@[simp] theorem Dev.notePeaks_sets (mask : Nat) (peaks : List Nat) (d : Dev) : (Dev.notePeaks mask peaks d).sets = d.sets := by
  unfold Dev.notePeaks
  simp [foldl_sets, apply_ite Dev.sets]

@[simp] theorem Dev.commandAired_sets (c : Cmd) (peaks : List Nat) (load : Bool) (d : Dev) :
    (Dev.commandAired c peaks load d).sets = d.sets := by
  unfold Dev.commandAired
  split <;> simp

@[simp] theorem emissionEnd_sets (peaks : List Nat) (load : Bool) (d : Dev) : (emissionEnd peaks load d).sets = d.sets := by
  unfold emissionEnd
  dsimp only
  repeat' split
  all_goals simp

@[simp] theorem Dev.locateDone_sets (c : Cmd) (mask : Nat) (slot : Nat) (peaks : List Nat) (f : TokenFrame) (d : Dev) :
    (Dev.locateDone c mask slot peaks f d).sets = d.sets := rfl
@[simp] theorem Dev.pollAnswered_sets (d : Dev) : (Dev.pollAnswered d).sets = d.sets := by simp [Dev.pollAnswered]

@[simp] theorem Dev.commandFrame_sets (c : Cmd) (f : TokenFrame) (win : Listen) (d : Dev) : (Dev.commandFrame c f win d).sets = d.sets := by
  unfold Dev.commandFrame
  split <;> simp

@[simp] theorem Dev.judgeFrame_sets (rx : UhfRx) (d : Dev) : (Dev.judgeFrame rx d).sets = d.sets := by
  have hr := Dev.receive_sets rx d
  unfold Dev.judgeFrame
  rcases h : d.receive rx with ⟨e, _ | f⟩
  all_goals
    rw [h] at hr
    rw [← hr]
  dsimp only
  repeat' split
  all_goals simp

@[simp] theorem Dev.airFrame_sets (rx : UhfRx) (d : Dev) : (Dev.airFrame rx d).sets = d.sets := by
  unfold Dev.airFrame
  split
  · exact Dev.sampled_sets _ _ (Dev.judgeFrame_sets rx) d
  · simp

@[simp] theorem Dev.airCode_sets (code : Nat) (rx : UhfRx) (d : Dev) : (Dev.airCode code rx d).sets = d.sets := by
  unfold Dev.airCode
  split <;> simp

@[simp] theorem Dev.commandMissed_sets (c : Cmd) (d : Dev) : (Dev.commandMissed c d).sets = d.sets := by
  unfold Dev.commandMissed
  repeat' split
  all_goals simp

@[simp] theorem listenWindowClose_sets (d : Dev) : (listenWindowClose d).sets = d.sets := by
  unfold listenWindowClose
  dsimp only
  repeat' split
  all_goals simp

/-! ### Crucible -/

@[simp] theorem Dev.freshKey_sets (ty : Nat) (d : Dev) : (Dev.freshKey ty d).2.sets = d.sets := by
  unfold Dev.freshKey
  split <;> simp

theorem Dev.freshReseed_sets {d e : Dev} (h : d.freshReseed = some e) : e.sets = d.sets := by
  unfold Dev.freshReseed at h
  split at h
  · cases h
  · cases h
    simp

@[simp] theorem keyGenerate_sets (tag : Nat) (d : Dev) : (keyGenerate tag d).sets = d.sets := by
  refine Dev.startCmd_sets (fun c e => ?_) d
  refine ite_sets (by simp) (ite_sets (by simp) (ite_sets (by simp) ?_))
  split
  · simp
  · refine ite_sets (by simp) ?_
    split
    · simp
    · next h => simp [Dev.freshReseed_sets h]

theorem Dev.useKey_sets_of {tag : Option Nat} {n : Nat} {st : Option Status} {d e : Dev} (h : d.useKey tag n = (st, e)) :
    e.sets = d.sets := by
  have := Dev.useKey_sets tag n d
  rwa [h] at this

@[simp] theorem keyDerive_sets (tag : Nat) (d : Dev) : (keyDerive tag d).sets = d.sets := by
  refine Dev.startCmd_sets (fun c e => ?_) d
  refine ite_sets (by simp) (ite_sets (by simp) (ite_sets (by simp) ?_))
  split
  · simp
  · refine ite_sets (by simp) (ite_sets (by simp) ?_)
    split <;> next h => simp [Dev.useKey_sets_of h]

@[simp] theorem Dev.clearStage_sets (d : Dev) : (Dev.clearStage d).sets = d.sets := rfl

@[simp] theorem keyUpdateStage_sets (tag : Nat) (d : Dev) : (keyUpdateStage tag d).sets = d.sets := by
  refine Dev.startCmd_sets (fun c e => ?_) _
  dsimp only
  repeat' split
  all_goals simp

@[simp] theorem Dev.prepareFail_sets (tag : Nat) (st : Status) (d : Dev) : (Dev.prepareFail tag st d).sets = d.sets := rfl

@[simp] theorem Dev.prepared_sets (tag : Nat) (auto : Bool) (p : Prepared) (d : Dev) : (Dev.prepared tag auto p d).sets = d.sets := by
  unfold Dev.prepared
  split <;> simp

@[simp] theorem Dev.prepareUpdate_sets (tag : Nat) (auto : Bool) (m : Bytes) (d : Dev) :
    (Dev.prepareUpdate tag auto m d).sets = d.sets := by
  unfold Dev.prepareUpdate
  dsimp only
  repeat' split
  all_goals simp

@[simp] theorem Dev.prepareProvision_sets (tag : Nat) (auto : Bool) (m : Bytes) (d : Dev) :
    (Dev.prepareProvision tag auto m d).sets = d.sets := by
  refine ite_sets (by simp) (ite_sets (by simp) (ite_sets (by simp) ?_))
  split
  · simp
  · next h => simp [Dev.freshReseed_sets h]

@[simp] theorem keyUpdatePrepare_sets (tag : Nat) (d : Dev) : (keyUpdatePrepare tag d).sets = d.sets := by
  refine Dev.startCmd_sets (fun c e => ?_) _
  dsimp only
  repeat' split
  all_goals simp

@[simp] theorem keyUpdateCommit_sets (tag : Nat) (d : Dev) : (keyUpdateCommit tag d).sets = d.sets := by
  refine Dev.startCmd_sets (fun c e => ?_) _
  dsimp only
  repeat' split
  all_goals simp

@[simp] theorem keyUpdateDiscard_sets (tag : Nat) (d : Dev) : (keyUpdateDiscard tag d).sets = d.sets := by
  refine Dev.startCmd_sets (fun c e => ?_) _
  dsimp only
  repeat' split
  all_goals simp

@[simp] theorem Dev.attest_sets (tag : Nat) (body : Bytes) (d : Dev) : (Dev.attest tag body d).sets = d.sets := by
  unfold Dev.attest
  split <;> simp

@[simp] theorem attestIdentity_sets (tag : Nat) (d : Dev) : (attestIdentity tag d).sets = d.sets := by
  unfold attestIdentity
  simp [Dev.startCmd_sets, apply_ite Dev.sets]

@[simp] theorem attestKey_sets (tag : Nat) (d : Dev) : (attestKey tag d).sets = d.sets := by
  refine Dev.startCmd_sets (fun c e => ?_) _
  dsimp only
  repeat' split
  all_goals simp

@[simp] theorem remask_sets (d : Dev) : (remask d).sets = d.sets := by
  unfold remask
  split <;> simp

/-! ### Anvil -/

@[simp] theorem Dev.setContext_sets (c : Cmd) (x1 : Option Context) (d : Dev) : (Dev.setContext c x1 d).sets = d.sets := rfl

@[simp] theorem Dev.partFail_sets (c : Cmd) (st : Status) (d : Dev) : (Dev.partFail c st d).sets = d.sets := by
  unfold Dev.partFail
  split <;> simp

@[simp] theorem Dev.partDone_sets (c : Cmd) (x1 : Context) (verdict : Nat) (out : Bytes) (d : Dev) :
    (Dev.partDone c x1 verdict out d).sets = d.sets := rfl
@[simp] theorem Dev.cryptoDone_sets (c : Cmd) (verdict : Nat) (out : Bytes) (d : Dev) :
    (Dev.cryptoDone c verdict out d).sets = d.sets := rfl

@[simp] theorem Dev.gateFail_sets (c : Cmd) (st : Status) (d : Dev) : (Dev.gateFail c st d).sets = d.sets := by
  unfold Dev.gateFail
  split <;> simp

theorem singlePart_sets {o u lenOk total types use body} (h : ∀ c k e, (body c k e).sets = e.sets) (tag : Nat) (d : Dev) :
    (singlePart o u lenOk total types use body tag d).sets = d.sets := by
  refine Dev.startCmd_sets (fun c e => ?_) d
  repeat' split
  all_goals simp [h]

@[simp] theorem Dev.useIt_sets (c : Cmd) (d : Dev) : (Dev.useIt c d).sets = d.sets := by simp [Dev.useIt]

@[simp] theorem sha256Op_sets (x0 : Nat) (d : Dev) : (sha256Op x0 d).sets = d.sets := by
  refine Dev.startCmd_sets (fun c e => ?_) _
  dsimp only
  repeat' split
  all_goals simp

@[simp] theorem macGen_sets (o : Nat) (types : List Nat) (lens : List Nat) (f : Bytes → Bytes → Bytes) (x4 : Nat) (d : Dev) :
    (macGen o types lens f x4 d).sets = d.sets := by
  refine Dev.startCmd_sets (fun c e => ?_) _
  dsimp only
  repeat' split
  all_goals simp

@[simp] theorem macVer_sets (o : Nat) (types : List Nat) (lens : List Nat) (f : Bytes → Bytes → Bytes) (x4 : Nat) (d : Dev) :
    (macVer o types lens f x4 d).sets = d.sets := by
  refine Dev.startCmd_sets (fun c e => ?_) _
  dsimp only
  repeat' split
  all_goals simp

@[simp] theorem hmacGen_sets (x0 : Nat) (d : Dev) : (hmacGen x0 d).sets = d.sets := by simp [hmacGen]
@[simp] theorem hmacVer_sets (x0 : Nat) (d : Dev) : (hmacVer x0 d).sets = d.sets := by simp [hmacVer]
@[simp] theorem cmacGen_sets (x0 : Nat) (d : Dev) : (cmacGen x0 d).sets = d.sets := by simp [cmacGen]
@[simp] theorem cmacVer_sets (x0 : Nat) (d : Dev) : (cmacVer x0 d).sets = d.sets := by simp [cmacVer]

@[simp] theorem Dev.partIv_sets (c : Cmd) (n : Nat) (x2 : Context) (d : Dev) : (Dev.partIv c n x2 d).2.sets = d.sets := by
  unfold Dev.partIv
  repeat' split
  all_goals simp

@[simp] theorem blockMode_sets (o : Nat) (gen : Bool) (use : Nat) (whole : Bool) (f : Bytes → Bytes → Bytes → Bytes × Bytes) (x5 : Nat) (d : Dev) :
    (blockMode o gen use whole f x5 d).sets = d.sets := by
  refine Dev.startCmd_sets (fun c e => ?_) _
  dsimp only
  repeat' split
  all_goals simp

@[simp] theorem cbcEncOp_sets (x0 : Nat) (d : Dev) : (cbcEncOp x0 d).sets = d.sets := by simp [cbcEncOp]
@[simp] theorem cbcDecOp_sets (x0 : Nat) (d : Dev) : (cbcDecOp x0 d).sets = d.sets := by simp [cbcDecOp]
@[simp] theorem ctrEncOp_sets (x0 : Nat) (d : Dev) : (ctrEncOp x0 d).sets = d.sets := by simp [ctrEncOp]
@[simp] theorem ctrDecOp_sets (x0 : Nat) (d : Dev) : (ctrDecOp x0 d).sets = d.sets := by simp [ctrDecOp]

@[simp] theorem gcmEncOp_sets (x0 : Nat) (d : Dev) : (gcmEncOp x0 d).sets = d.sets := by
  refine Dev.startCmd_sets (fun c e => ?_) _
  repeat' split
  all_goals simp

@[simp] theorem gcmDecOp_sets (x0 : Nat) (d : Dev) : (gcmDecOp x0 d).sets = d.sets := by
  refine Dev.startCmd_sets (fun c e => ?_) _
  dsimp only
  repeat' split
  all_goals simp

@[simp] theorem hkdfOp_sets (x0 : Nat) (d : Dev) : (hkdfOp x0 d).sets = d.sets := by
  refine Dev.startCmd_sets (fun c e => ?_) _
  dsimp only
  repeat' split
  all_goals simp

@[simp] theorem ecdsaSignOp_sets (x0 : Nat) (d : Dev) : (ecdsaSignOp x0 d).sets = d.sets := by
  refine Dev.startCmd_sets (fun c e => ?_) _
  dsimp only
  repeat' split
  all_goals simp

@[simp] theorem ecdsaVerifyOp_sets (x0 : Nat) (d : Dev) : (ecdsaVerifyOp x0 d).sets = d.sets := by
  refine Dev.startCmd_sets (fun c e => ?_) _
  dsimp only
  repeat' split
  all_goals simp

@[simp] theorem Dev.storeChild_sets (c : Cmd) (attr : Nat) (m : Bytes) (verdict : Nat) (d : Dev) :
    (Dev.storeChild c attr m verdict d).sets = d.sets := by simp [Dev.storeChild]

@[simp] theorem ecdhDeriveOp_sets (tag : Nat) (d : Dev) : (ecdhDeriveOp tag d).sets = d.sets := by
  refine singlePart_sets (fun c k e => ?_) tag d
  dsimp only
  repeat' split
  all_goals simp

@[simp] theorem keyWrapOp_sets (x0 : Nat) (d : Dev) : (keyWrapOp x0 d).sets = d.sets := by
  refine Dev.startCmd_sets (fun c e => ?_) _
  dsimp only
  repeat' split
  all_goals simp

@[simp] theorem keyUnwrapOp_sets (tag : Nat) (d : Dev) : (keyUnwrapOp tag d).sets = d.sets := by
  refine singlePart_sets (fun c k e => ?_) tag d
  dsimp only
  repeat' split
  all_goals simp

@[simp] theorem randomOp_sets (tag : Nat) (d : Dev) : (randomOp tag d).sets = d.sets := by
  refine Dev.startCmd_sets (fun c e => ?_) _
  dsimp only
  repeat' split
  all_goals simp

@[simp] theorem Dev.takeSamples_sets (samples : List Nat) (d : Dev) : (Dev.takeSamples samples d).sets = d.sets := by
  unfold Dev.takeSamples
  split <;> simp

@[simp] theorem blockAccepted_sets (samples : List Nat) (d : Dev) : (blockAccepted samples d).sets = d.sets := by
  unfold blockAccepted
  dsimp only
  repeat' split
  all_goals simp

@[simp] theorem drbgReady_sets (d : Dev) : (drbgReady d).sets = d.sets := by
  unfold drbgReady
  split <;> simp

@[simp] theorem healthTestFail_sets (samples : List Nat) (d : Dev) : (healthTestFail samples d).sets = d.sets := by
  unfold healthTestFail
  split <;> simp

@[simp] theorem Dev.entropyClosed_sets (d : Dev) : (Dev.entropyClosed d).sets = d.sets := by
  unfold Dev.entropyClosed
  simp [foldl_sets, apply_ite Dev.sets]

@[simp] theorem entropyWindowClose_sets (d : Dev) : (entropyWindowClose d).sets = d.sets := by simp [entropyWindowClose]

@[simp] theorem reseed_sets (d : Dev) : (reseed d).sets = d.sets := by
  unfold reseed
  dsimp only
  repeat' split
  all_goals simp

/-! ### Release -/

@[simp] theorem proxDecide_sets (tag : Nat) (d : Dev) : (proxDecide tag d).sets = d.sets := by
  refine Dev.startCmd_sets (fun c e => ?_) _
  dsimp only
  repeat' split
  all_goals simp

@[simp] theorem policyLoad_sets (tag : Nat) (d : Dev) : (policyLoad tag d).sets = d.sets := by
  refine Dev.startCmd_sets (fun c e => ?_) _
  dsimp only
  repeat' split
  all_goals simp

@[simp] theorem Dev.applyPolicy_sets (ws : List Word) (d : Dev) : (Dev.applyPolicy ws d).sets = d.sets := rfl

@[simp] theorem Dev.latchRelay_sets (b : Nat) (d : Dev) : (Dev.latchRelay b d).sets = d.sets := by
  unfold Dev.latchRelay
  split <;> simp

@[simp] theorem Dev.faultLock_sets (bs : List Nat) (tag : Nat) (op : Nat) (d : Dev) : (Dev.faultLock bs tag op d).sets = d.sets := by
  unfold Dev.faultLock
  repeat' split
  all_goals simp [foldl_sets]

@[simp] theorem startRelease_sets (tag : Nat) (coil : Nat) (d : Dev) : (startRelease tag coil d).sets = d.sets := by
  refine Dev.startCmd_sets (fun c e => ?_) _
  dsimp only
  repeat' split
  all_goals simp

@[simp] theorem Dev.applyRelay_sets (hold : Nat) (d : Dev) : (Dev.applyRelay hold d).sets = d.sets := rfl

@[simp] theorem startLock_sets (tag : Nat) (d : Dev) : (startLock tag d).sets = d.sets := by
  unfold startLock
  simp [Dev.startCmd_sets, apply_ite Dev.sets]

@[simp] theorem relayHoldClose_sets (d : Dev) : (relayHoldClose d).sets = d.sets := by
  unfold relayHoldClose
  repeat' split
  all_goals simp [apply_ite Dev.sets]

@[simp] theorem relayFault_sets (diag : Nat) (d : Dev) : (relayFault diag d).sets = d.sets := by
  unfold relayFault
  repeat' split
  all_goals simp [foldl_sets, apply_ite Dev.sets]

@[simp] theorem offStateTest_sets (hsOk : Bool) (lsOk : Bool) (d : Dev) : (offStateTest hsOk lsOk d).sets = d.sets := by
  unfold offStateTest
  dsimp only
  repeat' split
  all_goals simp

@[simp] theorem sessionOpen_sets (tag : Nat) (d : Dev) : (sessionOpen tag d).sets = d.sets := by
  refine Dev.startCmd_sets (fun c e => ?_) _
  dsimp only
  repeat' split
  all_goals simp

@[simp] theorem Dev.applySession_sets (tag : Nat) (op : Nat) (x2 : Session) (d : Dev) : (Dev.applySession tag op x2 d).sets = d.sets := by
  unfold Dev.applySession
  split <;> simp

@[simp] theorem sessionClose_sets (tag : Nat) (d : Dev) : (sessionClose tag d).sets = d.sets := by
  unfold sessionClose
  simp [Dev.startCmd_sets, apply_ite Dev.sets]

@[simp] theorem sessionTimeout_sets (num : Nat) (d : Dev) : (sessionTimeout num d).sets = d.sets := by simp [sessionTimeout]
@[simp] theorem evidenceExpiry_sets (index : Nat) (d : Dev) : (evidenceExpiry index d).sets = d.sets := by simp [evidenceExpiry]

/-! ### Atlas -/

@[simp] theorem Dev.scanLists_sets (d : Dev) (m : Bytes) (dl : Bool) (es : List QueryEntry) (nand : NandRead) :
    (Dev.scanLists d m dl es nand).2.sets = d.sets := by
  unfold Dev.scanLists
  dsimp only
  repeat' split
  all_goals simp

theorem Dev.scanLists_sets_of {m : Bytes} {dl : Bool} {es : List QueryEntry} {nand : NandRead} {st : Option Status} {d e : Dev}
    (h : d.scanLists m dl es nand = (st, e)) : e.sets = d.sets := by
  have := Dev.scanLists_sets d m dl es nand
  rwa [h] at this

@[simp] theorem atlasQuery_sets (tag : Nat) (nand : NandRead) (d : Dev) : (atlasQuery tag nand d).sets = d.sets := by
  refine ite_sets rfl (Dev.startCmd_sets (fun c e => ?_) d)
  dsimp only
  split
  · simp
  · split <;> simp
  · refine ite_sets (by simp) (ite_sets (by simp) (ite_sets (by simp) (ite_sets (by simp) ?_)))
    split <;> next h => simp [Dev.scanLists_sets_of h]

@[simp] theorem Dev.abandonLoad_sets (tag : Nat) (op : Nat) (d : Dev) : (Dev.abandonLoad tag op d).sets = d.sets := by
  unfold Dev.abandonLoad
  split <;> simp

@[simp] theorem Dev.setLoad_sets (l : AtlasLoad) (d : Dev) : (Dev.setLoad l d).sets = d.sets := rfl

@[simp] theorem Dev.takeImage_sets (tag : Nat) (data : Bytes) (d : Dev) : (Dev.takeImage tag data d).sets = d.sets := by
  refine ite_sets (by simp) (ite_sets (by simp) (ite_sets (by simp) (ite_sets (by simp) ?_)))
  dsimp only
  repeat' split
  all_goals simp

@[simp] theorem atlasLoad_sets (tag : Nat) (d : Dev) : (atlasLoad tag d).sets = d.sets := by
  refine Dev.startCmd_sets (fun c e => ?_) d
  dsimp only
  repeat' split
  all_goals simp

@[simp] theorem Dev.commitWrites_sets (tag : Nat) (d : Dev) : (Dev.commitWrites tag d).sets = d.sets := by
  unfold Dev.commitWrites
  split <;> simp

@[simp] theorem atlasCommit_sets (tag : Nat) (nand : NandRead) (d : Dev) : (atlasCommit tag nand d).sets = d.sets := by
  refine Dev.startCmd_sets (fun c e => ?_) _
  dsimp only
  repeat' split
  all_goals simp

@[simp] theorem Dev.applyCommitAtlas_sets (d : Dev) : (Dev.applyCommitAtlas d).sets = d.sets := rfl

@[simp] theorem atlasInfo_sets (tag : Nat) (d : Dev) : (atlasInfo tag d).sets = d.sets := by
  refine Dev.startCmd_sets (fun c e => ?_) _
  dsimp only
  repeat' split
  all_goals simp

@[simp] theorem Dev.reloadDue_sets (d : Dev) : (Dev.reloadDue d).sets = d.sets := rfl

@[simp] theorem atlasReload_sets (nand : NandRead) (d : Dev) : (atlasReload nand d).sets = d.sets := by
  unfold atlasReload
  dsimp only
  repeat' split
  all_goals simp

/-! ### Hammer -/

@[simp] theorem Dev.dataWrite_sets (q : Nat) (a : Nat) (bs : Bytes) (d : Dev) : (Dev.dataWrite q a bs d).sets = d.sets := by
  unfold Dev.dataWrite
  split <;> simp

@[simp] theorem Dev.zeroiseSeq_sets (q : Nat) (d : Dev) : (d.zeroiseSeq q).sets = d.sets := by
  have h := zeroiseSeq_frame q d
  unfold ScriptOnly at h
  rw [h]

@[simp] theorem Dev.endScript_sets (q cause : Nat) (r : Result) (d : Dev) : (d.endScript q cause r).sets = d.sets := by
  have h := endScript_frame q cause r d
  unfold ScriptOnly at h
  rw [h]

/-- Where an instruction goes on, it leaves these settings. -/
inductive HOut.Sets (x : List (Nat × Nat)) : HOut → Prop
  | go {d : Dev} (h : d.sets = x) : HOut.Sets x (.go d)
  | fault (c : Nat) : HOut.Sets x (.fault c)
  | stay : HOut.Sets x .stay

@[simp] theorem HOut.sets_go {x : List (Nat × Nat)} {d : Dev} : (HOut.go d).Sets x ↔ d.sets = x := ⟨fun | .go h => h, .go⟩
@[simp] theorem HOut.sets_fault (x : List (Nat × Nat)) (c : Nat) : (HOut.fault c).Sets x := .fault c
@[simp] theorem HOut.sets_stay (x : List (Nat × Nat)) : HOut.stay.Sets x := .stay

theorem HOut.leaves_sets {o : HOut} {q : Nat} {d : Dev} (h : o.Sets d.sets) : (o.leaves q d).sets = d.sets := by
  cases o with
  | go e => exact HOut.sets_go.mp h
  | fault c => simp [HOut.leaves]
  | stay => rfl

theorem Dev.instr_sets {q cls : Nat} {ops : List Nat} {body : HWord → Seqr → Dev → HOut} {d : Dev}
    (h : ∀ w s, (body w s d).Sets d.sets) : (Dev.instr q cls ops body d).sets = d.sets := by
  unfold Dev.instr
  refine ite_sets rfl (HOut.leaves_sets ?_)
  repeat' split
  all_goals simp [h]

@[simp] theorem Dev.next_sets {x : List (Nat × Nat)} {q : Nat} {h : HWord} {f : Seqr → Seqr} {d : Dev} : (d.next q h f).Sets x ↔ d.sets = x := by
  simp [Dev.next]

/-! ### HammerUnit -/

@[simp] theorem Dev.unitEnd_sets {x : List (Nat × Nat)} {q : Nat} {h : HWord} {st : Status} {d : Dev} : (d.unitEnd q h st).Sets x ↔ d.sets = x :=
  Dev.next_sets

/-! ### Hammer -/

theorem Dev.jump_sets {x : List (Nat × Nat)} {q t : Nat} {f : Seqr → Seqr} {d : Dev} (hd : d.sets = x) : (d.jump q t f).Sets x := by
  unfold Dev.jump
  split <;> simp [hd]

theorem Dev.need_sets {x : List (Nat × Nat)} {q a n : Nat} {k : Bytes → HOut} {d : Dev} (h : ∀ bs, (k bs).Sets x) :
    (d.need q a n k).Sets x := by
  unfold Dev.need
  split <;> simp [h]

theorem Dev.put_sets {x : List (Nat × Nat)} {q a : Nat} {bs : Bytes} {k : Dev → HOut} {d : Dev} (hd : d.sets = x)
    (h : ∀ e, e.sets = x → (k e).Sets x) : (d.put q a bs k).Sets x := by
  unfold Dev.put
  repeat' split
  all_goals simp [h, hd]

/-! ### HammerUnit -/

theorem Dev.entropy_sets {x : List (Nat × Nat)} {fin : Status → Dev → HOut} {k : HOut} {d : Dev} (hd : d.sets = x)
    (hf : ∀ st e, e.sets = x → (fin st e).Sets x) (hk : k.Sets x) : (d.entropy fin k).Sets x := by
  unfold Dev.entropy
  repeat' split
  all_goals simp [hf, hk, hd]

theorem Dev.withKey_sets {x : List (Nat × Nat)} {s : Seqr} {v : Nat} {ts : List Nat} {use : Option Nat} {fin : Status → Dev → HOut} {k : Bytes → Option Nat → Dev → HOut} {d : Dev} (hd : d.sets = x)
    (hf : ∀ st e, e.sets = x → (fin st e).Sets x) (hk : ∀ m n e, e.sets = x → (k m n e).Sets x) : (d.withKey s v ts use fin k).Sets x := by
  unfold Dev.withKey
  split
  · exact hf _ _ (by split <;> simp [hd])
  · exact hf _ _ hd
  · exact Dev.entropy_sets hd hf (hk _ _ _ (by split <;> simp [hd]))

theorem unitOp_sets {q op n : Nat} {doms fns : List Nat} {body : (Status → Dev → HOut) → (Nat → Nat) → Seqr → Dev → HOut} {d : Dev}
    (h : ∀ fin p s, (∀ st e, e.sets = d.sets → (fin st e).Sets d.sets) → (body fin p s d).Sets d.sets) :
    (unitOp q op n doms fns body d).sets = d.sets := by
  refine Dev.instr_sets fun w s => ?_
  dsimp only
  split
  · simp
  · refine Dev.need_sets fun bs => ?_
    repeat' split
    · simp
    · simp
    · exact h _ _ _ (by simp)

theorem HOut.ite_sets {c : Prop} [Decidable c] {a b : HOut} {x : List (Nat × Nat)} (ha : a.Sets x) (hb : b.Sets x) :
    (if c then a else b).Sets x := by split <;> assumption

/-! ### Hammer -/

@[simp] theorem aluOp_sets (q op : Nat) (d : Dev) : (aluOp q op d).sets = d.sets := Dev.instr_sets fun _ _ => by simp

@[simp] theorem loadOp_sets (q : Nat) (d : Dev) : (loadOp q d).sets = d.sets :=
  Dev.instr_sets fun w s => HOut.ite_sets (.fault _) (Dev.need_sets fun bs => by simp)

@[simp] theorem storeOp_sets (q : Nat) (d : Dev) : (storeOp q d).sets = d.sets :=
  Dev.instr_sets fun w s => HOut.ite_sets (.fault _) (Dev.put_sets rfl fun e he => by simp [he])

@[simp] theorem branchOp_sets (q : Nat) (d : Dev) : (branchOp q d).sets = d.sets :=
  Dev.instr_sets fun w s => HOut.ite_sets (Dev.jump_sets rfl) (by simp)

@[simp] theorem callOp_sets (q : Nat) (d : Dev) : (callOp q d).sets = d.sets := Dev.instr_sets fun _ _ => Dev.jump_sets rfl
@[simp] theorem retOp_sets (q : Nat) (d : Dev) : (retOp q d).sets = d.sets := Dev.instr_sets fun _ _ => Dev.jump_sets rfl
@[simp] theorem jrOp_sets (q : Nat) (d : Dev) : (jrOp q d).sets = d.sets := Dev.instr_sets fun _ _ => Dev.jump_sets rfl

@[simp] theorem Dev.clearPend_sets (q n : Nat) (d : Dev) : (d.clearPend q n).sets = d.sets :=
  ite_sets rfl (ite_sets rfl rfl)

@[simp] theorem waitevOp_sets (q : Nat) (d : Dev) : (waitevOp q d).sets = d.sets :=
  Dev.instr_sets fun w s => by
    dsimp only
    repeat' split
    all_goals simp

@[simp] theorem waitevTimeout_sets (q : Nat) (d : Dev) : (waitevTimeout q d).sets = d.sets :=
  Dev.instr_sets fun w s => by
    repeat' split
    all_goals simp

@[simp] theorem waittOp_sets (q : Nat) (d : Dev) : (waittOp q d).sets = d.sets :=
  Dev.instr_sets fun w s => HOut.ite_sets .stay (by simp)

@[simp] theorem waittEnd_sets (q : Nat) (d : Dev) : (waittEnd q d).sets = d.sets :=
  Dev.instr_sets fun w s => by split <;> simp

@[simp] theorem haltOp_sets (q : Nat) (d : Dev) : (haltOp q d).sets = d.sets :=
  Dev.instr_sets fun w s => by
    dsimp only
    repeat' split
    all_goals simp

@[simp] theorem retiOp_sets (q : Nat) (d : Dev) : (retiOp q d).sets = d.sets :=
  Dev.instr_sets fun w s => by
    dsimp only
    split <;> simp

@[simp] theorem ienOp_sets (q : Nat) (d : Dev) : (ienOp q d).sets = d.sets := Dev.instr_sets fun _ _ => by simp
@[simp] theorem signalOp_sets (q : Nat) (d : Dev) : (signalOp q d).sets = d.sets := Dev.instr_sets fun _ _ => by simp
@[simp] theorem tbreadOp_sets (q : Nat) (d : Dev) : (tbreadOp q d).sets = d.sets := Dev.instr_sets fun _ _ => by simp
@[simp] theorem getsrcOp_sets (q : Nat) (d : Dev) : (getsrcOp q d).sets = d.sets := Dev.instr_sets fun _ _ => by simp
@[simp] theorem sysNopOp_sets (q : Nat) (d : Dev) : (sysNopOp q d).sets = d.sets := Dev.instr_sets fun _ _ => by simp

@[simp] theorem hammerEntry_sets (q : Nat) (d : Dev) : (hammerEntry q d).sets = d.sets := by
  unfold hammerEntry
  dsimp only
  repeat' split
  all_goals simp

/-! ### Timers -/

@[simp] theorem Dev.newSpan_sets (n : Nat) (w : Nat) (c : Channel) (d : Dev) : (Dev.newSpan n w c d).sets = d.sets := rfl
@[simp] theorem Dev.holdU_sets (n : Nat) (d : Dev) : (Dev.holdU n d).sets = d.sets := rfl
@[simp] theorem Dev.snapChan_sets (n : Nat) (d : Dev) : (Dev.snapChan n d).sets = d.sets := rfl

@[simp] theorem Dev.startChan_sets (n : Nat) (d : Dev) : (Dev.startChan n d).sets = d.sets := by
  unfold Dev.startChan
  dsimp only
  split <;> simp

@[simp] theorem Dev.stopChan_sets (n : Nat) (d : Dev) : (Dev.stopChan n d).sets = d.sets := by
  unfold Dev.stopChan
  split <;> simp

@[simp] theorem Dev.armAt_sets (n : Nat) (w : Nat) (d : Dev) : (Dev.armAt n w d).sets = d.sets := rfl

@[simp] theorem Dev.clearAt_sets (n : Nat) (w : Nat) (d : Dev) : (Dev.clearAt n w d).sets = d.sets := by
  unfold Dev.clearAt
  dsimp only
  repeat' split
  all_goals simp

@[simp] theorem Dev.driveBall_sets (n : Nat) (d : Dev) : (Dev.driveBall n d).sets = d.sets := by
  unfold Dev.driveBall
  split <;> simp

@[simp] theorem Dev.setOut_sets (n : Nat) (o : Bool) (d : Dev) : (Dev.setOut n o d).sets = d.sets := by simp [Dev.setOut]
@[simp] theorem Dev.outAct_sets (n : Nat) (d : Dev) : (Dev.outAct n d).sets = d.sets := by simp [Dev.outAct]

@[simp] theorem Dev.afterMatch_sets (n : Nat) (next : Nat) (d : Dev) : (Dev.afterMatch n next d).sets = d.sets := by
  unfold Dev.afterMatch
  dsimp only
  split <;> simp

@[simp] theorem gptCompareMatch_sets (n : Nat) (d : Dev) : (gptCompareMatch n d).sets = d.sets := by
  unfold gptCompareMatch
  dsimp only
  repeat' split
  all_goals simp

@[simp] theorem Dev.tmrLateMatch_sets (n : Nat) (d : Dev) : (Dev.tmrLateMatch n d).sets = d.sets := by simp [Dev.tmrLateMatch]

@[simp] theorem Dev.tmrReanchor_sets (d : Dev) : (Dev.tmrReanchor d).sets = d.sets := by
  unfold Dev.tmrReanchor
  simp [foldl_sets, apply_ite Dev.sets]

@[simp] theorem Dev.dueMatches_sets (d : Dev) : (Dev.dueMatches d).sets = d.sets := by
  unfold Dev.dueMatches
  simp [foldl_sets, apply_ite Dev.sets]

@[simp] theorem Dev.width_sets (d : Dev) (u : Nat) (v : Nat) : (Dev.width d u v).2.sets = d.sets := by
  unfold Dev.width
  split <;> simp

@[simp] theorem Dev.captured_sets (n : Nat) (d : Dev) : (Dev.captured n d).sets = d.sets := by simp [Dev.captured]

@[simp] theorem Dev.tmrEdge_sets (n : Nat) (rise : Bool) (s : Nat) (d : Dev) : (Dev.tmrEdge n rise s d).sets = d.sets := by
  unfold Dev.tmrEdge
  dsimp only
  repeat' split
  all_goals simp

@[simp] theorem Dev.tmrFreeze_sets (d : Dev) : (Dev.tmrFreeze d).sets = d.sets := by
  unfold Dev.tmrFreeze
  simp [foldl_sets, apply_ite Dev.sets]

@[simp] theorem Dev.writeCtl_sets (n : Nat) (v : Nat) (d : Dev) : (Dev.writeCtl n v d).sets = d.sets := by
  unfold Dev.writeCtl
  dsimp only
  repeat' split
  all_goals simp

@[simp] theorem Dev.writeMode_sets (n : Nat) (old : Nat) (v : Nat) (d : Dev) :
    (Dev.writeMode n old v d).sets = d.sets := by simp [Dev.writeMode]

@[simp] theorem Dev.writeCmp_sets (n : Nat) (v : Nat) (d : Dev) : (Dev.writeCmp n v d).sets = d.sets := by
  unfold Dev.writeCmp
  dsimp only
  split <;> simp

@[simp] theorem Dev.tmrGoMask_sets (mask : Nat) (d : Dev) : (Dev.tmrGoMask mask d).sets = d.sets := by
  unfold Dev.tmrGoMask
  simp [foldl_sets]

@[simp] theorem Dev.tmrHaltMask_sets (mask : Nat) (d : Dev) : (Dev.tmrHaltMask mask d).sets = d.sets := by
  unfold Dev.tmrHaltMask
  simp [foldl_sets]

@[simp] theorem Dev.coSnap_sets (d : Dev) : (Dev.coSnap d).sets = d.sets := by
  unfold Dev.coSnap
  simp [foldl_sets, apply_ite Dev.sets]

@[simp] theorem Dev.tmrStandby_sets (d : Dev) : (Dev.tmrStandby d).sets = d.sets := rfl

@[simp] theorem Dev.tmrOff_sets (d : Dev) : (Dev.tmrOff d).sets = d.sets := by
  unfold Dev.tmrOff
  simp -implicitDefEqProofs [foldl_sets]

@[simp] theorem Dev.tmrReset_sets (d : Dev) : (Dev.tmrReset d).sets = d.sets := by
  unfold Dev.tmrReset
  simp [foldl_sets, apply_ite Dev.sets]

@[simp] theorem Dev.tmrUp_sets (d : Dev) : (Dev.tmrUp d).sets = d.sets := by
  unfold Dev.tmrUp
  split <;> simp

/-! ### Nv -/

@[simp] theorem Dev.rewritePage_sets (p : Nat) (d : Dev) : (Dev.rewritePage p d).sets = d.sets := by
  unfold Dev.rewritePage
  split <;> simp

@[simp] theorem Dev.slotCopy_sets (p : Nat) (ok : Bool) (d : Dev) : (Dev.slotCopy p ok d).sets = d.sets := by
  unfold Dev.slotCopy
  split <;> simp

@[simp] theorem Dev.nvMet_sets (e : NvError) (d : Dev) : (Dev.nvMet e d).sets = d.sets := by
  unfold Dev.nvMet
  dsimp only
  repeat' split
  all_goals simp

@[simp] theorem Dev.nvMetIn_sets (errors : List NvError) (a : Nat) (n : Nat) (d : Dev) : (Dev.nvMetIn errors a n d).sets = d.sets := by
  unfold Dev.nvMetIn
  simp [foldl_sets]

@[simp] theorem Dev.compare_sets (n : Nat) (c : Option (Nat × Nat)) (d : Dev) : (Dev.compare n c d).sets = d.sets := by
  unfold Dev.compare
  dsimp only
  repeat' split
  all_goals simp

@[simp] theorem Dev.counterStart_sets (a : Nat) (d : Dev) : (Dev.counterStart a d).sets = d.sets := by
  unfold Dev.counterStart
  dsimp only
  repeat' split
  all_goals simp

@[simp] theorem Dev.recordSeq_sets (d : Dev) (a : Nat) : (Dev.recordSeq d a).2.sets = d.sets := by
  unfold Dev.recordSeq
  dsimp only
  repeat' split
  all_goals simp

@[simp] theorem Dev.mismatched_sets (y : Nat) (n : Nat) (old : Nat) (new : Nat) (d : Dev) :
    (Dev.mismatched y n old new d).sets = d.sets := by
  unfold Dev.mismatched
  split <;> simp

@[simp] theorem Dev.compareTwin_sets (a : Nat) (b : Nat) (n : Nat) (d : Dev) : (Dev.compareTwin a b n d).sets = d.sets := by
  unfold Dev.compareTwin
  repeat' split
  all_goals simp -implicitDefEqProofs

@[simp] theorem Dev.compareDevice_sets (p : Nat) (d : Dev) : (Dev.compareDevice p d).sets = d.sets := by
  unfold Dev.compareDevice
  repeat' split
  all_goals simp [foldl_sets, apply_ite Dev.sets]

@[simp] theorem Dev.nvFail_sets (tag : Nat) (d : Dev) : (Dev.nvFail tag d).sets = d.sets := rfl

@[simp] theorem nvRead_sets (tag : Nat) (errors : List NvError) (d : Dev) : (nvRead tag errors d).sets = d.sets := by
  refine Dev.startCmd_sets (fun c e => ?_) _
  dsimp only
  repeat' split
  all_goals simp

@[simp] theorem Dev.writeDone_sets (tag : Nat) (ws : List PageWrite) (payload : List Word) (d : Dev) :
    (Dev.writeDone tag ws payload d).sets = d.sets := rfl

theorem Dev.stageTwin_sets {c : Cmd} {id size : Nat} {prot : Bool} {finish : Bytes → Dev → Dev}
    (h : ∀ t e, (finish t e).sets = e.sets) (d : Dev) : (Dev.stageTwin c id size prot finish d).sets = d.sets := by
  unfold Dev.stageTwin
  dsimp only
  repeat' split
  all_goals simp [h]

@[simp] theorem nvWrite_sets (tag : Nat) (d : Dev) : (nvWrite tag d).sets = d.sets := by
  refine Dev.startCmd_sets (fun c e => ?_) d
  refine ite_sets (by simp) (ite_sets (Dev.stageTwin_sets (fun t e => ite_sets (by simp) (by simp)) _) ?_)
  split
  · simp
  · split
    · dsimp only
      repeat' split
      all_goals simp
    · exact Dev.stageTwin_sets (fun t e => by dsimp only; split <;> simp) _
    · simp

@[simp] theorem nvRecordAppend_sets (tag : Nat) (d : Dev) : (nvRecordAppend tag d).sets = d.sets := by
  refine Dev.startCmd_sets (fun c e => ?_) _
  dsimp only
  repeat' split
  all_goals simp

@[simp] theorem Dev.readRecords_sets (p : Partition) (n r : Nat) (d : Dev) : (Dev.readRecords p n r d).1.sets = d.sets := by
  induction n generalizing r d with
  | zero => rfl
  | succ n ih =>
    unfold Dev.readRecords
    dsimp only
    split <;> simp [ih]

@[simp] theorem nvRecordRead_sets (tag : Nat) (errors : List NvError) (d : Dev) : (nvRecordRead tag errors d).sets = d.sets := by
  refine Dev.startCmd_sets (fun c e => ?_) _
  dsimp only
  repeat' split
  all_goals simp

@[simp] theorem nvCounterInc_sets (tag : Nat) (d : Dev) : (nvCounterInc tag d).sets = d.sets := by
  refine Dev.startCmd_sets (fun c e => ?_) _
  dsimp only
  repeat' split
  all_goals simp

@[simp] theorem Dev.restoreRecord_sets (r : OldRecord) (d : Dev) : (Dev.restoreRecord r d).sets = d.sets := by
  unfold Dev.restoreRecord
  split <;> simp

@[simp] theorem Dev.keepRecord_sets (c : Cmd) (d : Dev) : (Dev.keepRecord c d).sets = d.sets := by
  unfold Dev.keepRecord
  dsimp only
  repeat' split
  all_goals simp

@[simp] theorem Dev.programmed_sets (w : PageWrite) (d : Dev) : (Dev.programmed w d).sets = d.sets := by simp [Dev.programmed]

@[simp] theorem nvPageWriteEnd_sets (d : Dev) : (nvPageWriteEnd d).sets = d.sets := by
  unfold nvPageWriteEnd
  dsimp only
  repeat' split
  all_goals simp

@[simp] theorem scrubPass_sets (d : Dev) : (scrubPass d).sets = d.sets := by
  unfold scrubPass
  split <;> simp

@[simp] theorem Dev.comparePage_sets (p : Nat) (d : Dev) : (Dev.comparePage p d).sets = d.sets := by
  refine foldl_sets _ _ (fun e x => ?_) _
  dsimp only
  repeat' split
  all_goals simp [foldl_sets, apply_ite Dev.sets]

@[simp] theorem Dev.compareSlot_sets (p : Nat) (d : Dev) : (Dev.compareSlot p d).sets = d.sets := by
  unfold Dev.compareSlot
  dsimp only
  repeat' split
  all_goals simp

@[simp] theorem scrubAtom_sets (errors : List NvError) (d : Dev) : (scrubAtom errors d).sets = d.sets := by
  unfold scrubAtom
  dsimp only
  repeat' split
  all_goals simp

@[simp] theorem Dev.nvCut_sets (d : Dev) : (Dev.nvCut d).sets = d.sets := by
  unfold Dev.nvCut
  dsimp only
  repeat' split
  all_goals simp

@[simp] theorem Dev.nvStart_sets (d : Dev) : (Dev.nvStart d).sets = d.sets := by
  unfold Dev.nvStart
  simp [foldl_sets]

@[simp] theorem Dev.nvDrop_sets (p : Option Nat → Bool) (d : Dev) : (Dev.nvDrop p d).sets = d.sets := by
  have h := nvDrop_frame p d
  unfold RecordsOnly at h
  rw [h]

@[simp] theorem Dev.nvReset_sets (d : Dev) : (Dev.nvReset d).sets = d.sets := rfl

/-! ### Flush -/

@[simp] theorem Dev.jrnlWarn_sets (d : Dev) : (Dev.jrnlWarn d).sets = d.sets := by
  unfold Dev.jrnlWarn
  split <;> simp

@[simp] theorem Dev.writeHead_sets (flushed : Bool) (d : Dev) : (Dev.writeHead flushed d).sets = d.sets := by
  unfold Dev.writeHead
  split <;> simp

@[simp] theorem Dev.v2Room_sets (d : Dev) : (Dev.v2Room d).sets = d.sets := by
  unfold Dev.v2Room
  split <;> simp

@[simp] theorem Dev.holdExit_sets (d : Dev) : (Dev.holdExit d).sets = d.sets := by
  unfold Dev.holdExit
  repeat' split
  all_goals simp [foldl_sets]

@[simp] theorem Dev.flushBuffer_sets (d : Dev) : (Dev.flushBuffer d).sets = d.sets := by
  unfold Dev.flushBuffer
  split <;> simp

@[simp] theorem journalFlush_sets (d : Dev) : (journalFlush d).sets = d.sets := by
  unfold journalFlush
  dsimp only
  repeat' split
  all_goals simp

@[simp] theorem chainHeadWrite_sets (d : Dev) : (chainHeadWrite d).sets = d.sets := by
  unfold chainHeadWrite
  split <;> simp

/-! ### System -/

@[simp] theorem nop_sets (tag : Nat) (d : Dev) : (nop tag d).sets = d.sets := by
  unfold nop
  simp [Dev.startCmd_sets, apply_ite Dev.sets]

@[simp] theorem sleepEnter_sets (tag : Nat) (d : Dev) : (sleepEnter tag d).sets = d.sets := by
  refine Dev.startCmd_sets (fun c e => ?_) _
  dsimp only
  repeat' split
  all_goals simp

@[simp] theorem selftest_sets (tag : Nat) (failing : Nat) (d : Dev) : (selftest tag failing d).sets = d.sets := by
  refine Dev.startCmd_sets (fun c e => ?_) _
  dsimp only
  repeat' split
  all_goals simp

@[simp] theorem telemetryRead_sets (tag : Nat) (items : List Word) (d : Dev) : (telemetryRead tag items d).sets = d.sets := by
  unfold telemetryRead
  simp [Dev.startCmd_sets, apply_ite Dev.sets]

@[simp] theorem logRead_sets (tag : Nat) (nand : NandRead) (d : Dev) : (logRead tag nand d).sets = d.sets := by
  refine Dev.startCmd_sets (fun c e => ?_) _
  dsimp only
  repeat' split
  all_goals simp

@[simp] theorem logVerify_sets (tag : Nat) (nand : NandRead) (d : Dev) : (logVerify tag nand d).sets = d.sets := by
  refine Dev.startCmd_sets (fun c e => ?_) _
  dsimp only
  repeat' split
  all_goals simp

/-! ### Media -/

@[simp] theorem Dev.volRead_sets (d : Dev) (v : Nat) (off : Nat) (n : Nat) : (Dev.volRead d v off n).2.sets = d.sets := by
  unfold Dev.volRead
  repeat' split
  all_goals simp

@[simp] theorem Dev.durable_sets (d : Dev) : (Dev.durable d).sets = d.sets := rfl
@[simp] theorem Dev.checkpoint_sets (d : Dev) : (Dev.checkpoint d).sets = d.sets := rfl

@[simp] theorem Dev.enterThrough_sets (d : Dev) : (Dev.enterThrough d).sets = d.sets := by
  unfold Dev.enterThrough
  split <;> simp

@[simp] theorem Dev.enterBack_sets (d : Dev) : (Dev.enterBack d).sets = d.sets := by
  unfold Dev.enterBack
  split <;> simp

@[simp] theorem Dev.mediaOpen_sets (d : Dev) : (Dev.mediaOpen d).sets = d.sets := by
  unfold Dev.mediaOpen
  dsimp only
  split <;> simp

@[simp] theorem Dev.unitWrite_sets (v : Nat) (off : Nat) (n : Nat) (u : Nat) (d : Dev) : (Dev.unitWrite v off n u d).sets = d.sets := rfl

@[simp] theorem mediaRead_sets (tag : Nat) (nand : NandRead) (d : Dev) : (mediaRead tag nand d).sets = d.sets := by
  refine Dev.startCmd_sets (fun c e => ?_) _
  dsimp only
  repeat' split
  all_goals simp

@[simp] theorem mediaWrite_sets (tag : Nat) (d : Dev) : (mediaWrite tag d).sets = d.sets := by
  unfold mediaWrite
  simp -implicitDefEqProofs [foldl_sets, Dev.startCmd_sets, apply_ite Dev.sets]

@[simp] theorem Dev.unmap_sets (v : Nat) (off : Nat) (n : Nat) (d : Dev) : (Dev.unmap v off n d).sets = d.sets := rfl

@[simp] theorem mediaDiscard_sets (tag : Nat) (d : Dev) : (mediaDiscard tag d).sets = d.sets := by
  unfold mediaDiscard
  simp [Dev.startCmd_sets, apply_ite Dev.sets]

@[simp] theorem Dev.format_sets (d : Dev) : (Dev.format d).sets = d.sets := rfl

@[simp] theorem mediaSecureDiscard_sets (tag : Nat) (d : Dev) : (mediaSecureDiscard tag d).sets = d.sets := by
  refine Dev.startCmd_sets (fun c e => ?_) _
  dsimp only
  repeat' split
  all_goals simp

@[simp] theorem mediaHealth_sets (tag : Nat) (d : Dev) : (mediaHealth tag d).sets = d.sets := by
  refine Dev.startCmd_sets (fun c e => ?_) _
  dsimp only
  repeat' split
  all_goals simp

@[simp] theorem mediaFlush_sets (tag : Nat) (d : Dev) : (mediaFlush tag d).sets = d.sets := by
  unfold mediaFlush
  simp [Dev.startCmd_sets, apply_ite Dev.sets]

theorem Dev.mediaAtom_sets {body : Dev → Dev} (h : ∀ e, (body e).sets = e.sets) (d : Dev) : (Dev.mediaAtom body d).sets = d.sets :=
  ite_sets (Dev.atom_sets _ _ h d) rfl

@[simp] theorem fold_sets (d : Dev) : (fold d).sets = d.sets := ite_sets rfl (Dev.mediaAtom_sets (by simp) d)
@[simp] theorem garbageCollection_sets (d : Dev) : (garbageCollection d).sets = d.sets := Dev.mediaAtom_sets (fun _ => rfl) d

@[simp] theorem demotion_sets (d : Dev) : (demotion d).sets = d.sets :=
  Dev.mediaAtom_sets (body := fun e =>
    { e with med := { e.med with units := e.med.units.filter (fun u => !(u.fine && u.lastWrite + 10782720000000 ≤ e.now)) } })
    (fun _ => rfl) d

@[simp] theorem Dev.refreshDie_sets (die : Nat) (d : Dev) : (Dev.refreshDie die d).sets = d.sets := by
  unfold Dev.refreshDie
  dsimp only
  repeat' split
  all_goals simp

@[simp] theorem refresh_sets (die : Nat) (d : Dev) : (refresh die d).sets = d.sets := Dev.mediaAtom_sets (by simp) d

@[simp] theorem protectionRewrite_sets (die : Nat) (d : Dev) : (protectionRewrite die d).sets = d.sets := by
  unfold protectionRewrite
  split <;> simp

@[simp] theorem sampleRead_sets (nand : NandRead) (d : Dev) : (sampleRead nand d).sets = d.sets := Dev.mediaAtom_sets (by simp) d

@[simp] theorem holdupTest_sets (vhold droop : Nat) (d : Dev) : (holdupTest vhold droop d).sets = d.sets :=
  ite_sets rfl (Dev.mediaAtom_sets (fun e => by dsimp only; split <;> simp) d)

@[simp] theorem telemetryRecord_sets (d : Dev) : (telemetryRecord d).sets = d.sets := by
  unfold telemetryRecord
  split <;> simp

@[simp] theorem dieLost_sets (k : Nat) (d : Dev) : (dieLost k d).sets = d.sets := by
  unfold dieLost
  split <;> simp

@[simp] theorem rebuildDone_sets (d : Dev) : (rebuildDone d).sets = d.sets := by
  unfold rebuildDone
  split <;> simp

@[simp] theorem Dev.mapRead_sets (d : Dev) : (Dev.mapRead d).sets = d.sets := rfl

@[simp] theorem mediaReady_sets (d : Dev) : (mediaReady d).sets = d.sets := by
  unfold mediaReady
  split <;> simp

@[simp] theorem Dev.findDies_sets (found : List DieFound) (d : Dev) : (Dev.findDies found d).sets = d.sets := by
  unfold Dev.findDies
  dsimp only
  split <;> simp

@[simp] theorem Dev.mediaDown_sets (flushed : Bool) (d : Dev) : (Dev.mediaDown flushed d).sets = d.sets := by
  unfold Dev.mediaDown
  split <;> simp

@[simp] theorem Dev.mediaPark_sets (d : Dev) : (Dev.mediaPark d).sets = d.sets := by
  unfold Dev.mediaPark
  dsimp only
  split <;> simp

@[simp] theorem Dev.mediaWake_sets (d : Dev) : (Dev.mediaWake d).sets = d.sets := by
  unfold Dev.mediaWake
  split <;> simp

/-! ### Background -/

@[simp] theorem Dev.warnSensor_sets (n : Nat) (d : Dev) : (Dev.warnSensor n d).sets = d.sets := by
  unfold Dev.warnSensor
  dsimp only
  repeat' split
  all_goals simp

@[simp] theorem sensorSweep_sets (items : List Word) (d : Dev) : (sensorSweep items d).sets = d.sets := by simp [sensorSweep]

@[simp] theorem tempDerate_sets (sensor : Nat) (reading : Word) (d : Dev) : (tempDerate sensor reading d).sets = d.sets := by
  unfold tempDerate
  split <;> simp

@[simp] theorem tempDerateClear_sets (d : Dev) : (tempDerateClear d).sets = d.sets := by
  unfold tempDerateClear
  split <;> simp

@[simp] theorem starvationClose_sets (unit : Nat) (d : Dev) : (starvationClose unit d).sets = d.sets := by
  unfold starvationClose
  simp [apply_ite Dev.sets]

@[simp] theorem loopPinExpiry_sets (n : Nat) (d : Dev) : (loopPinExpiry n d).sets = d.sets := by simp [loopPinExpiry]
@[simp] theorem paritySweep_sets (d : Dev) : (paritySweep d).sets = d.sets := by simp [paritySweep]

/-! ### Settings -/

@[simp] theorem Dev.dueBefore_sets (a : Nat) (d : Dev) : (Dev.dueBefore a d).sets = d.sets := by
  unfold Dev.dueBefore
  split <;> simp

@[simp] theorem Dev.dropLow_sets (r : SettingRow) (refused : Bool) (d : Dev) : (Dev.dropLow r refused d).sets = d.sets := by
  unfold Dev.dropLow
  split <;> simp

/-! ### HammerUnit -/

@[simp] theorem Dev.airOut_sets (d : Dev) : d.airOut.sets = d.sets := by
  unfold Dev.airOut
  split <;> simp

@[simp] theorem lftx_sets (q : Nat) (d : Dev) : (lftx q d).sets = d.sets := unitOp_sets fun fin p s hf => by
  refine HOut.ite_sets (.fault _) (Dev.need_sets fun data => ?_)
  dsimp only
  split
  · exact hf _ _ rfl
  · split
    · exact hf _ _ rfl
    · refine Dev.put_sets ?_ (hf _)
      split <;> simp

@[simp] theorem Dev.listenOnce_sets (d : Dev) (w : Listen) (rx : Option UhfRx) (f : TokenFrame → Bool) :
    (d.listenOnce w rx f).2.sets = d.sets := by
  cases rx with
  | none => simp [Dev.listenOnce]
  | some r =>
    unfold Dev.listenOnce
    dsimp only
    have hr := Dev.receive_sets r { d with uhf := { d.uhf with windows := w :: d.uhf.windows } }
    split
    · simp
    · split <;> next h =>
        rw [h] at hr
        (try split) <;> simp_all

theorem Dev.listenOnce_sets_of {d e : Dev} {w : Listen} {rx : Option UhfRx} {f : TokenFrame → Bool} {o : Option TokenFrame}
    (h : d.listenOnce w rx f = (o, e)) : e.sets = d.sets := by
  have := Dev.listenOnce_sets d w rx f
  rwa [h] at this

@[simp] theorem uhfrx_sets (q : Nat) (rx : Option UhfRx) (d : Dev) : (uhfrx q rx d).sets = d.sets := unitOp_sets fun fin p s hf => by
  refine HOut.ite_sets (.fault _) (HOut.ite_sets (hf _ _ rfl) (HOut.ite_sets (.fault _) ?_))
  dsimp only
  split <;> next h =>
    have he := Dev.listenOnce_sets_of h
    first | exact hf _ _ he | exact Dev.put_sets he fun e he => Dev.put_sets he (hf _)

@[simp] theorem Dev.rangeRest_sets (d : Dev) (x : RangeRun) (a b : Option UwbRx) : (d.rangeRest x a b).2.2.sets = d.sets := by
  unfold Dev.rangeRest
  extract_lets +onlyGivenNames x' e
  have he : e.sets = d.sets := Dev.sendPoll_sets _ _ _
  clear_value e x'
  split
  · simp [he]
  · extract_lets +onlyGivenNames f
    have hf : f.sets = d.sets := (Dev.sendFinal_sets _ _).trans ((Dev.toStamp_sets _ _ _).trans he)
    clear_value f
    split
    · exact (Dev.endExchange_sets _ _).trans ((Dev.wait_sets _ _).trans hf)
    · extract_lets +onlyGivenNames g
      have hg : g.sets = d.sets := by
        simp only [g, Dev.endExchange_sets]
        rw [Dev.rangeNoted_sets, Dev.toStamp_sets, hf]
      clear_value g
      exact hg

theorem Dev.rangeRest_sets_of {d e : Dev} {x : RangeRun} {a b : Option UwbRx} {st : Status} {ws : List Word}
    (h : d.rangeRest x a b = (st, ws, e)) : e.sets = d.sets := by
  have := Dev.rangeRest_sets d x a b
  rwa [h] at this

@[simp] theorem uwbrange_sets (q : Nat) (ready : Option UhfRx) (resp rep : Option UwbRx) (d : Dev) :
    (uwbrange q ready resp rep d).sets = d.sets := unitOp_sets fun fin p s hf => by
  refine HOut.ite_sets (.fault _) (HOut.ite_sets (.fault _) ?_)
  cases d.tok.session with
  | none => exact hf _ _ rfl
  | some t =>
    refine Dev.entropy_sets rfl hf ?_
    dsimp only
    split
    · exact hf _ _ rfl
    · split
      · exact hf _ _ rfl
      · split
        · exact hf _ _ rfl
        · split
          · next h =>
            have he := Dev.listenOnce_sets_of h
            simp at he
            exact hf _ _ (by simp [he])
          · next h =>
            have he := Dev.listenOnce_sets_of h
            simp at he
            refine HOut.ite_sets (hf _ _ (by simp [he])) ?_
            split <;> next h =>
              have hr := (Dev.rangeRest_sets_of h).trans he
              first | exact Dev.put_sets (by simp [hr]) fun e he => hf _ _ (by simp [he]) | exact hf _ _ (by simp [hr])

@[simp] theorem aesn_sets (q : Nat) (d : Dev) : (aesn q d).sets = d.sets := unitOp_sets fun fin p s hf =>
  HOut.ite_sets (.fault _) (Dev.need_sets fun m => Dev.need_sets fun iv => Dev.withKey_sets rfl hf fun k n e he =>
    Dev.put_sets he fun e he => Dev.put_sets he (hf _))

@[simp] theorem cmacn_sets (q : Nat) (d : Dev) : (cmacn q d).sets = d.sets := unitOp_sets fun fin p s hf =>
  HOut.ite_sets (.fault _) (Dev.need_sets fun m => Dev.need_sets fun tag => Dev.withKey_sets rfl hf fun k n e he =>
    HOut.ite_sets (hf _ _ he) (Dev.put_sets he (hf _)))

theorem Dev.hkdfSlot_sets {x : List (Nat × Nat)} {fin : Status → Dev → HOut} {slot a : Nat} {parent : Option Nat} {f : Nat → Bytes} {d : Dev}
    (hd : d.sets = x) (hf : ∀ st e, e.sets = x → (fin st e).Sets x) : (d.hkdfSlot fin slot a parent f).Sets x :=
  HOut.ite_sets (hf _ _ hd) (HOut.ite_sets (hf _ _ hd) (hf _ _ (by simp [hd])))

@[simp] theorem unitHkdf_sets (q : Nat) (d : Dev) : (unitHkdf q d).sets = d.sets := unitOp_sets fun fin p s hf => by
  refine HOut.ite_sets (.fault _) (Dev.need_sets fun salt => Dev.need_sets fun info => HOut.ite_sets (HOut.ite_sets (hf _ _ rfl) ?_) ?_)
  · exact Dev.need_sets fun attr => Dev.withKey_sets rfl hf fun k n e he => Dev.hkdfSlot_sets he hf
  · exact Dev.need_sets fun ikm => HOut.ite_sets (Dev.need_sets fun attr => Dev.hkdfSlot_sets rfl hf) (Dev.put_sets rfl (hf _))

theorem Dev.ecmulOut_sets {x : List (Nat × Nat)} {q : Nat} {fin : Status → Dev → HOut} {k peer : Bytes} {p : Nat} {d : Dev}
    (hd : d.sets = x) (hf : ∀ st e, e.sets = x → (fin st e).Sets x) : (d.ecmulOut q fin k peer p).Sets x := by
  refine HOut.ite_sets (Dev.put_sets hd (hf _)) (HOut.ite_sets (hf _ _ hd) ?_)
  split
  · exact hf _ _ hd
  · exact hf _ _ (by simp [hd])

@[simp] theorem ecmul_sets (q : Nat) (d : Dev) : (ecmul q d).sets = d.sets := unitOp_sets fun fin p s hf => by
  refine Dev.need_sets fun peer => HOut.ite_sets (.fault _) (HOut.ite_sets (HOut.ite_sets (hf _ _ rfl) ?_) ?_)
  · exact Dev.entropy_sets rfl hf (Dev.ecmulOut_sets (by simp) hf)
  · exact Dev.withKey_sets rfl hf fun k n e he => Dev.ecmulOut_sets he hf

@[simp] theorem ecdsa_sets (q : Nat) (d : Dev) : (ecdsa q d).sets = d.sets := unitOp_sets fun fin p s hf => by
  refine HOut.ite_sets (.fault _) (Dev.need_sets fun dig => Dev.need_sets fun sig => HOut.ite_sets ?_ (HOut.ite_sets ?_ ?_))
  · exact Dev.need_sets fun pub => HOut.ite_sets (hf _ _ rfl) (hf _ _ rfl)
  · exact Dev.withKey_sets rfl hf fun k n e he => HOut.ite_sets (hf _ _ he) (hf _ _ he)
  · exact Dev.withKey_sets rfl hf fun k n e he => Dev.put_sets (by simp [he]) (hf _)

@[simp] theorem atlasq_sets (q : Nat) (nand : NandRead) (d : Dev) : (atlasq q nand d).sets = d.sets := unitOp_sets fun fin p s hf => by
  refine Dev.need_sets fun bs => ?_
  split
  · refine HOut.ite_sets (.fault _) (HOut.ite_sets (.fault _) ?_)
    split
    · exact hf _ _ rfl
    · refine HOut.ite_sets .stay ?_
      split <;> next h =>
        have he := Dev.scanLists_sets_of h
        first | exact hf _ _ he | exact Dev.put_sets he (hf _)
  · exact .fault _

@[simp] theorem copy_sets (q : Nat) (d : Dev) : (copy q d).sets = d.sets := unitOp_sets fun fin p s hf =>
  HOut.ite_sets (.fault _) (HOut.ite_sets (.fault _) (Dev.need_sets fun m => Dev.put_sets rfl (hf _)))

@[simp] theorem crcOp_sets (q : Nat) (d : Dev) : (crcOp q d).sets = d.sets := unitOp_sets fun fin p s hf =>
  HOut.ite_sets (.fault _) (Dev.need_sets fun m => Dev.put_sets rfl (hf _))

@[simp] theorem setr_sets (q : Nat) (d : Dev) : (setr q d).sets = d.sets := Dev.instr_sets fun _ _ => by simp

@[simp] theorem drawOp_sets (q : Nat) (d : Dev) : (drawOp q d).sets = d.sets := Dev.instr_sets fun w s => by
  refine HOut.ite_sets (.fault _) (HOut.ite_sets (.fault _) (HOut.ite_sets (by simp) (HOut.ite_sets .stay ?_)))
  exact Dev.entropy_sets rfl (by simp) (Dev.put_sets (by simp) (by simp))

/-! ### HammerLoad -/

@[simp] theorem Dev.setStored_sets (q : Nat) (m : Option Bytes) (d : Dev) : (Dev.setStored q m d).sets = d.sets := rfl
@[simp] theorem Dev.installScript_sets (q : Nat) (m : Bytes) (s : Script) (d : Dev) :
    (Dev.installScript q m s d).sets = d.sets := by simp [Dev.installScript]

@[simp] theorem Dev.loadLast_sets (tag : Nat) (q : Nat) (words : List Word) (d : Dev) : (Dev.loadLast tag q words d).sets = d.sets := by
  unfold Dev.loadLast
  dsimp only
  repeat' split
  all_goals simp

@[simp] theorem scriptLoad_sets (tag : Nat) (d : Dev) : (scriptLoad tag d).sets = d.sets := by
  refine Dev.startCmd_sets (fun c e => ?_) _
  dsimp only
  repeat' split
  all_goals simp

@[simp] theorem Dev.startScript_sets (c : Cmd) (q : Nat) (s : Script) (d : Dev) : (Dev.startScript c q s d).sets = d.sets := by
  unfold Dev.startScript
  extract_lets +onlyGivenNames claimed banks w ham e
  have he : e.sets = d.sets := rfl
  clear_value e
  rw [Dev.setPhase_sets, ← he]
  split <;> rw [Dev.onSeq_sets]

@[simp] theorem scriptRun_sets (tag : Nat) (d : Dev) : (scriptRun tag d).sets = d.sets := by
  refine ite_sets rfl (Dev.startCmd_sets (fun c e => ?_) d)
  refine ite_sets (by simp) (ite_sets (by simp) (ite_sets (by simp) ?_))
  repeat' split
  all_goals simp

@[simp] theorem scriptStop_sets (tag : Nat) (d : Dev) : (scriptStop tag d).sets = d.sets := by
  refine Dev.startCmd_sets (fun c e => ?_) _
  dsimp only
  repeat' split
  all_goals simp

@[simp] theorem Dev.restoreDue_sets (q : Nat) (d : Dev) : (Dev.restoreDue q d).sets = d.sets := by simp [Dev.restoreDue]

@[simp] theorem scriptRestore_sets (q : Nat) (nand : NandRead) (d : Dev) : (scriptRestore q nand d).sets = d.sets := by
  unfold scriptRestore
  dsimp only
  repeat' split
  all_goals simp

/-! ### Evc -/

@[simp] theorem Dev.claimed_sets (line : Nat) (d : Dev) : (Dev.claimed line d).sets = d.sets := by
  unfold Dev.claimed
  dsimp only
  repeat' split
  all_goals simp

@[simp] theorem Dev.writeSrcCfg_sets (n : Nat) (w : Nat) (d : Dev) : (Dev.writeSrcCfg n w d).sets = d.sets := rfl

@[simp] theorem Dev.evcWritten_sets (i : Nat) (w : Nat) (d : Dev) : (Dev.evcWritten i w d).sets = d.sets := by
  unfold Dev.evcWritten
  simp [apply_ite Dev.sets]

@[simp] theorem Dev.writeEvc_sets (i : Nat) (w : Nat) (d : Dev) : (Dev.writeEvc i w d).2.sets = d.sets := by
  unfold Dev.writeEvc
  dsimp only
  split <;> simp

@[simp] theorem Dev.acted_sets (n : Nat) (on : Bool) (d : Dev) : (Dev.acted n on d).sets = d.sets := by
  unfold Dev.acted
  repeat' split
  all_goals simp

@[simp] theorem Dev.inputEvent_sets (n : Nat) (on : Bool) (d : Dev) : (Dev.inputEvent n on d).sets = d.sets := by
  unfold Dev.inputEvent
  split <;> simp

@[simp] theorem Dev.setLevel_sets (n : Nat) (high : Bool) (d : Dev) : (Dev.setLevel n high d).sets = d.sets := rfl

@[simp] theorem Dev.seenAt_sets (s : Nat) (d : Dev) : (Dev.seenAt s d).2.sets = d.sets := by
  unfold Dev.seenAt
  simp [apply_ite Dev.sets, apply_ite Prod.snd]

@[simp] theorem Dev.standbyChange_sets (n : Nat) (w : Nat) (high : Bool) (s : Nat) (d : Dev) :
    (Dev.standbyChange n w high s d).sets = d.sets := by
  unfold Dev.standbyChange
  repeat' split
  all_goals simp -implicitDefEqProofs [apply_ite Dev.sets]

theorem Dev.runChange_sets {n : Nat} {high : Bool} {s : Nat} {f : Dev → Dev} (h : ∀ e, (f e).sets = e.sets) (d : Dev) :
    (Dev.runChange n high s f d).sets = d.sets := ite_sets rfl (by simp [h])

@[simp] theorem Dev.inputChange_sets (n : Nat) (high : Bool) (s : Nat) (d : Dev) : (Dev.inputChange n high s d).sets = d.sets := by
  refine ite_sets (Dev.runChange_sets (fun _ => rfl) _) (ite_sets ?_ rfl)
  split <;> simp

@[simp] theorem harmChange_sets (level : Bool) (s : Nat) (d : Dev) : (harmChange level s d).sets = d.sets := by simp [harmChange]
@[simp] theorem engineRunChange_sets (level : Bool) (s : Nat) (d : Dev) :
    (engineRunChange level s d).sets = d.sets := by simp [engineRunChange]

@[simp] theorem doorChange_sets (n : Nat) (level : Bool) (s : Nat) (d : Dev) : (doorChange n level s d).sets = d.sets := by
  unfold doorChange
  split <;> simp

@[simp] theorem wakeInputChange_sets (n : Nat) (level : Bool) (s : Nat) (d : Dev) : (wakeInputChange n level s d).sets = d.sets := by
  unfold wakeInputChange
  split <;> simp

@[simp] theorem gpioChange_sets (n : Nat) (level : Bool) (s : Nat) (d : Dev) : (gpioChange n level s d).sets = d.sets :=
  ite_sets rfl (ite_sets (Dev.runChange_sets (by simp) _) (by simp))

@[simp] theorem watcherLatch_sets (entry : Nat) (d : Dev) : (watcherLatch entry d).sets = d.sets := by
  unfold watcherLatch
  dsimp only
  repeat' split
  all_goals simp

@[simp] theorem Dev.resample_sets (p : Nat → Bool) (d : Dev) : (Dev.resample p d).sets = d.sets := rfl

/-! ### Tamper -/

@[simp] theorem Dev.breakOff_sets (cause : Nat) (c : Cmd) (d : Dev) : (Dev.breakOff cause c d).sets = d.sets := by
  unfold Dev.breakOff
  split <;> simp

@[simp] theorem Dev.killCmd_sets (st : Status) (cause : Nat) (c : Cmd) (d : Dev) : (Dev.killCmd st cause c d).sets = d.sets := by
  unfold Dev.killCmd
  split <;> simp

@[simp] theorem Dev.killCmds_sets (st : Status) (cause : Nat) (p : Cmd → Bool) (d : Dev) : (Dev.killCmds st cause p d).sets = d.sets := by
  unfold Dev.killCmds
  simp [foldl_sets]

@[simp] theorem Dev.endDebug_sets (d : Dev) : (Dev.endDebug d).sets = d.sets := by
  unfold Dev.endDebug
  dsimp only
  repeat' split
  all_goals simp

@[simp] theorem Dev.quench_sets (sensor : Nat) (d : Dev) : (Dev.quench sensor d).sets = d.sets := by
  unfold Dev.quench
  dsimp only
  split <;> simp

@[simp] theorem Dev.tamperEffects_sets (standby : Bool) (d : Dev) :
    (Dev.tamperEffects standby d).sets = d.sets := by simp [Dev.tamperEffects]
@[simp] theorem Dev.tamperEvent_sets (d : Dev) : (Dev.tamperEvent d).sets = d.sets := by simp [Dev.tamperEvent]

theorem Dev.tamperStandby_sets {t : Nat} {latch : Dev → Dev} (h : ∀ e, (latch e).sets = e.sets) (d : Dev) :
    (Dev.tamperStandby t latch d).sets = d.sets := ite_sets (by simp [h]) rfl

@[simp] theorem Dev.tripped_sets (sensor : Nat) (d : Dev) : (Dev.tripped sensor d).sets = d.sets :=
  ite_sets (by simp) ((Dev.tamperStandby_sets (by simp) _).trans (by simp))

@[simp] theorem Dev.tampChange_sets (n : Nat) (high : Bool) (s : Nat) (d : Dev) : (Dev.tampChange n high s d).sets = d.sets := by
  unfold Dev.tampChange
  extract_lets +onlyGivenNames evc e trips changed w q r q' v
  refine ite_sets ?_ ?_
  · have hq : q.sets = d.sets := ite_sets (by simp [w, e]) (by simp [w, e])
    have hr : r.sets = q.sets := ite_sets (Dev.runChange_sets (fun _ => rfl) _) (ite_sets (by simp) rfl)
    exact ite_sets (by simp [hr, hq]) (by simp [hr, hq])
  · have hq : q'.sets = d.sets := ite_sets (by simp [e]) rfl
    have hv : v.sets = q'.sets := ite_sets (by simp) rfl
    exact ite_sets ((Dev.tamperStandby_sets (fun _ => rfl) _).trans (hv.trans hq)) (hv.trans hq)

@[simp] theorem tamperTrip_sets (sensor : Nat) (readings : List Int) (level : Bool) (s : Nat) (d : Dev) :
    (tamperTrip sensor readings level s d).sets = d.sets :=
  ite_sets (by simp) (ite_sets rfl (ite_sets (ite_sets (by simp) rfl) (by simp)))

/-! ### Power -/

@[simp] theorem Dev.nvFinish_sets (n : Nat) (d : Dev) : (Dev.nvFinish n d).sets = d.sets := by
  induction n generalizing d with
  | zero => rfl
  | succ n ih => exact ite_sets ((ih _).trans (by simp)) rfl

@[simp] theorem Dev.domainDown_sets (n : Nat) (d : Dev) : (Dev.domainDown n d).sets = d.sets := by
  unfold Dev.domainDown
  dsimp only
  repeat' split
  all_goals simp

@[simp] theorem Dev.domainUp_sets (lost : Bool) (n : Nat) (d : Dev) : (Dev.domainUp lost n d).sets = d.sets := by
  unfold Dev.domainUp
  dsimp only
  repeat' split
  all_goals simp

@[simp] theorem Dev.supplyGone_sets (n : Nat) (x1 : Domain) (p : Cmd → Bool) (d : Dev) :
    (Dev.supplyGone n x1 p d).sets = d.sets := by simp [Dev.supplyGone]

@[simp] theorem Dev.switchDomain_sets (deferred : Bool) (n : Nat) (d : Dev) : (Dev.switchDomain deferred n d).sets = d.sets := by
  unfold Dev.switchDomain
  dsimp only
  repeat' split
  all_goals simp

@[simp] theorem Dev.dropDeferral_sets (n : Nat) (d : Dev) : (Dev.dropDeferral n d).sets = d.sets := rfl

@[simp] theorem Dev.zeroiseWork_sets (c : Cmd) (d : Dev) : (Dev.zeroiseWork c d).sets = d.sets := by
  unfold Dev.zeroiseWork
  dsimp only
  repeat' split
  all_goals simp

@[simp] theorem Dev.applyDeferred_sets (n : Nat) (d : Dev) : (Dev.applyDeferred n d).sets = d.sets := by simp [Dev.applyDeferred]

@[simp] theorem Dev.breakHolds_sets (n : Nat) (d : Dev) : (Dev.breakHolds n d).sets = d.sets := by
  unfold Dev.breakHolds
  simp [foldl_sets, apply_ite Dev.sets]

@[simp] theorem deferralWindowClose_sets (n : Nat) (d : Dev) : (deferralWindowClose n d).sets = d.sets := by
  unfold deferralWindowClose
  repeat' split
  all_goals simp [apply_ite Dev.sets]

@[simp] theorem holdRelease_sets (holder : Nat) (dom : Nat) (d : Dev) : (holdRelease holder dom d).sets = d.sets := by
  unfold holdRelease
  dsimp only
  repeat' split
  all_goals simp

@[simp] theorem drainEnd_sets (n : Nat) (d : Dev) : (drainEnd n d).sets = d.sets := by
  unfold drainEnd
  dsimp only
  repeat' split
  all_goals simp

@[simp] theorem dozeEntry_sets (d : Dev) : (dozeEntry d).sets = d.sets := by
  unfold dozeEntry
  dsimp only
  split <;> simp

@[simp] theorem dozeExit_sets (d : Dev) : (dozeExit d).sets = d.sets := by simp [dozeExit]

@[simp] theorem Dev.allDown_sets (reset : Bool) (d : Dev) : (Dev.allDown reset d).sets = d.sets := by
  unfold Dev.allDown
  simp [foldl_sets, apply_ite Dev.sets]

@[simp] theorem Dev.clearForStandby_sets (d : Dev) : (Dev.clearForStandby d).sets = d.sets := rfl
@[simp] theorem Dev.standDown_sets (d : Dev) : (Dev.standDown d).sets = d.sets := by simp [Dev.standDown]

@[simp] theorem Dev.enterState_sets (t : Nat) (x : DevState) (d : Dev) : (Dev.enterState t x d).sets = d.sets := by
  unfold Dev.enterState
  split
  · exact ite_sets rfl (ite_sets (by simp) (ite_sets (by simp) (by simp)))
  · rfl

@[simp] theorem parkEntry_sets (d : Dev) : (parkEntry d).sets = d.sets := by simp [parkEntry]
@[simp] theorem deepEntry_sets (d : Dev) : (deepEntry d).sets = d.sets := by simp [deepEntry]
@[simp] theorem Dev.shelve_sets (flushed : Bool) (d : Dev) : (Dev.shelve flushed d).sets = d.sets := by simp [Dev.shelve]

@[simp] theorem shelfEntry_sets (d : Dev) : (shelfEntry d).sets = d.sets := by
  unfold shelfEntry
  dsimp only
  split <;> simp

@[simp] theorem Dev.acceptAt_sets (t : Nat) (d : Dev) : (Dev.acceptAt t d).sets = d.sets := rfl

@[simp] theorem Dev.wokenAt_sets (t : Nat) (x1 : Woken) (d : Dev) : (Dev.wokenAt t x1 d).sets = d.sets := by
  unfold Dev.wokenAt
  dsimp only
  repeat' split
  all_goals simp

@[simp] theorem Dev.conditionsAgain_sets (d : Dev) : (Dev.conditionsAgain d).sets = d.sets := by
  unfold Dev.conditionsAgain
  simp [foldl_sets]

@[simp] theorem Dev.powerAtReady_sets (skip : List Nat) (d : Dev) : (Dev.powerAtReady skip d).sets = d.sets := by
  unfold Dev.powerAtReady
  simp [foldl_sets, apply_ite Dev.sets]

@[simp] theorem Dev.wdtRestart_sets (d : Dev) : (Dev.wdtRestart d).sets = d.sets := rfl
@[simp] theorem Dev.anchored_sets (d : Dev) : (Dev.anchored d).sets = d.sets := rfl

@[simp] theorem Dev.presentAll_sets (ws : List (List Nat × Woken)) (e : Dev) : (Dev.presentAll ws e).sets = e.sets := by
  unfold Dev.presentAll
  simp [foldl_sets]

@[simp] theorem Dev.unlatch_sets (d : Dev) : (Dev.unlatch d).sets = d.sets := rfl

@[simp] theorem Dev.wake_sets (d : Dev) : (Dev.wake d).sets = d.sets := by
  unfold Dev.wake
  dsimp only
  repeat' split
  all_goals simp

@[simp] theorem wakePark_sets (d : Dev) : (wakePark d).sets = d.sets := by
  unfold wakePark
  split <;> simp

@[simp] theorem wakeDeep_sets (d : Dev) : (wakeDeep d).sets = d.sets := by
  unfold wakeDeep
  split <;> simp

theorem Dev.access_sets {f : Dev → Dev} (h : ∀ e, (f e).sets = e.sets) (d : Dev) : (Dev.access f d).sets = d.sets := by
  refine ite_sets rfl ((h _).trans ?_)
  exact ite_sets (by simp) (by simp)

/-! ### Resets -/

@[simp] theorem Dev.conditionsBegin_sets (inputs : Bool) (p : Nat → Bool) (d : Dev) : (Dev.conditionsBegin inputs p d).sets = d.sets := by
  refine foldl_sets _ _ (fun e n => ?_) d
  split
  · exact ite_sets (by simp) rfl
  · exact ite_sets (by simp) rfl
  · rfl

@[simp] theorem Dev.fnStart_sets (f : Nat) (d : Dev) : (Dev.fnStart f d).sets = d.sets := by
  unfold Dev.fnStart
  repeat' split
  all_goals simp -implicitDefEqProofs [foldl_sets]

@[simp] theorem Dev.fnEnd_sets (f : Nat) (d : Dev) : (Dev.fnEnd f d).sets = d.sets := by
  unfold Dev.fnEnd
  repeat' split
  all_goals simp

@[simp] theorem Dev.fnQuell_sets (rel : Bool) (kw : Bool) (d : Dev) : (Dev.fnQuell rel kw d).sets = d.sets := by
  unfold Dev.fnQuell
  repeat' split
  all_goals simp

@[simp] theorem Dev.resetFns_sets (mask : Nat) (d : Dev) : (Dev.resetFns mask d).sets = d.sets := by
  unfold Dev.resetFns
  simp [foldl_sets]

@[simp] theorem Dev.badWrite_sets (offset : Nat) (old : Nat) (w : Nat) (d : Dev) :
    (Dev.badWrite offset old w d).sets = d.sets := by simp [Dev.badWrite]

@[simp] theorem fnrst_sets (mask : Nat) (d : Dev) : (fnrst mask d).sets = d.sets :=
  Dev.access_sets (fun e => ite_sets (by simp) (by simp)) d

@[simp] theorem functionResetEnd_sets (n : Nat) (d : Dev) : (functionResetEnd n d).sets = d.sets := by
  unfold functionResetEnd
  split <;> simp

/-! ### Startup -/

@[simp] theorem Dev.bootComplete_sets (d : Dev) : (Dev.bootComplete d).sets = d.sets := rfl
@[simp] theorem Dev.phase_sets (n : Nat) (d : Dev) : (Dev.phase n d).sets = d.sets := rfl

@[simp] theorem Dev.phase7_sets (cold : Bool) (d : Dev) : (Dev.phase7 cold d).sets = d.sets := by
  simp [Dev.phase7, apply_ite Dev.sets]

@[simp] theorem Dev.phase6_sets (cold : Bool) (d : Dev) : (Dev.phase6 cold d).sets = d.sets := by simp [Dev.phase6]

@[simp] theorem Dev.verifyAtlas_sets (d : Dev) : (Dev.verifyAtlas d).sets = d.sets := by
  unfold Dev.verifyAtlas
  dsimp only
  repeat' split
  all_goals simp

@[simp] theorem Dev.phase5_sets (cold : Bool) (d : Dev) : (Dev.phase5 cold d).sets = d.sets := by
  unfold Dev.phase5
  simp [apply_ite Dev.sets]

@[simp] theorem Dev.phase4_sets (d : Dev) : (Dev.phase4 d).sets = d.sets := by
  simp [Dev.phase4, apply_ite Dev.sets]

@[simp] theorem Dev.resolveAdmission_sets (cold : Bool) (d : Dev) : (Dev.resolveAdmission cold d).sets = d.sets := by
  unfold Dev.resolveAdmission
  repeat' split
  all_goals simp -implicitDefEqProofs [foldl_sets, apply_ite Dev.sets]

@[simp] theorem Dev.verifySlots_sets (d : Dev) : (Dev.verifySlots d).sets = d.sets := by
  unfold Dev.verifySlots
  simp [foldl_sets]

@[simp] theorem Dev.readTable_sets (d : Dev) : (Dev.readTable d).sets = d.sets := by
  unfold Dev.readTable
  split <;> simp

@[simp] theorem Dev.findRoot_sets (d : Dev) : (Dev.findRoot d).sets = d.sets := by
  unfold Dev.findRoot
  dsimp only
  split <;> simp

@[simp] theorem Dev.phase3_sets (d : Dev) : (Dev.phase3 d).sets = d.sets := by
  unfold Dev.phase3
  simp -implicitDefEqProofs [apply_ite Dev.sets]

@[simp] theorem Dev.phase2_sets (d : Dev) : (Dev.phase2 d).sets = d.sets := by
  unfold Dev.phase2
  dsimp only
  split <;> simp

@[simp] theorem drbgReadyRow_sets (d : Dev) : (drbgReadyRow d).sets = d.sets := by
  unfold drbgReadyRow
  dsimp only
  repeat' split
  all_goals simp

@[simp] theorem Dev.resetRecords_sets (cause : Nat) (d : Dev) : (Dev.resetRecords cause d).sets = d.sets := by simp [Dev.resetRecords]

@[simp] theorem Dev.resetDrain_sets (d : Dev) : (Dev.resetDrain d).sets = d.sets := by
  unfold Dev.resetDrain
  dsimp only
  split <;> simp

@[simp] theorem Dev.warmClear_sets (cause : Nat) (d : Dev) : (Dev.warmClear cause d).sets = d.sets := rfl
@[simp] theorem Dev.warmPhases_sets (d : Dev) : (Dev.warmPhases d).sets = d.sets := by simp [Dev.warmPhases]
@[simp] theorem Dev.restarted_sets (d : Dev) : (Dev.restarted d).sets = d.sets := by simp [Dev.restarted]
@[simp] theorem Dev.restart_sets (d : Dev) : (Dev.restart d).sets = d.sets := by simp [Dev.restart]
@[simp] theorem Dev.restartStandby_sets (cause : Nat) (d : Dev) : (Dev.restartStandby cause d).sets = d.sets := by simp [Dev.restartStandby]

@[simp] theorem Dev.afterStop_sets (cause : Nat) (d : Dev) : (Dev.afterStop cause d).sets = d.sets := by
  unfold Dev.afterStop
  dsimp only
  repeat' split
  all_goals simp

@[simp] theorem Dev.resetNow_sets (cause : Nat) (d : Dev) : (Dev.resetNow cause d).sets = d.sets := by
  unfold Dev.resetNow
  dsimp only
  split <;> simp

@[simp] theorem Dev.takeBalls_sets (balls : List Bool) (d : Dev) : (Dev.takeBalls balls d).sets = d.sets := rfl

@[simp] theorem Dev.triggered_sets (cause : Nat) (d : Dev) : (Dev.triggered cause d).sets = d.sets := by
  unfold Dev.triggered
  split <;> simp

@[simp] theorem warmReset_sets (cause : Nat) (balls : List Bool) (d : Dev) : (warmReset cause balls d).sets = d.sets := by
  unfold warmReset
  dsimp only
  repeat' split
  all_goals simp

@[simp] theorem hrstNRise_sets (d : Dev) : (hrstNRise d).sets = d.sets := by
  unfold hrstNRise
  repeat' split
  all_goals simp

@[simp] theorem Dev.flushEnd_sets (d : Dev) : (Dev.flushEnd d).sets = d.sets := by
  unfold Dev.flushEnd
  dsimp only
  repeat' split
  all_goals simp

@[simp] theorem Dev.judgeFeed_sets (mv : Nat) (d : Dev) : (Dev.judgeFeed mv d).sets = d.sets := by
  unfold Dev.judgeFeed
  dsimp only
  split <;> simp

@[simp] theorem Dev.surfaced_sets (d : Dev) : (Dev.surfaced d).sets = d.sets := by
  unfold Dev.surfaced
  split <;> simp

@[simp] theorem holdupTrip_sets (vhold : Nat) (d : Dev) : (holdupTrip vhold d).sets = d.sets := by
  unfold holdupTrip
  dsimp only
  repeat' split
  all_goals simp

@[simp] theorem vholdCollapse_sets (d : Dev) : (vholdCollapse d).sets = d.sets := by
  unfold vholdCollapse
  split <;> simp

@[simp] theorem Dev.lostPd00_sets (d : Dev) : (Dev.lostPd00 d).sets = d.sets := rfl

@[simp] theorem Dev.lossEffects_sets (n : Nat) (d : Dev) : (Dev.lossEffects n d).sets = d.sets := by
  unfold Dev.lossEffects
  split <;> simp

@[simp] theorem hardLoss_sets (n : Nat) (d : Dev) : (hardLoss n d).sets = d.sets := by
  unfold hardLoss
  dsimp only
  repeat' split
  all_goals simp

@[simp] theorem Dev.monitor_sets (n : Nat) (low : Bool) (d : Dev) : (Dev.monitor n low d).sets = d.sets := by
  unfold Dev.monitor
  split <;> simp

@[simp] theorem vsupLow_sets (feed : Nat) (d : Dev) : (vsupLow feed d).sets = d.sets := by
  unfold vsupLow
  split <;> simp

@[simp] theorem vsupLowClear_sets (feed : Nat) (d : Dev) : (vsupLowClear feed d).sets = d.sets := by
  unfold vsupLowClear
  split <;> simp

@[simp] theorem vlfLow_sets (mv : Nat) (d : Dev) : (vlfLow mv d).sets = d.sets := by
  unfold vlfLow
  split <;> simp

@[simp] theorem vbatKsLow_sets (mv : Nat) (d : Dev) : (vbatKsLow mv d).sets = d.sets := by
  unfold vbatKsLow
  split <;> simp

@[simp] theorem vholdLow_sets (mv : Nat) (d : Dev) : (vholdLow mv d).sets = d.sets := by
  unfold vholdLow
  dsimp only
  repeat' split
  all_goals simp

/-! ### Host -/

@[simp] theorem Dev.poisonBit_sets (n : Nat) (d : Dev) : (Dev.poisonBit n d).sets = d.sets := rfl

theorem Dev.regWrite_sets {offset w : Nat} {bad refused : Bool} {f : Dev → Dev} (h : ∀ e, (f e).sets = e.sets) (d : Dev) :
    (Dev.regWrite offset w bad refused f d).sets = d.sets :=
  ite_sets (by simp) (ite_sets (by simp) (ite_sets (by simp) (by simp [h])))

@[simp] theorem Dev.writeSysctl_sets (w : Nat) (d : Dev) : (Dev.writeSysctl w d).sets = d.sets := by
  have h (b r : Bool) : (d.regWrite 0x08 w b r id).sets = d.sets := Dev.regWrite_sets (by simp) d
  exact ite_sets (h _ _) (ite_sets (Dev.regWrite_sets (by simp) d) (ite_sets (ite_sets (h _ _) (h _ _)) (ite_sets (h _ _) (by simp))))

@[simp] theorem Dev.writeIrqMask_sets (w : Nat) (d : Dev) : (Dev.writeIrqMask w d).sets = d.sets :=
  Dev.regWrite_sets (by simp) d

@[simp] theorem Dev.writeIrqRoute_sets (w : Nat) (d : Dev) : (Dev.writeIrqRoute w d).sets = d.sets :=
  Dev.regWrite_sets (by simp) d

@[simp] theorem Dev.noteRequest_sets (n : Nat) (old : Nat) (new : Nat) (cause : Nat) (d : Dev) :
    (Dev.noteRequest n old new cause d).sets = d.sets := by simp [Dev.noteRequest]
@[simp] theorem Dev.requestRefused_sets (n : Nat) (d : Dev) : (Dev.requestRefused n d).sets = d.sets := by simp [Dev.requestRefused]

@[simp] theorem Dev.requestOn_sets (n : Nat) (d : Dev) : (Dev.requestOn n d).sets = d.sets := by
  unfold Dev.requestOn
  dsimp only
  repeat' split
  all_goals simp

@[simp] theorem Dev.requestOff_sets (n : Nat) (d : Dev) : (Dev.requestOff n d).sets = d.sets := by
  unfold Dev.requestOff
  dsimp only
  repeat' split
  all_goals simp

@[simp] theorem Dev.requestGate_sets (n : Nat) (d : Dev) : (Dev.requestGate n d).sets = d.sets := by
  unfold Dev.requestGate
  dsimp only
  repeat' split
  all_goals simp

@[simp] theorem Dev.requestUngate_sets (n : Nat) (d : Dev) : (Dev.requestUngate n d).sets = d.sets := by
  unfold Dev.requestUngate
  dsimp only
  repeat' split
  all_goals simp

@[simp] theorem Dev.writePwrreq_sets (w : Nat) (d : Dev) : (Dev.writePwrreq w d).sets = d.sets := by
  refine ite_sets (Dev.regWrite_sets (by simp) d) (ite_sets (Dev.regWrite_sets (by simp) d) (ite_sets (by simp) ?_))
  split <;> simp

@[simp] theorem Dev.writeSqPort_sets (w : Nat) (d : Dev) : (Dev.writeSqPort w d).sets = d.sets := by
  unfold Dev.writeSqPort
  split <;> simp

@[simp] theorem Dev.cancelSleep_sets (d : Dev) : (Dev.cancelSleep d).sets = d.sets := by
  unfold Dev.cancelSleep
  split <;> simp

@[simp] theorem Dev.ring_sets (d : Dev) : (Dev.ring d).sets = d.sets := by
  unfold Dev.ring
  simp -implicitDefEqProofs [foldl_sets, apply_ite Dev.sets]

@[simp] theorem Dev.writeSqBell_sets (w : Nat) (d : Dev) : (Dev.writeSqBell w d).sets = d.sets := by
  unfold Dev.writeSqBell
  dsimp only
  repeat' split
  all_goals simp

@[simp] theorem Dev.readCqPort_sets (d : Dev) : (Dev.readCqPort d).sets = d.sets := rfl

@[simp] theorem Dev.writeCqPop_sets (w : Nat) (d : Dev) : (Dev.writeCqPop w d).sets = d.sets := by
  unfold Dev.writeCqPop
  dsimp only
  repeat' split
  all_goals simp

@[simp] theorem Dev.evcAdvance_sets (d : Dev) : (Dev.evcAdvance d).sets = d.sets := by
  unfold Dev.evcAdvance
  dsimp only
  split <;> simp

@[simp] theorem Dev.readEvcData_sets (d : Dev) : (Dev.readEvcData d).sets = d.sets := by
  unfold Dev.readEvcData
  dsimp only
  split <;> simp

@[simp] theorem Dev.writeEvcData_sets (w : Nat) (d : Dev) : (Dev.writeEvcData w d).sets = d.sets := by
  unfold Dev.writeEvcData
  dsimp only
  split <;> simp

@[simp] theorem Dev.setAdvance_sets (d : Dev) : (Dev.setAdvance d).sets = d.sets := by
  unfold Dev.setAdvance
  split <;> simp

@[simp] theorem Dev.readSetData_sets (d : Dev) : (Dev.readSetData d).sets = d.sets := by simp [Dev.readSetData]

@[simp] theorem Dev.setOutcome_sets (cause : Nat) (d : Dev) : (Dev.setOutcome cause d).sets = d.sets := by
  unfold Dev.setOutcome
  split <;> simp

@[simp] theorem Dev.writeSnap_sets (w : Nat) (d : Dev) : (Dev.writeSnap w d).sets = d.sets := by
  unfold Dev.writeSnap
  dsimp only
  repeat' split
  all_goals simp

@[simp] theorem Dev.writeJrnlHead_sets (w : Nat) (d : Dev) : (Dev.writeJrnlHead w d).sets = d.sets := by
  unfold Dev.writeJrnlHead
  dsimp only
  repeat' split
  all_goals simp

@[simp] theorem Dev.writeLocknow_sets (w : Nat) (d : Dev) : (Dev.writeLocknow w d).sets = d.sets := by
  unfold Dev.writeLocknow
  split <;> simp

@[simp] theorem Dev.wdtExpire_sets (d : Dev) : (Dev.wdtExpire d).sets = d.sets := by
  unfold Dev.wdtExpire
  dsimp only
  split <;> simp

@[simp] theorem watchdogExpiry_sets (d : Dev) : (watchdogExpiry d).sets = d.sets := by
  unfold watchdogExpiry
  repeat' split
  all_goals simp

@[simp] theorem Dev.writeWdtCfg_sets (w : Nat) (d : Dev) : (Dev.writeWdtCfg w d).sets = d.sets :=
  Dev.regWrite_sets (by simp) d

@[simp] theorem Dev.writeWdtKick_sets (w : Nat) (d : Dev) : (Dev.writeWdtKick w d).sets = d.sets := by
  unfold Dev.writeWdtKick
  dsimp only
  repeat' split
  all_goals simp

@[simp] theorem Dev.noteDebug_sets (origin : Nat) (old : Nat) (d : Dev) :
    (Dev.noteDebug origin old d).sets = d.sets := by simp [Dev.noteDebug]

@[simp] theorem Dev.writeDbgctl_sets (w : Nat) (d : Dev) : (Dev.writeDbgctl w d).sets = d.sets :=
  Dev.regWrite_sets (fun _ => by dsimp only; split <;> simp) d

@[simp] theorem Dev.clearStatus_sets (offset : Nat) (w : Nat) (d : Dev) : (Dev.clearStatus offset w d).sets = d.sets := by
  unfold Dev.clearStatus
  split <;> simp

theorem Dev.reads_sets {f : Dev → Dev} (h : ∀ e, (f e).sets = e.sets) (moved : Bool) (d : Dev) : (Dev.reads moved f d).sets = d.sets :=
  ite_sets rfl (Dev.access_sets (fun e => by cases moved <;> simp [h]) d)

theorem Dev.writes_sets {f : Dev → Dev} (h : ∀ e, (f e).sets = e.sets) (moved : Bool) (d : Dev) : (Dev.writes moved f d).sets = d.sets :=
  Dev.access_sets (fun e => by cases moved <;> simp [h]) d

@[simp] theorem cqPortRead_sets (moved : Bool) (d : Dev) : (cqPortRead moved d).sets = d.sets := Dev.reads_sets (by simp) moved d

@[simp] theorem claim_sets (line : Nat) (moved : Bool) (d : Dev) : (claim line moved d).sets = d.sets :=
  (Dev.reads_sets (by simp) moved _).trans (Dev.access_sets (by simp) d)

@[simp] theorem setDataRead_sets (moved : Bool) (d : Dev) : (setDataRead moved d).sets = d.sets :=
  Dev.reads_sets (fun e => by simp [Dev.readSetData, Dev.setAdvance, apply_ite Dev.sets]) moved d

@[simp] theorem Dev.selectSetting_sets (a : Nat) (d : Dev) : (Dev.selectSetting a d).sets = d.sets := rfl
@[simp] theorem Dev.ratioTicks_sets (d : Dev) : (Dev.ratioTicks d).2.sets = d.sets := rfl
@[simp] theorem Dev.ratioOpens_sets (d : Dev) : (Dev.ratioOpens d).2.sets = d.sets := rfl

@[simp] theorem ratioWindowClose_sets (d : Dev) : (ratioWindowClose d).sets = d.sets := by
  unfold ratioWindowClose
  dsimp only
  repeat' split
  all_goals simp

@[simp] theorem spreadChange_sets (d : Dev) : (spreadChange d).sets = d.sets := by
  unfold spreadChange
  dsimp only
  split <;> simp

/-! ### Debug -/

@[simp] theorem unlockAttempt_sets (sig : Bytes) (d : Dev) : (unlockAttempt sig d).sets = d.sets := by
  unfold unlockAttempt
  dsimp only
  repeat' split
  all_goals simp

@[simp] theorem Dev.haltSeq_sets (q : Nat) (d : Dev) : (Dev.haltSeq q d).sets = d.sets := by simp [Dev.haltSeq]

@[simp] theorem debugHalt_sets (q : Nat) (d : Dev) : (debugHalt q d).sets = d.sets := by
  unfold debugHalt
  dsimp only
  repeat' split
  all_goals simp

@[simp] theorem breakpoint_sets (q : Nat) (d : Dev) : (breakpoint q d).sets = d.sets := by
  unfold breakpoint
  dsimp only
  split <;> simp

@[simp] theorem debugMemoryWrite_sets (q : Nat) (space : Nat) (addr : Nat) (bytes : Bytes) (d : Dev) :
    (debugMemoryWrite q space addr bytes d).sets = d.sets := by
  unfold debugMemoryWrite
  dsimp only
  repeat' split
  all_goals simp

/-! ### Complete -/

@[simp] theorem Dev.applyAtlas_sets (es : List (Nat × Evidence)) (ws : List Word) (d : Dev) : (Dev.applyAtlas es ws d).2.sets = d.sets := by
  induction es generalizing ws d with
  | nil => rfl
  | cons e es ih =>
    obtain ⟨i, e⟩ := e
    exact (ih _ _).trans (by simp)

@[simp] theorem Dev.applyEffect_sets (c : Cmd) (r : Result) (d : Dev) : (Dev.applyEffect c r d).2.sets = d.sets := by
  unfold Dev.applyEffect
  dsimp only
  split
  all_goals try simp
  · split <;> simp
  · split <;> simp
  · split <;> simp

@[simp] theorem Dev.ownRecords_sets (c : Cmd) (r : Result) (d : Dev) : (Dev.ownRecords c r d).sets = d.sets := by
  unfold Dev.ownRecords
  dsimp only
  repeat' split
  all_goals simp

@[simp] theorem Dev.complete_sets (c : Cmd) (r : Result) (d : Dev) : (Dev.complete c r d).sets = d.sets := by
  unfold Dev.complete
  extract_lets +onlyGivenNames r e f x
  have hx : x.2.sets = d.sets := by
    simp only [x]
    split
    · simp [f, e]
    · simp [e]
  clear_value x
  split <;> simp [hx]

@[simp] theorem Dev.deadlineAt_sets (c : Cmd) (d : Dev) : (Dev.deadlineAt c d).sets = d.sets := by
  unfold Dev.deadlineAt
  split <;> simp

@[simp] theorem completionPresented_sets (tag : Nat) (d : Dev) : (completionPresented tag d).sets = d.sets := by
  unfold completionPresented
  repeat' split
  all_goals simp

@[simp] theorem completionPayloadEnter_sets (d : Dev) : (completionPayloadEnter d).sets = d.sets := by
  unfold completionPayloadEnter
  repeat' split
  all_goals simp

@[simp] theorem emissionEndRow_sets (peaks : List Nat) (load : Bool) (d : Dev) : (emissionEndRow peaks load d).sets = d.sets := by
  unfold emissionEndRow
  dsimp only
  repeat' split
  all_goals simp

@[simp] theorem deadlineClose_sets (tag : Nat) (d : Dev) : (deadlineClose tag d).sets = d.sets := by
  unfold deadlineClose
  repeat' split
  all_goals simp

@[simp] theorem Dev.idle_sets (d : Dev) : (Dev.idle d).sets = d.sets := by
  unfold Dev.idle
  dsimp only
  repeat' split
  all_goals simp

/-! ### What writes a setting keeps the store canonical -/
theorem canon_of_sets {d e : Dev} (h : e.sets = d.sets) (hd : cellsWf settingDefault d.sets = true) :
    cellsWf settingDefault e.sets = true := h ▸ hd

theorem canon_putSetting (a v : Nat) {d : Dev} (hd : cellsWf settingDefault d.sets = true) :
    cellsWf settingDefault (d.putSetting a v).sets = true := cellsWf_put hd

theorem canon_loopWritten (n place v : Nat) {d : Dev} (hd : cellsWf settingDefault d.sets = true) :
    cellsWf settingDefault (d.loopWritten n place v).sets = true := by
  have h := canon_putSetting (loopBase n + place) v hd
  unfold Dev.loopWritten
  dsimp only
  repeat' split
  all_goals simpa using h

theorem canon_settingWritten (a v : Nat) {d : Dev} (hd : cellsWf settingDefault d.sets = true) :
    cellsWf settingDefault (d.settingWritten a v).sets = true := by
  have h := canon_putSetting a v hd
  unfold Dev.settingWritten
  split
  · exact canon_loopWritten _ _ _ hd
  · dsimp only
    repeat' split
    all_goals simp [h, hd]

theorem canon_writeSetting (origin : Nat) (forbidden : Bool) (a w : Nat) {d : Dev} (hd : cellsWf settingDefault d.sets = true) :
    cellsWf settingDefault (d.writeSetting origin forbidden a w).2.sets = true := by
  unfold Dev.writeSetting
  dsimp only
  split
  · simpa using hd
  · next r _ =>
    split
    · split <;> simpa using hd
    · split
      · simpa using hd
      · rw [Dev.dropLow_sets]
        exact canon_settingWritten _ _ (by simpa using hd)

/-- SETW's write keeps the store canonical, and what the script leaves otherwise does not touch it. -/
theorem canon_setw (q : Nat) {d : Dev} (hd : cellsWf settingDefault d.sets = true) : cellsWf settingDefault (setw q d).sets = true := by
  unfold setw Dev.instr
  dsimp only
  split
  · exact hd
  · generalize hw : (Dev.dueBefore _ _ |>.presentOn _ |>.writeSetting _ _ _ _) = r
    have hr : cellsWf settingDefault r.2.sets = true := by
      rw [← hw]
      exact canon_writeSetting _ _ _ _ (by simpa using hd)
    split
    · next he =>
      split at he
      · cases he
      · split at he
        · cases he
        · split at he
          · cases he
            simpa using hr
          · cases he
    · simpa using hd
    · exact hd

theorem canon_oneInstr (q cls op : Nat) {d : Dev} (hd : cellsWf settingDefault d.sets = true) :
    cellsWf settingDefault (oneInstr q cls op d).sets = true := by
  unfold oneInstr
  split
  case h_26 => exact canon_setw q hd
  all_goals simpa using hd

theorem canon_singleStep (q : Nat) {d : Dev} (hd : cellsWf settingDefault d.sets = true) :
    cellsWf settingDefault (singleStep q d).sets = true := by
  unfold singleStep
  dsimp only
  split
  · exact hd
  · rw [Dev.onSeq_sets]
    exact canon_oneInstr _ _ _ (by simpa using hd)

theorem canon_imageEntry (i u v : Nat) {d : Dev} (hd : cellsWf settingDefault d.sets = true) :
    cellsWf settingDefault (d.imageEntry i u v).sets = true := by
  unfold Dev.imageEntry
  dsimp only
  split
  · simpa using hd
  · exact canon_writeSetting _ _ _ _ (by simpa using hd)

theorem canon_imageLock (mask : Nat) {d : Dev} (hd : cellsWf settingDefault d.sets = true) :
    cellsWf settingDefault (d.imageLock mask).sets = true := by
  unfold Dev.imageLock
  extract_lets +onlyGivenNames e old cause
  split
  · simpa [e] using hd
  · exact canon_putSetting 0 _ (by simpa [e] using hd)

theorem canon_foldl {α : Type} {f : Dev → α → Dev}
    (h : ∀ (e : Dev) x, cellsWf settingDefault e.sets = true → cellsWf settingDefault (f e x).sets = true) (xs : List α) {d : Dev}
    (hd : cellsWf settingDefault d.sets = true) : cellsWf settingDefault (xs.foldl f d).sets = true := by
  induction xs generalizing d with
  | nil => exact hd
  | cons x xs ih => exact ih (h d x hd)

theorem canon_applyImage {d : Dev} (hd : cellsWf settingDefault d.sets = true) : cellsWf settingDefault d.applyImage.sets = true := by
  unfold Dev.applyImage
  split
  · exact hd
  · split
    · simpa using hd
    · refine canon_imageLock _ (canon_foldl (fun e i he => ?_) _ hd)
      rw [Dev.settle_sets]
      exact canon_imageEntry _ _ _ he

theorem canon_coldPhase1 {d : Dev} (hd : cellsWf settingDefault d.sets = true) : cellsWf settingDefault d.coldPhase1.sets = true := by
  unfold Dev.coldPhase1
  exact canon_applyImage (by simpa using hd)

theorem canon_coldPowerUp (a b : Bool) (balls : List Bool) (dies : List DieFound) (c : Bool) (d : Dev) :
    cellsWf settingDefault (coldPowerUp a b balls dies c d).sets = true := by
  unfold coldPowerUp
  dsimp only
  rw [Dev.phase2_sets, Dev.findDies_sets]
  refine canon_coldPhase1 ?_
  rw [Dev.resample_sets, Dev.takeBalls_sets]
  rfl

theorem canon_access {f : Dev → Dev} (hf : ∀ e : Dev, cellsWf settingDefault e.sets = true → cellsWf settingDefault (f e).sets = true)
    {d : Dev} (hd : cellsWf settingDefault d.sets = true) : cellsWf settingDefault (Dev.access f d).sets = true := by
  unfold Dev.access
  split
  · exact hd
  · refine hf _ ?_
    dsimp only
    split <;> simpa using hd

theorem canon_writeSetData (w : Nat) {d : Dev} (hd : cellsWf settingDefault d.sets = true) :
    cellsWf settingDefault (d.writeSetData w).sets = true := by
  have h := canon_writeSetting oHost false d.setAddr w (d := (d.dueBefore d.setAddr).present) (by simpa using hd)
  unfold Dev.writeSetData
  dsimp only
  rw [Dev.setAdvance_sets]
  split <;> simpa using h

theorem canon_writeReg (offset w : Nat) {d : Dev} (hd : cellsWf settingDefault d.sets = true) :
    cellsWf settingDefault (d.writeReg offset w).sets = true := by
  unfold Dev.writeReg
  dsimp only
  split
  case h_10 => exact canon_writeSetData _ hd
  case h_17 => 
    split
    · simpa using hd
    · split <;> simpa using hd
  case h_2 => split <;> simpa using hd
  all_goals simpa using hd

theorem canon_run {f : Dev → Dev} {s t : State} (h : run f s = .next t) (hf : cellsWf settingDefault (f s.toDev).sets = true) :
    SettingsCanonical t := by
  cases h
  exact canon_of_sets (Dev.settle_sets _ _) hf

theorem canon_exec (i : Instr) {s t : State} (hs : cellsWf settingDefault s.sets = true) (h : exec i s = .next t) : SettingsCanonical t := by
  cases i
  case pwrreqSelect | powerOn | powerOff | clkGate | clkUngate | warmRst | sqPortWrite | doorbell | stagingDiscard | pop | rewind |
      evcDataWrite | setDataWrite | tbSnapshot | locknow | jrnlHeadCapture | wdtKick | relock =>
    exact canon_run h (canon_access (fun e => canon_writeReg _ _) hs)
  case tmrGo | tmrHalt => exact canon_run h (canon_access (fun e he => canon_writeReg _ _ (canon_of_sets (Dev.selectSetting_sets _ _) he)) hs)
  case registerWrite offset w moved =>
    refine canon_run h (canon_access (fun e he => ?_) hs)
    cases moved
    · exact canon_writeReg _ _ he
    · exact he
  case setw => exact canon_run h (canon_setw _ hs)
  case coldPowerUp => exact canon_run h (canon_coldPowerUp _ _ _ _ _ _)
  case singleStep => exact canon_run h (canon_singleStep _ hs)
  all_goals exact canon_run h (by simpa using hs)

/-- Settles O3: only an accepted write of a setting and a cold power-up change the store; `cellPut` keeps it canonical, and the store is
empty at the power-up. -/
theorem stepKeepsSettingsCanonical : Obligations.StepKeepsSettingsCanonical := by
  intro s t hs h
  unfold step at h
  split at h
  · cases h
    exact canon_of_sets (Dev.idle_sets _) hs
  · next c cs _ => exact canon_exec c (s := { s with pending := cs }) hs h

end Sys2Proof.Machine
end

section
/-!
PROOFS. Time (R34-R36, R51): the spread profile inserts at most one rotation step an edge of ROOT, and a wait lands on the least edge that
reaches its stamp.
-/

namespace Sys2Proof.Machine

/-! ### The spread profile (R34) -/

theorem weightSum_succ {j : Nat} (h : j < 32) : weightSum (j + 1) = weightSum j + weight j := by
  revert j
  decide

theorem weight_le_of_lt {j : Nat} (h : j < 32) : weight j ≤ 31 := by
  revert j
  decide

/-- One edge of ROOT inserts at most one rotation step. -/
theorem stepsAt_succ_le {d e : Nat} (hd : d ≤ 20) (he : e < 32000) : stepsAt d (e + 1) ≤ stepsAt d e + 1 := by
  have hj : e / 1000 < 32 := by omega
  have hq : d * weight (e / 1000) ≤ 1000 := (Nat.mul_le_mul hd (weight_le_of_lt hj)).trans (by decide)
  unfold stepsAt
  generalize hQ : d * weight (e / 1000) = q at hq
  by_cases hr : e % 1000 = 999
  · have h1 : (e + 1) / 1000 = e / 1000 + 1 := by omega
    have h2 : (e + 1) % 1000 = 0 := by omega
    rw [h1, h2, hr, weightSum_succ hj, Nat.mul_add, hQ, Nat.zero_mul]
    omega
  · have h1 : (e + 1) / 1000 = e / 1000 := by omega
    have h2 : (e + 1) % 1000 = e % 1000 + 1 := by omega
    rw [h1, h2, hQ, Nat.add_mul, Nat.one_mul]
    omega

/-- A FABRIC edge, eight edges of ROOT, inserts at most eight rotation steps. -/
theorem stepsAt_fabric_le {d p : Nat} (hd : d ≤ 20) (hp : p < 4000) : stepsAt d (8 * (p + 1)) ≤ stepsAt d (8 * p) + 8 := by
  have h (n : Nat) (hn : n ≤ 8) : stepsAt d (8 * p + n) ≤ stepsAt d (8 * p) + n := by
    induction n with
    | zero => exact le_rfl
    | succ n ih =>
      have := stepsAt_succ_le (e := 8 * p + n) hd (by omega)
      have := ih (by omega)
      rw [← Nat.add_assoc]
      omega
  exact h 8 le_rfl

theorem edgeRu_pos (d : Nat) : 0 < edgeRu d 4000 := by
  unfold edgeRu
  omega

/-! ### A wait (R36, R51) -/

/-- The least edge is one of the period, and reaches the clean length where the last one does. -/
theorem leastEdge_spec {d g : Nat} (f lo hi : Nat) (h : g ≤ edgeRu d hi) : leastEdge d g f lo hi ≤ hi ∧ g ≤ edgeRu d (leastEdge d g f lo hi) := by
  induction f generalizing lo hi with
  | zero => exact ⟨le_rfl, h⟩
  | succ f ih =>
    unfold leastEdge
    split
    · exact ⟨le_rfl, h⟩
    · split
      · next hm =>
        obtain ⟨hle, hg⟩ := ih lo ((lo + hi) / 2) hm
        exact ⟨by omega, hg⟩
      · exact ih _ _ h

/-- The clock at an edge of a period that reaches clean time `g`. -/
theorem atEdge_spec {want depth base p n g : Nat} {c : Clock} (hp : p ≤ 4000) (hg : g ≤ base + edgeRu depth p) :
    g / 512 ≤ (c.atEdge want depth base p n).tb ∧ (c.atEdge want depth base p n).pos < 4000 ∧
      (c.atEdge want depth base p n).rho < 512 := by
  have hr : (base + edgeRu depth p) % 512 < 512 := Nat.mod_lt _ (by decide)
  have ht : g / 512 ≤ (base + edgeRu depth p) / 512 := Nat.div_le_div_right hg
  unfold Clock.atEdge
  dsimp only
  split
  · exact ⟨ht, Nat.zero_lt_succ _, hr⟩
  · exact ⟨ht, by dsimp only; omega, hr⟩

theorem forward_spec (want g : Nat) (c : Clock) :
    g / 512 ≤ (c.forward want g).tb ∧ (c.forward want g).pos < 4000 ∧ (c.forward want g).rho < 512 := by
  unfold Clock.forward
  extract_lets base p base₁ n base₂ p₂
  split
  · next h =>
    have hp : p ≤ 4000 ∧ g - base ≤ edgeRu c.depth p := leastEdge_spec _ _ _ (by omega)
    exact atEdge_spec hp.1 (by omega)
  · next h =>
    have hn : g - 1 - base₁ < edgeRu want 4000 * (n + 1) := Nat.lt_mul_div_succ _ (edgeRu_pos want)
    rw [Nat.mul_add, Nat.mul_one, Nat.mul_comm] at hn
    have hb : base₂ = base₁ + n * edgeRu want 4000 := rfl
    have hp : p₂ ≤ 4000 ∧ g - base₂ ≤ edgeRu want p₂ := leastEdge_spec _ _ _ (by omega)
    exact atEdge_spec hp.1 (by omega)

theorem tick_tb (want : Nat) (c : Clock) :
    (c.tick want).tb = c.tb + 1 + (c.rho + (stepsAt c.depth (8 * (c.pos + 1)) - stepsAt c.depth (8 * c.pos))) / 512 := by
  unfold Clock.tick
  split <;> rfl

theorem tick_rho (want : Nat) (c : Clock) :
    (c.tick want).rho = (c.rho + (stepsAt c.depth (8 * (c.pos + 1)) - stepsAt c.depth (8 * c.pos))) % 512 := by
  unfold Clock.tick
  split <;> rfl

@[simp] theorem tick_esn (want : Nat) (c : Clock) : (c.tick want).esn = c.esn := by
  unfold Clock.tick
  split <;> rfl

theorem idle_running {d : Dev} (hm : d.med.state ≠ .flushing) (hp : d.pwr.dev ≠ .shelf) (hr : d.clock.rootOn = true) :
    d.idle = { d with clock := d.clock.tick d.wantDepth } := by
  simp only [Dev.idle, beq_iff_eq, hm, hp, hr, if_true, if_false]

/-- Settles O4: an edge inserts at most eight rotation steps, and the edge a wait lands on is the least that reaches its stamp. -/
theorem timeAdvances : Obligations.TimeAdvances := by
  refine ⟨fun s hq hm hp hr _ hpos hd => ?_, fun t d hr hpos => ?_⟩
  · refine ⟨{ s with toDev := { s.toDev with clock := s.clock.tick s.wantDepth } },
      stepsAt s.clock.depth (8 * (s.clock.pos + 1)) - stepsAt s.clock.depth (8 * s.clock.pos), ?_, hq, ?_,
      tick_tb _ _, tick_rho _ _, tick_esn _ _, rfl, rfl, rfl⟩
    · simp only [step, hq, idle_running hm hp hr]
    · have := stepsAt_fabric_le hd hpos
      omega
  · have hw : (d.wait t).clock = d.clock.runTo d.wantDepth t := by simp only [Dev.wait, Clock.advance, hr, if_true]
    by_cases h : t ≤ d.clock.tb
    · have hc : (d.wait t).clock = d.clock := by rw [hw, Clock.runTo, if_pos h]
      rw [hc]
      exact ⟨h, le_rfl, hpos, fun hl => absurd hl (by omega), rfl⟩
    · obtain ⟨htb, hp, hrho⟩ := forward_spec d.wantDepth (512 * t) d.clock
      rw [Nat.mul_div_cancel_left _ (by decide)] at htb
      rw [hw, Clock.runTo, if_neg h]
      exact ⟨htb, by omega, hp, fun _ => hrho, rfl⟩

end Sys2Proof.Machine
end

section
/-!
PROOFS. The parts of a device by name, so that one lemma for a function says all of what it leaves: `f_get` holds for every part that is
not in its list. A frame is then a statement about parts, and is read off field by field.
-/

namespace Sys2Proof.Machine

/-- A part of the device. -/
inductive Part where
  | ident | clock | pwr | host | start | cmds | store | waiting | sets | setLow | jrnl | evc | tmr | lf | uhf | uwb | atlas | rel | cru | anvil | tok | ham | kw | nv | med | bg | free
deriving DecidableEq

/-- What a part holds. -/
abbrev Part.Holds : Part → Type
  | .ident => Ident
  | .clock => Clock
  | .pwr => Power
  | .host => HostIf
  | .start => Start
  | .cmds => List Cmd
  | .store => List Entry
  | .waiting => List Nat
  | .sets => List (Nat × Nat)
  | .setLow => List (Nat × Nat)
  | .jrnl => Journal
  | .evc => Evc
  | .tmr => List Channel
  | .lf => Lf
  | .uhf => Uhf
  | .uwb => Uwb
  | .atlas => Atlas
  | .rel => Release
  | .cru => Crucible
  | .anvil => Anvil
  | .tok => Tokens
  | .ham => Hammer
  | .kw => Kwewin
  | .nv => Nv
  | .med => Media
  | .bg => Background
  | .free => Nat

/-- A part of a device. -/
def Dev.get (d : Dev) : (p : Part) → p.Holds
  | .ident => d.ident
  | .clock => d.clock
  | .pwr => d.pwr
  | .host => d.host
  | .start => d.start
  | .cmds => d.cmds
  | .store => d.store
  | .waiting => d.waiting
  | .sets => d.sets
  | .setLow => d.setLow
  | .jrnl => d.jrnl
  | .evc => d.evc
  | .tmr => d.tmr
  | .lf => d.lf
  | .uhf => d.uhf
  | .uwb => d.uwb
  | .atlas => d.atlas
  | .rel => d.rel
  | .cru => d.cru
  | .anvil => d.anvil
  | .tok => d.tok
  | .ham => d.ham
  | .kw => d.kw
  | .nv => d.nv
  | .med => d.med
  | .bg => d.bg
  | .free => d.free

/-- Two devices with the same parts are the same. -/
theorem eq_of_get {d e : Dev} (h : ∀ p, e.get p = d.get p) : e = d := by
  obtain ⟨⟩ := d
  obtain ⟨⟩ := e
  congr
  · exact h .ident
  · exact h .clock
  · exact h .pwr
  · exact h .host
  · exact h .start
  · exact h .cmds
  · exact h .store
  · exact h .waiting
  · exact h .sets
  · exact h .setLow
  · exact h .jrnl
  · exact h .evc
  · exact h .tmr
  · exact h .lf
  · exact h .uhf
  · exact h .uwb
  · exact h .atlas
  · exact h .rel
  · exact h .cru
  · exact h .anvil
  · exact h .tok
  · exact h .ham
  · exact h .kw
  · exact h .nv
  · exact h .med
  · exact h .bg
  · exact h .free

/-! ### One part written -/

@[simp] theorem Dev.get_with_ident {p : Part} (v : Ident) (d : Dev) (h : p ≠ .ident) : ({ d with ident := v } : Dev).get p = d.get p := by
  cases p with
  | ident => exact absurd rfl h
  | _ => rfl
@[simp] theorem Dev.get_with_clock {p : Part} (v : Clock) (d : Dev) (h : p ≠ .clock) : ({ d with clock := v } : Dev).get p = d.get p := by
  cases p with
  | clock => exact absurd rfl h
  | _ => rfl
@[simp] theorem Dev.get_with_pwr {p : Part} (v : Power) (d : Dev) (h : p ≠ .pwr) : ({ d with pwr := v } : Dev).get p = d.get p := by
  cases p with
  | pwr => exact absurd rfl h
  | _ => rfl
@[simp] theorem Dev.get_with_host {p : Part} (v : HostIf) (d : Dev) (h : p ≠ .host) : ({ d with host := v } : Dev).get p = d.get p := by
  cases p with
  | host => exact absurd rfl h
  | _ => rfl
@[simp] theorem Dev.get_with_start {p : Part} (v : Start) (d : Dev) (h : p ≠ .start) : ({ d with start := v } : Dev).get p = d.get p := by
  cases p with
  | start => exact absurd rfl h
  | _ => rfl
@[simp] theorem Dev.get_with_cmds {p : Part} (v : List Cmd) (d : Dev) (h : p ≠ .cmds) : ({ d with cmds := v } : Dev).get p = d.get p := by
  cases p with
  | cmds => exact absurd rfl h
  | _ => rfl
@[simp] theorem Dev.get_with_store {p : Part} (v : List Entry) (d : Dev) (h : p ≠ .store) : ({ d with store := v } : Dev).get p = d.get p := by
  cases p with
  | store => exact absurd rfl h
  | _ => rfl
@[simp] theorem Dev.get_with_waiting {p : Part} (v : List Nat) (d : Dev) (h : p ≠ .waiting) : ({ d with waiting := v } : Dev).get p = d.get p := by
  cases p with
  | waiting => exact absurd rfl h
  | _ => rfl
@[simp] theorem Dev.get_with_sets {p : Part} (v : List (Nat × Nat)) (d : Dev) (h : p ≠ .sets) : ({ d with sets := v } : Dev).get p = d.get p := by
  cases p with
  | sets => exact absurd rfl h
  | _ => rfl
@[simp] theorem Dev.get_with_setLow {p : Part} (v : List (Nat × Nat)) (d : Dev) (h : p ≠ .setLow) : ({ d with setLow := v } : Dev).get p = d.get p := by
  cases p with
  | setLow => exact absurd rfl h
  | _ => rfl
@[simp] theorem Dev.get_with_jrnl {p : Part} (v : Journal) (d : Dev) (h : p ≠ .jrnl) : ({ d with jrnl := v } : Dev).get p = d.get p := by
  cases p with
  | jrnl => exact absurd rfl h
  | _ => rfl
@[simp] theorem Dev.get_with_evc {p : Part} (v : Evc) (d : Dev) (h : p ≠ .evc) : ({ d with evc := v } : Dev).get p = d.get p := by
  cases p with
  | evc => exact absurd rfl h
  | _ => rfl
@[simp] theorem Dev.get_with_tmr {p : Part} (v : List Channel) (d : Dev) (h : p ≠ .tmr) : ({ d with tmr := v } : Dev).get p = d.get p := by
  cases p with
  | tmr => exact absurd rfl h
  | _ => rfl
@[simp] theorem Dev.get_with_lf {p : Part} (v : Lf) (d : Dev) (h : p ≠ .lf) : ({ d with lf := v } : Dev).get p = d.get p := by
  cases p with
  | lf => exact absurd rfl h
  | _ => rfl
@[simp] theorem Dev.get_with_uhf {p : Part} (v : Uhf) (d : Dev) (h : p ≠ .uhf) : ({ d with uhf := v } : Dev).get p = d.get p := by
  cases p with
  | uhf => exact absurd rfl h
  | _ => rfl
@[simp] theorem Dev.get_with_uwb {p : Part} (v : Uwb) (d : Dev) (h : p ≠ .uwb) : ({ d with uwb := v } : Dev).get p = d.get p := by
  cases p with
  | uwb => exact absurd rfl h
  | _ => rfl
@[simp] theorem Dev.get_with_atlas {p : Part} (v : Atlas) (d : Dev) (h : p ≠ .atlas) : ({ d with atlas := v } : Dev).get p = d.get p := by
  cases p with
  | atlas => exact absurd rfl h
  | _ => rfl
@[simp] theorem Dev.get_with_rel {p : Part} (v : Release) (d : Dev) (h : p ≠ .rel) : ({ d with rel := v } : Dev).get p = d.get p := by
  cases p with
  | rel => exact absurd rfl h
  | _ => rfl
@[simp] theorem Dev.get_with_cru {p : Part} (v : Crucible) (d : Dev) (h : p ≠ .cru) : ({ d with cru := v } : Dev).get p = d.get p := by
  cases p with
  | cru => exact absurd rfl h
  | _ => rfl
@[simp] theorem Dev.get_with_anvil {p : Part} (v : Anvil) (d : Dev) (h : p ≠ .anvil) : ({ d with anvil := v } : Dev).get p = d.get p := by
  cases p with
  | anvil => exact absurd rfl h
  | _ => rfl
@[simp] theorem Dev.get_with_tok {p : Part} (v : Tokens) (d : Dev) (h : p ≠ .tok) : ({ d with tok := v } : Dev).get p = d.get p := by
  cases p with
  | tok => exact absurd rfl h
  | _ => rfl
@[simp] theorem Dev.get_with_ham {p : Part} (v : Hammer) (d : Dev) (h : p ≠ .ham) : ({ d with ham := v } : Dev).get p = d.get p := by
  cases p with
  | ham => exact absurd rfl h
  | _ => rfl
@[simp] theorem Dev.get_with_kw {p : Part} (v : Kwewin) (d : Dev) (h : p ≠ .kw) : ({ d with kw := v } : Dev).get p = d.get p := by
  cases p with
  | kw => exact absurd rfl h
  | _ => rfl
@[simp] theorem Dev.get_with_nv {p : Part} (v : Nv) (d : Dev) (h : p ≠ .nv) : ({ d with nv := v } : Dev).get p = d.get p := by
  cases p with
  | nv => exact absurd rfl h
  | _ => rfl
@[simp] theorem Dev.get_with_med {p : Part} (v : Media) (d : Dev) (h : p ≠ .med) : ({ d with med := v } : Dev).get p = d.get p := by
  cases p with
  | med => exact absurd rfl h
  | _ => rfl
@[simp] theorem Dev.get_with_bg {p : Part} (v : Background) (d : Dev) (h : p ≠ .bg) : ({ d with bg := v } : Dev).get p = d.get p := by
  cases p with
  | bg => exact absurd rfl h
  | _ => rfl
@[simp] theorem Dev.get_with_free {p : Part} (v : Nat) (d : Dev) (h : p ≠ .free) : ({ d with free := v } : Dev).get p = d.get p := by
  cases p with
  | free => exact absurd rfl h
  | _ => rfl

/-! ### Several parts written -/

/-- A part of a device written out. -/
theorem Dev.get_mk {ident} {clock} {pwr} {host} {start} {cmds} {store} {waiting} {sets} {setLow} {jrnl} {evc} {tmr} {lf} {uhf} {uwb} {atlas} {rel} {cru} {anvil} {tok} {ham} {kw} {nv} {med} {bg} {free} (p : Part) :
    (Dev.mk ident clock pwr host start cmds store waiting sets setLow jrnl evc tmr lf uhf uwb atlas rel cru anvil tok ham kw nv med bg free).get p = (match p with
      | .ident => ident
      | .clock => clock
      | .pwr => pwr
      | .host => host
      | .start => start
      | .cmds => cmds
      | .store => store
      | .waiting => waiting
      | .sets => sets
      | .setLow => setLow
      | .jrnl => jrnl
      | .evc => evc
      | .tmr => tmr
      | .lf => lf
      | .uhf => uhf
      | .uwb => uwb
      | .atlas => atlas
      | .rel => rel
      | .cru => cru
      | .anvil => anvil
      | .tok => tok
      | .ham => ham
      | .kw => kw
      | .nv => nv
      | .med => med
      | .bg => bg
      | .free => free : p.Holds) := by
  cases p <;> rfl

/-- The fields are the parts. -/
theorem Dev.parts (d : Dev) :
    d.ident = d.get .ident ∧
    d.clock = d.get .clock ∧
    d.pwr = d.get .pwr ∧
    d.host = d.get .host ∧
    d.start = d.get .start ∧
    d.cmds = d.get .cmds ∧
    d.store = d.get .store ∧
    d.waiting = d.get .waiting ∧
    d.sets = d.get .sets ∧
    d.setLow = d.get .setLow ∧
    d.jrnl = d.get .jrnl ∧
    d.evc = d.get .evc ∧
    d.tmr = d.get .tmr ∧
    d.lf = d.get .lf ∧
    d.uhf = d.get .uhf ∧
    d.uwb = d.get .uwb ∧
    d.atlas = d.get .atlas ∧
    d.rel = d.get .rel ∧
    d.cru = d.get .cru ∧
    d.anvil = d.get .anvil ∧
    d.tok = d.get .tok ∧
    d.ham = d.get .ham ∧
    d.kw = d.get .kw ∧
    d.nv = d.get .nv ∧
    d.med = d.get .med ∧
    d.bg = d.get .bg ∧
    d.free = d.get .free :=
  ⟨rfl, rfl, rfl, rfl, rfl, rfl, rfl, rfl, rfl, rfl, rfl, rfl, rfl, rfl, rfl, rfl, rfl, rfl, rfl, rfl, rfl, rfl, rfl, rfl, rfl, rfl, rfl⟩

/-- A fold leaves what each of its steps leaves. -/
theorem foldl_get {α : Type} {p : Part} {f : Dev → α → Dev} (h : ∀ d x, (f d x).get p = d.get p) (xs : List α) (d : Dev) :
    (xs.foldl f d).get p = d.get p := by
  induction xs generalizing d with
  | nil => rfl
  | cons x xs ih => rw [List.foldl_cons, ih, h]

theorem ite_get {c : Prop} [Decidable c] {a b : Dev} {p : Part} {x : p.Holds} (ha : a.get p = x) (hb : b.get p = x) :
    (if c then a else b).get p = x := by split <;> assumption

end Sys2Proof.Machine
end

section
namespace Sys2Proof.Machine
@[simp] theorem Dev.wait_get {pt : Part} (t : ℕ) (d : Dev) (h : pt ≠ .clock) : (Dev.wait t d).get pt = d.get pt := by
  simp [Dev.wait, h, apply_ite (Dev.get · pt), foldl_get, apply_ite Prod.fst, apply_ite Prod.snd]

@[simp] theorem Dev.freeBytes_get {pt : Part} (d : Dev) (n : ℕ) (h : pt ≠ .free) : (Dev.freeBytes d n).2.get pt = d.get pt := by
  simp [Dev.freeBytes, h, apply_ite (Dev.get · pt), foldl_get, apply_ite Prod.fst, apply_ite Prod.snd]

@[simp] theorem Dev.acceptOn_get {pt : Part} (port : ℕ) (close : Bool) (d : Dev) (h : pt ≠ .clock) : (Dev.acceptOn port close d).get pt = d.get pt := by
  simp [Dev.acceptOn, h, apply_ite (Dev.get · pt), foldl_get, apply_ite Prod.fst, apply_ite Prod.snd]

@[simp] theorem Dev.aside_get {pt : Part} (port : Nat) (f : Dev → Dev) (d : Dev) (h : pt ≠ .clock) (hf : ∀ e, (f e).get pt = e.get pt) : (d.aside port f).get pt = d.get pt := by
  unfold Dev.aside
  simp [h, hf, apply_ite (Dev.get · pt)]

@[simp] theorem Dev.setPending_get {pt : Part} (n : ℕ) (d : Dev) (h : pt ≠ .evc) : (Dev.setPending n d).get pt = d.get pt := by
  simp [Dev.setPending, h, apply_ite (Dev.get · pt), foldl_get, apply_ite Prod.fst, apply_ite Prod.snd]

@[simp] theorem Dev.latchAt_get {pt : Part} (w : ℕ) (t : ℕ) (d : Dev) (h : pt ≠ .evc) : (Dev.latchAt w t d).get pt = d.get pt := by
  simp [Dev.latchAt, h, apply_ite (Dev.get · pt), foldl_get, apply_ite Prod.fst, apply_ite Prod.snd]

@[simp] theorem Dev.latch_get {pt : Part} (w : ℕ) (d : Dev) (h : pt ≠ .evc) : (Dev.latch w d).get pt = d.get pt := by
  simp [Dev.latch, h, apply_ite (Dev.get · pt), foldl_get, apply_ite Prod.fst, apply_ite Prod.snd]

@[simp] theorem Dev.reach_get {pt : Part} (n : ℕ) (d : Dev) (h : pt ≠ .evc) : (Dev.reach n d).get pt = d.get pt := by
  unfold Dev.reach
  repeat' split
  all_goals simp [h, apply_ite (Dev.get · pt), foldl_get, apply_ite Prod.fst, apply_ite Prod.snd]

@[simp] theorem Dev.event_get {pt : Part} (n : ℕ) (d : Dev) (h : pt ∉ [.clock, .evc]) : (Dev.event n d).get pt = d.get pt := by
  simp at h
  simp [Dev.event, h, apply_ite (Dev.get · pt), foldl_get, apply_ite Prod.fst, apply_ite Prod.snd]

@[simp] theorem Dev.raise_get {pt : Part} (n : ℕ) (d : Dev) (h : pt ∉ [.clock, .evc]) : (Dev.raise n d).get pt = d.get pt := by
  simp at h
  simp [Dev.raise, h, apply_ite (Dev.get · pt), foldl_get, apply_ite Prod.fst, apply_ite Prod.snd]

@[simp] theorem Dev.begins_get {pt : Part} (n : ℕ) (d : Dev) (h : pt ∉ [.clock, .evc]) : (Dev.begins n d).get pt = d.get pt := by
  simp at h
  simp [Dev.begins, h, apply_ite (Dev.get · pt), foldl_get, apply_ite Prod.fst, apply_ite Prod.snd]

@[simp] theorem Dev.arises_get {pt : Part} (n : ℕ) (d : Dev) (h : pt ∉ [.clock, .evc]) : (Dev.arises n d).get pt = d.get pt := by
  simp at h
  simp [Dev.arises, h, apply_ite (Dev.get · pt), foldl_get, apply_ite Prod.fst, apply_ite Prod.snd]

@[simp] theorem Dev.ends_get {pt : Part} (n : ℕ) (d : Dev) (h : pt ≠ .evc) : (Dev.ends n d).get pt = d.get pt := by
  simp [Dev.ends, h, apply_ite (Dev.get · pt), foldl_get, apply_ite Prod.fst, apply_ite Prod.snd]

@[simp] theorem Dev.nvKick_get {pt : Part} (d : Dev) (h : pt ≠ .nv) : (Dev.nvKick d).get pt = d.get pt := by
  simp [Dev.nvKick, h, apply_ite (Dev.get · pt), foldl_get, apply_ite Prod.fst, apply_ite Prod.snd]

@[simp] theorem Dev.nvQueue_get {pt : Part} (ws : List PageWrite) (d : Dev) (h : pt ≠ .nv) : (Dev.nvQueue ws d).get pt = d.get pt := by
  simp [Dev.nvQueue, h, apply_ite (Dev.get · pt), foldl_get, apply_ite Prod.fst, apply_ite Prod.snd]

@[simp] theorem Dev.recordWrite_get {pt : Part} (owner : Option ℕ) (b : List ℕ) (a : List ℕ) (old : OldRecord) (d : Dev) (h : pt ≠ .nv) : (Dev.recordWrite owner b a old d).get pt = d.get pt := by
  simp [Dev.recordWrite, h, apply_ite (Dev.get · pt), foldl_get, apply_ite Prod.fst, apply_ite Prod.snd]

@[simp] theorem Dev.headUnflushed_get {pt : Part} (d : Dev) (h : pt ∉ [.jrnl, .nv]) : (Dev.headUnflushed d).get pt = d.get pt := by
  cases pt <;> simp at h
  all_goals
    unfold Dev.headUnflushed
    repeat' split
    all_goals simp [Dev.get_mk, Dev.parts]

@[simp] theorem Dev.append_get {pt : Part} (r : Record) (d : Dev) (h : pt ∉ [.jrnl, .nv]) : (Dev.append r d).get pt = d.get pt := by
  cases pt <;> simp at h <;> simp [Dev.append, Dev.get_mk, Dev.parts]

@[simp] theorem Dev.fold_get {pt : Part} (cls : ℕ) (d : Dev) (h : pt ≠ .jrnl) : (Dev.fold cls d).get pt = d.get pt := by
  simp [Dev.fold, h, apply_ite (Dev.get · pt), foldl_get, apply_ite Prod.fst, apply_ite Prod.snd]

@[simp] theorem Dev.holdEntry_get {pt : Part} (d : Dev) (h : pt ∉ [.clock, .jrnl, .evc, .nv]) : (Dev.holdEntry d).get pt = d.get pt := by
  cases pt <;> simp at h
  all_goals
    unfold Dev.holdEntry
    repeat' split
    all_goals simp [Dev.get_mk, Dev.parts]

@[simp] theorem Dev.settle_get {pt : Part} (before : Dev) (d1 : Dev) (h : pt ∉ [.clock, .jrnl, .evc, .nv]) : (Dev.settle before d1).get pt = d1.get pt := by
  simp at h
  simp [Dev.settle, h, apply_ite (Dev.get · pt), foldl_get, apply_ite Prod.fst, apply_ite Prod.snd]

@[simp] theorem Dev.log_get {pt : Part} (origin : ℕ) (tag : ℕ) (op : ℕ) (x3 : Draft) (d : Dev) (h : pt ∉ [.jrnl, .nv]) : (Dev.log origin tag op x3 d).get pt = d.get pt := by
  simp at h
  simp [Dev.log, h, apply_ite (Dev.get · pt), foldl_get, apply_ite Prod.fst, apply_ite Prod.snd]

@[simp] theorem Dev.note_get {pt : Part} (origin : ℕ) (x1 : Draft) (d : Dev) (h : pt ∉ [.jrnl, .nv]) : (Dev.note origin x1 d).get pt = d.get pt := by
  simp at h
  simp [Dev.note, h, apply_ite (Dev.get · pt), foldl_get, apply_ite Prod.fst, apply_ite Prod.snd]

@[simp] theorem Dev.stateChange_get {pt : Part} (x0 : DevState) (d : Dev) (h : pt ∉ [.clock, .pwr, .jrnl, .evc, .nv]) : (Dev.stateChange x0 d).get pt = d.get pt := by
  simp at h
  simp [Dev.stateChange, h, apply_ite (Dev.get · pt), foldl_get, apply_ite Prod.fst, apply_ite Prod.snd]

@[simp] theorem Dev.undoze_get {pt : Part} (d : Dev) (h : pt ∉ [.clock, .pwr, .jrnl, .evc, .nv]) : (Dev.undoze d).get pt = d.get pt := by
  simp at h
  simp [Dev.undoze, h, apply_ite (Dev.get · pt), foldl_get, apply_ite Prod.fst, apply_ite Prod.snd]

@[simp] theorem Dev.presentOn_get {pt : Part} (port : ℕ) (d : Dev) (h : pt ∉ [.clock, .pwr, .jrnl, .evc, .nv]) : (Dev.presentOn port d).get pt = d.get pt := by
  simp at h
  simp [Dev.presentOn, h, apply_ite (Dev.get · pt), foldl_get, apply_ite Prod.fst, apply_ite Prod.snd]

@[simp] theorem Dev.signal_get {pt : Part} (n : ℕ) (d : Dev) (h : pt ∉ [.clock, .pwr, .jrnl, .evc, .nv]) : (Dev.signal n d).get pt = d.get pt := by
  simp at h
  simp [Dev.signal, h, apply_ite (Dev.get · pt), foldl_get, apply_ite Prod.fst, apply_ite Prod.snd]

@[simp] theorem Dev.starts_get {pt : Part} (n : ℕ) (d : Dev) (h : pt ∉ [.clock, .pwr, .jrnl, .evc, .nv]) : (Dev.starts n d).get pt = d.get pt := by
  simp at h
  simp [Dev.starts, h, apply_ite (Dev.get · pt), foldl_get, apply_ite Prod.fst, apply_ite Prod.snd]

@[simp] theorem Dev.alsoSignal_get {pt : Part} (n : ℕ) (d : Dev) (h : pt ∉ [.clock, .pwr, .jrnl, .evc, .nv]) : (Dev.alsoSignal n d).get pt = d.get pt := by
  simp at h
  simp [Dev.alsoSignal, h, apply_ite (Dev.get · pt), foldl_get, apply_ite Prod.fst, apply_ite Prod.snd]

@[simp] theorem Dev.alsoStarts_get {pt : Part} (n : ℕ) (d : Dev) (h : pt ∉ [.clock, .pwr, .jrnl, .evc, .nv]) : (Dev.alsoStarts n d).get pt = d.get pt := by
  simp at h
  simp [Dev.alsoStarts, h, apply_ite (Dev.get · pt), foldl_get, apply_ite Prod.fst, apply_ite Prod.snd]

@[simp] theorem Dev.noteOn_get {pt : Part} (port : ℕ) (origin : ℕ) (x2 : Draft) (d : Dev) (h : pt ∉ [.clock, .jrnl, .nv]) : (Dev.noteOn port origin x2 d).get pt = d.get pt := by
  simp at h
  simp [Dev.noteOn, h, apply_ite (Dev.get · pt), foldl_get, apply_ite Prod.fst, apply_ite Prod.snd]

@[simp] theorem Dev.setNode_get {pt : Part} (a : ℕ) (n : Node) (d : Dev) (h : pt ≠ .kw) : (Dev.setNode a n d).get pt = d.get pt := by
  simp [Dev.setNode, h, apply_ite (Dev.get · pt), foldl_get, apply_ite Prod.fst, apply_ite Prod.snd]

@[simp] theorem Dev.endGrant_get {pt : Part} (origin : ℕ) (tag : ℕ) (op : ℕ) (cause : ℕ) (a : ℕ) (d : Dev) (h : pt ∉ [.clock, .jrnl, .evc, .kw, .nv]) : (Dev.endGrant origin tag op cause a d).get pt = d.get pt := by
  simp at h
  unfold Dev.endGrant
  dsimp only
  repeat' split
  all_goals simp [h, apply_ite (Dev.get · pt), foldl_get, apply_ite Prod.fst, apply_ite Prod.snd]

@[simp] theorem Dev.endGrants_get {pt : Part} (origin : ℕ) (tag : ℕ) (op : ℕ) (cause : ℕ) (as : List ℕ) (d : Dev) (h : pt ∉ [.clock, .jrnl, .evc, .kw, .nv]) : (Dev.endGrants origin tag op cause as d).get pt = d.get pt := by
  simp at h
  simp [Dev.endGrants, h, apply_ite (Dev.get · pt), foldl_get, apply_ite Prod.fst, apply_ite Prod.snd]

@[simp] theorem Dev.grantFalls_get {pt : Part} (p : ℕ → Bool) (cause : ℕ) (d : Dev) (h : pt ≠ .cmds) : (Dev.grantFalls p cause d).get pt = d.get pt := by
  simp [Dev.grantFalls, h, apply_ite (Dev.get · pt), foldl_get, apply_ite Prod.fst, apply_ite Prod.snd]

@[simp] theorem Dev.closeSession_get {pt : Part} (origin : ℕ) (tag : ℕ) (op : ℕ) (cause : ℕ) (num : ℕ) (d : Dev) (h : pt ∉ [.clock, .cmds, .jrnl, .evc, .rel, .nv]) : (Dev.closeSession origin tag op cause num d).get pt = d.get pt := by
  simp at h
  unfold Dev.closeSession
  split <;> simp [h, apply_ite (Dev.get · pt), foldl_get, apply_ite Prod.fst, apply_ite Prod.snd]

@[simp] theorem Dev.endList_get {pt : Part} (origin : ℕ) (tag : ℕ) (op : ℕ) (gcause : ℕ) (cause : ℕ) (ns : List ℕ) (d : Dev) (h : pt ∉ [.clock, .cmds, .jrnl, .evc, .rel, .kw, .nv]) : (Dev.endList origin tag op gcause cause ns d).get pt = d.get pt := by
  simp at h
  simp [Dev.endList, h, apply_ite (Dev.get · pt), foldl_get, apply_ite Prod.fst, apply_ite Prod.snd]

@[simp] theorem Dev.endSession_get {pt : Part} (origin : ℕ) (tag : ℕ) (op : ℕ) (gcause : ℕ) (cause : ℕ) (num : ℕ) (d : Dev) (h : pt ∉ [.clock, .cmds, .jrnl, .evc, .rel, .kw, .nv]) : (Dev.endSession origin tag op gcause cause num d).get pt = d.get pt := by
  simp at h
  simp [Dev.endSession, h, apply_ite (Dev.get · pt), foldl_get, apply_ite Prod.fst, apply_ite Prod.snd]

@[simp] theorem Dev.endSessions_get {pt : Part} (origin : ℕ) (tag : ℕ) (op : ℕ) (gcause : ℕ) (cause : ℕ) (p : Session → Bool) (d : Dev) (h : pt ∉ [.clock, .cmds, .jrnl, .evc, .rel, .kw, .nv]) : (Dev.endSessions origin tag op gcause cause p d).get pt = d.get pt := by
  simp at h
  simp [Dev.endSessions, h, apply_ite (Dev.get · pt), foldl_get, apply_ite Prod.fst, apply_ite Prod.snd]

@[simp] theorem Dev.setPhase_get {pt : Part} (tag : ℕ) (p : Phase) (d : Dev) (h : pt ≠ .cmds) : (Dev.setPhase tag p d).get pt = d.get pt := by
  simp [Dev.setPhase, h, apply_ite (Dev.get · pt), foldl_get, apply_ite Prod.fst, apply_ite Prod.snd]

@[simp] theorem Dev.switchOff_get {pt : Part} (origin : ℕ) (tag : ℕ) (op : ℕ) (cause : ℕ) (d : Dev) (h : pt ∉ [.clock, .cmds, .jrnl, .evc, .rel, .nv]) : (Dev.switchOff origin tag op cause d).get pt = d.get pt := by
  cases pt <;> simp at h <;> simp [Dev.switchOff, Dev.get_mk, Dev.parts]

@[simp] theorem Dev.lockRelay_get {pt : Part} (origin : ℕ) (tag : ℕ) (op : ℕ) (cause : ℕ) (gcause : ℕ) (d : Dev) (h : pt ∉ [.clock, .cmds, .jrnl, .evc, .rel, .kw, .nv]) : (Dev.lockRelay origin tag op cause gcause d).get pt = d.get pt := by
  simp at h
  simp [Dev.lockRelay, h, apply_ite (Dev.get · pt), foldl_get, apply_ite Prod.fst, apply_ite Prod.snd]

@[simp] theorem Dev.quell_get {pt : Part} (origin : ℕ) (cause : ℕ) (scause : ℕ) (rcause : ℕ) (gcause : ℕ) (d : Dev) (h : pt ∉ [.clock, .cmds, .jrnl, .evc, .rel, .kw, .nv]) : (Dev.quell origin cause scause rcause gcause d).get pt = d.get pt := by
  simp at h
  simp [Dev.quell, h, apply_ite (Dev.get · pt), foldl_get, apply_ite Prod.fst, apply_ite Prod.snd]

@[simp] theorem Dev.stopAir_get {pt : Part} (d : Dev) (h : pt ≠ .lf) : (Dev.stopAir d).get pt = d.get pt := by
  simp [Dev.stopAir, h, apply_ite (Dev.get · pt), foldl_get, apply_ite Prod.fst, apply_ite Prod.snd]

@[simp] theorem Dev.endExchange_get {pt : Part} (tag : ℕ) (d : Dev) (h : pt ≠ .uwb) : (Dev.endExchange tag d).get pt = d.get pt := by
  simp [Dev.endExchange, h, apply_ite (Dev.get · pt), foldl_get, apply_ite Prod.fst, apply_ite Prod.snd]

@[simp] theorem Dev.dropWork_get {pt : Part} (tag : Nat) (d : Dev) (h : pt ∉ [.lf, .uhf, .uwb, .ham, .kw]) : (Dev.dropWork tag d).get pt = d.get pt := by
  unfold Dev.dropWork
  extract_lets _ _ e
  have he : e.get pt = d.get pt := by
    simp at h
    simp [e, h, apply_ite (Dev.get · pt)]
  rw [← he]
  cases pt <;> simp at h <;> rfl

@[simp] theorem Dev.finish_get {pt : Part} (tag : ℕ) (r : Result) (d : Dev) (h : pt ≠ .cmds) : (Dev.finish tag r d).get pt = d.get pt := by
  simp [Dev.finish, h, apply_ite (Dev.get · pt), foldl_get, apply_ite Prod.fst, apply_ite Prod.snd]

@[simp] theorem Dev.fail_get {pt : Part} (tag : ℕ) (st : Status) (d : Dev) (h : pt ≠ .cmds) : (Dev.fail tag st d).get pt = d.get pt := by
  simp [Dev.fail, h, apply_ite (Dev.get · pt), foldl_get, apply_ite Prod.fst, apply_ite Prod.snd]

@[simp] theorem Dev.reply_get {pt : Part} (tag : ℕ) (ws : List Word) (d : Dev) (h : pt ≠ .cmds) : (Dev.reply tag ws d).get pt = d.get pt := by
  simp [Dev.reply, h, apply_ite (Dev.get · pt), foldl_get, apply_ite Prod.fst, apply_ite Prod.snd]

@[simp] theorem Dev.markStart_get {pt : Part} (c : Cmd) (d : Dev) (h : pt ∉ [.pwr, .cmds, .bg]) : (Dev.markStart c d).get pt = d.get pt := by
  cases pt <;> simp at h <;> rfl

@[simp] theorem Dev.satCheck_get {pt : Part} (d : Dev) (h : pt ∉ [.clock, .pwr, .jrnl, .evc, .nv]) : (Dev.satCheck d).get pt = d.get pt := by
  simp at h
  simp [Dev.satCheck, h, apply_ite (Dev.get · pt), foldl_get, apply_ite Prod.fst, apply_ite Prod.snd]

@[simp] theorem Dev.putLoop_get {pt : Part} (n : ℕ) (l : Loop) (d : Dev) (h : pt ≠ .bg) : (Dev.putLoop n l d).get pt = d.get pt := by
  simp [Dev.putLoop, h, apply_ite (Dev.get · pt), foldl_get, apply_ite Prod.fst, apply_ite Prod.snd]

@[simp] theorem Dev.setEst_get {pt : Part} (n : ℕ) (v : ℕ) (d : Dev) (h : pt ∉ [.clock, .pwr, .jrnl, .evc, .nv, .bg]) : (Dev.setEst n v d).get pt = d.get pt := by
  simp at h
  simp [Dev.setEst, h, apply_ite (Dev.get · pt), foldl_get, apply_ite Prod.fst, apply_ite Prod.snd]

@[simp] theorem Dev.overrideCheck_get {pt : Part} (n : ℕ) (d : Dev) (h : pt ∉ [.clock, .pwr, .jrnl, .evc, .nv, .bg]) : (Dev.overrideCheck n d).get pt = d.get pt := by
  simp at h
  simp [Dev.overrideCheck, h, apply_ite (Dev.get · pt), foldl_get, apply_ite Prod.fst, apply_ite Prod.snd]

@[simp] theorem Dev.putAerial_get {pt : Part} (n : ℕ) (a : Aerial) (d : Dev) (h : pt ≠ .lf) : (Dev.putAerial n a d).get pt = d.get pt := by
  simp [Dev.putAerial, h, apply_ite (Dev.get · pt), foldl_get, apply_ite Prod.fst, apply_ite Prod.snd]

@[simp] theorem Dev.latchFault_get {pt : Part} (b : ℕ) (n : ℕ) (d : Dev) (h : pt ∉ [.clock, .pwr, .jrnl, .evc, .lf, .nv]) : (Dev.latchFault b n d).get pt = d.get pt := by
  simp at h
  simp [Dev.latchFault, h, apply_ite (Dev.get · pt), foldl_get, apply_ite Prod.fst, apply_ite Prod.snd]

@[simp] theorem Dev.faultOn_get {pt : Part} (b : ℕ) (n : ℕ) (d : Dev) (h : pt ∉ [.clock, .pwr, .jrnl, .evc, .lf, .nv]) : (Dev.faultOn b n d).get pt = d.get pt := by
  simp at h
  simp [Dev.faultOn, h, apply_ite (Dev.get · pt), foldl_get, apply_ite Prod.fst, apply_ite Prod.snd]

@[simp] theorem Dev.clearFaults_get {pt : Part} (n : ℕ) (d : Dev) (h : pt ≠ .lf) : (Dev.clearFaults n d).get pt = d.get pt := by
  simp [Dev.clearFaults, h, apply_ite (Dev.get · pt), foldl_get, apply_ite Prod.fst, apply_ite Prod.snd]

@[simp] theorem Dev.drive_get {pt : Part} (wish : List ℕ) (d : Dev) (h : pt ≠ .lf) : (Dev.drive wish d).get pt = d.get pt := by
  simp [Dev.drive, h, apply_ite (Dev.get · pt), foldl_get, apply_ite Prod.fst, apply_ite Prod.snd]

@[simp] theorem Dev.lfHeat_get {pt : Part} (d : Dev) (h : pt ∉ [.clock, .pwr, .jrnl, .evc, .nv, .bg]) : (Dev.lfHeat d).get pt = d.get pt := by
  simp at h
  simp [Dev.lfHeat, h, apply_ite (Dev.get · pt), foldl_get, apply_ite Prod.fst, apply_ite Prod.snd]

@[simp] theorem Dev.emit_get {pt : Part} (e : Emission) (mask : ℕ) (b : ℕ) (n : ℕ) (wish : List ℕ) (d : Dev) (h : pt ∉ [.clock, .pwr, .jrnl, .evc, .lf, .nv, .bg]) : (Dev.emit e mask b n wish d).get pt = d.get pt := by
  cases pt <;> simp at h <;> simp [Dev.emit, Dev.get_mk, Dev.parts]

@[simp] theorem Dev.sendAt_get {pt : Part} (wish : List ℕ) (e : Emission) (mask : ℕ) (b : ℕ) (code : ℕ) (data : Bytes) (d : Dev) (h : pt ∉ [.clock, .pwr, .jrnl, .evc, .lf, .nv, .bg]) : (Dev.sendAt wish e mask b code data d).get pt = d.get pt := by
  cases pt <;> simp at h <;> simp [Dev.sendAt, Dev.get_mk, Dev.parts]

@[simp] theorem Dev.send_get {pt : Part} (e : Emission) (mask : ℕ) (b : ℕ) (code : ℕ) (data : Bytes) (d : Dev) (h : pt ∉ [.clock, .pwr, .jrnl, .evc, .lf, .nv, .bg]) : (Dev.send e mask b code data d).get pt = d.get pt := by
  simp at h
  simp [Dev.send, h, apply_ite (Dev.get · pt), foldl_get, apply_ite Prod.fst, apply_ite Prod.snd]

@[simp] theorem Dev.cutEmission_get {pt : Part} (d : Dev) (h : pt ∉ [.clock, .lf, .uhf]) : (Dev.cutEmission d).get pt = d.get pt := by
  cases pt <;> simp at h
  all_goals
    unfold Dev.cutEmission
    repeat' split
    all_goals simp [Dev.get_mk, Dev.parts]

@[simp] theorem Dev.takeLf_get {pt : Part} (d : Dev) (h : pt ∉ [.clock, .lf, .uhf]) : (Dev.takeLf d).get pt = d.get pt := by
  simp at h
  unfold Dev.takeLf
  split <;> simp [h, apply_ite (Dev.get · pt), foldl_get, apply_ite Prod.fst, apply_ite Prod.snd]

@[simp] theorem Dev.stopPolling_get {pt : Part} (d : Dev) (h : pt ∉ [.clock, .lf, .uhf]) : (Dev.stopPolling d).get pt = d.get pt := by
  cases pt <;> simp at h
  all_goals
    unfold Dev.stopPolling
    repeat' split
    all_goals simp [Dev.get_mk, Dev.parts]

@[simp] theorem Dev.calAerial_get {pt : Part} (apply : Bool) (n : ℕ) (peaks : List ℕ) (fault : ℕ) (d : Dev) (h : pt ∉ [.clock, .pwr, .jrnl, .evc, .lf, .nv, .bg]) : (Dev.calAerial apply n peaks fault d).1.get pt = d.get pt := by
  simp at h
  simp [Dev.calAerial, h, apply_ite (Dev.get · pt), foldl_get, apply_ite Prod.fst, apply_ite Prod.snd]

@[simp] theorem Dev.calFrom_get {pt : Part} (apply : Bool) (mask : Nat) (peaks : List (List Nat)) (faults : List Nat) (k n : Nat) (d : Dev)
    (h : pt ∉ [.clock, .pwr, .jrnl, .evc, .lf, .nv, .bg]) : (Dev.calFrom apply mask peaks faults k n d).1.get pt = d.get pt := by
  induction k generalizing n d with
  | zero => rfl
  | succ k ih =>
    unfold Dev.calFrom
    dsimp only
    rw [ih]
    split <;> simp_all

@[simp] theorem Dev.draw_get {pt : Part} (n : ℕ) (d : Dev) (h : pt ≠ .anvil) : (Dev.draw n d).2.get pt = d.get pt := by
  simp [Dev.draw, h, apply_ite (Dev.get · pt), foldl_get, apply_ite Prod.fst, apply_ite Prod.snd]

@[simp] theorem Dev.drawScalar_get {pt : Part} (d : Dev) (h : pt ≠ .anvil) : (Dev.drawScalar d).2.get pt = d.get pt := by
  simp [Dev.drawScalar, h, apply_ite (Dev.get · pt), foldl_get, apply_ite Prod.fst, apply_ite Prod.snd]

@[simp] theorem Dev.newReserve_get {pt : Part} (d : Dev) (h : pt ≠ .anvil) : (Dev.newReserve d).get pt = d.get pt := by
  cases pt <;> simp at h <;> rfl

@[simp] theorem Dev.reseedWith_get {pt : Part} (block : Bytes) (d : Dev) (h : pt ≠ .anvil) : (Dev.reseedWith block d).get pt = d.get pt := by
  simp [Dev.reseedWith, h, apply_ite (Dev.get · pt), foldl_get, apply_ite Prod.fst, apply_ite Prod.snd]

@[simp] theorem Dev.freshBlock_get {pt : Part} (d : Dev) (h : pt ≠ .free) : (Dev.freshBlock d).2.get pt = d.get pt := by
  simp [Dev.freshBlock, h, apply_ite (Dev.get · pt), foldl_get, apply_ite Prod.fst, apply_ite Prod.snd]

@[simp] theorem Dev.slotBadEvent_get {pt : Part} (n : Option ℕ) (d : Dev) (h : pt ∉ [.clock, .pwr, .jrnl, .evc, .cru, .nv]) : (Dev.slotBadEvent n d).get pt = d.get pt := by
  simp at h
  simp [Dev.slotBadEvent, h, apply_ite (Dev.get · pt), foldl_get, apply_ite Prod.fst, apply_ite Prod.snd]

@[simp] theorem Dev.slotFail_get {pt : Part} (tag : ℕ) (n : ℕ) (d : Dev) (h : pt ∉ [.clock, .pwr, .cmds, .jrnl, .evc, .cru, .nv]) : (Dev.slotFail tag n d).get pt = d.get pt := by
  simp at h
  simp [Dev.slotFail, h, apply_ite (Dev.get · pt), foldl_get, apply_ite Prod.fst, apply_ite Prod.snd]

@[simp] theorem Dev.setKey_get {pt : Part} (n : ℕ) (attr : ℕ) (material : Bytes) (d : Dev) (h : pt ≠ .cru) : (Dev.setKey n attr material d).get pt = d.get pt := by
  simp [Dev.setKey, h, apply_ite (Dev.get · pt), foldl_get, apply_ite Prod.fst, apply_ite Prod.snd]

@[simp] theorem Dev.putKey_get {pt : Part} (owner : Option ℕ) (n : ℕ) (attr : ℕ) (material : Bytes) (d : Dev) (h : pt ∉ [.cru, .nv]) : (Dev.putKey owner n attr material d).get pt = d.get pt := by
  simp at h
  simp [Dev.putKey, h, apply_ite (Dev.get · pt), foldl_get, apply_ite Prod.fst, apply_ite Prod.snd]

@[simp] theorem Dev.childDone_get {pt : Part} (tag : ℕ) (slot : ℕ) (attr : ℕ) (material : Bytes) (payload : List Word) (d : Dev) (h : pt ∉ [.cmds, .nv]) : (Dev.childDone tag slot attr material payload d).get pt = d.get pt := by
  simp at h
  simp [Dev.childDone, h, apply_ite (Dev.get · pt), foldl_get, apply_ite Prod.fst, apply_ite Prod.snd]

@[simp] theorem Dev.putToken_get {pt : Part} (owner : Option ℕ) (n : ℕ) (t : TokenSlot) (d : Dev) (h : pt ∉ [.cru, .nv]) : (Dev.putToken owner n t d).get pt = d.get pt := by
  simp at h
  simp [Dev.putToken, h, apply_ite (Dev.get · pt), foldl_get, apply_ite Prod.fst, apply_ite Prod.snd]

@[simp] theorem Dev.useKey_get {pt : Part} (owner : Option ℕ) (n : ℕ) (d : Dev) (h : pt ∉ [.cru, .nv]) : (Dev.useKey owner n d).2.get pt = d.get pt := by
  simp at h
  simp [Dev.useKey, h, apply_ite (Dev.get · pt), foldl_get, apply_ite Prod.fst, apply_ite Prod.snd]

@[simp] theorem Dev.writeCommit_get {pt : Part} (p : Prepared) (d : Dev) (h : pt ∉ [.cru, .anvil]) : (Dev.writeCommit p d).get pt = d.get pt := by
  cases pt <;> simp at h
  all_goals
    unfold Dev.writeCommit
    repeat' split
    all_goals simp [Dev.get_mk, Dev.parts]

@[simp] theorem Dev.eraseRecords_get {pt : Part} (owner : Option ℕ) (d : Dev) (h : pt ∉ [.cru, .nv]) : (Dev.eraseRecords owner d).get pt = d.get pt := by
  simp at h
  simp [Dev.eraseRecords, h, apply_ite (Dev.get · pt), foldl_get, apply_ite Prod.fst, apply_ite Prod.snd]

@[simp] theorem Dev.setRange_get {pt : Part} (tag : ℕ) (x1 : RangeRun) (d : Dev) (h : pt ≠ .cmds) : (Dev.setRange tag x1 d).get pt = d.get pt := by
  simp [Dev.setRange, h, apply_ite (Dev.get · pt), foldl_get, apply_ite Prod.fst, apply_ite Prod.snd]

@[simp] theorem Dev.anchorsFor_get {pt : Part} (x0 : RangeRun) (d : Dev) (h : pt ≠ .uwb) : (Dev.anchorsFor x0 d).get pt = d.get pt := by
  simp [Dev.anchorsFor, h, apply_ite (Dev.get · pt), foldl_get, apply_ite Prod.fst, apply_ite Prod.snd]

@[simp] theorem Dev.clearStage_get {pt : Part} (d : Dev) (h : pt ≠ .cru) : (Dev.clearStage d).get pt = d.get pt := by
  simp [Dev.clearStage, h, apply_ite (Dev.get · pt), foldl_get, apply_ite Prod.fst, apply_ite Prod.snd]

@[simp] theorem Dev.prepareFail_get {pt : Part} (tag : ℕ) (st : Status) (d : Dev) (h : pt ∉ [.cmds, .cru]) : (Dev.prepareFail tag st d).get pt = d.get pt := by
  simp at h
  simp [Dev.prepareFail, h, apply_ite (Dev.get · pt), foldl_get, apply_ite Prod.fst, apply_ite Prod.snd]

@[simp] theorem Dev.prepared_get {pt : Part} (tag : ℕ) (auto : Bool) (p : Prepared) (d : Dev) (h : pt ∉ [.cmds, .cru, .anvil, .nv]) : (Dev.prepared tag auto p d).get pt = d.get pt := by
  cases pt <;> simp at h
  all_goals
    unfold Dev.prepared
    repeat' split
    all_goals simp [Dev.get_mk, Dev.parts]

@[simp] theorem Dev.setContext_get {pt : Part} (c : Cmd) (x1 : Option Context) (d : Dev) (h : pt ≠ .anvil) : (Dev.setContext c x1 d).get pt = d.get pt := by
  simp [Dev.setContext, h, apply_ite (Dev.get · pt), foldl_get, apply_ite Prod.fst, apply_ite Prod.snd]

@[simp] theorem Dev.partDone_get {pt : Part} (c : Cmd) (x1 : Context) (verdict : ℕ) (out : Bytes) (d : Dev) (h : pt ∉ [.cmds, .anvil]) : (Dev.partDone c x1 verdict out d).get pt = d.get pt := by
  simp at h
  simp [Dev.partDone, h, apply_ite (Dev.get · pt), foldl_get, apply_ite Prod.fst, apply_ite Prod.snd]

@[simp] theorem Dev.cryptoDone_get {pt : Part} (c : Cmd) (verdict : ℕ) (out : Bytes) (d : Dev) (h : pt ≠ .cmds) : (Dev.cryptoDone c verdict out d).get pt = d.get pt := by
  simp [Dev.cryptoDone, h, apply_ite (Dev.get · pt), foldl_get, apply_ite Prod.fst, apply_ite Prod.snd]

@[simp] theorem Dev.useIt_get {pt : Part} (c : Cmd) (d : Dev) (h : pt ∉ [.cru, .nv]) : (Dev.useIt c d).get pt = d.get pt := by
  simp at h
  simp [Dev.useIt, h, apply_ite (Dev.get · pt), foldl_get, apply_ite Prod.fst, apply_ite Prod.snd]

@[simp] theorem Dev.storeChild_get {pt : Part} (c : Cmd) (attr : ℕ) (m : Bytes) (verdict : ℕ) (d : Dev) (h : pt ∉ [.cmds, .nv]) : (Dev.storeChild c attr m verdict d).get pt = d.get pt := by
  simp at h
  simp [Dev.storeChild, h, apply_ite (Dev.get · pt), foldl_get, apply_ite Prod.fst, apply_ite Prod.snd]

@[simp] theorem Dev.takeSamples_get {pt : Part} (samples : List ℕ) (d : Dev) (h : pt ∉ [.clock, .pwr, .jrnl, .evc, .anvil, .nv]) : (Dev.takeSamples samples d).get pt = d.get pt := by
  cases pt <;> simp at h
  all_goals
    unfold Dev.takeSamples
    repeat' split
    all_goals simp [Dev.get_mk, Dev.parts]

end Sys2Proof.Machine
end

section
/-!
PROOFS. What frames say of an answer: the parts every event may touch, and what journal hold leaves behind a row.
-/

namespace Sys2Proof.Machine

/-- The parts that every event may touch. -/
def eventParts : List Part := [.cmds, .clock, .pwr, .evc, .jrnl, .nv, .bg]

theorem eventsOnly_of_get {s t : Dev} (h : ∀ pt, pt ∉ eventParts → t.get pt = s.get pt) : EventsOnly s t := by
  refine eq_of_get fun pt => ?_
  cases pt
  case cmds | clock | pwr | evc | jrnl | nv | bg => rfl
  all_goals exact h _ (by decide)

/-! ### A row that touches some parts besides -/

theorem eventsOnly_lf {s t : Dev} (h : ∀ pt, pt ∉ [.lf] ++ eventParts → t.get pt = s.get pt) :
    EventsOnly { s with lf := t.lf } t :=
  eventsOnly_of_get fun pt hpt => by
    by_cases hl : pt ∈ [.lf]
    · simp only [List.mem_cons, List.not_mem_nil, or_false] at hl
      subst hl; rfl
    · refine (h pt fun hm => ?_).trans ?_
      · exact (List.mem_append.mp hm).elim hl hpt
      · cases pt <;> simp at hl <;> rfl

theorem eventsOnly_uhf {s t : Dev} (h : ∀ pt, pt ∉ [.uhf] ++ eventParts → t.get pt = s.get pt) :
    EventsOnly { s with uhf := t.uhf } t :=
  eventsOnly_of_get fun pt hpt => by
    by_cases hl : pt ∈ [.uhf]
    · simp only [List.mem_cons, List.not_mem_nil, or_false] at hl
      subst hl; rfl
    · refine (h pt fun hm => ?_).trans ?_
      · exact (List.mem_append.mp hm).elim hl hpt
      · cases pt <;> simp at hl <;> rfl

theorem eventsOnly_uwb {s t : Dev} (h : ∀ pt, pt ∉ [.uwb] ++ eventParts → t.get pt = s.get pt) :
    EventsOnly { s with uwb := t.uwb } t :=
  eventsOnly_of_get fun pt hpt => by
    by_cases hl : pt ∈ [.uwb]
    · simp only [List.mem_cons, List.not_mem_nil, or_false] at hl
      subst hl; rfl
    · refine (h pt fun hm => ?_).trans ?_
      · exact (List.mem_append.mp hm).elim hl hpt
      · cases pt <;> simp at hl <;> rfl

theorem eventsOnly_anvil {s t : Dev} (h : ∀ pt, pt ∉ [.anvil] ++ eventParts → t.get pt = s.get pt) :
    EventsOnly { s with anvil := t.anvil } t :=
  eventsOnly_of_get fun pt hpt => by
    by_cases hl : pt ∈ [.anvil]
    · simp only [List.mem_cons, List.not_mem_nil, or_false] at hl
      subst hl; rfl
    · refine (h pt fun hm => ?_).trans ?_
      · exact (List.mem_append.mp hm).elim hl hpt
      · cases pt <;> simp at hl <;> rfl

theorem eventsOnly_cru {s t : Dev} (h : ∀ pt, pt ∉ [.cru] ++ eventParts → t.get pt = s.get pt) :
    EventsOnly { s with cru := t.cru } t :=
  eventsOnly_of_get fun pt hpt => by
    by_cases hl : pt ∈ [.cru]
    · simp only [List.mem_cons, List.not_mem_nil, or_false] at hl
      subst hl; rfl
    · refine (h pt fun hm => ?_).trans ?_
      · exact (List.mem_append.mp hm).elim hl hpt
      · cases pt <;> simp at hl <;> rfl

theorem eventsOnly_lf_uwb {s t : Dev} (h : ∀ pt, pt ∉ [.lf, .uwb] ++ eventParts → t.get pt = s.get pt) :
    EventsOnly { s with lf := t.lf, uwb := t.uwb } t :=
  eventsOnly_of_get fun pt hpt => by
    by_cases hl : pt ∈ [.lf, .uwb]
    · simp only [List.mem_cons, List.not_mem_nil, or_false] at hl
      rcases hl with rfl | rfl <;> rfl
    · refine (h pt fun hm => ?_).trans ?_
      · exact (List.mem_append.mp hm).elim hl hpt
      · cases pt <;> simp at hl <;> rfl

theorem eventsOnly_lf_anvil {s t : Dev} (h : ∀ pt, pt ∉ [.lf, .anvil] ++ eventParts → t.get pt = s.get pt) :
    EventsOnly { s with lf := t.lf, anvil := t.anvil } t :=
  eventsOnly_of_get fun pt hpt => by
    by_cases hl : pt ∈ [.lf, .anvil]
    · simp only [List.mem_cons, List.not_mem_nil, or_false] at hl
      rcases hl with rfl | rfl <;> rfl
    · refine (h pt fun hm => ?_).trans ?_
      · exact (List.mem_append.mp hm).elim hl hpt
      · cases pt <;> simp at hl <;> rfl

theorem eventsOnly_lf_uhf {s t : Dev} (h : ∀ pt, pt ∉ [.lf, .uhf] ++ eventParts → t.get pt = s.get pt) :
    EventsOnly { s with lf := t.lf, uhf := t.uhf } t :=
  eventsOnly_of_get fun pt hpt => by
    by_cases hl : pt ∈ [.lf, .uhf]
    · simp only [List.mem_cons, List.not_mem_nil, or_false] at hl
      rcases hl with rfl | rfl <;> rfl
    · refine (h pt fun hm => ?_).trans ?_
      · exact (List.mem_append.mp hm).elim hl hpt
      · cases pt <;> simp at hl <;> rfl

theorem eventsOnly_lf_tok {s t : Dev} (h : ∀ pt, pt ∉ [.lf, .tok] ++ eventParts → t.get pt = s.get pt) :
    EventsOnly { s with lf := t.lf, tok := t.tok } t :=
  eventsOnly_of_get fun pt hpt => by
    by_cases hl : pt ∈ [.lf, .tok]
    · simp only [List.mem_cons, List.not_mem_nil, or_false] at hl
      rcases hl with rfl | rfl <;> rfl
    · refine (h pt fun hm => ?_).trans ?_
      · exact (List.mem_append.mp hm).elim hl hpt
      · cases pt <;> simp at hl <;> rfl

theorem eventsOnly_rel {s t : Dev} (h : ∀ pt, pt ∉ [.rel] ++ eventParts → t.get pt = s.get pt) :
    EventsOnly { s with rel := t.rel } t :=
  eventsOnly_of_get fun pt hpt => by
    by_cases hl : pt ∈ [.rel]
    · simp only [List.mem_cons, List.not_mem_nil, or_false] at hl
      subst hl; rfl
    · refine (h pt fun hm => ?_).trans ?_
      · exact (List.mem_append.mp hm).elim hl hpt
      · cases pt <;> simp at hl <;> rfl

theorem eventsOnly_rel_cru {s t : Dev} (h : ∀ pt, pt ∉ [.rel, .cru] ++ eventParts → t.get pt = s.get pt) :
    EventsOnly { s with rel := t.rel, cru := t.cru } t :=
  eventsOnly_of_get fun pt hpt => by
    by_cases hl : pt ∈ [.rel, .cru]
    · simp only [List.mem_cons, List.not_mem_nil, or_false] at hl
      rcases hl with rfl | rfl <;> rfl
    · refine (h pt fun hm => ?_).trans ?_
      · exact (List.mem_append.mp hm).elim hl hpt
      · cases pt <;> simp at hl <;> rfl

theorem eventsOnly_rel_kw {s t : Dev} (h : ∀ pt, pt ∉ [.rel, .kw] ++ eventParts → t.get pt = s.get pt) :
    EventsOnly { s with rel := t.rel, kw := t.kw } t :=
  eventsOnly_of_get fun pt hpt => by
    by_cases hl : pt ∈ [.rel, .kw]
    · simp only [List.mem_cons, List.not_mem_nil, or_false] at hl
      rcases hl with rfl | rfl <;> rfl
    · refine (h pt fun hm => ?_).trans ?_
      · exact (List.mem_append.mp hm).elim hl hpt
      · cases pt <;> simp at hl <;> rfl

theorem eventsOnly_atlas {s t : Dev} (h : ∀ pt, pt ∉ [.atlas] ++ eventParts → t.get pt = s.get pt) :
    EventsOnly { s with atlas := t.atlas } t :=
  eventsOnly_of_get fun pt hpt => by
    by_cases hl : pt ∈ [.atlas]
    · simp only [List.mem_cons, List.not_mem_nil, or_false] at hl
      subst hl; rfl
    · refine (h pt fun hm => ?_).trans ?_
      · exact (List.mem_append.mp hm).elim hl hpt
      · cases pt <;> simp at hl <;> rfl

theorem eventsOnly_tok {s t : Dev} (h : ∀ pt, pt ∉ [.tok] ++ eventParts → t.get pt = s.get pt) :
    EventsOnly { s with tok := t.tok } t :=
  eventsOnly_of_get fun pt hpt => by
    by_cases hl : pt ∈ [.tok]
    · simp only [List.mem_cons, List.not_mem_nil, or_false] at hl
      subst hl; rfl
    · refine (h pt fun hm => ?_).trans ?_
      · exact (List.mem_append.mp hm).elim hl hpt
      · cases pt <;> simp at hl <;> rfl

theorem eventsOnly_ham {s t : Dev} (h : ∀ pt, pt ∉ [.ham] ++ eventParts → t.get pt = s.get pt) :
    EventsOnly { s with ham := t.ham } t :=
  eventsOnly_of_get fun pt hpt => by
    by_cases hl : pt ∈ [.ham]
    · simp only [List.mem_cons, List.not_mem_nil, or_false] at hl
      subst hl; rfl
    · refine (h pt fun hm => ?_).trans ?_
      · exact (List.mem_append.mp hm).elim hl hpt
      · cases pt <;> simp at hl <;> rfl

theorem eventsOnly_kw {s t : Dev} (h : ∀ pt, pt ∉ [.kw] ++ eventParts → t.get pt = s.get pt) :
    EventsOnly { s with kw := t.kw } t :=
  eventsOnly_of_get fun pt hpt => by
    by_cases hl : pt ∈ [.kw]
    · simp only [List.mem_cons, List.not_mem_nil, or_false] at hl
      subst hl; rfl
    · refine (h pt fun hm => ?_).trans ?_
      · exact (List.mem_append.mp hm).elim hl hpt
      · cases pt <;> simp at hl <;> rfl

theorem eventsOnly_anvil_cru {s t : Dev} (h : ∀ pt, pt ∉ [.anvil, .cru] ++ eventParts → t.get pt = s.get pt) :
    EventsOnly { s with anvil := t.anvil, cru := t.cru } t :=
  eventsOnly_of_get fun pt hpt => by
    by_cases hl : pt ∈ [.anvil, .cru]
    · simp only [List.mem_cons, List.not_mem_nil, or_false] at hl
      rcases hl with rfl | rfl <;> rfl
    · refine (h pt fun hm => ?_).trans ?_
      · exact (List.mem_append.mp hm).elim hl hpt
      · cases pt <;> simp at hl <;> rfl

/-- A row answers what it leaves, with journal hold entered behind it where its records have filled the general space (R144). -/
theorem answers_settle {i : Instr} {s : State} {f : Dev → Dev} {t : Dev} {P : Dev → Prop} (he : exec i s = run f s)
    (ht : f s.toDev = t) (hP : P (Dev.settle s.toDev t)) : Answers i s P := by
  subst ht
  exact ⟨_, he, rfl, hP⟩

theorem answers_started {i : Instr} {s : State} {op tag : Nat} {c : Cmd} {body : Cmd → Dev → Dev} {t : Dev} {P : Dev → Prop}
    (he : exec i s = run (Dev.startCmd (isOp op) tag body) s) (h : s.canRun op tag c = true)
    (ht : body (s.started c) (s.markStart c) = t) (hP : P (Dev.settle s.toDev t)) : Answers i s P :=
  answers_settle he ((startCmd_of_canRun body h).trans ht) hP

theorem cmd_of_cmds {s t : Dev} (h : t.cmds = s.cmds) (tag : Nat) : t.cmd tag = s.cmd tag := by simp only [Dev.cmd, h]

/-- A command of the block that ends at its start, with a result and nothing else. -/
theorem answers_refused {i : Instr} {s : State} {f : Dev → Dev} {op tag : Nat} {c : Cmd} {r : Result} (he : exec i s = run f s)
    (h : s.canRun op tag c = true) (ht : f s.toDev = (s.markStart c).finish tag r) :
    Answers i s fun t => t.ended tag = some r ∧ OnlyCommands s.toDev t :=
  answers_leaves he ht rfl ⟨ended_started h r, onlyCommands_started ..⟩

/-- A step that keeps the tags of the commands in flight keeps each of them in flight. -/
theorem cmd_isSome_of_tags {s t : Dev} (h : t.cmds.map Cmd.tag = s.cmds.map Cmd.tag) (tag : Nat) :
    (t.cmd tag).isSome = (s.cmd tag).isSome := by
  have hs : ∀ d : Dev, (d.cmd tag).isSome = true ↔ tag ∈ d.cmds.map Cmd.tag := by simp [Dev.cmd]
  rw [Bool.eq_iff_iff, hs, hs, h]

theorem tag_of_canRun {op tag : Nat} {c : Cmd} {d : Dev} (h : d.canRun op tag c = true) : c.tag = tag := by
  simpa using List.find?_some (cmd_of_canRun h)

section
variable (s t : Dev)
@[simp] theorem settle_ident : (Dev.settle s t).ident = t.ident := Dev.settle_get (pt := .ident) s t (by decide)
@[simp] theorem settle_pwr : (Dev.settle s t).pwr = t.pwr := Dev.settle_get (pt := .pwr) s t (by decide)
@[simp] theorem settle_host : (Dev.settle s t).host = t.host := Dev.settle_get (pt := .host) s t (by decide)
@[simp] theorem settle_start : (Dev.settle s t).start = t.start := Dev.settle_get (pt := .start) s t (by decide)
@[simp] theorem settle_cmds : (Dev.settle s t).cmds = t.cmds := Dev.settle_get (pt := .cmds) s t (by decide)
@[simp] theorem settle_store : (Dev.settle s t).store = t.store := Dev.settle_get (pt := .store) s t (by decide)
@[simp] theorem settle_waiting : (Dev.settle s t).waiting = t.waiting := Dev.settle_get (pt := .waiting) s t (by decide)
@[simp] theorem settle_sets : (Dev.settle s t).sets = t.sets := Dev.settle_get (pt := .sets) s t (by decide)
@[simp] theorem settle_setLow : (Dev.settle s t).setLow = t.setLow := Dev.settle_get (pt := .setLow) s t (by decide)
@[simp] theorem settle_tmr : (Dev.settle s t).tmr = t.tmr := Dev.settle_get (pt := .tmr) s t (by decide)
@[simp] theorem settle_lf : (Dev.settle s t).lf = t.lf := Dev.settle_get (pt := .lf) s t (by decide)
@[simp] theorem settle_uhf : (Dev.settle s t).uhf = t.uhf := Dev.settle_get (pt := .uhf) s t (by decide)
@[simp] theorem settle_uwb : (Dev.settle s t).uwb = t.uwb := Dev.settle_get (pt := .uwb) s t (by decide)
@[simp] theorem settle_atlas : (Dev.settle s t).atlas = t.atlas := Dev.settle_get (pt := .atlas) s t (by decide)
@[simp] theorem settle_rel : (Dev.settle s t).rel = t.rel := Dev.settle_get (pt := .rel) s t (by decide)
@[simp] theorem settle_cru : (Dev.settle s t).cru = t.cru := Dev.settle_get (pt := .cru) s t (by decide)
@[simp] theorem settle_anvil : (Dev.settle s t).anvil = t.anvil := Dev.settle_get (pt := .anvil) s t (by decide)
@[simp] theorem settle_tok : (Dev.settle s t).tok = t.tok := Dev.settle_get (pt := .tok) s t (by decide)
@[simp] theorem settle_ham : (Dev.settle s t).ham = t.ham := Dev.settle_get (pt := .ham) s t (by decide)
@[simp] theorem settle_kw : (Dev.settle s t).kw = t.kw := Dev.settle_get (pt := .kw) s t (by decide)
@[simp] theorem settle_med : (Dev.settle s t).med = t.med := Dev.settle_get (pt := .med) s t (by decide)
@[simp] theorem settle_bg : (Dev.settle s t).bg = t.bg := Dev.settle_get (pt := .bg) s t (by decide)
@[simp] theorem settle_free : (Dev.settle s t).free = t.free := Dev.settle_get (pt := .free) s t (by decide)
@[simp] theorem settle_ended (tag : Nat) : (Dev.settle s t).ended tag = t.ended tag := by simp [Dev.ended, Dev.cmd]
@[simp] theorem settle_working (tag : Nat) : (Dev.settle s t).working tag = t.working tag := by simp [Dev.working, Dev.cmd]
end

/-! ### What a start leaves of what is read -/

section
variable (c : Cmd) (d : Dev)
@[simp] theorem markStart_setting (a : Nat) : (d.markStart c).setting a = d.setting a := rfl
@[simp] theorem markStart_domOn (n : Nat) : (d.markStart c).domOn n = d.domOn n := rfl
@[simp] theorem markStart_usable (m : Nat) : (d.markStart c).usable m = d.usable m := rfl
@[simp] theorem markStart_maskOf (m : Nat) : (d.markStart c).maskOf m = d.maskOf m := rfl
@[simp] theorem markStart_noAerial (m : Nat) : (d.markStart c).noAerial m = d.noAerial m := rfl
@[simp] theorem markStart_bitTime (r : Nat) : (d.markStart c).bitTime r = d.bitTime r := rfl
@[simp] theorem markStart_telegram (code : Nat) (m : Bytes) : (d.markStart c).telegram code m = d.telegram code m := rfl
end

end Sys2Proof.Machine
end

section
/-!
PROOFS. Events (R49-R52, R155): what an event that is presented leaves of the clock and the event controller, out of DOZE and with
ROOT running.
-/

namespace Sys2Proof.Machine

/-! ### The arbiter's clock -/

section
variable (want port : Nat) (close : Bool) (c : Clock)

@[simp] theorem tick_rootOn : (c.tick want).rootOn = c.rootOn := by
  unfold Clock.tick
  dsimp only
  split <;> rfl

@[simp] theorem room_esn (n : Nat) : (Clock.room want port n c).esn = c.esn := by
  induction n generalizing c with
  | zero => rfl
  | succ n ih =>
    rw [Clock.room]
    split
    · rw [ih, tick_esn]
    · rfl

@[simp] theorem room_rootOn (n : Nat) : (Clock.room want port n c).rootOn = c.rootOn := by
  induction n generalizing c with
  | zero => rfl
  | succ n ih =>
    rw [Clock.room]
    split
    · rw [ih, tick_rootOn]
    · rfl

@[simp] theorem turn_esn : (c.turn want port close).esn = c.esn := by
  rw [Clock.turn, room_esn]
  split
  · exact tick_esn ..
  · rfl

@[simp] theorem turn_rootOn : (c.turn want port close).rootOn = c.rootOn := by
  rw [Clock.turn, room_rootOn]
  split
  · exact tick_rootOn ..
  · rfl

theorem accept_esn : (c.accept want port close).esn = c.esn + 1 := congrArg (· + 1) (turn_esn want port close c)
theorem accept_evEsn : (c.accept want port close).evEsn = c.esn := turn_esn want port close c
theorem accept_evTb : (c.accept want port close).evTb = (c.accept want port close).tb := rfl
theorem accept_rootOn : (c.accept want port close).rootOn = c.rootOn := turn_rootOn want port close c
theorem follow_esn : (c.follow want port).esn = c.esn + 1 := congrArg (· + 1) (room_esn want port c 13)
theorem follow_evEsn : (c.follow want port).evEsn = c.esn := room_esn want port c 13
theorem follow_evTb : (c.follow want port).evTb = (c.follow want port).tb := rfl
theorem follow_rootOn : (c.follow want port).rootOn = c.rootOn := room_rootOn want port c 13
end

/-! ### Time -/

section
variable (t : Nat) (d : Dev)

@[simp] theorem advance_esn (want : Nat) (c : Clock) : (c.advance want t).esn = c.esn := by
  unfold Clock.advance Clock.runTo Clock.forward Clock.atEdge
  dsimp only
  repeat' split
  all_goals rfl

@[simp] theorem advance_rootOn (want : Nat) (c : Clock) : (c.advance want t).rootOn = c.rootOn := by
  unfold Clock.advance Clock.runTo Clock.forward Clock.atEdge
  dsimp only
  repeat' split
  all_goals rfl

@[simp] theorem wait_esn : (d.wait t).clock.esn = d.clock.esn := advance_esn ..
@[simp] theorem wait_rootOn : (d.wait t).clock.rootOn = d.clock.rootOn := advance_rootOn ..
end

/-- Under a running ROOT a wait reaches its stamp and never goes back (R51). -/
theorem wait_reaches {t : Nat} {d : Dev} (hr : d.clock.rootOn = true) (hp : d.clock.pos < 4000) :
    t ≤ (d.wait t).clock.tb ∧ d.clock.tb ≤ (d.wait t).clock.tb ∧ (d.wait t).clock.pos < 4000 := by
  have h : Obligations.TimeAdvances := timeAdvances
  obtain ⟨hreach, hback, hpos, -, -⟩ := h.2 t d hr hp
  exact ⟨hreach, hback, hpos⟩

theorem now_running {d : Dev} (hr : d.clock.rootOn = true) : d.now = d.clock.tb := if_pos hr

theorem opened_running {d : Dev} (len : Nat) (hr : d.clock.rootOn = true) : d.opened len = ⟨d.clock.tb, d.clock.tb + len, d.clock.unc⟩ := by
  rw [Dev.opened, now_running hr]

/-! ### An event presented while ROOT runs -/

theorem acceptOn_running {d : Dev} (port : Nat) (close : Bool) (hr : d.clock.rootOn = true) :
    d.acceptOn port close = { d with clock := d.clock.accept d.wantDepth port close } := if_pos hr

theorem reach_running {d : Dev} (n : Nat) (hr : d.clock.rootOn = true) : d.reach n = d.setPending n := if_pos hr

theorem event_running {d : Dev} (n : Nat) (hr : d.clock.rootOn = true) :
    d.event n = Dev.setPending n { d with clock := d.clock.accept d.wantDepth (sourcePort n) false } := by
  rw [Dev.event, acceptOn_running _ _ hr]
  exact reach_running n ((accept_rootOn ..).trans hr)

theorem event_raised {d : Dev} (n : Nat) (hr : d.clock.rootOn = true) : Raised n d (d.event n) := by
  rw [event_running n hr]
  have he := accept_evEsn d.wantDepth (sourcePort n) false d.clock
  refine ⟨he, accept_esn .., ?_⟩
  rw [← he]
  rfl

/-- What an event raises is measured against the ESN and the event controller it finds. -/
theorem raised_of_eq {n : Nat} {r s t : Dev} (h : Raised n r t) (he : r.clock.esn = s.clock.esn) (hv : r.evc = s.evc) : Raised n s t := by
  obtain ⟨h1, h2, h3⟩ := h
  refine ⟨h1.trans he, h2.trans (by rw [he]), h3.trans ?_⟩
  rw [hv, he, Dev.srcCfg, hv]
  rfl

theorem event_rootOn {d : Dev} (n : Nat) (hr : d.clock.rootOn = true) : (d.event n).clock.rootOn = true := by
  rw [event_running n hr]
  exact (accept_rootOn ..).trans hr

/-- An event that is presented while ROOT runs touches the clock and the event controller. -/
theorem event_frame {d : Dev} (n : Nat) (hr : d.clock.rootOn = true) :
    d.event n = { d with clock := (d.event n).clock, evc := (d.event n).evc } := by
  rw [event_running n hr]
  rfl

/-- The conditions of the kind L sources stand as they were: an event sets none by itself. -/
theorem event_cond {d : Dev} (n : Nat) (hr : d.clock.rootOn = true) : (d.event n).evc.cond = d.evc.cond := by
  rw [event_running n hr]
  rfl

theorem raise_running {d : Dev} (n : Nat) (hr : d.clock.rootOn = true) :
    d.raise n = { Dev.setPending n { d with clock := d.clock.follow d.wantDepth (sourcePort n) } with
      clock := { d.clock.follow d.wantDepth (sourcePort n) with evEsn := d.clock.evEsn, evTb := d.clock.evTb } } := by
  rw [Dev.raise, Dev.aside, if_pos hr]
  have hs : Dev.reach n { d with clock := d.clock.follow d.wantDepth (sourcePort n) } =
      Dev.setPending n { d with clock := d.clock.follow d.wantDepth (sourcePort n) } := reach_running n ((follow_rootOn ..).trans hr)
  rw [hs]
  rfl

theorem raise_frame {d : Dev} (n : Nat) (hr : d.clock.rootOn = true) :
    d.raise n = { d with clock := (d.raise n).clock, evc := (d.raise n).evc } := by
  rw [raise_running n hr]
  rfl

theorem raise_beside {d : Dev} (n : Nat) (hr : d.clock.rootOn = true) : RaisedBeside n d (d.raise n) := by
  rw [raise_running n hr]
  have he := follow_evEsn d.wantDepth (sourcePort n) d.clock
  refine ⟨rfl, rfl, follow_esn .., ?_⟩
  rw [← he]
  rfl

theorem undoze_awake {d : Dev} (h : d.pwr.dev ≠ .doze) : d.undoze = d := if_neg (by simpa using h)

theorem signal_awake {d : Dev} (n : Nat) (h : d.pwr.dev ≠ .doze) : d.signal n = d.event n := by rw [Dev.signal, undoze_awake h]

theorem alsoSignal_awake {d : Dev} (n : Nat) (h : d.pwr.dev ≠ .doze) : d.alsoSignal n = d.raise n := by rw [Dev.alsoSignal, undoze_awake h]

theorem run_of_unblocked {c : Cmd} {d : Dev} (h : d.unblocked c = true) : d.pwr.dev = .run := by
  by_contra hne
  simp [Dev.unblocked, hne] at h

/-- A command that may start finds the device in RUN. -/
theorem run_of_canRun {op tag : Nat} {c : Cmd} {d : Dev} (h : d.canRun op tag c = true) : d.pwr.dev = .run := by
  simp only [Dev.canRun, Dev.ready, Dev.startable, Bool.and_eq_true] at h
  exact run_of_unblocked h.1.1.1.1.1.2.1.1.1

/-! ### The host port's conditions -/

theorem hostUp_iff {d : Dev} : d.hostUp = true ↔
    d.pwr.dev = .run ∧ d.start.waitHrst = false ∧ d.clock.rootOn = true ∧ d.jrnl.hold = false ∧ d.jrnl.buf.length < 900 := by
  simp [Dev.hostUp, and_assoc]

theorem run_of_hostUp {d : Dev} (h : d.hostUp = true) : d.pwr.dev = .run := (hostUp_iff.mp h).1
theorem rootOn_of_hostUp {d : Dev} (h : d.hostUp = true) : d.clock.rootOn = true := (hostUp_iff.mp h).2.2.1

theorem awake_of_hostUp {d : Dev} (h : d.hostUp = true) : d.awake = true := by simp [Dev.awake, run_of_hostUp h]

theorem not_doze_of_run {d : Dev} (h : d.pwr.dev = .run) : d.pwr.dev ≠ .doze := by rw [h]; decide

end Sys2Proof.Machine
end

section
/-!
PROOFS. The LF field unit (chapter 9).
-/

namespace Sys2Proof.Machine

/-! ### POLL_CONFIG, POLL_START, POLL_STOP (R206) -/

theorem pollConfig_answers {tag : Nat} {c : Cmd} {s : State} (hz : c.zeroFrom 6 = true) (h : s.canRun 0x10 tag c = true)
    (hok : pollConfigOk c.payload = true) :
    Answers (.pollConfig tag) s fun t => t.ended tag = some (.gives .done []) ∧
      t.lf = { s.lf with
        config := some ⟨(c.payload.getD 0 0).toNat, bit 0 (c.payload.getD 1 0).toNat, bit 1 (c.payload.getD 1 0).toNat,
          (c.payload.drop 2).map (·.toNat)⟩,
        rotate := 7 } ∧
      OnlyCommands { s.toDev with lf := t.lf } t := by
  refine answers_command rfl h (t := Dev.fail tag .done { s.markStart c with lf := { s.lf with
        config := some ⟨(c.payload.getD 0 0).toNat, bit 0 (c.payload.getD 1 0).toNat, bit 1 (c.payload.getD 1 0).toNat,
          (c.payload.drop 2).map (·.toNat)⟩,
        rotate := 7 } }) ?_ rfl ⟨ended_fail (markStart_isSome h), rfl, rfl⟩
  simp only [started_payload, started_zeroFrom, hok, hz, Bool.not_true, Bool.or_self, Bool.false_eq_true, if_false]
  rfl

theorem pollStart_answers {tag : Nat} {c : Cmd} {s : State} (hz : c.zeroFrom 6 = true) (h : s.canRun 0x11 tag c = true)
    (hp : c.plen = 0) :
    Answers (.pollStart tag) s fun t => OnlyCommands s.toDev t ∧
      t.ended tag = some (if s.cru.wakeId = 0 ∨ s.lf.config.any (fun x => x.mask != 0) = false then .gives .stateConflict []
        else ⟨.done, [], .poll true, none, []⟩) := by
  refine (answers_finish rfl h ?_).imp fun t ht => ht.symm
  simp only [started_zeroFrom, started_plen, hz, hp, Bool.not_true, bne_self_eq_false, Bool.or_self, Bool.false_eq_true, if_false]
  have hb : (decide (s.cru.wakeId = 0) || !s.lf.config.any (fun x => x.mask != 0)) = true ↔
      s.cru.wakeId = 0 ∨ s.lf.config.any (fun x => x.mask != 0) = false := by
    rw [Bool.or_eq_true, decide_eq_true_eq, Bool.not_eq_true']
  by_cases hc : s.cru.wakeId = 0 ∨ s.lf.config.any (fun x => x.mask != 0) = false
  · rw [if_pos hc]
    exact if_pos (hb.mpr hc)
  · rw [if_neg hc]
    exact if_neg (mt hb.mp hc)

theorem stopPolling_idle {d : Dev} (h : d.lf.emission = none) :
    d.stopPolling = { d with lf := { d.lf with polling := false, noisy := false },
                             uhf := { d.uhf with windows := d.uhf.windows.filter (fun w => w.tag.isSome) } } := by
  simp only [Dev.stopPolling, h]

theorem pollStop_answers {tag : Nat} {c : Cmd} {s : State} (hz : c.zeroFrom 6 = true) (h : s.canRun 0x12 tag c = true)
    (he : s.lf.emission = none) :
    Answers (.pollStop tag) s fun t => t.ended tag = some (.gives .done []) ∧ t.lf.polling = false ∧
      (∀ w ∈ t.uhf.windows, w.tag.isSome = true) ∧ t.lf.aerials = s.lf.aerials ∧ t.lf.config = s.lf.config ∧
      OnlyCommands { s.toDev with lf := t.lf, uhf := t.uhf } t := by
  refine answers_command rfl h (t := (s.markStart c).stopPolling.fail tag .done) (if_pos hz) ?_ ?_
  all_goals rw [stopPolling_idle (d := s.markStart c) he]
  · rfl
  · exact ⟨ended_fail (markStart_isSome h), rfl, fun w hw => (List.mem_filter.mp hw).2, rfl, rfl, rfl⟩

/-! ### LF_WAKE_LOCATE and LF_TELEGRAM (R197, R199) -/

theorem takeLf_idle {d : Dev} (h : d.lf.emission = none) : d.takeLf = d := by simp only [Dev.takeLf, h]

@[simp] theorem lfHeat_lf (d : Dev) : d.lfHeat.lf = d.lf := Dev.lfHeat_get (pt := .lf) d (by decide)

/-- A telegram that begins is on the air, with its emission and its bytes. -/
theorem send_emission (e : Emission) (mask b code : Nat) (data : Bytes) (d : Dev) :
    (d.send e mask b code data).lf.emission.map (fun x => x.2) = some (e, mask) := rfl

theorem send_cmd (e : Emission) (mask b code : Nat) (data : Bytes) (d : Dev) (tag : Nat) :
    (d.send e mask b code data).cmd tag = d.cmd tag :=
  cmd_of_cmds (Dev.send_get (pt := .cmds) e mask b code data d (by decide)) tag

theorem send_air (e : Emission) (mask b code : Nat) (data : Bytes) (d : Dev) : (d.send e mask b code data).lf.air = d.telegram code data := by
  have h : (d.emit e mask b (d.telegramLen b data.length) []).cru = d.cru := Dev.emit_get (pt := .cru) e mask b _ [] d (by decide)
  simp only [Dev.send, Dev.sendAt, Dev.telegram, h]

/-- A command that has put a telegram on the air touches nothing but the LF unit and what every event may. -/
theorem eventsOnly_sent {s : Dev} {c : Cmd} {tag : Nat} {w : Work} {e : Emission} {mask b code : Nat} {data : Bytes} {t : Dev}
    (ht : t = Dev.settle s (((s.markStart c).send e mask b code data).setPhase tag (.running w))) :
    EventsOnly { s with lf := t.lf } t := by
  refine eventsOnly_of_get fun pt hpt => ?_
  by_cases hl : pt = .lf
  · subst hl; rfl
  · simp [eventParts] at hpt
    subst ht
    simp [hpt, hl]


theorem lfWakeLocate_answers {tag : Nat} {c : Cmd} {s : State} (he : s.lf.emission = none) (h : s.canRun 0x13 tag c = true)
    (hw : c.w 6 < 256) (hs : c.w 7 = 0 ∨ (32 ≤ c.w 7 ∧ c.w 7 ≤ 128 ∧ c.w 7 % 8 = 0)) (hr : c.w 8 ≤ 2) (hz : c.zeroFrom 11 = true) :
    Answers (.lfWakeLocate tag) s fun t =>
      let want := s.maskOf (c.w 6)
      let mask := s.usable want
      if mask = 0 then t.ended tag = some (.gives (s.noAerial want) []) ∧ OnlyCommands s.toDev t
      else
        let slot := if c.w 7 = 0 then s.setting 0x020006 else c.w 7
        t.working tag = some (.locate 0 mask slot (c.w2 9) []) ∧
        t.lf.emission.map (fun e => e.2) = some (.command tag, mask) ∧
        t.lf.air = s.telegram 2 (beBytes 4 (c.w2 9) ++ [byte mask, byte (slot / 8)]) ∧
        EventsOnly { s.toDev with lf := t.lf } t := by
  have hbad : ¬(decide (256 ≤ c.w 6) || (c.w 7 != 0 && (decide (c.w 7 < 32) || decide (128 < c.w 7) || c.w 7 % 8 != 0)) ||
      decide (2 < c.w 8) || !c.zeroFrom 11) = true := by
    rcases hs with hs | ⟨h1, h2, h3⟩ <;> simp_all <;> omega
  dsimp only
  split
  · next hm =>
    refine answers_finish rfl h ?_
    simp only [started_w, started_w2, started_zeroFrom, markStart_usable, markStart_maskOf, hm, if_true]
    exact if_neg hbad
  · next hm =>
    refine answers_started rfl h
      (t := ((s.markStart c).send (.command tag) (s.usable (s.maskOf (c.w 6))) (s.bitTime (c.w 8)) 2
        (beBytes 4 (c.w2 9) ++ [byte (s.usable (s.maskOf (c.w 6))), byte ((if c.w 7 = 0 then s.setting 0x020006 else c.w 7) / 8)])).setPhase tag
          (.running (.locate 0 (s.usable (s.maskOf (c.w 6))) (if c.w 7 = 0 then s.setting 0x020006 else c.w 7) (c.w2 9) []))) ?_ ?_
    · simp only [started_w, started_w2, started_zeroFrom, markStart_usable, markStart_maskOf, hm,
        takeLf_idle (d := s.markStart c) he, markStart_bitTime, markStart_setting]
      exact if_neg hbad
    · refine ⟨?_, ?_, ?_, eventsOnly_sent rfl⟩
      · rw [settle_working]
        exact working_setPhase ((congrArg Option.isSome (send_cmd ..)).trans (markStart_isSome h))
      · rw [settle_lf]
        exact send_emission ..
      · rw [settle_lf]
        exact (send_air ..).trans (markStart_telegram ..)

theorem lfTelegram_answers {tag : Nat} {c : Cmd} {s : State} (he : s.lf.emission = none) (h : s.canRun 0x14 tag c = true)
    (hr : c.w 7 ≤ 2) (hlo : 0x40 ≤ c.w 8) (hhi : c.w 8 ≤ 0x50) (hm : c.w 6 < 256) (hp : c.plen = (c.w 8 - 0x40 + 1) / 2)
    (hz : c.zeroFrom 9 = true) :
    Answers (.lfTelegram tag) s fun t =>
      let mask := s.usable (c.w 6)
      if mask = 0 then t.ended tag = some (.gives (s.noAerial (c.w 6)) []) ∧ OnlyCommands s.toDev t
      else
        t.working tag = some .telegram ∧ t.lf.emission.map (fun e => e.2) = some (.command tag, mask) ∧
        t.lf.air = s.telegram (c.w 8) (c.bytes.take (c.w 8 - 0x40)) ∧ EventsOnly { s.toDev with lf := t.lf } t := by
  have hbad : ¬(decide (256 ≤ c.w 6) || decide (2 < c.w 7) || decide (0x51 ≤ c.w 8) || !c.zeroFrom 9) = true := by
    simp [hz]; omega
  have hcode : ¬c.w 8 < 0x40 := by omega
  have hplen : ¬(c.plen != (c.w 8 - 0x40 + 1) / 2) = true := by simp [hp]
  dsimp only
  split
  · next hm =>
    refine answers_finish rfl h ?_
    simp only [started_w, started_plen, started_zeroFrom, markStart_usable, hm, if_true]
    exact (if_neg hbad).trans ((if_neg hcode).trans (if_neg hplen))
  · next hm =>
    refine answers_started rfl h
      (t := ((s.markStart c).send (.command tag) (s.usable (c.w 6)) (s.bitTime (c.w 7)) (c.w 8)
        (c.bytes.take (c.w 8 - 0x40))).setPhase tag (.running .telegram)) ?_ ⟨?_, ?_, ?_, eventsOnly_sent rfl⟩
    · simp only [started_w, started_plen, started_bytes, started_zeroFrom, markStart_usable, hm, takeLf_idle (d := s.markStart c) he,
        markStart_bitTime]
      exact (if_neg hbad).trans ((if_neg hcode).trans (if_neg hplen))
    · rw [settle_working]
      exact working_setPhase ((congrArg Option.isSome (send_cmd ..)).trans (markStart_isSome h))
    · rw [settle_lf]
      exact send_emission ..
    · rw [settle_lf]
      exact (send_air ..).trans (markStart_telegram ..)

/-! ### AERIAL_CAL (R211) -/

theorem aerial_of_lf {s t : Dev} (h : t.lf = s.lf) (n : Nat) : t.aerial n = s.aerial n := by simp only [Dev.aerial, h]

theorem putAerial_aerial {n m : Nat} (a : Aerial) (d : Dev) (h : n ≠ m) : (d.putAerial n a).aerial m = d.aerial m := by
  simp [Dev.putAerial, Dev.aerial, List.getD_eq_getElem?_getD, List.getElem?_set_ne h]

theorem signal_aerial (n m : Nat) (d : Dev) : (d.signal n).aerial m = d.aerial m :=
  aerial_of_lf (Dev.signal_get (pt := .lf) n d (by decide)) m

theorem latchFault_aerial {n m : Nat} (b : Nat) (d : Dev) (h : n ≠ m) : (d.latchFault b n).aerial m = d.aerial m := by
  unfold Dev.latchFault
  dsimp only
  split
  · rfl
  · rw [signal_aerial, putAerial_aerial _ _ h]

theorem foldl_aerial {α : Type} {f : Dev → α → Dev} {m : Nat} {l : List α} (h : ∀ d, ∀ a ∈ l, (f d a).aerial m = d.aerial m) (d : Dev) :
    (l.foldl f d).aerial m = d.aerial m := by
  induction l generalizing d with
  | nil => rfl
  | cons a l ih => rw [List.foldl_cons, ih fun d b hb => h d b (List.mem_cons_of_mem _ hb), h _ _ List.mem_cons_self]

/-- A fault found at an aerial leaves the others, but for an OVERTEMP of their bank (R190). -/
theorem faultOn_aerial {b n m : Nat} (d : Dev) (h : n ≠ m) (hb : b = 3 → n / 4 ≠ m / 4) : (d.faultOn b n).aerial m = d.aerial m := by
  unfold Dev.faultOn
  split
  · next h3 =>
    refine foldl_aerial (fun d i hi => latchFault_aerial 3 d fun hm => hb h3 ?_) d
    have := List.mem_range.mp hi
    omega
  · exact latchFault_aerial b d h

/-- The sweep of an aerial leaves the others, but for an OVERTEMP found in their bank (R211). -/
theorem calAerial_aerial {n m fault : Nat} (apply : Bool) (peaks : List Nat) (d : Dev) (h : n ≠ m)
    (hb : n / 4 = m / 4 → bit 3 fault = false) : (d.calAerial apply n peaks fault).1.aerial m = d.aerial m := by
  have hest : ∀ (d : Dev) (k v : Nat), (d.setEst k v).aerial m = d.aerial m := fun d k v =>
    aerial_of_lf (Dev.setEst_get (pt := .lf) k v d (by decide)) m
  have hwait : ∀ (d : Dev) (k : Nat), (d.wait k).aerial m = d.aerial m := fun d k =>
    aerial_of_lf (Dev.wait_get (pt := .lf) k d (by decide)) m
  unfold Dev.calAerial
  extract_lets d1 seen found d2 a d3 d4 best d5
  have h4 : d4.aerial m = d3.aerial m := foldl_aerial (fun d b hm => faultOn_aerial d h fun h3 hbank => by
    subst h3
    have hf : found.testBit 3 = true := (List.mem_filter.mp hm).2
    have hn := hb hbank
    revert hf
    unfold found
    split <;> simp_all [bit]) d3
  have h5 : d5.aerial m = d4.aerial m := by
    unfold d5
    split
    · exact hest ..
    · rfl
  have h1 : d1.aerial m = d.aerial m := putAerial_aerial _ d h
  rw [h5, h4, putAerial_aerial _ _ h, hwait, h1]

theorem calAerial_length (apply : Bool) (n : Nat) (peaks : List Nat) (fault : Nat) (d : Dev) :
    (d.calAerial apply n peaks fault).2.length = 2 := rfl

theorem calFrom_length (apply : Bool) (mask : Nat) (peaks : List (List Nat)) (faults : List Nat) (k n : Nat) (d : Dev) :
    (d.calFrom apply mask peaks faults k n).2.length = 2 * k := by
  induction k generalizing n d with
  | zero => rfl
  | succ k ih =>
    simp only [Dev.calFrom, List.length_append, ih]
    split <;> simp [calAerial_length] <;> omega

/-- The words of an aerial that is not named are 0 (R211). -/
theorem calFrom_words (apply : Bool) (mask : Nat) (peaks : List (List Nat)) (faults : List Nat) {k n m : Nat} (d : Dev)
    (hm : bit (n + m) mask = false) (hk : m < k) :
    (d.calFrom apply mask peaks faults k n).2.getD (2 * m) 0 = 0 ∧ (d.calFrom apply mask peaks faults k n).2.getD (2 * m + 1) 0 = 0 := by
  induction k generalizing n m d with
  | zero => omega
  | succ k ih =>
    simp only [Dev.calFrom]
    cases m with
    | zero => simp [show bit n mask = false from hm]
    | succ m =>
      have hx : (if bit n mask = true then d.calAerial apply n (peaks.getD n []) (faults.getD n 0) else (d, [0, 0])).2.length = 2 := by
        split <;> rfl
      generalize (if bit n mask = true then d.calAerial apply n (peaks.getD n []) (faults.getD n 0) else (d, [0, 0])) = x at hx
      rw [List.getD_append_right _ _ _ _ (by omega), List.getD_append_right _ _ _ _ (by omega), hx,
        show 2 * (m + 1) - 2 = 2 * m by omega, show 2 * (m + 1) + 1 - 2 = 2 * m + 1 by omega]
      exact ih x.1 (by rwa [Nat.add_right_comm]) (by omega)

/-- An aerial that is not named keeps its state, but for an OVERTEMP found in its bank (R211). -/
theorem calFrom_aerial (apply : Bool) (mask : Nat) (peaks : List (List Nat)) (faults : List Nat) {m : Nat} (hm : bit m mask = false)
    (hb : ∀ i, bit i mask = true → i / 4 = m / 4 → bit 3 (faults.getD i 0) = false) (k n : Nat) (d : Dev) :
    (d.calFrom apply mask peaks faults k n).1.aerial m = d.aerial m := by
  induction k generalizing n d with
  | zero => rfl
  | succ k ih =>
    simp only [Dev.calFrom]
    rw [ih]
    split
    · next hn => exact calAerial_aerial apply _ d (fun h => by simp [h, hm] at hn) (hb n hn)
    · rfl

/-- A command that has ended touches nothing but the LF unit and what every event may. -/
theorem eventsOnly_calibrated {s : Dev} {c : Cmd} {tag : Nat} {o : Result} {apply : Bool} {mask : Nat} {peaks : List (List Nat)}
    {faults : List Nat} {t : Dev}
    (ht : t = Dev.settle s ((((s.markStart c).lfHeat.drive []).calFrom apply mask peaks faults 8 0).1.finish tag o)) :
    EventsOnly { s with lf := t.lf } t := by
  refine eventsOnly_of_get fun pt hpt => ?_
  by_cases hl : pt = .lf
  · subst hl; rfl
  · simp [eventParts] at hpt
    subst ht
    simp [hpt, hl]

theorem aerialCal_answers {tag : Nat} {peaks : List (List Nat)} {faults : List Nat} {c : Cmd} {s : State}
    (h : s.canRun 0x15 tag c = true) (hm : c.w 6 < 256) (ha : c.w 7 ≤ 1) (hz : c.zeroFrom 8 = true) (he : s.lf.emission = none) :
    Answers (.aerialCal tag peaks faults) s fun t =>
      let named := (List.range 8).filter (fun n => bit n (c.w 6) && s.domOn (aerialBank n))
      if named = [] then t.ended tag = some (.gives .stateConflict []) ∧ OnlyCommands s.toDev t
      else
        ∃ ws, t.ended tag = some (.gives (if named.any (fun n => (t.aerial n).diag != 0) then .hwFault else .done) ws) ∧
          ws.length = 16 ∧ (∀ n, n < 8 → n ∉ named → ws.getD (2 * n) 0 = 0 ∧ ws.getD (2 * n + 1) 0 = 0 ∧
            ((∀ m ∈ named, m / 4 = n / 4 → bit 3 (faults.getD m 0) = false) → t.aerial n = s.aerial n)) ∧
          EventsOnly { s.toDev with lf := t.lf } t := by
  have hbad : ¬(decide (256 ≤ c.w 6) || decide (1 < c.w 7) || !c.zeroFrom 8) = true := by simp [hz]; omega
  extract_lets named
  generalize hM : bitsNat ((List.range 8).map (fun n => bit n (c.w 6) && s.domOn (aerialBank n))) = mask
  have hbit : ∀ n, bit n mask = decide (n ∈ named) := by
    intro n
    rw [← hM, bit_bitsNat]
    by_cases hn : n < 8
    · simp [named, hn, List.getD_eq_getElem?_getD]
    · simp [named, hn, List.getD_eq_getElem?_getD]
  have hmask : mask = 0 ↔ named = [] := by
    constructor
    · intro h0
      refine List.eq_nil_iff_forall_not_mem.mpr fun n hn => ?_
      have := hbit n
      simp [h0, hn, bit] at this
    · intro h0
      refine Nat.eq_of_testBit_eq fun n => ?_
      simpa [h0, bit] using hbit n
  have hsel : bitsOf 8 mask = named := by
    have hbit' : ∀ n, mask.testBit n = decide (n ∈ named) := hbit
    simp only [bitsOf, hbit']
    refine List.filter_congr fun n hn => ?_
    simp only [named, List.mem_filter, hn, true_and, Bool.decide_eq_true]
  split
  · next h0 =>
    refine answers_finish rfl h ?_
    simp only [started_w, started_zeroFrom, markStart_domOn, hM, hmask.mpr h0, if_true]
    exact if_neg hbad
  · next h0 =>
    generalize hr : ((s.markStart c).lfHeat.drive []).calFrom (decide (c.w 7 = 1)) mask peaks faults 8 0 = r
    have hra : ∀ n, (Dev.settle s.toDev (r.1.finish tag
        ⟨if named.any (fun n => (r.1.aerial n).diag != 0) then .hwFault else .done, r.2, .none, none, []⟩)).aerial n = r.1.aerial n := fun n =>
      aerial_of_lf (settle_lf ..) n
    refine answers_started rfl h (t := r.1.finish tag
        ⟨if named.any (fun n => (r.1.aerial n).diag != 0) then .hwFault else .done, r.2, .none, none, []⟩) ?_
      ⟨r.2, ?_, ?_, fun n hn hnot => ?_, ?_⟩
    · simp only [started_w, started_zeroFrom, markStart_domOn, hM, mt hmask.mp h0, if_false, takeLf_idle (d := s.markStart c) he, ← hr, hsel]
      exact if_neg hbad
    · rw [settle_ended]
      simp only [hra]
      refine ended_finish ?_
      rw [← hr, cmd_of_cmds (Dev.calFrom_get (pt := .cmds) _ _ _ _ _ _ _ (by decide)), cmd_of_cmds (Dev.drive_get (pt := .cmds) _ _ (by decide)),
        cmd_of_cmds (Dev.lfHeat_get (pt := .cmds) _ (by decide))]
      exact markStart_isSome h
    · rw [← hr]
      exact calFrom_length ..
    · have hno : bit (0 + n) mask = false := by simpa [hbit] using hnot
      rw [← hr]
      refine ⟨(calFrom_words _ mask peaks faults _ hno hn).1, (calFrom_words _ mask peaks faults _ hno hn).2, fun hot => ?_⟩
      rw [hr, hra, ← hr, calFrom_aerial _ mask peaks faults (by simpa using hno) (fun i hi => hot i (by simpa [hbit] using hi))]
      exact aerial_of_lf (s := (s.markStart c).lfHeat) rfl n |>.trans (aerial_of_lf (lfHeat_lf _) n)
    · subst hr
      exact eventsOnly_calibrated rfl

/-- Settles O7. -/
theorem lfCommands : Obligations.LfCommands := by
  unfold Obligations.LfCommands
  exact ⟨fun tag c s hz => ⟨pollConfig_answers hz, pollStart_answers hz, pollStop_answers hz⟩,
    fun tag c s he => ⟨lfWakeLocate_answers he, lfTelegram_answers he⟩,
    fun tag peaks faults c s h hm ha hz he _ => aerialCal_answers h hm ha hz he⟩

end Sys2Proof.Machine
end

section
/-!
PROOFS. UWB ranging (chapter 11).
-/

namespace Sys2Proof.Machine

/-! ### RANGE_BOUND (R241, R250) -/

/-- The exchange is prepared: its anchors, and the aerials to which STANDBY is owed (R258, R384). -/
def Dev.armBase (mask : Nat) (x : RangeRun) (d : Dev) : Dev := { d.anchorsFor x with lf := { d.lf with standbyDue := mask } }

theorem armBase_get {pt : Part} (mask : Nat) (x : RangeRun) (d : Dev) (h : pt ∉ [.lf, .uwb]) : (d.armBase mask x).get pt = d.get pt := by
  simp at h
  exact (Dev.get_with_lf _ _ h.1).trans (Dev.anchorsFor_get _ _ h.2)

/-- RANGE_ARM goes out: what RANGE_BOUND leaves behind its checks. -/
def Dev.armed (tag mask : Nat) (c : Cmd) (k : TokenSession) (d : Dev) : Dev :=
  let x := d.newRange k (c.w 7) (c.w 8)
  (Dev.send (.command tag) mask (d.bitTime 0) 6 (beBytes 2 x.x ++ [armByte x, byte (x.da / 25)]) (d.armBase mask x)).setRange tag x

theorem armed_get {pt : Part} (tag mask : Nat) (c : Cmd) (k : TokenSession) (d : Dev) (h : pt ∉ [.lf, .uwb] ++ eventParts) :
    (d.armed tag mask c k).get pt = d.get pt := by
  simp [eventParts] at h
  simp [Dev.armed, armBase_get, h]

theorem armed_working {tag mask : Nat} {c : Cmd} {k : TokenSession} {d : Dev} (h : (d.cmd tag).isSome = true) :
    (d.armed tag mask c k).working tag = some (.range (d.newRange k (c.w 7) (c.w 8))) :=
  working_setPhase ((congrArg Option.isSome (send_cmd ..)).trans h)

theorem send_uwb (e : Emission) (mask b code : Nat) (data : Bytes) (d : Dev) : (d.send e mask b code data).uwb = d.uwb :=
  Dev.send_get (pt := .uwb) e mask b code data d (by decide)

theorem armed_x (tag mask : Nat) (c : Cmd) (k : TokenSession) (d : Dev) : (d.armed tag mask c k).uwb.x = d.uwb.x := by
  have h : (d.armed tag mask c k).get .uwb = (d.armBase mask (d.newRange k (c.w 7) (c.w 8))).get .uwb := by simp [Dev.armed]
  exact (congrArg Uwb.x h).trans rfl

@[simp] theorem markStart_nextX (c : Cmd) (d : Dev) : (d.markStart c).nextX = d.nextX := rfl
@[simp] theorem markStart_uwbBad (c : Cmd) (d : Dev) : (d.markStart c).uwbBad = d.uwbBad := rfl
@[simp] theorem markStart_newRange (c : Cmd) (d : Dev) (k : TokenSession) (ch b : Nat) :
    (d.markStart c).newRange k ch b = d.newRange k ch b := rfl

/-- RANGE_BOUND of a command that may run: its checks in their order (R250). -/
theorem rangeBound_row {tag : Nat} {c : Cmd} {s : Dev} (h : s.canRun 0x20 tag c = true) (hm : c.w 6 < 256)
    (hc : c.w 7 = 0 ∨ c.w 7 = 5 ∨ c.w 7 = 9) (hz : c.zeroFrom 9 = true) (he : s.lf.emission = none) :
    rangeBound tag s = match s.tok.session with
      | none => (s.markStart c).fail tag .stateConflict
      | some x =>
        if 65535 < s.nextX then (s.markStart c).fail tag .stateConflict
        else if s.uwbBad = true then (s.markStart c).fail tag .hwFault
        else if s.usable (s.maskOf (c.w 6)) = 0 then (s.markStart c).fail tag (s.noAerial (s.maskOf (c.w 6)))
        else (s.markStart c).armed tag (s.usable (s.maskOf (c.w 6))) c x := by
  have hbad : ¬(decide (256 ≤ c.w 6) || (c.w 7 != 0 && c.w 7 != 5 && c.w 7 != 9) || !c.zeroFrom 9) = true := by
    simp [hz]; omega
  refine (startCmd_of_canRun _ h).trans ((if_neg hbad).trans ?_)
  simp only [Dev.markStart_tok]
  cases s.tok.session with
  | none => rfl
  | some x =>
    have ht : ((s.markStart c).anchorsFor (s.newRange x (c.w 7) (c.w 8))).takeLf = (s.markStart c).anchorsFor (s.newRange x (c.w 7) (c.w 8)) :=
      takeLf_idle he
    simp only [started_w, markStart_nextX, markStart_uwbBad, markStart_usable, markStart_maskOf, markStart_noAerial, markStart_newRange, ht]
    rfl

theorem rangeBound_answers {tag : Nat} {c : Cmd} {s : State} (h : s.canRun 0x20 tag c = true) (hm : c.w 6 < 256)
    (hc : c.w 7 = 0 ∨ c.w 7 = 5 ∨ c.w 7 = 9) (hz : c.zeroFrom 9 = true) (he : s.lf.emission = none) :
    Answers (.rangeBound tag) s fun t =>
      match s.tok.session with
      | none => t.ended tag = some (.gives .stateConflict []) ∧ OnlyCommands s.toDev t
      | some x =>
        if 65535 < s.nextX then t.ended tag = some (.gives .stateConflict []) ∧ OnlyCommands s.toDev t
        else if s.uwbBad = true then t.ended tag = some (.gives .hwFault []) ∧ OnlyCommands s.toDev t
        else if s.usable (s.maskOf (c.w 6)) = 0 then
          t.ended tag = some (.gives (s.noAerial (s.maskOf (c.w 6))) []) ∧ OnlyCommands s.toDev t
        else
          ∃ r, t.working tag = some (.range r) ∧ r.stage = 0 ∧ r.x = s.nextX ∧ r.slot = x.slot ∧ r.token = x.token ∧
            r.bound = (if c.w 8 = 0 then s.setting 0x040003 else min (c.w 8) (s.setting 0x040003)) ∧
            r.pollDly = s.setting 0x040010 ∧ r.stsMin = s.setting 0x040004 ∧ r.fpTol = s.setting 0x040005 ∧
            r.earlyWin = s.setting 0x040006 ∧ r.earlyMax = s.setting 0x040007 ∧ r.cfoMax = s.setting 0x040008 ∧
            t.lf.emission.map (fun e => e.2) = some (.command tag, s.usable (s.maskOf (c.w 6))) ∧ t.uwb.x = s.uwb.x ∧
            EventsOnly { s.toDev with lf := t.lf, uwb := t.uwb } t := by
  have hrow := rangeBound_row h hm hc hz he
  cases hs : s.tok.session with
  | none => exact answers_refused rfl h (by rw [hrow, hs]; rfl)
  | some k =>
    rw [hs] at hrow
    dsimp only at hrow ⊢
    split
    · next hx => exact answers_refused rfl h (hrow.trans (if_pos hx))
    · next hx =>
      rw [if_neg hx] at hrow
      split
      · next hb => exact answers_refused rfl h (hrow.trans (if_pos hb))
      · next hb =>
        rw [if_neg hb] at hrow
        split
        · next h0 => exact answers_refused rfl h (hrow.trans (if_pos h0))
        · next h0 =>
          refine answers_settle rfl (hrow.trans (if_neg h0)) ⟨s.newRange k (c.w 7) (c.w 8), ?_, rfl, rfl, rfl, rfl, rfl, rfl, rfl, rfl, rfl, rfl, rfl,
            ?_, ?_, eventsOnly_lf_uwb fun pt hpt => ?_⟩
          · rw [settle_working]
            exact armed_working (markStart_isSome h)
          · rw [settle_lf]
            rfl
          · rw [settle_uwb]
            exact armed_x ..
          · have hpt' := hpt
            simp [eventParts] at hpt'
            rw [Dev.settle_get _ _ (by simp [hpt']), armed_get _ _ _ _ _ hpt, Dev.markStart_get _ _ (by simp [hpt'])]

/-! ### UWB_CONFIG (R254) -/

theorem get_with_uwb_nv {pt : Part} (u : Uwb) (v : Nv) (d : Dev) (h : pt ∉ [.uwb, .nv]) :
    ({ d with uwb := u, nv := v } : Dev).get pt = d.get pt := by
  cases pt <;> simp at h <;> rfl

theorem uwbConfig_answers {tag : Nat} {c : Cmd} {s : State} (h : s.canRun 0x21 tag c = true) (hz : c.zeroFrom 6 = true)
    (hp : c.plen = 16) (h0 : ∀ w ∈ c.payload.drop 10, w = 0) :
    Answers (.uwbConfig tag) s fun t => t.ended tag = some (.gives .done []) ∧ t.uwb = { s.uwb with cal := c.payload } ∧
      t.nv.uwbCal = c.payload ∧ t.nv.queue = s.nv.queue ++ devWrites (some tag) [80, 79] ∧
      EventsOnly { s.toDev with uwb := t.uwb } t ∧ t.clock = s.clock ∧ t.jrnl = s.jrnl := by
  refine answers_leaves rfl ((startCmd_of_canRun _ h).trans (if_neg (by simp [hz, hp]; exact h0))) rfl
    ⟨ended_fail (markStart_isSome h), rfl, rfl, rfl, eventsOnly_uwb fun pt hpt => ?_, rfl, rfl⟩
  simp [eventParts] at hpt
  rw [Dev.fail_get _ _ _ (by simp [hpt]), Dev.recordWrite_get _ _ _ _ _ (by simp [hpt]), get_with_uwb_nv _ _ _ (by simp [hpt]),
    Dev.markStart_get _ _ (by simp [hpt])]

/-- Settles O11. -/
theorem rangingCommands : Obligations.RangingCommands := by
  unfold Obligations.RangingCommands
  exact ⟨fun tag c s => rangeBound_answers, fun tag c s => uwbConfig_answers⟩

end Sys2Proof.Machine
end

section
/-!
PROOFS. Evidence to release (chapter 13).
-/

namespace Sys2Proof.Machine

/-! ### PROX_DECIDE and POLICY_LOAD (R294–R306) -/

section
variable (c : Cmd) (d : Dev)
@[simp] theorem markStart_enrolled (n : Nat) : (d.markStart c).enrolled n = d.enrolled n := rfl
@[simp] theorem markStart_reached (w : Window) : (d.markStart c).reached w = d.reached w := rfl
@[simp] theorem markStart_now : (d.markStart c).now = d.now := rfl
@[simp] theorem markStart_freshFor (len : Nat) (e : Evidence) : (d.markStart c).freshFor len e = d.freshFor len e := rfl
@[simp] theorem markStart_evidenceList : (d.markStart c).evidenceList = d.evidenceList := rfl
@[simp] theorem markStart_newest (n : Nat) (p : EvKind → Bool) : (d.markStart c).newest n p = d.newest n p := rfl
@[simp] theorem markStart_recordAt (i esn : Nat) : (d.markStart c).recordAt i esn = d.recordAt i esn := rfl
@[simp] theorem markStart_choose (n : Nat) : (d.markStart c).choose n = d.choose n := by
  simp only [Dev.choose, markStart_newest, markStart_recordAt, markStart_freshFor, markStart_evidenceList]
@[simp] theorem markStart_kinds (len : Nat) (x : Chosen) : (d.markStart c).kinds len x = d.kinds len x := by
  simp only [Dev.kinds, markStart_freshFor]
@[simp] theorem markStart_meets (r : Rule) (z : Nat) (x : Chosen) (k : Nat) : (d.markStart c).meets r z x k = d.meets r z x k := by
  simp only [Dev.meets, markStart_kinds, markStart_freshFor]
  rfl
@[simp] theorem markStart_matches (r : Rule) (n z : Nat) (x : Chosen) : (d.markStart c).matches_ r n z x = d.matches_ r n z x := by
  have hm : (d.markStart c).meets r z x = d.meets r z x := funext (markStart_meets c d r z x)
  simp only [Dev.matches_, hm, markStart_kinds]
@[simp] theorem markStart_decide (p : Policy) (n z : Nat) (x : Chosen) : (d.markStart c).decide p n z x = d.decide p n z x := by
  simp only [Dev.decide, markStart_matches]
@[simp] theorem markStart_evaluate (p : Policy) (z n : Nat) : (d.markStart c).evaluate p z n = d.evaluate p z n := by
  simp only [Dev.evaluate, markStart_choose, markStart_decide, markStart_kinds, markStart_freshFor, markStart_now]
@[simp] theorem markStart_keyBad (n : Nat) : (d.markStart c).keyBad n = d.keyBad n := rfl
@[simp] theorem markStart_policyOk (ws : List Word) : (d.markStart c).policyOk ws = d.policyOk ws := rfl
@[simp] theorem markStart_harm : (d.markStart c).harm = d.harm := rfl
@[simp] theorem markStart_governing (z : Nat) : (d.markStart c).governing z = d.governing z := rfl
@[simp] theorem markStart_energised : (d.markStart c).energised = d.energised := rfl
end

theorem proxDecide_answers {tag : Nat} {c : Cmd} {s : State} {z n : Nat} (h : s.canRun 0x30 tag c = true) (hn : n < 32)
    (hz : z < 16 ∨ z = 0xFF) (hw : c.w 6 = n + 256 * z) (h0 : c.zeroFrom 7 = true) :
    Answers (.proxDecide tag) s fun t => OnlyCommands s.toDev t ∧
      match s.rel.policy with
      | none => t.ended tag = some (.gives .stateConflict [])
      | some p =>
        if s.enrolled n = false then t.ended tag = some (.gives .stateConflict [])
        else s.atlas.active.isSome = true →
          t.ended tag = some ⟨.done, (s.evaluate p z n).2, .decision (s.evaluate p z n).1, some 2, []⟩ := by
  have hs : c.w 6 % 256 = n := by omega
  have hq : c.w 6 / 256 = z := by omega
  have hff : (n != 0xFF) = true := by simp; omega
  have hno : ¬n = 0xFF := by omega
  have hbad : ¬((decide (32 ≤ n) && n != 0xFF) || (decide (16 ≤ z) && z != 0xFF) || !c.zeroFrom 7) = true := by simp [h0]; omega
  have hrow : proxDecide tag s.toDev = _ := (startCmd_of_canRun _ h).trans (if_neg (by simpa only [started_w, started_zeroFrom, hs, hq] using hbad))
  simp only [started_w, hs, hq, Dev.markStart_rel, Dev.markStart_atlas, markStart_enrolled, hff, hno, Bool.true_and, if_false] at hrow
  cases hp : s.rel.policy with
  | none => exact (answers_refused rfl h (by rw [hrow, hp]; rfl)).imp fun t ht => ht.symm
  | some p =>
    simp only [hp] at hrow
    dsimp only
    split
    · next he => exact (answers_refused rfl h (hrow.trans (if_pos (by simp [he])))).imp fun t ht => ht.symm
    · next he =>
      rw [if_neg (by simpa using he)] at hrow
      have hone (a b : Decision × List Word) (q : Decision × List Word → Bool) : (([a].find? q).orElse fun _ => [a].head?).getD b = a := by
        cases hq : q a <;> simp [hq]
      rw [List.map_singleton, hone, markStart_evaluate] at hrow
      split at hrow
      · next hb =>
        refine (answers_refused rfl h hrow).imp fun t ht => ⟨ht.2, fun ha => ?_⟩
        rw [Bool.and_eq_true, Option.isNone_iff_eq_none] at hb
        simp [hb.1] at ha
      · exact (answers_refused rfl h hrow).imp fun t ht => ⟨ht.2, fun _ => ht.1⟩

/-- A command on a slot whose record is bad has ended SLOT_BAD (R331). -/
theorem ended_slotFail {tag n : Nat} {d : Dev} (h : (d.cmd tag).isSome = true) : (d.slotFail tag n).ended tag = some (.gives .slotBad []) := by
  refine ended_fail ((congrArg Option.isSome (cmd_of_cmds ?_ tag)).trans h)
  exact Dev.slotBadEvent_get (pt := .cmds) _ _ (by decide)

/-- The device with a POLICY_LOAD begun and a stage of its own. -/
def Dev.policyStaged (c : Cmd) (ws : List Word) (d : Dev) : Dev := { d.markStart c with rel := { d.rel with policyStage := ws } }

theorem policyStaged_get {pt : Part} (c : Cmd) (ws : List Word) (d : Dev) (h : pt ∉ [.rel, .cmds, .pwr, .bg]) :
    (d.policyStaged c ws).get pt = d.get pt := by
  simp at h
  exact (Dev.get_with_rel _ _ h.1).trans (Dev.markStart_get _ _ (by simp [h]))

/-- POLICY_LOAD whose part lies in its place (R306). -/
theorem policyLoad_row {tag : Nat} {c : Cmd} {s : Dev} (h : s.canRun 0x35 tag c = true) (ho : c.w 6 < 1088) (hl : c.w 7 ≤ 1)
    (hz : c.zeroFrom 8 = true) (hp : c.w 6 = 0 ∨ c.w 6 = s.rel.policyStage.length) :
    policyLoad tag s =
      let ws := (if c.w 6 = 0 then [] else s.rel.policyStage) ++ c.payload
      if c.w 7 = 0 then (s.policyStaged c ws).fail tag .done
      else if s.keyBad 1 = true then (s.policyStaged c []).slotFail tag 1
      else if s.policyOk ws = true then
        ((s.policyStaged c []).recordWrite (some tag) ((List.range 34).map (fun i => 221 + i)) ((List.range 34).map (fun i => 187 + i)) .select).finish
          tag ⟨.done, [], .policy ws, none, []⟩
      else (s.policyStaged c []).fail tag .imageInvalid := by
  have hbad : ¬(decide (1088 ≤ c.w 6) || decide (1 < c.w 7) || !c.zeroFrom 8) = true := by simp [hz]; omega
  have hplace : ¬(c.w 6 != 0 && c.w 6 != s.rel.policyStage.length) = true := by simp; omega
  exact (startCmd_of_canRun _ h).trans ((if_neg hbad).trans (if_neg hplace))

theorem policyLoad_answers {tag : Nat} {c : Cmd} {s : State} (h : s.canRun 0x35 tag c = true) (ho : c.w 6 < 1088) (hl : c.w 7 ≤ 1)
    (hz : c.zeroFrom 8 = true) (hp : c.w 6 = 0 ∨ c.w 6 = s.rel.policyStage.length) :
    Answers (.policyLoad tag) s fun t =>
      let ws := (if c.w 6 = 0 then [] else s.rel.policyStage) ++ c.payload
      t.rel.policy = s.rel.policy ∧ t.rel.relay = s.rel.relay ∧ EventsOnly { s.toDev with rel := t.rel, cru := t.cru } t ∧
        (s.keyBad 1 = false → t.cru = s.cru) ∧
      (if c.w 7 = 0 then t.ended tag = some (.gives .done []) ∧ t.rel.policyStage = ws
       else if s.keyBad 1 = true then t.ended tag = some (.gives .slotBad []) ∧ t.rel.policyStage = []
       else if s.policyOk ws = true then t.ended tag = some ⟨.done, [], .policy ws, none, []⟩ ∧ t.rel.policyStage = []
       else t.ended tag = some (.gives .imageInvalid []) ∧ t.rel.policyStage = []) := by
  have hrow := policyLoad_row h ho hl hz hp
  dsimp only at hrow ⊢
  generalize (if c.w 6 = 0 then [] else s.rel.policyStage) ++ c.payload = ws at hrow ⊢
  have hs := markStart_isSome h
  by_cases h7 : c.w 7 = 0
  · refine answers_leaves rfl (hrow.trans (if_pos h7)) rfl ⟨rfl, rfl, eventsOnly_rel_cru fun pt hpt => ?_, fun _ => rfl, ?_⟩
    · simp [eventParts] at hpt
      rw [Dev.fail_get _ _ _ (by simp [hpt]), policyStaged_get _ _ _ (by simp [hpt])]
    · rw [if_pos h7]
      exact ⟨ended_fail hs, rfl⟩
  · rw [if_neg h7] at hrow
    by_cases hk : s.keyBad 1 = true
    · rw [if_pos hk] at hrow
      have hrel : ((s.policyStaged c []).slotFail tag 1).rel = { s.rel with policyStage := [] } :=
        Dev.slotFail_get (pt := .rel) _ _ _ (by decide)
      refine answers_settle rfl hrow ⟨?_, ?_, eventsOnly_rel_cru fun pt hpt => ?_, fun hn => ?_, ?_⟩
      · rw [settle_rel, hrel]
      · rw [settle_rel, hrel]
      · simp [eventParts] at hpt
        rw [Dev.settle_get _ _ (by simp [hpt]), Dev.slotFail_get _ _ _ (by simp [hpt]), policyStaged_get _ _ _ (by simp [hpt])]
      · rw [hk] at hn
        cases hn
      · rw [if_neg h7, if_pos hk, settle_ended, settle_rel, hrel]
        exact ⟨ended_slotFail hs, rfl⟩
    · rw [if_neg hk] at hrow
      by_cases hok : s.policyOk ws = true
      · refine answers_leaves rfl (hrow.trans (if_pos hok)) rfl ⟨rfl, rfl, eventsOnly_rel_cru fun pt hpt => ?_, fun _ => rfl, ?_⟩
        · simp [eventParts] at hpt
          rw [Dev.finish_get _ _ _ (by simp [hpt]), Dev.recordWrite_get _ _ _ _ _ (by simp [hpt]), policyStaged_get _ _ _ (by simp [hpt])]
        · rw [if_neg h7, if_neg hk, if_pos hok]
          exact ⟨ended_finish hs, rfl⟩
      · refine answers_leaves rfl (hrow.trans (if_neg hok)) rfl ⟨rfl, rfl, eventsOnly_rel_cru fun pt hpt => ?_, fun _ => rfl, ?_⟩
        · simp [eventParts] at hpt
          rw [Dev.fail_get _ _ _ (by simp [hpt]), policyStaged_get _ _ _ (by simp [hpt])]
        · rw [if_neg h7, if_neg hk, if_neg hok]
          exact ⟨ended_fail hs, rfl⟩

/-- Settles O15. -/
theorem decisionsAndPolicies : Obligations.DecisionsAndPolicies := by
  unfold Obligations.DecisionsAndPolicies
  exact ⟨fun tag c s z n => proxDecide_answers, fun tag c s => policyLoad_answers⟩

/-! ### START_RELEASE (R307) -/

/-- The draft of a RELEASE record: the decision it rests on, with RELSTAT as it stands. -/
def Dev.releaseDraft (d : Dev) (x : Decision) : Draft := draft 0x20 0x06 x.esn.toNat d.relstat.toNat d.relstat.toNat 0

/-- START_RELEASE has closed the relay, and the settle check is due (R307). -/
def Dev.closing (tag : Nat) (d : Dev) : Dev :=
  let t := Dev.signal 32 { d.wait (d.now + 24960) with rel := { d.rel with relay := .closing tag } }
  t.wait (t.now + t.setting 0x060003 * 124800)

theorem closing_get {pt : Part} (tag : Nat) (d : Dev) (h : pt ∉ [.rel, .clock, .pwr, .jrnl, .evc, .nv]) : (d.closing tag).get pt = d.get pt := by
  simp at h
  rw [Dev.closing, Dev.wait_get _ _ h.2.1, Dev.signal_get _ _ (by simp [h]), Dev.get_with_rel _ _ h.1, Dev.wait_get _ _ h.2.1]

theorem closing_rel (tag : Nat) (d : Dev) : (d.closing tag).rel = { d.rel with relay := .closing tag } :=
  Dev.signal_get (pt := .rel) _ _ (by decide)

/-- The result of a START_RELEASE whose coil current is in range. -/
def Dev.released (coil i : Nat) (x : Decision) (d : Dev) : Result :=
  ⟨.done, [word i, word x.slot, word coil, word (d.setting 0x060000)], .relay, none, [d.releaseDraft x]⟩

/-- START_RELEASE that may run, but for a coil out of range as the relay closes (R307). -/
theorem startRelease_row {tag coil : Nat} {c : Cmd} {s : Dev} (h : s.canRun 0x31 tag c = true) (hz : c.zeroFrom 6 = true) :
    let good := s.setting 0x060001 ≤ coil && coil < s.setting 0x060002
    (s.harm = false → startRelease tag coil s = (s.markStart c).fail tag .stateConflict) ∧
    (s.harm = true → s.governing 0 = [] → startRelease tag coil s = (s.markStart c).fail tag .policyDeny) ∧
    ∀ i x l, s.harm = true → s.governing 0 = (i, x) :: l →
      ((s.rel.diag ≠ 0 ∨ (s.energised = true ∧ good = false)) →
        startRelease tag coil s = (s.markStart c).finish tag ⟨.hwFault, [], .none, none, [s.releaseDraft x]⟩) ∧
      (s.rel.diag = 0 → good = true → startRelease tag coil s =
        (if s.energised = true then s.markStart c else (s.markStart c).closing tag).finish tag (s.released coil i x)) := by
  extract_lets good
  have hrow : startRelease tag coil s = _ := (startCmd_of_canRun _ h).trans (if_neg (by simp [hz]))
  simp only [markStart_harm, markStart_governing, Dev.markStart_rel, markStart_energised, markStart_setting] at hrow
  refine ⟨fun hh => hrow.trans (if_pos (by simp [hh])), fun hh hg => ?_, fun i x l hh hg => ?_⟩
  · rw [hg] at hrow
    exact hrow.trans (if_neg (by simp [hh]))
  · rw [hg] at hrow
    refine ⟨fun hd => hrow.trans ((if_neg (by simp [hh])).trans ?_), fun hd hgood => hrow.trans ((if_neg (by simp [hh])).trans ((if_neg (by simp [hd])).trans ?_))⟩
    · by_cases h0 : s.rel.diag = 0
      · obtain ⟨he, hc⟩ := hd.resolve_left (not_not_intro h0)
        exact (if_neg (by simp [h0])).trans ((if_pos he).trans (if_neg (Bool.not_eq_true _ ▸ hc)))
      · exact if_pos (by simpa using h0)
    · by_cases he : s.energised = true
      · rw [if_pos (c := s.energised = true) (t := s.markStart c) he]
        exact (if_pos he).trans (if_pos hgood)
      · rw [if_neg (c := s.energised = true) (t := s.markStart c) he]
        have hset (a : Nat) : ((s.markStart c).closing tag).setting a = s.setting a := by
          have : ((s.markStart c).closing tag).sets = s.sets := closing_get (pt := .sets) tag _ (by decide)
          simp only [Dev.setting, this]
        refine (if_neg he).trans (if_pos ?_)
        show (decide (((s.markStart c).closing tag).setting 0x060001 ≤ coil) && decide (coil < ((s.markStart c).closing tag).setting 0x060002)) = true
        rwa [hset, hset]

theorem startRelease_answers {tag coil : Nat} {c : Cmd} {s : State} (h : s.canRun 0x31 tag c = true) (hz : c.zeroFrom 6 = true) :
    (s.harm = false → Answers (.startRelease tag coil) s fun t => t.ended tag = some (.gives .stateConflict []) ∧ OnlyCommands s.toDev t) ∧
    (s.harm = true → s.governing 0 = [] → Answers (.startRelease tag coil) s fun t =>
      t.ended tag = some (.gives .policyDeny []) ∧ OnlyCommands s.toDev t) ∧
    (∀ i x l, s.harm = true → s.governing 0 = (i, x) :: l → s.rel.diag ≠ 0 → Answers (.startRelease tag coil) s fun t =>
      (t.ended tag).map Result.status = some .hwFault ∧ t.rel = s.rel ∧ OnlyCommands s.toDev t) ∧
    (∀ i x l, s.harm = true → s.governing 0 = (i, x) :: l → s.rel.diag = 0 → s.energised = true →
      s.setting 0x060001 ≤ coil → coil < s.setting 0x060002 → Answers (.startRelease tag coil) s fun t =>
        (t.ended tag).map (fun r => (r.status, r.payload, r.effect)) =
          some (.done, [word i, word x.slot, word coil, word (s.setting 0x060000)], .relay) ∧ OnlyCommands s.toDev t) ∧
    (∀ i x l, s.harm = true → s.governing 0 = (i, x) :: l → s.rel.diag = 0 → s.energised = true →
      (coil < s.setting 0x060001 ∨ s.setting 0x060002 ≤ coil) → Answers (.startRelease tag coil) s fun t =>
        (t.ended tag).map Result.status = some .hwFault ∧ OnlyCommands s.toDev t) := by
  obtain ⟨hharm, hdeny, hgov⟩ := startRelease_row (coil := coil) h hz
  refine ⟨fun hh => answers_refused rfl h (hharm hh), fun hh hg => answers_refused rfl h (hdeny hh hg), fun i x l hh hg hd => ?_,
    fun i x l hh hg hd he hlo hhi => ?_, fun i x l hh hg hd he hc => ?_⟩
  · obtain ⟨hbad, hgood⟩ := hgov i x l hh hg
    refine (answers_refused rfl h (hbad (.inl hd))).imp fun t ⟨ht, ho⟩ => ⟨by rw [ht]; rfl, ?_, ho⟩
    rw [ho]
  · obtain ⟨hbad, hgood⟩ := hgov i x l hh hg
    have hin := hgood hd (by simp [hlo, hhi])
    rw [if_pos he] at hin
    exact (answers_refused rfl h hin).imp fun t ⟨ht, ho⟩ => ⟨by rw [ht]; rfl, ho⟩
  · obtain ⟨hbad, hgood⟩ := hgov i x l hh hg
    refine (answers_refused rfl h (hbad (.inr ⟨he, by simp; omega⟩))).imp fun t ⟨ht, ho⟩ => ⟨by rw [ht]; rfl, ho⟩

theorem startRelease_closes {tag coil i : Nat} {x : Decision} {l : List (Nat × Decision)} {c : Cmd} {s : State}
    (h : s.canRun 0x31 tag c = true) (hz : c.zeroFrom 6 = true) (hh : s.harm = true) (hg : s.governing 0 = (i, x) :: l)
    (hd : s.rel.diag = 0) (hl : s.rel.relay = .locked) (hlo : s.setting 0x060001 ≤ coil) (hhi : coil < s.setting 0x060002) :
    Answers (.startRelease tag coil) s fun t =>
      (t.ended tag).map (fun r => (r.status, r.payload, r.effect)) =
        some (.done, [word i, word x.slot, word coil, word (s.setting 0x060000)], .relay) ∧
      t.rel = { s.rel with relay := .closing tag } ∧ EventsOnly { s.toDev with rel := t.rel } t := by
  have hrow := (((startRelease_row (coil := coil) h hz).2.2 i x l hh hg).2 hd (by simp [hlo, hhi]))
  rw [if_neg (by simp [Dev.energised, hl])] at hrow
  have hcmd : ((s.markStart c).closing tag).cmds = (s.markStart c).cmds := closing_get (pt := .cmds) tag _ (by decide)
  refine answers_settle rfl hrow ⟨?_, ?_, eventsOnly_rel fun pt hpt => ?_⟩
  · rw [settle_ended, ended_finish ((congrArg Option.isSome (cmd_of_cmds hcmd tag)).trans (markStart_isSome h))]
    rfl
  · rw [settle_rel]
    exact closing_rel ..
  · simp [eventParts] at hpt
    rw [Dev.settle_get _ _ (by simp [hpt]), Dev.finish_get _ _ _ (by simp [hpt]), closing_get _ _ (by simp [hpt]),
      Dev.markStart_get _ _ (by simp [hpt])]

/-- Settles O16. -/
theorem startReleases : Obligations.StartReleases := by
  unfold Obligations.StartReleases
  exact ⟨fun tag coil c s => startRelease_answers, fun tag coil i x l c s => startRelease_closes⟩

/-! ### The relay's lock, and the grants bound to it (R309, R459) -/

theorem key_of_mem_cells {α : Type} [DecidableEq α] {d : Nat → α} {x : Nat × α} :
    ∀ {cs : List (Nat × α)} {n : Nat}, cellsFrom d n cs = true → x ∈ cs → n ≤ x.1
  | (a, v) :: cs, n, h, hx => by
    simp only [cellsFrom, Bool.and_eq_true, decide_eq_true_eq] at h
    rcases List.mem_cons.mp hx with rfl | hx
    · exact h.1.1
    · have := key_of_mem_cells h.2 hx
      omega

/-- An entry behind a put is the one put, or one of another key. -/
theorem mem_cellPut {α : Type} [DecidableEq α] {e : α} {k : Nat} {v : α} {x : Nat × α} :
    ∀ {cs : List (Nat × α)} {n : Nat}, cellsFrom (fun _ => e) n cs = true → x ∈ cellPut e k v cs → x = (k, v) ∨ (x ∈ cs ∧ x.1 ≠ k)
  | [], _, _, hx => by
    rw [cellPut] at hx
    split at hx
    · cases hx
    · exact .inl (List.mem_singleton.mp hx)
  | (a, w) :: cs, n, h, hx => by
    simp only [cellsFrom, Bool.and_eq_true, decide_eq_true_eq] at h
    have hge {m : Nat} (hm : m ≤ a) (hx : x ∈ (a, w) :: cs) : m ≤ x.1 := by
      rcases List.mem_cons.mp hx with rfl | hx
      · exact hm
      · have := key_of_mem_cells h.2 hx
        omega
    rw [cellPut] at hx
    split at hx
    · next hlt =>
      rcases List.mem_cons.mp hx with rfl | hx
      · exact .inr ⟨List.mem_cons_self, by dsimp only; omega⟩
      · exact (mem_cellPut h.2 hx).imp_right fun hm => ⟨List.mem_cons_of_mem _ hm.1, hm.2⟩
    · split at hx
      · next heq =>
        have hrest (hx : x ∈ cs) : x ∈ (a, w) :: cs ∧ x.1 ≠ k := ⟨List.mem_cons_of_mem _ hx, by
          have := key_of_mem_cells h.2 hx
          omega⟩
        split at hx
        · exact .inr (hrest hx)
        · exact (List.mem_cons.mp hx).imp_right hrest
      · next hge' hne =>
        have hrest (hx : x ∈ (a, w) :: cs) : x ∈ (a, w) :: cs ∧ x.1 ≠ k := ⟨hx, by
          have := hge (le_refl a) hx
          omega⟩
        split at hx
        · exact .inr (hrest hx)
        · exact (List.mem_cons.mp hx).imp_right hrest

theorem cellGet_of_mem {α : Type} [DecidableEq α] {e : α} {k : Nat} {v : α} :
    ∀ {cs : List (Nat × α)} {n : Nat}, cellsFrom (fun _ => e) n cs = true → (k, v) ∈ cs → cellGet e k cs = v
  | (a, w) :: cs, n, h, hx => by
    simp only [cellsFrom, Bool.and_eq_true, decide_eq_true_eq] at h
    rw [cellGet]
    split
    · next heq =>
      rcases List.mem_cons.mp hx with hx | hx
      · cases hx; rfl
      · have := key_of_mem_cells h.2 hx
        omega
    · next hne =>
      rcases List.mem_cons.mp hx with hx | hx
      · cases hx; exact absurd rfl hne
      · exact cellGet_of_mem h.2 hx

/-- The node table is in its canonical form. -/
def NodesWf (d : Dev) : Prop := cellsWf (fun _ => Node.empty) d.kw.nodes = true

theorem endGrant_kw {origin tag op cause a : Nat} {d : Dev} (g : Grant) (hg : (d.node a).grant = some g) :
    ∃ n : Node, n.grant = none ∧ (d.endGrant origin tag op cause a).kw.nodes = cellPut Node.empty a n d.kw.nodes := by
  rw [Dev.endGrant, hg]
  dsimp only
  refine ⟨_, ?_, congrArg Kwewin.nodes ((Dev.log_get (pt := .kw) _ _ _ _ _ (by decide)).trans (Dev.raise_get (pt := .kw) _ _ (by decide)))⟩
  rfl

/-- The end of a node's grant keeps the table canonical and leaves no grant of that node. -/
theorem endGrant_grants {origin tag op cause a : Nat} {d : Dev} (hd : NodesWf d) :
    NodesWf (d.endGrant origin tag op cause a) ∧
      ∀ p, ∀ b ∈ (d.endGrant origin tag op cause a).grantsWhere p, b ∈ d.grantsWhere p ∧ b ≠ a := by
  cases hg : (d.node a).grant with
  | none =>
    have hsame : d.endGrant origin tag op cause a = d := by simp only [Dev.endGrant, hg]
    rw [hsame]
    refine ⟨hd, fun p b hb => ⟨hb, fun hba => ?_⟩⟩
    subst hba
    obtain ⟨⟨k, n⟩, hmem, rfl⟩ := List.mem_map.mp hb
    obtain ⟨hin, hp⟩ := List.mem_filter.mp hmem
    have hn : d.node k = n := cellGet_of_mem hd hin
    dsimp only at hg hp
    rw [hn] at hg
    simp [hg] at hp
  | some g =>
    obtain ⟨n, hn, hnodes⟩ := endGrant_kw (origin := origin) (tag := tag) (op := op) (cause := cause) g hg
    refine ⟨?_, fun p b hb => ?_⟩
    · rw [NodesWf, hnodes]
      exact cellsWf_put hd
    · obtain ⟨x, hmem, rfl⟩ := List.mem_map.mp hb
      obtain ⟨hin, hp⟩ := List.mem_filter.mp hmem
      rw [hnodes] at hin
      rcases mem_cellPut hd hin with rfl | ⟨hin, hne⟩
      · simp [hn] at hp
      · exact ⟨List.mem_map.mpr ⟨x, List.mem_filter.mpr ⟨hin, hp⟩, rfl⟩, hne⟩

theorem endGrants_grants {origin tag op cause : Nat} {as : List Nat} {d : Dev} (hd : NodesWf d) :
    ∀ p, ∀ b ∈ (d.endGrants origin tag op cause as).grantsWhere p, b ∈ d.grantsWhere p ∧ b ∉ as := by
  induction as generalizing d with
  | nil => exact fun p b hb => ⟨hb, List.not_mem_nil⟩
  | cons a as ih =>
    intro p b hb
    obtain ⟨hwf, hend⟩ := endGrant_grants (origin := origin) (tag := tag) (op := op) (cause := cause) (a := a) hd
    obtain ⟨hb, hnot⟩ := ih hwf p b hb
    obtain ⟨hb, hne⟩ := hend p b hb
    exact ⟨hb, by simp [hne, hnot]⟩

theorem lockRelay_rel (origin tag op cause gcause : Nat) (d : Dev) :
    (d.lockRelay origin tag op cause gcause).rel = { d.rel with relay := .locked, cause := cause } :=
  (Dev.endGrants_get (pt := .rel) _ _ _ _ _ _ (by decide)).trans
    ((Dev.log_get (pt := .rel) _ _ _ _ _ (by decide)).trans ((Dev.raise_get (pt := .rel) _ _ (by decide)).trans
      (Dev.grantFalls_get (pt := .rel) _ _ _ (by decide))))

theorem lockRelay_energised (origin tag op cause gcause : Nat) (d : Dev) :
    (d.lockRelay origin tag op cause gcause).energised = false := by rw [Dev.energised, lockRelay_rel]

theorem lockRelay_relayGrants {origin tag op cause gcause : Nat} {d : Dev} (hd : NodesWf d) :
    (d.lockRelay origin tag op cause gcause).relayGrants = [] := by
  have hkw : (d.switchOff origin tag op cause).kw = d.kw := Dev.switchOff_get (pt := .kw) _ _ _ _ _ (by decide)
  have hd' : NodesWf (d.switchOff origin tag op cause) := by rwa [NodesWf, hkw]
  refine List.eq_nil_iff_forall_not_mem.mpr fun b hb => ?_
  obtain ⟨hb, hnot⟩ := endGrants_grants hd' _ b hb
  rw [Dev.grantsWhere, hkw] at hb
  exact hnot hb

theorem grantFalls_tags (p : Nat → Bool) (cause : Nat) (d : Dev) : (d.grantFalls p cause).cmds.map Cmd.tag = d.cmds.map Cmd.tag := by
  rw [Dev.grantFalls, List.map_map]
  refine List.map_congr_left fun c _ => ?_
  dsimp only [Function.comp_apply]
  split <;> rfl

theorem lockRelay_tags (origin tag op cause gcause : Nat) (d : Dev) :
    (d.lockRelay origin tag op cause gcause).cmds.map Cmd.tag = d.cmds.map Cmd.tag := by
  have h : (d.lockRelay origin tag op cause gcause).cmds = _ := (Dev.endGrants_get (pt := .cmds) _ _ _ _ _ _ (by decide)).trans
    ((Dev.log_get (pt := .cmds) _ _ _ _ _ (by decide)).trans (Dev.raise_get (pt := .cmds) _ _ (by decide)))
  rw [h]
  refine (grantFalls_tags _ _ _).trans ?_
  rw [List.map_map]
  rfl

/-! ### START_LOCK, SESSION_OPEN, SESSION_CLOSE (R310–R314) -/

theorem startLock_answers {tag : Nat} {c : Cmd} {s : State} (h : s.canRun 0x32 tag c = true) (hz : c.zeroFrom 6 = true) :
    Answers (.startLock tag) s fun t => t.ended tag = some (.gives .done []) ∧
      t.rel = { s.rel with relay := .locked, cause := 3 } ∧ t.energised = false ∧ EventsOnly { s.toDev with rel := t.rel, kw := t.kw } t := by
  have hrow : startLock tag s.toDev = (((s.markStart c).presentOn 3).lockRelay oHost tag c.op 3 5).fail tag .done :=
    (startCmd_of_canRun _ h).trans (if_pos hz)
  have hcmds : ((s.markStart c).presentOn 3).cmds = (s.markStart c).cmds := Dev.presentOn_get (pt := .cmds) _ _ (by decide)
  have hrel : ((s.markStart c).presentOn 3).rel = s.rel := Dev.presentOn_get (pt := .rel) _ _ (by decide)
  refine answers_settle rfl hrow ⟨?_, ?_, ?_, eventsOnly_rel_kw fun pt hpt => ?_⟩
  · rw [settle_ended]
    refine ended_fail ?_
    rw [cmd_isSome_of_tags ((lockRelay_tags ..).trans (congrArg _ hcmds)), markStart_isSome h]
  · rw [settle_rel]
    exact (lockRelay_rel ..).trans (by rw [hrel])
  · rw [Dev.energised, settle_rel]
    exact lockRelay_energised oHost tag c.op 3 5 ((s.markStart c).presentOn 3)
  · simp [eventParts] at hpt
    rw [Dev.settle_get _ _ (by simp [hpt]), Dev.fail_get _ _ _ (by simp [hpt]), Dev.lockRelay_get _ _ _ _ _ _ (by simp [hpt]),
      Dev.presentOn_get _ _ (by simp [hpt]), Dev.markStart_get _ _ (by simp [hpt])]

theorem sessionOpen_answers {tag : Nat} {c : Cmd} {s : State} (h : s.canRun 0x33 tag c = true) (hzone : c.w 6 < 16) (ht : c.w 7 ≤ 3600)
    (hz : c.zeroFrom 8 = true) :
    Answers (.sessionOpen tag) s fun t => OnlyCommands s.toDev t ∧
      match s.governing (c.w 6), s.rel.sessions.findIdx? Option.isNone with
      | [], _ => t.ended tag = some (.gives .policyDeny [])
      | _, none => t.ended tag = some (.gives .limitReached [])
      | (_, x) :: _, some n => (t.ended tag).map (fun r => (r.status, r.payload)) = some (.done, [word n, word x.slot]) := by
  have hbad : ¬(decide (16 ≤ c.w 6) || decide (3600 < c.w 7) || !c.zeroFrom 8) = true := by simp [hz]; omega
  have hrow : sessionOpen tag s.toDev = _ := (startCmd_of_canRun _ h).trans (if_neg hbad)
  simp only [started_w, markStart_governing, Dev.markStart_rel] at hrow
  cases hg : s.governing (c.w 6) with
  | nil => exact (answers_refused rfl h (by rw [hrow, hg]; rfl)).imp fun t ht => ht.symm
  | cons y l =>
    cases hf : s.rel.sessions.findIdx? Option.isNone with
    | none => exact (answers_refused rfl h (by rw [hrow, hg, hf]; rfl)).imp fun t ht => ht.symm
    | some n =>
      rw [hg, hf] at hrow
      exact (answers_refused rfl h hrow).imp fun t ⟨ht, ho⟩ => ⟨ho, by rw [ht]; rfl⟩

theorem closeSession_rel {origin tag op cause num : Nat} {d : Dev} {x : Session} (hx : d.rel.sessions.getD num none = some x) :
    (d.closeSession origin tag op cause num).rel = { d.rel with sessions := d.rel.sessions.set num none } := by
  simp only [Dev.closeSession, hx]
  exact (Dev.log_get (pt := .rel) _ _ _ _ _ (by decide)).trans ((Dev.raise_get (pt := .rel) _ _ (by decide)).trans
      (Dev.grantFalls_get (pt := .rel) _ _ _ (by decide)))

theorem closeSession_tags (origin tag op cause num : Nat) (d : Dev) :
    (d.closeSession origin tag op cause num).cmds.map Cmd.tag = d.cmds.map Cmd.tag := by
  rw [Dev.closeSession]
  split
  · rfl
  · have h (x : Dev) (y : Draft) : ((x.raise 35).log origin tag op y).cmds = x.cmds :=
      (Dev.log_get (pt := .cmds) _ _ _ _ _ (by decide)).trans (Dev.raise_get (pt := .cmds) _ _ (by decide))
    dsimp only
    rw [h, grantFalls_tags]

theorem endSession_tags (origin tag op gcause cause num : Nat) (d : Dev) :
    (d.endSession origin tag op gcause cause num).cmds.map Cmd.tag = d.cmds.map Cmd.tag := by
  rw [Dev.endSession]
  split
  · exact (congrArg _ (Dev.endGrants_get (pt := .cmds) _ _ _ _ _ _ (by decide))).trans (closeSession_tags ..)
  · rfl

theorem endSession_rel {origin tag op gcause cause num : Nat} {d : Dev} {x : Session} (hx : d.rel.sessions.getD num none = some x) :
    (d.endSession origin tag op gcause cause num).rel = { d.rel with sessions := d.rel.sessions.set num none } := by
  rw [Dev.endSession, if_pos (by rw [hx]; rfl)]
  exact (Dev.endGrants_get (pt := .rel) _ _ _ _ _ _ (by decide)).trans (closeSession_rel hx)

theorem set_none_of_getD {α : Type} {l : List (Option α)} {n : Nat} (h : l.getD n none = none) : l.set n none = l := by
  refine List.ext_getElem? fun i => ?_
  rw [List.getElem?_set]
  split
  · next hi =>
    subst hi
    rw [List.getD_eq_getElem?_getD] at h
    cases hl : l[n]? with
    | none =>
      have := List.getElem?_eq_none_iff.mp hl
      rw [if_neg (by omega)]
    | some y =>
      obtain ⟨hlt, _⟩ := List.getElem?_eq_some_iff.mp hl
      simp [hl] at h
      rw [if_pos hlt, h]
  · rfl

theorem sessionClose_answers {tag : Nat} {c : Cmd} {s : State} (h : s.canRun 0x34 tag c = true) (hn : c.w 6 < 32) (hz : c.zeroFrom 7 = true) :
    Answers (.sessionClose tag) s fun t => t.ended tag = some (.gives .done []) ∧
      t.rel = { s.rel with sessions := s.rel.sessions.set (c.w 6) none } ∧ EventsOnly { s.toDev with rel := t.rel, kw := t.kw } t := by
  have hbad : ¬(decide (32 ≤ c.w 6) || !c.zeroFrom 7) = true := by simp [hz]; omega
  have hrow : sessionClose tag s.toDev = _ := (startCmd_of_canRun _ h).trans (if_neg hbad)
  simp only [started_w, Dev.markStart_rel] at hrow
  cases hx : s.rel.sessions.getD (c.w 6) none with
  | none =>
    refine (answers_refused rfl h (hrow.trans (if_pos (by rw [hx]; rfl)))).imp fun t ⟨ht, ho⟩ => ?_
    have hrel : t.rel = s.rel := by rw [ho]
    refine ⟨ht, by rw [hrel, set_none_of_getD hx], eventsOnly_rel_kw fun pt hpt => ?_⟩
    simp [eventParts] at hpt
    rw [ho]
    cases pt <;> simp at hpt <;> rfl
  | some x =>
    have hcmds : ((s.markStart c).presentOn 3).cmds = (s.markStart c).cmds := Dev.presentOn_get (pt := .cmds) _ _ (by decide)
    have hrel : ((s.markStart c).presentOn 3).rel = s.rel := Dev.presentOn_get (pt := .rel) _ _ (by decide)
    refine answers_settle rfl (hrow.trans (if_neg (by rw [hx]; exact Bool.false_ne_true))) ⟨?_, ?_, eventsOnly_rel_kw fun pt hpt => ?_⟩
    · rw [settle_ended]
      refine ended_fail ?_
      rw [cmd_isSome_of_tags ((endSession_tags ..).trans (congrArg _ hcmds)), markStart_isSome h]
    · rw [settle_rel]
      exact (endSession_rel (by rw [hrel, hx])).trans (by rw [hrel])
    · simp [eventParts] at hpt
      rw [Dev.settle_get _ _ (by simp [hpt]), Dev.fail_get _ _ _ (by simp [hpt]), Dev.endSession_get _ _ _ _ _ _ _ (by simp [hpt]),
        Dev.presentOn_get _ _ (by simp [hpt]), Dev.markStart_get _ _ (by simp [hpt])]

/-- Settles O17. -/
theorem locksAndSessions : Obligations.LocksAndSessions := by
  unfold Obligations.LocksAndSessions
  exact ⟨fun tag c s => startLock_answers,
    fun origin tag op cause gcause d hd => ⟨lockRelay_relayGrants hd, lockRelay_energised .., by rw [lockRelay_rel]⟩,
    fun tag c s => ⟨sessionOpen_answers, sessionClose_answers⟩⟩

end Sys2Proof.Machine
end

section
/-!
PROOFS. The operations of CRYPTO_OP (chapter 15).
-/

namespace Sys2Proof.Machine

/-! ### A command's parameters, and what a use of a key and a draw leave -/

section
variable (d : Dev) (c : Cmd)
@[simp] theorem started_dlen : (d.started c).dlen = c.dlen := rfl
@[simp] theorem started_alen : (d.started c).alen = c.alen := rfl
@[simp] theorem started_tlen : (d.started c).tlen = c.tlen := rfl
@[simp] theorem started_first : (d.started c).first = c.first := rfl
@[simp] theorem started_last : (d.started c).last = c.last := rfl
@[simp] theorem started_keyN : (d.started c).keyN = c.keyN := rfl
@[simp] theorem started_target : (d.started c).target = c.target := rfl
@[simp] theorem started_attrs : (d.started c).attrs = c.attrs := rfl
@[simp] theorem started_cryptoReserved (u : CryptoUse) : (d.started c).cryptoReserved u = c.cryptoReserved u := rfl
@[simp] theorem markStart_partContext (b : Cmd) : (d.markStart b).partContext (d.started c) = d.partContext c := rfl
@[simp] theorem markStart_keyGate (b : Cmd) (types : List Nat) (use : Nat) :
    (d.markStart b).keyGate (d.started c) types use = d.keyGate c types use := rfl
end

/-- A use of a key changes its count and asks for the count's page, and nothing else. -/
theorem useKey_cru (o : Option Nat) (n : Nat) (d : Dev) : (d.useKey o n).2.cru = { d.cru with uses := (d.useKey o n).2.cru.uses } := by
  rw [Dev.useKey]
  dsimp only
  repeat' split
  all_goals rfl

theorem useKey_slots (o : Option Nat) (n : Nat) (d : Dev) : (d.useKey o n).2.cru.slots = d.cru.slots := by rw [useKey_cru]

@[simp] theorem useKey_jrnl (o : Option Nat) (n : Nat) (d : Dev) : (d.useKey o n).2.jrnl = d.jrnl := Dev.useKey_get (pt := .jrnl) _ _ _ (by decide)
@[simp] theorem useKey_cmds (o : Option Nat) (n : Nat) (d : Dev) : (d.useKey o n).2.cmds = d.cmds := Dev.useKey_get (pt := .cmds) _ _ _ (by decide)
@[simp] theorem useKey_anvil (o : Option Nat) (n : Nat) (d : Dev) : (d.useKey o n).2.anvil = d.anvil := Dev.useKey_get (pt := .anvil) _ _ _ (by decide)

theorem draw_bytes {s t : Dev} (h : t.anvil = s.anvil) (n : Nat) : (t.draw n).1 = (s.draw n).1 := by simp only [Dev.draw, h]
theorem drawScalar_bytes {s t : Dev} (h : t.anvil = s.anvil) : t.drawScalar.1 = s.drawScalar.1 := by
  simp only [Dev.drawScalar, draw_bytes h]

/-! ### Parts of CRYPTO_OP that pass their checks (R359–R363) -/

theorem isCrypto_of_canRun {o tag : Nat} {c : Cmd} {d : Dev} (h : d.canRun 0x4D tag c = true) (ho : c.w 6 % 256 = o) : isCrypto o c = true := by
  simp [isCrypto, op_of_canRun h, ho]

/-- The device and the key material that a part's body works on. -/
def Dev.partBase (types : List Nat) (tag : Nat) (c : Cmd) (d : Dev) : Dev :=
  if types.isEmpty then d.markStart c else ((d.markStart c).useKey (some tag) c.keyN).2
def Dev.partKey (types : List Nat) (c : Cmd) (d : Dev) : Bytes := if types.isEmpty then [] else (d.key c.keyN).material

theorem multiPart_row {o tag use : Nat} {u : CryptoUse} {lenOk : Cmd → Context → Bool} {total : Cmd → Nat} {types : List Nat}
    {body : Cmd → Context → Bytes → Dev → Dev} {c : Cmd} {s : Dev} {x : Context} (h : s.canRun 0x4D tag c = true) (ho : c.w 6 % 256 = o)
    (hr : c.cryptoReserved u = false) (hx : s.partContext c = some x) (hpart : c.last = true ∨ (c.dlen ≠ 0 ∧ c.dlen % 64 = 0))
    (hlen : lenOk (s.started c) x = true) (hp : c.plen = (total (s.started c) + 1) / 2)
    (hk : types.isEmpty = false → s.keyGate c types use = none) :
    multiPart o u lenOk total types use body tag s = body (s.started c) x (s.partKey types c) (s.partBase types tag c) := by
  have hno : ¬((!c.last && (decide (c.dlen = 0) || c.dlen % 64 != 0)) || !lenOk (s.started c) x) = true := by
    rcases hpart with h | ⟨h1, h2⟩ <;> simp_all
  rw [multiPart, startCmd_of_sel _ h (isCrypto_of_canRun h ho)]
  simp only [started_cryptoReserved, hr, markStart_partContext, hx, markStart_keyGate, started_last, started_dlen, started_plen, hp,
    bne_self_eq_false, Bool.false_eq_true, if_false]
  refine (if_neg hno).trans ?_
  rw [Dev.partKey, Dev.partBase]
  cases ht : types.isEmpty with
  | true => rfl
  | false =>
    simp only [hk ht, Bool.false_eq_true, if_false]
    rfl

theorem partBase_get {pt : Part} (types : List Nat) (tag : Nat) (c : Cmd) (d : Dev) (h : pt ∉ [.cru] ++ eventParts) :
    (d.partBase types tag c).get pt = d.get pt := by
  simp [eventParts] at h
  rw [Dev.partBase]
  split
  · exact Dev.markStart_get _ _ (by simp [h])
  · rw [Dev.useKey_get _ _ _ (by simp [h]), Dev.markStart_get _ _ (by simp [h])]

theorem partBase_slots (types : List Nat) (tag : Nat) (c : Cmd) (d : Dev) : (d.partBase types tag c).cru.slots = d.cru.slots := by
  rw [Dev.partBase]
  split
  · rfl
  · exact useKey_slots ..

theorem partBase_jrnl (types : List Nat) (tag : Nat) (c : Cmd) (d : Dev) : (d.partBase types tag c).jrnl = d.jrnl := by
  rw [Dev.partBase]
  split
  · rfl
  · exact useKey_jrnl ..

theorem partBase_cmds (types : List Nat) (tag : Nat) (c : Cmd) (d : Dev) : (d.partBase types tag c).cmds = (d.markStart c).cmds := by
  rw [Dev.partBase]
  split
  · rfl
  · exact useKey_cmds ..

theorem partBase_anvil (types : List Nat) (tag : Nat) (c : Cmd) (d : Dev) : (d.partBase types tag c).anvil = d.anvil := by
  rw [Dev.partBase]
  split
  · rfl
  · exact useKey_anvil ..

/-- Every part's end is a result, with its context kept or idle (R362). -/
theorem multiPart_answers {i : Instr} {tag : Nat} {f : Dev → Dev} {types : List Nat} {c : Cmd} {s : State} {y : Context} {v : Nat}
    {out : Bytes} {t : Dev} (h : s.canRun 0x4D tag c = true) (he : exec i s = run f s)
    (ht : ∀ pt, pt ≠ .anvil → t.get pt = (s.partBase types tag c).get pt)
    (hf : f s.toDev = t.partDone (s.started c) y v out) :
    Answers i s fun t' => t'.ended tag = some (.gives .done ([word out.length, word v] ++ bytesToWords out)) ∧
      t'.cru.slots = s.cru.slots ∧ t'.anvil.contexts = t.anvil.contexts.set c.ctx (if c.last then none else some y) ∧
      EventsOnly { s.toDev with anvil := t'.anvil, cru := t'.cru } t' := by
  have hj : t.jrnl = s.jrnl := (ht .jrnl (by decide)).trans (partBase_jrnl ..)
  have hc : t.cmds = (s.markStart c).cmds := (ht .cmds (by decide)).trans (partBase_cmds ..)
  have hs : t.cru.slots = s.cru.slots := (congrArg Crucible.slots (ht .cru (by decide))).trans (partBase_slots ..)
  refine answers_leaves he hf hj ⟨?_, hs, rfl, eventsOnly_anvil_cru fun pt hpt => ?_⟩
  · obtain rfl : c.tag = tag := tag_of_canRun h
    exact ended_reply ((congrArg Option.isSome (cmd_of_cmds hc _)).trans (markStart_isSome h))
  · have hpt' := hpt
    simp [eventParts] at hpt'
    rw [Dev.partDone, Dev.reply_get _ _ _ (by simp [hpt']), Dev.setContext_get _ _ _ (by simp [hpt']), ht _ (by simp [hpt'])]
    exact partBase_get _ _ _ _ (by simpa [eventParts] using hpt'.2)

/-! ### SHA256, HMAC and CMAC (R355, R360) -/

theorem sha256_answers {tag : Nat} {c : Cmd} {s : State} {x : Context} (h : s.canRun 0x4D tag c = true) (ho : c.w 6 % 256 = 1)
    (hr : c.cryptoReserved { multi := true } = false) (hx : s.partContext c = some x)
    (hpart : c.last = true ∨ (c.dlen ≠ 0 ∧ c.dlen % 64 = 0)) (hd : c.dlen ≤ 2048) (hp : c.plen = (c.dlen + 1) / 2) :
    Answers (.sha256 tag) s fun t =>
      let m := x.data ++ c.bytes.take c.dlen
      let out := if c.last then Machine.sha256 m else []
      t.ended tag = some (.gives .done ([word out.length, 0xFFFF] ++ bytesToWords out)) ∧
      t.anvil = { s.anvil with contexts := s.anvil.contexts.set c.ctx (if c.last then none else some { x with data := m }) } ∧
      OnlyCommands { s.toDev with anvil := t.anvil } t := by
  have hrow : sha256Op tag s.toDev = _ := multiPart_row h ho hr hx hpart (decide_eq_true hd) hp (by simp)
  obtain rfl : c.tag = tag := tag_of_canRun h
  exact answers_leaves rfl hrow rfl ⟨ended_reply (markStart_isSome h), rfl, rfl⟩

theorem macGen_answers {i : Instr} {o tag : Nat} {types lens : List Nat} {f : Bytes → Bytes → Bytes} {c : Cmd} {s : State} {x : Context}
    (he : exec i s = run (macGen o types lens f tag) s) (hne : types.isEmpty = false)
    (h : s.canRun 0x4D tag c = true) (ho : c.w 6 % 256 = o)
    (hr : c.cryptoReserved { multi := true, tlen := true } = false) (hx : s.partContext c = some x)
    (hpart : c.last = true ∨ (c.dlen ≠ 0 ∧ c.dlen % 64 = 0)) (ht : c.last = true → c.tlen ∈ lens) (hd : c.dlen ≤ 2048)
    (hp : c.plen = (c.dlen + 1) / 2) (hk : s.keyGate c types 2 = none) :
    Answers i s fun t =>
      let m := x.data ++ c.bytes.take c.dlen
      let out := if c.last then (f (s.key c.keyN).material m).take c.tlen else []
      t.ended tag = some (.gives .done ([word out.length, 0xFFFF] ++ bytesToWords out)) ∧ t.cru.slots = s.cru.slots ∧
      EventsOnly { s.toDev with anvil := t.anvil, cru := t.cru } t := by
  have hlen : (decide ((s.started c).dlen ≤ 2048) && (!(s.started c).last || lens.contains (s.started c).tlen)) = true := by
    cases hl : c.last <;> simp_all
  have hrow : macGen o types lens f tag s.toDev = _ := multiPart_row h ho hr hx hpart hlen hp fun _ => hk
  refine (multiPart_answers (types := types) h he (fun _ _ => rfl) hrow).imp fun t hA => ?_
  obtain ⟨hend, hslots, -, hev⟩ := hA
  rw [Dev.partKey, hne] at hend
  exact ⟨hend, hslots, hev⟩

/-- The verdict word of a part: that of the check on the last one, none before (R366). -/
theorem verdict_word (last good : Bool) :
    word (if last = true then verdictOf good else noVerdict) = if last = true then (if good = true then 1 else 0) else 0xFFFF := by
  revert last good
  decide

theorem macVer_answers {i : Instr} {o tag : Nat} {types lens : List Nat} {f : Bytes → Bytes → Bytes} {c : Cmd} {s : State} {x : Context}
    (he : exec i s = run (macVer o types lens f tag) s) (hne : types.isEmpty = false)
    (h : s.canRun 0x4D tag c = true) (ho : c.w 6 % 256 = o)
    (hr : c.cryptoReserved { multi := true, tlen := true } = false) (hx : s.partContext c = some x)
    (hpart : c.last = true ∨ (c.dlen ≠ 0 ∧ c.dlen % 64 = 0)) (ht : c.last = true → c.tlen ∈ lens)
    (hd : c.dlen + (if c.last then c.tlen else 0) ≤ 2048) (hp : c.plen = (c.dlen + (if c.last then c.tlen else 0) + 1) / 2)
    (hk : s.keyGate c types 3 = none) :
    Answers i s fun t =>
      let m := x.data ++ c.bytes.take c.dlen
      let good := (f (s.key c.keyN).material m).take c.tlen == slice c.dlen c.tlen c.bytes
      t.ended tag = some (.gives .done [0, if c.last then (if good then 1 else 0) else 0xFFFF]) ∧ t.cru.slots = s.cru.slots ∧
      EventsOnly { s.toDev with anvil := t.anvil, cru := t.cru } t := by
  have hlen : (decide ((s.started c).dlen + (if (s.started c).last then (s.started c).tlen else 0) ≤ 2048) &&
      (!(s.started c).last || lens.contains (s.started c).tlen)) = true := by
    cases hl : c.last <;> simp_all
  have hrow : macVer o types lens f tag s.toDev = _ := multiPart_row h ho hr hx hpart hlen hp fun _ => hk
  refine (multiPart_answers (types := types) h he (fun _ _ => rfl) hrow).imp fun t hA => ?_
  obtain ⟨hend, hslots, -, hev⟩ := hA
  rw [Dev.partKey, hne] at hend
  exact ⟨hend.trans (congrArg (fun w => some (Result.gives .done [0, w])) (verdict_word ..)), hslots, hev⟩

/-- Settles O22. -/
theorem digestsAndMacs : Obligations.DigestsAndMacs := by
  unfold Obligations.DigestsAndMacs
  refine ⟨fun tag c s x => sha256_answers, fun tag c s x h hr hx hpart => ⟨fun r hm ho ht hd hp hk => ?_, fun r hm ho ht hd hp hk => ?_⟩⟩
  · simp only [List.mem_cons, List.not_mem_nil, or_false] at hm
    rcases hm with rfl | rfl
    · exact macGen_answers rfl rfl h ho hr hx hpart ht hd hp hk
    · exact macGen_answers rfl rfl h ho hr hx hpart ht hd hp hk
  · simp only [List.mem_cons, List.not_mem_nil, or_false] at hm
    rcases hm with rfl | rfl
    · exact macVer_answers rfl rfl h ho hr hx hpart ht hd hp hk
    · exact macVer_answers rfl rfl h ho hr hx hpart ht hd hp hk

/-! ### CBC, CTR and GCM (R355, R360, R363) -/

theorem partIv_get {pt : Part} (c : Cmd) (n : Nat) (x : Context) (d : Dev) (h : pt ≠ .anvil) : (d.partIv c n x).2.get pt = d.get pt := by
  rw [Dev.partIv]
  repeat' split
  · rfl
  · exact Dev.draw_get _ _ h
  · rfl

theorem partIv_contexts (c : Cmd) (n : Nat) (x : Context) (d : Dev) : (d.partIv c n x).2.anvil.contexts = d.anvil.contexts := by
  rw [Dev.partIv]
  repeat' split
  all_goals rfl

theorem partIv_bytes {s t : Dev} (h : t.anvil = s.anvil) (c : Cmd) (n : Nat) (x : Context) : (t.partIv c n x).1 = (s.partIv c n x).1 := by
  simp only [Dev.partIv]
  repeat' split
  · rfl
  · exact draw_bytes h n
  · rfl

theorem blockMode_answers {i : Instr} {o tag use : Nat} {gen whole : Bool} {f : Bytes → Bytes → Bytes → Bytes × Bytes} {c : Cmd}
    {s : State} {x : Context} (he : exec i s = run (blockMode o gen use whole f tag) s) (h : s.canRun 0x4D tag c = true)
    (hx : s.partContext c = some x) (hpart : c.last = true ∨ (c.dlen ≠ 0 ∧ c.dlen % 64 = 0)) (hd : c.dlen ≤ 960)
    (hp : c.plen = (c.ivBytes 16 + c.dlen + 1) / 2) (ho : c.w 6 % 256 = o) (hr : c.cryptoReserved { multi := true, ivgen := gen } = false)
    (hw : whole = true → c.last = true → (x.count + c.dlen) % 16 = 0) (hk : s.keyGate c [1, 2] use = none) :
    Answers i s fun t =>
      let iv := (s.partIv c 16 x).1
      let y := f (s.key c.keyN).material iv (slice (c.ivBytes 16) c.dlen c.bytes)
      let out := (if c.first && c.ivgen then iv else []) ++ y.1
      t.ended tag = some (.gives .done ([word out.length, 0xFFFF] ++ bytesToWords out)) ∧ t.cru.slots = s.cru.slots ∧
      t.anvil.contexts = s.anvil.contexts.set c.ctx (if c.last then none else some { x with iv := y.2, count := x.count + c.dlen }) ∧
      EventsOnly { s.toDev with anvil := t.anvil, cru := t.cru } t := by
  have hlen : (decide ((s.started c).dlen ≤ 960) && (!whole || !(s.started c).last ||
      decide ((x.count + (s.started c).dlen) % 16 = 0))) = true := by
    cases hl : c.last <;> cases whole <;> simp_all
  have hrow : blockMode o gen use whole f tag s.toDev = _ := multiPart_row h ho hr hx hpart hlen hp fun _ => hk
  have hiv : ((s.partBase [1, 2] tag c).partIv (s.started c) 16 x).1 = (s.partIv c 16 x).1 := partIv_bytes (partBase_anvil ..) ..
  refine (multiPart_answers (types := [1, 2]) h he (fun pt hpt => partIv_get (s.started c) 16 x _ hpt) hrow).imp fun t hA => ?_
  obtain ⟨hend, hslots, hctx, hev⟩ := hA
  rw [hiv] at hend hctx
  rw [partIv_contexts, partBase_anvil] at hctx
  exact ⟨hend, hslots, hctx, hev⟩

theorem gcmEnc_answers {tag : Nat} {c : Cmd} {s : State} {x : Context} (h : s.canRun 0x4D tag c = true) (hd : c.dlen ≤ 960)
    (ho : c.w 6 % 256 = 10) (hr : c.cryptoReserved { multi := true, alen := true, tlen := true, ivgen := true } = false)
    (hx : s.partContext c = some x) (hpart : c.last = true ∨ (c.dlen ≠ 0 ∧ c.dlen % 64 = 0)) (ha : c.first = true ∨ c.alen = 0)
    (ht : c.last = true → c.tlen = 12 ∨ c.tlen = 16) (hp : c.plen = (c.ivBytes 12 + c.alen + c.dlen + 1) / 2)
    (hk : s.keyGate c [1, 2] 0 = none) :
    Answers (.gcmEnc tag) s fun t =>
      let k := (s.key c.keyN).material
      let iv := (s.partIv c 12 x).1
      let aad := if c.first then slice (c.ivBytes 12) c.alen c.bytes else x.aad
      let m := slice (c.ivBytes 12 + c.alen) c.dlen c.bytes
      let ct := xorBytes m (gctrStream k iv (ceilDiv m.length 16) (2 + x.count / 16))
      let out := (if c.first && c.ivgen then iv else []) ++ ct ++
        (if c.last then (gcmTag k iv aad (x.data ++ ct)).take c.tlen else [])
      t.ended tag = some (.gives .done ([word out.length, 0xFFFF] ++ bytesToWords out)) ∧ t.cru.slots = s.cru.slots ∧
      EventsOnly { s.toDev with anvil := t.anvil, cru := t.cru } t := by
  have hlen : (decide (c.dlen ≤ 960) && (c.first || decide (c.alen = 0)) &&
      (!c.last || decide (c.tlen = 12) || decide (c.tlen = 16))) = true := by
    simp only [Bool.and_eq_true, Bool.or_eq_true, decide_eq_true_eq, Bool.not_eq_true']
    exact ⟨⟨hd, ha⟩, or_assoc.mpr (Bool.eq_false_or_eq_true _ |>.symm.imp_right ht)⟩
  have hrow : gcmEncOp tag s.toDev = _ := multiPart_row h ho hr hx hpart hlen hp fun _ => hk
  have hiv : ((s.partBase [1, 2] tag c).partIv (s.started c) 12 x).1 = (s.partIv c 12 x).1 := partIv_bytes (partBase_anvil ..) ..
  refine (multiPart_answers (types := [1, 2]) h rfl (fun pt hpt => partIv_get (s.started c) 12 x _ hpt) hrow).imp fun t hA => ?_
  obtain ⟨hend, hslots, -, hev⟩ := hA
  rw [hiv] at hend
  exact ⟨hend, hslots, hev⟩

/-! ### Operations of one part (R359–R363) -/

theorem singlePart_row {o tag use : Nat} {u : CryptoUse} {lenOk : Cmd → Bool} {total : Cmd → Option Nat} {types : List Nat}
    {body : Cmd → Bytes → Dev → Dev} {c : Cmd} {s : Dev} (h : s.canRun 0x4D tag c = true) (ho : c.w 6 % 256 = o)
    (hr : c.cryptoReserved u = false) (hf : c.first = true) (hl : c.last = true) (hlen : lenOk (s.started c) = true)
    (hp : (total (s.started c)).any (fun n => c.plen != (n + 1) / 2) = false)
    (hk : types.isEmpty = false → s.keyGate c types use = none) :
    singlePart o u lenOk total types use body tag s = body (s.started c) (s.partKey types c) (s.markStart c) := by
  rw [singlePart, startCmd_of_sel _ h (isCrypto_of_canRun h ho)]
  simp only [started_cryptoReserved, hr, started_first, started_last, hf, hl, hlen, started_plen, hp, markStart_keyGate, Bool.not_true,
    Bool.or_self, Bool.false_eq_true, if_false]
  rw [Dev.partKey]
  cases ht : types.isEmpty with
  | true => rfl
  | false =>
    simp only [hk ht, Bool.false_eq_true, if_false]
    rfl

theorem word_verdictOf (g : Bool) : word (verdictOf g) = if g = true then 1 else 0 := by cases g <;> rfl

theorem gcmDec_answers {tag : Nat} {c : Cmd} {s : State} (h : s.canRun 0x4D tag c = true) (hd : c.dlen ≤ 960)
    (ho : c.w 6 % 256 = 11) (hr : c.cryptoReserved { alen := true, tlen := true } = false) (hf : c.first = true) (hl : c.last = true)
    (ht : c.tlen = 12 ∨ c.tlen = 16) (hp : c.plen = (12 + c.alen + c.dlen + c.tlen + 1) / 2) (hk : s.keyGate c [1, 2] 1 = none) :
    Answers (.gcmDec tag) s fun t =>
      let k := (s.key c.keyN).material
      let iv := c.bytes.take 12
      let ct := slice (12 + c.alen) c.dlen c.bytes
      let good := (gcmTag k iv (slice 12 c.alen c.bytes) ct).take c.tlen == slice (12 + c.alen + c.dlen) c.tlen c.bytes
      let out := if good then gcmCrypt k iv ct else []
      t.ended tag = some (.gives .done ([word out.length, if good then 1 else 0] ++ bytesToWords out)) ∧
      t.cru.slots = s.cru.slots ∧ EventsOnly { s.toDev with cru := t.cru } t := by
  have hlen : (decide (c.dlen ≤ 960) && (decide (c.tlen = 12) || decide (c.tlen = 16))) = true := by simp [hd, ht]
  have hrow : gcmDecOp tag s.toDev = _ := singlePart_row h ho hr hf hl hlen (by simpa using hp) fun _ => hk
  obtain rfl : c.tag = tag := tag_of_canRun h
  refine answers_leaves rfl hrow (useKey_jrnl ..) ⟨?_, useKey_slots .., eventsOnly_cru fun pt hpt => ?_⟩
  · refine (ended_reply ((congrArg Option.isSome (cmd_of_cmds (useKey_cmds ..) _)).trans (markStart_isSome h))).trans ?_
    rw [word_verdictOf]
    rfl
  · simp [eventParts] at hpt
    rw [Dev.cryptoDone, Dev.reply_get _ _ _ (by simp [hpt]), Dev.useIt_get _ _ (by simp [hpt]), Dev.markStart_get _ _ (by simp [hpt])]

/-- Settles O23. -/
theorem ciphersAndGcm : Obligations.CiphersAndGcm := by
  unfold Obligations.CiphersAndGcm
  refine ⟨fun tag c s x h hx hpart hd hp r hm ho hr hw hk => ?_, fun tag c s h hd => ⟨fun x ho hr hx hpart ha ht hp hk =>
    gcmEnc_answers h hd ho hr hx hpart ha ht hp hk, gcmDec_answers h hd⟩⟩
  simp only [List.mem_cons, List.not_mem_nil, or_false] at hm
  rcases hm with rfl | rfl | rfl | rfl
  · exact blockMode_answers rfl h hx hpart hd hp ho hr (fun _ => hw (show _ < 8 by norm_num)) hk
  · exact blockMode_answers rfl h hx hpart hd hp ho hr (fun _ => hw (show _ < 8 by norm_num)) hk
  · exact blockMode_answers rfl h hx hpart hd hp ho hr (fun hfalse => absurd hfalse (by decide)) hk
  · exact blockMode_answers rfl h hx hpart hd hp ho hr (fun hfalse => absurd hfalse (by decide)) hk

end Sys2Proof.Machine
end

section
/-!
PROOFS. Derivations, signatures and wrapped keys (chapter 15).
-/

namespace Sys2Proof.Machine

theorem eventsOnly_uses {s t : Dev} (hc : t.cru = { s.cru with uses := t.cru.uses })
    (h : ∀ pt, pt ∉ [.cru] ++ eventParts → t.get pt = s.get pt) : EventsOnly { s with cru := { s.cru with uses := t.cru.uses } } t := by
  have he := eventsOnly_cru h
  rwa [hc] at he

theorem useIt_isSome {op tag : Nat} {c b : Cmd} {s : Dev} (h : s.canRun op tag c = true) : (((s.markStart c).useIt b).cmd tag).isSome = true :=
  (congrArg Option.isSome (cmd_of_cmds (useKey_cmds ..) _)).trans (markStart_isSome h)

/-! ### HKDF and ECDSA (R355, R360) -/

theorem hkdf_answers {tag : Nat} {c : Cmd} {s : State} (h : s.canRun 0x4D tag c = true) (hf : c.first = true) (hl : c.last = true)
    (ho : c.w 6 % 256 = 12) (hr : c.cryptoReserved { alen := true, tlen := true, len := true } = false) (hd : c.dlen ≤ 256)
    (ha : c.alen ≤ 256) (ht : c.tlen ≤ 256) (hlo : 1 ≤ c.w 12) (hhi : c.w 12 ≤ 1020) (hp : c.plen = (c.alen + c.dlen + c.tlen + 1) / 2) :
    Answers (.hkdf tag) s fun t =>
      let out := Machine.hkdf (slice c.alen c.dlen c.bytes) (c.bytes.take c.alen) (slice (c.alen + c.dlen) c.tlen c.bytes) (c.w 12)
      t.ended tag = some (.gives .done ([word out.length, 0xFFFF] ++ bytesToWords out)) ∧ OnlyCommands s.toDev t := by
  have hlen : (decide (c.dlen ≤ 256) && decide (c.alen ≤ 256) && decide (c.tlen ≤ 256) && decide (1 ≤ c.w 12) &&
      decide (c.w 12 ≤ 1020)) = true := by simp [hd, ha, ht, hlo, hhi]
  have hrow : hkdfOp tag s.toDev = _ := singlePart_row h ho hr hf hl hlen (by simpa using hp) (by simp)
  obtain rfl : c.tag = tag := tag_of_canRun h
  exact answers_refused rfl h hrow

theorem ecdsaSign_answers {tag : Nat} {c : Cmd} {s : State} (h : s.canRun 0x4D tag c = true) (hf : c.first = true) (hl : c.last = true)
    (ho : c.w 6 % 256 = 16) (hr : c.cryptoReserved { hashed := true } = false) (hd : digestLenOk c = true)
    (hp : c.plen = (c.dlen + 1) / 2) (hk : s.keyGate c [3] 4 = none) :
    Answers (.ecdsaSign tag) s fun t =>
      let out := Machine.ecdsaSign (s.key c.keyN).material (digestOf c (c.bytes.take c.dlen)) s.drawScalar.1
      t.ended tag = some (.gives .done ([word out.length, 0xFFFF] ++ bytesToWords out)) ∧ t.cru.slots = s.cru.slots ∧
      EventsOnly { s.toDev with anvil := t.anvil, cru := t.cru } t := by
  have hrow : ecdsaSignOp tag s.toDev = _ := singlePart_row h ho hr hf hl hd (by simpa using hp) fun _ => hk
  obtain rfl : c.tag = tag := tag_of_canRun h
  have hb : ((s.markStart c).useIt (s.started c)).drawScalar.1 = s.drawScalar.1 := drawScalar_bytes (useKey_anvil ..)
  refine answers_leaves rfl hrow (useKey_jrnl ..) ⟨?_, useKey_slots .., eventsOnly_anvil_cru fun pt hpt => ?_⟩
  · rw [← hb]
    exact ended_reply (useIt_isSome h)
  · simp [eventParts] at hpt
    dsimp only
    rw [Dev.cryptoDone, Dev.reply_get _ _ _ (by simp [hpt]), Dev.drawScalar_get _ (by simp [hpt]), Dev.useIt_get _ _ (by simp [hpt]),
      Dev.markStart_get _ _ (by simp [hpt])]

theorem ecdsaVerify_answers {tag : Nat} {c : Cmd} {s : State} (h : s.canRun 0x4D tag c = true) (hf : c.first = true) (hl : c.last = true)
    (ho : c.w 6 % 256 = 17) (hr : c.cryptoReserved { hashed := true } = false) (hd : digestLenOk c = true)
    (hp : c.plen = (128 + c.dlen + 1) / 2) :
    Answers (.ecdsaVerify tag) s fun t => OnlyCommands s.toDev t ∧
      if (ecPoint (c.bytes.take 64)).isNone = true then t.ended tag = some (.gives .stateConflict [])
      else t.ended tag = some (.gives .done [0,
        if Machine.ecdsaVerify (c.bytes.take 64) (digestOf c (slice 128 c.dlen c.bytes)) (slice 64 64 c.bytes) then 1 else 0]) := by
  have hrow : ecdsaVerifyOp tag s.toDev = _ := singlePart_row h ho hr hf hl hd (by simpa using hp) (by simp)
  obtain rfl : c.tag = tag := tag_of_canRun h
  split
  · next hpt => exact (answers_refused rfl h (hrow.trans (if_pos hpt))).imp fun t ht => ht.symm
  · next hpt =>
    rw [← word_verdictOf]
    exact (answers_refused rfl h (hrow.trans (if_neg hpt))).imp fun t ht => ht.symm

/-! ### A new key in an empty slot (R363–R365) -/

@[simp] theorem markStart_keyAwaited (c : Cmd) (d : Dev) (n : Nat) : (d.markStart c).keyAwaited n = d.keyAwaited n := by
  simp only [Dev.keyAwaited, Dev.markStart, List.any_map]
  refine congrArg (List.any d.cmds) (funext fun b => ?_)
  have hp : (if b.tag = c.tag then d.started b else b).phase = b.phase := by split <;> rfl
  rw [Function.comp_apply, hp]

@[simp] theorem markStart_key (c : Cmd) (d : Dev) (n : Nat) : (d.markStart c).key n = d.key n := rfl

@[simp] theorem markStart_keyEmpty (c : Cmd) (d : Dev) (n : Nat) : (d.markStart c).keyEmpty n = d.keyEmpty n := by
  simp only [Dev.keyEmpty, markStart_key, markStart_keyAwaited]

@[simp] theorem markStart_targetOk (c : Cmd) (d : Dev) (n : Nat) : (d.markStart c).targetOk n = d.targetOk n := by
  simp only [Dev.targetOk, markStart_keyEmpty]

@[simp] theorem markStart_keysProtected (c : Cmd) (d : Dev) : (d.markStart c).keysProtected = d.keysProtected := rfl

theorem attrUse_attrOf {use ty origin parent limit : Nat} {expo expire secure locked : Bool} (hu : use < 4096) :
    attrUse (attrOf use ty origin expo expire secure locked parent limit) = use := by
  simp only [attrUse, attrOf]
  omega

theorem attrType_attrOf {use ty parent limit : Nat} {origin : Nat} {expo expire secure locked : Bool} (hu : use < 4096) (ht : ty < 8) :
    attrType (attrOf use ty origin expo expire secure locked parent limit) = ty := by
  simp only [attrType, attrOf, field, Nat.shiftRight_eq_div_pow]
  omega

/-- A command whose work has come to a new key: its result has the key as its effect, and no key has changed. -/
theorem storeChild_answers {i : Instr} {tag v attr : Nat} {m : Bytes} {f : Dev → Dev} {c : Cmd} {s : State} (h : s.canRun 0x4D tag c = true)
    (he : exec i s = run f s) (hf : f s.toDev = ((s.markStart c).useIt (s.started c)).storeChild (s.started c) attr m v) :
    Answers i s fun t => (t.ended tag).map (fun r => (r.status, r.payload, r.effect)) = some (.done, [0, word v], .key c.target attr m) ∧
      EventsOnly { s.toDev with cru := { s.cru with uses := t.cru.uses } } t := by
  obtain rfl : c.tag = tag := tag_of_canRun h
  have hcru : (((s.markStart c).useIt (s.started c)).storeChild (s.started c) attr m v).cru = ((s.markStart c).useIt (s.started c)).cru :=
    Dev.childDone_get (pt := .cru) _ _ _ _ _ _ (by decide)
  have hj : (((s.markStart c).useIt (s.started c)).storeChild (s.started c) attr m v).jrnl = s.jrnl :=
    (Dev.childDone_get (pt := .jrnl) _ _ _ _ _ _ (by decide)).trans (useKey_jrnl ..)
  refine answers_leaves he hf hj ⟨?_, eventsOnly_uses ?_ fun pt hpt => ?_⟩
  · have hcmd : ∀ d : Dev, (d.cmd c.tag).isSome = true → ((if c.target < 48 then d.nvQueue (devWrites (some c.tag) (keyPages c.target)) else d).cmd
        c.tag).isSome = true := fun d hd => by split <;> exact hd
    rw [Dev.storeChild, Dev.childDone]
    exact (congrArg (Option.map _) (ended_finish (hcmd _ (useIt_isSome h)))).trans rfl
  · rw [hcru]
    exact useKey_cru ..
  · simp [eventParts] at hpt
    rw [Dev.storeChild_get _ _ _ _ _ (by simp [hpt]), Dev.useIt_get _ _ (by simp [hpt]), Dev.markStart_get _ _ (by simp [hpt])]

/-- A command that ends with a result and leaves everything but the commands as it was. -/
theorem answers_only {i : Instr} {s : State} {f : Dev → Dev} {op tag : Nat} {c : Cmd} {r : Result} (he : exec i s = run f s)
    (h : s.canRun op tag c = true) (ht : f s.toDev = (s.markStart c).finish tag r) :
    Answers i s fun t => t.ended tag = some r ∧ t.cru = s.cru ∧ ∀ pt, pt ∉ eventParts → t.get pt = s.get pt := by
  refine answers_leaves he ht rfl ⟨ended_started h r, rfl, fun pt hpt => ?_⟩
  simp [eventParts] at hpt
  rw [Dev.finish_get _ _ _ (by simp [hpt]), Dev.markStart_get _ _ (by simp [hpt])]

theorem get_of_eventParts {s t : Dev} (h : ∀ pt, pt ∉ eventParts → t.get pt = s.get pt) : ∀ pt, pt ∉ [.cru] ++ eventParts → t.get pt = s.get pt :=
  fun pt hpt => h pt fun hm => hpt (List.mem_append_right _ hm)

/-! ### ECDH_DERIVE (R364) -/

theorem ecdhDerive_answers {tag : Nat} {c : Cmd} {s : State} (h : s.canRun 0x4D tag c = true) (hf : c.first = true) (hl : c.last = true)
    (ho : c.w 6 % 256 = 18) (hr : c.cryptoReserved { alen := true, tlen := true, slot := true, attrs := true } = false)
    (ha : c.alen ≤ 256) (ht : c.tlen ≤ 256) (hp : c.plen = (64 + c.alen + c.tlen + 1) / 2) (hk : s.keyGate c [3] 5 = none)
    (hres : attrReserved c.attrs = false) (htgt : s.targetOk c.target = true)
    (hty : attrType c.attrs = 1 ∨ attrType c.attrs = 2 ∨ attrType c.attrs = 4) (huse : attrUse c.attrs &&& 0x130 = 0)
    (hok : usesOk c.attrs = true) :
    Answers (.ecdhDerive tag) s fun t =>
      EventsOnly { s.toDev with cru := { s.cru with uses := t.cru.uses } } t ∧
      match ecdh (s.key c.keyN).material (c.bytes.take 64) with
      | none => t.ended tag = some (.gives .stateConflict []) ∧ t.cru = s.cru
      | some z =>
        if c.target < 48 ∧ s.keysProtected = true then t.ended tag = some (.gives .protected_ []) ∧ t.cru = s.cru
        else
          ∃ attr, (t.ended tag).map (fun r => (r.status, r.payload, r.effect)) = some (.done, [0, 0xFFFF],
              .key c.target attr (Machine.hkdf z (slice 64 c.alen c.bytes) (slice (64 + c.alen) c.tlen c.bytes)
                (materialLen (attrType c.attrs)))) ∧
            attrUse attr = attrUse c.attrs ∧ attrType attr = attrType c.attrs := by
  have hlen : (decide (c.alen ≤ 256) && decide (c.tlen ≤ 256)) = true := by simp [ha, ht]
  have hrow : ecdhDeriveOp tag s.toDev = _ := singlePart_row h ho hr hf hl hlen (by simpa using hp) fun _ => hk
  obtain rfl : c.tag = tag := tag_of_canRun h
  simp only [started_attrs, hres, markStart_targetOk, started_target, htgt, Bool.not_true, Bool.false_eq_true, if_false,
    markStart_keysProtected, started_bytes] at hrow
  have hno : ¬(!(decide (attrType c.attrs = 1) || decide (attrType c.attrs = 2) || decide (attrType c.attrs = 4)) ||
      attrUse c.attrs &&& 0x130 != 0 || !usesOk c.attrs) = true := by
    simp [huse, hok]
    omega
  have hprotected : (decide (c.target < 48) && s.keysProtected) = true ↔ c.target < 48 ∧ s.keysProtected = true := by simp
  replace hrow := hrow.trans (if_neg hno)
  rw [show s.partKey [3] c = (s.key c.keyN).material from rfl] at hrow
  cases hz : ecdh (s.key c.keyN).material (c.bytes.take 64) with
  | none =>
    rw [hz] at hrow
    exact (answers_only rfl h hrow).imp fun t ⟨he, hc, hg⟩ => ⟨eventsOnly_uses (by rw [hc]) (get_of_eventParts hg), he, hc⟩
  | some z =>
    rw [hz] at hrow
    dsimp only at hrow ⊢
    split
    · next hprot =>
      exact (answers_only rfl h (hrow.trans (if_pos (hprotected.mpr hprot)))).imp fun t ⟨he, hc, hg⟩ =>
        ⟨eventsOnly_uses (by rw [hc]) (get_of_eventParts hg), he, hc⟩
    · next hprot =>
      refine (storeChild_answers h rfl (hrow.trans (if_neg (mt hprotected.mp hprot)))).imp fun t ⟨he, hev⟩ => ⟨hev, _, he, ?_, ?_⟩
      · exact attrUse_attrOf (Nat.mod_lt _ (by decide))
      · exact attrType_attrOf (Nat.mod_lt _ (by decide)) (by omega)

/-- Settles O24. -/
theorem derivationsAndSignatures : Obligations.DerivationsAndSignatures := by
  unfold Obligations.DerivationsAndSignatures
  exact ⟨fun tag c s h hf hl => ⟨hkdf_answers h hf hl, ecdsaSign_answers h hf hl, ecdsaVerify_answers h hf hl⟩,
    fun tag c s h _ hf hl => ecdhDerive_answers h hf hl⟩

/-! ### KEY_WRAP and KEY_UNWRAP (R365) -/

theorem keyWrap_answers {tag : Nat} {c : Cmd} {s : State} (h : s.canRun 0x4D tag c = true) (hf : c.first = true) (hl : c.last = true)
    (ho : c.w 6 % 256 = 20) (hr : c.cryptoReserved { slot := true } = false) (hp : c.plen = 0) (hk : s.keyGate c [2] 7 = none)
    (hbad : s.keyBad c.target = false) :
    Answers (.keyWrap tag) s fun t =>
      let sub := s.key c.target
      t.cru.slots = s.cru.slots ∧ EventsOnly { s.toDev with cru := t.cru, anvil := t.anvil } t ∧
      if attrExport sub.attr = false ∨ attrSecure sub.attr = true then t.ended tag = some (.gives .protected_ []) ∧ t.cru = s.cru
      else
        let k := (s.key c.keyN).material
        let iv := (s.draw 12).1
        let ct := gcmCrypt k iv sub.material
        let out := leBytes 8 sub.attr ++ iv ++ ct ++ gcmTag k iv (ascii "BKW1" ++ leBytes 8 sub.attr) ct
        t.ended tag = some (.gives .done ([word out.length, 0xFFFF] ++ bytesToWords out)) := by
  have hrow : keyWrapOp tag s.toDev = _ := singlePart_row h ho hr hf hl rfl (by simp [hp]) fun _ => hk
  obtain rfl : c.tag = tag := tag_of_canRun h
  simp only [started_target, markStart_key, markStart_keyBad, hbad, Bool.false_eq_true, if_false] at hrow
  dsimp only
  split
  · next hexp =>
    exact (answers_only rfl h (hrow.trans (if_pos (by simpa using hexp)))).imp fun t ⟨he, hc, hg⟩ =>
      ⟨by rw [hc], eventsOnly_anvil_cru fun pt hpt => hg pt fun hm => hpt (List.mem_append_right _ hm), he, hc⟩
  · next hexp =>
    have hb : (((s.markStart c).useIt (s.started c)).draw 12).1 = (s.draw 12).1 := draw_bytes (useKey_anvil ..) 12
    refine answers_leaves rfl (hrow.trans (if_neg (by simpa using hexp))) (useKey_jrnl ..)
      ⟨useKey_slots .., eventsOnly_anvil_cru fun pt hpt => ?_, ?_⟩
    · simp [eventParts] at hpt
      rw [Dev.cryptoDone, Dev.reply_get _ _ _ (by simp [hpt]), Dev.draw_get _ _ (by simp [hpt]), Dev.useIt_get _ _ (by simp [hpt]),
        Dev.markStart_get _ _ (by simp [hpt])]
    · rw [← hb]
      exact ended_reply (useIt_isSome h)

theorem keyUnwrap_answers {tag : Nat} {c : Cmd} {s : State} (h : s.canRun 0x4D tag c = true) (hf : c.first = true) (hl : c.last = true)
    (ho : c.w 6 % 256 = 21) (hr : c.cryptoReserved { slot := true } = false)
    (hp : c.plen = (36 + materialLen (attrType (leNat (c.bytes.take 8))) + 1) / 2) (hk : s.keyGate c [2] 8 = none)
    (htgt : s.targetOk c.target = true) (hres : attrReserved (leNat (c.bytes.take 8)) = false)
    (hty : attrType (leNat (c.bytes.take 8)) ≠ 0) (hok : usesOk (leNat (c.bytes.take 8)) = true) :
    Answers (.keyUnwrap tag) s fun t =>
      let a := leNat (c.bytes.take 8)
      let n := materialLen (attrType a)
      let k := (s.key c.keyN).material
      let iv := slice 8 12 c.bytes
      let ct := slice 20 n c.bytes
      let m := gcmCrypt k iv ct
      EventsOnly { s.toDev with cru := { s.cru with uses := t.cru.uses } } t ∧
      if gcmTag k iv (ascii "BKW1" ++ c.bytes.take 8) ct ≠ slice (20 + n) 16 c.bytes then
        t.ended tag = some (.gives .done [0, 0])
      else if attrType a = 3 ∧ (beNat m = 0 ∨ p256n ≤ beNat m) then t.ended tag = some (.gives .stateConflict []) ∧ t.cru = s.cru
      else if c.target < 48 ∧ s.keysProtected = true then t.ended tag = some (.gives .protected_ []) ∧ t.cru = s.cru
      else ∃ attr, (t.ended tag).map (fun r => (r.status, r.payload, r.effect)) = some (.done, [0, 1], .key c.target attr m) := by
  have hrow : keyUnwrapOp tag s.toDev = _ := singlePart_row h ho hr hf hl rfl (by simpa using hp) fun _ => hk
  obtain rfl : c.tag = tag := tag_of_canRun h
  simp only [started_bytes, markStart_targetOk, started_target, htgt, hres, hty, hok, Bool.not_true, Bool.or_self, Bool.false_eq_true,
    if_false, decide_false, markStart_keysProtected, started_keyN] at hrow
  have hprotected : (decide (c.target < 48) && s.keysProtected) = true ↔ c.target < 48 ∧ s.keysProtected = true := by simp
  have hscalarBad (a m : Nat) : (decide (a = 3) && (decide (m = 0) || decide (p256n ≤ m))) = true ↔ a = 3 ∧ (m = 0 ∨ p256n ≤ m) := by simp
  rw [show s.partKey [2] c = (s.key c.keyN).material from rfl] at hrow
  dsimp only
  split
  · next htag =>
    refine answers_leaves rfl (hrow.trans (if_pos (by simpa using htag))) (useKey_jrnl ..)
      ⟨eventsOnly_uses (useKey_cru ..) fun pt hpt => ?_, ended_reply (useIt_isSome h)⟩
    simp [eventParts] at hpt
    rw [Dev.cryptoDone, Dev.reply_get _ _ _ (by simp [hpt]), Dev.useIt_get _ _ (by simp [hpt]), Dev.markStart_get _ _ (by simp [hpt])]
  · next htag =>
    replace hrow := hrow.trans (if_neg (by simpa using htag))
    split
    · next hscalar =>
      exact (answers_only rfl h (hrow.trans (if_pos ((hscalarBad _ _).mpr hscalar)))).imp fun t ⟨he, hc, hg⟩ =>
        ⟨eventsOnly_uses (by rw [hc]) (get_of_eventParts hg), he, hc⟩
    · next hscalar =>
      replace hrow := hrow.trans (if_neg (mt (hscalarBad _ _).mp hscalar))
      split
      · next hprot =>
        exact (answers_only rfl h (hrow.trans (if_pos (hprotected.mpr hprot)))).imp fun t ⟨he, hc, hg⟩ =>
          ⟨eventsOnly_uses (by rw [hc]) (get_of_eventParts hg), he, hc⟩
      · next hprot =>
        exact (storeChild_answers h rfl (hrow.trans (if_neg (mt hprotected.mp hprot)))).imp fun t ⟨he, hev⟩ => ⟨hev, _, he⟩

/-- Settles O25. -/
theorem keyWrapping : Obligations.KeyWrapping := by
  unfold Obligations.KeyWrapping
  exact ⟨fun tag c s => keyWrap_answers, fun tag c s h _ hf hl => keyUnwrap_answers h hf hl⟩

end Sys2Proof.Machine
end

section
/-!
PROOFS. The Crucible's commands (chapter 14). O18 fails where a STANDBY owed is sent behind the completion: its thermal derating
(R208) presents an event of its own, on a port before the completion's, so the stamp of the last event is not that of the entry.
-/

namespace Sys2Proof.Machine

/-- A key generated, its work at an end: the key is the effect of the completion. -/
def hotKeyCmd : Cmd := { Tests.cmd 0x49 with phase := .done ⟨.done, [], .key 7 0 [], none, []⟩ }

/-- The command in flight, a STANDBY owed to aerial 0, and sensor 1 above `LF.TDERATE`. -/
def hotKeyState : State :=
  { Tests.lfUp with
    cmds := [hotKeyCmd], bg := { Tests.up.bg with items := Tests.up.bg.items.set 1 0x4000 },
    lf := { Tests.lfUp.lf with standbyDue := 1 } }

/-- The entry's stamp is the completion's, and the last event is that of the derating, one tick later. -/
theorem hotKeyState_completed : ∀ t, exec (.completionPresented 7) hotKeyState = .next t → t.store.map Entry.tb = [0] ∧ t.clock.evTb = 1 := by
  intro t ht
  cases ht
  decide +kernel

/-- Refutes O18: the entry of a completion keeps the stamp at which it is presented, and a STANDBY sent behind it may present the
derating of the LF unit (source 60) at a later one. -/
theorem not_keyGenerateAndDerive : ¬ Obligations.KeyGenerateAndDerive := by
  unfold Obligations.KeyGenerateAndDerive
  rintro ⟨-, -, h⟩
  obtain ⟨t, ht, -, -, -, -, -, hstore⟩ := h hotKeyCmd 7 0 [] hotKeyState (by decide +kernel) rfl (by decide) (by decide) rfl rfl
    (by decide +kernel) (by decide +kernel) (by decide) (by decide)
  obtain ⟨hentry, hlast⟩ := hotKeyState_completed t ht
  rw [hstore, hlast] at hentry
  exact absurd hentry (by decide)

/-! ### KEY_UPDATE STAGE and DISCARD (R337) -/

theorem isUpdate_of_canRun {a tag : Nat} {c : Cmd} {d : Dev} (h : d.canRun 0x48 tag c = true) (hw : c.w 6 % 4 = a) : isUpdate a c = true := by
  simp [isUpdate, op_of_canRun h, hw]

/-- The parts that a new part of a message is staged behind. -/
def stageBase (c : Cmd) (d : Dev) : List Word := if c.w 7 = 0 then [] else d.cru.stage

/-- The message staged, with the part behind the parts before it. -/
def Dev.withStage (ws : List Word) (d : Dev) : Dev := { d with cru := { d.cru with stage := ws, staging := true } }

theorem keyUpdateStage_row {tag : Nat} {c : Cmd} {s : Dev} (h : s.canRun 0x48 tag c = true) (hw : c.w 6 = 0) (hz : c.zeroFrom 8 = true) :
    keyUpdateStage tag s =
      let base := stageBase c s
      if s.cru.prepared.isSome || c.w 7 != base.length || decide (1024 < base.length + c.plen) then (s.markStart c).fail tag .stateConflict
      else
        let d := (s.markStart c).withStage (base ++ c.payload)
        d.reply tag (d.updResult 1 none) :=
  (startCmd_of_sel _ h (isUpdate_of_canRun h (by rw [hw]))).trans (if_neg (by simp [hw, hz]))

theorem keyUpdateStage_answers {tag : Nat} {c : Cmd} {s : State} (h : s.canRun 0x48 tag c = true) (hw : c.w 6 = 0) (hz : c.zeroFrom 8 = true) :
    Answers (.keyUpdateStage tag) s fun t =>
      let base := stageBase c s.toDev
      if s.cru.prepared.isSome = true ∨ c.w 7 ≠ base.length ∨ 1024 < base.length + c.plen then
        t.ended tag = some (.gives .stateConflict []) ∧ OnlyCommands s.toDev t
      else
        t.cru = { s.cru with stage := base ++ c.payload, staging := true } ∧
        t.ended tag = some (.gives .done (t.updResult 1 none)) ∧ OnlyCommands { s.toDev with cru := t.cru } t := by
  have hrow := keyUpdateStage_row h hw hz
  have hplace : (s.cru.prepared.isSome || c.w 7 != (stageBase c s.toDev).length || decide (1024 < (stageBase c s.toDev).length + c.plen)) = true ↔
      s.cru.prepared.isSome = true ∨ c.w 7 ≠ (stageBase c s.toDev).length ∨ 1024 < (stageBase c s.toDev).length + c.plen := by simp [or_assoc]
  dsimp only at hrow ⊢
  split
  · next hbad => exact answers_refused rfl h (hrow.trans (if_pos (hplace.mpr hbad)))
  · next hbad => exact answers_leaves rfl (hrow.trans (if_neg (mt hplace.mp hbad))) rfl ⟨rfl, ended_reply (markStart_isSome h), rfl⟩

theorem keyUpdateDiscard_answers {tag : Nat} {c : Cmd} {s : State} (h : s.canRun 0x48 tag c = true) (hw : c.w 6 = 3) (hz : c.zeroFrom 7 = true)
    (hp : c.plen = 0) :
    Answers (.keyUpdateDiscard tag) s fun t =>
      t.cru = { s.cru with stage := [], staging := false, prepared := none } ∧ OnlyCommands { s.toDev with cru := t.cru } t ∧
      (t.ended tag).map (fun r => (r.status, r.payload, r.drafts.length)) =
        some (.done, t.updResult 0 none, if s.cru.prepared.isSome then 1 else 0) := by
  have hrow : keyUpdateDiscard tag s.toDev = _ :=
    (startCmd_of_sel _ h (isUpdate_of_canRun h (by rw [hw]))).trans (if_neg (by simp [hw, hz, hp]))
  refine answers_leaves rfl hrow rfl ⟨rfl, rfl, (congrArg (Option.map _) (ended_finish (markStart_isSome h))).trans ?_⟩
  rw [Dev.markStart_cru]
  cases s.cru.prepared <;> rfl

/-! ### KEY_UPDATE PREPARE (R336, R338) -/

@[simp] theorem markStart_assign (c : Cmd) (d : Dev) (taken slots : List Nat) : (d.markStart c).assign taken slots = d.assign taken slots := by
  induction slots generalizing taken with
  | nil => rfl
  | cons n ns ih => simp only [Dev.assign, markStart_keyEmpty, ih]

@[simp] theorem markStart_updCounter (c : Cmd) (d : Dev) : (d.markStart c).updCounter = d.updCounter := rfl

/-- What every failing test of PREPARE leaves (R341). -/
theorem prepareFail_answers {i : Instr} {tag op : Nat} {f : Dev → Dev} {c : Cmd} {s : State} {st : Status} (h : s.canRun op tag c = true)
    (he : exec i s = run f s) (hf : f s.toDev = (s.markStart c).prepareFail tag st) :
    Answers i s fun t => t.cru.slots = s.cru.slots ∧ EventsOnly { s.toDev with cru := t.cru } t ∧
      t.ended tag = some (.gives st []) ∧ t.cru = { s.cru with stage := [], staging := false } := by
  refine answers_leaves he hf rfl ⟨rfl, eventsOnly_cru fun pt hpt => ?_, ended_fail (markStart_isSome h), rfl⟩
  simp [eventParts] at hpt
  rw [Dev.prepareFail_get _ _ _ (by simp [hpt]), Dev.markStart_get _ _ (by simp [hpt])]

theorem slotBadEvent_slots (n : Option Nat) (d : Dev) : (d.slotBadEvent n).cru.slots = d.cru.slots :=
  (congrArg Crucible.slots (Dev.alsoSignal_get (pt := .cru) 151 _ (by decide))).trans rfl

/-- PREPARE that uses a bad slot: no key changes (R331). -/
theorem prepareBad_answers {i : Instr} {tag op n : Nat} {f : Dev → Dev} {c : Cmd} {s : State} (h : s.canRun op tag c = true)
    (he : exec i s = run f s) (hf : f s.toDev = (s.markStart c).clearStage.slotFail tag n) :
    Answers i s fun t => t.cru.slots = s.cru.slots ∧ EventsOnly { s.toDev with cru := t.cru } t ∧ t.ended tag = some (.gives .slotBad []) := by
  have hs : ((s.markStart c).clearStage.slotFail tag n).cru.slots = s.cru.slots := slotBadEvent_slots (some n) (s.markStart c).clearStage
  refine answers_settle he hf ⟨?_, eventsOnly_cru fun pt hpt => ?_, ?_⟩
  · rw [settle_cru, hs]
  · simp [eventParts] at hpt
    rw [Dev.settle_get _ _ (by simp [hpt]), Dev.slotFail_get _ _ _ (by simp [hpt]), Dev.clearStage_get _ (by simp [hpt]),
      Dev.markStart_get _ _ (by simp [hpt])]
  · rw [settle_ended]
    exact ended_slotFail (markStart_isSome h)

/-- Without AUTO nothing is drawn. -/
theorem prepared_anvil (tag : Nat) (p : Prepared) (d : Dev) : (d.prepared tag false p).anvil = d.anvil := by
  rw [Dev.prepared]
  simp only [Bool.false_eq_true, if_false]
  rw [Dev.finish_anvil]
  exact Dev.nvQueue_get (pt := .anvil) _ _ (by decide)

/-- PREPARE that passes every test (R338). -/
theorem prepared_answers {i : Instr} {tag op : Nat} {f : Dev → Dev} {c : Cmd} {s : State} {p : Prepared} (h : s.canRun op tag c = true)
    (he : exec i s = run f s) (hf : f s.toDev = (s.markStart c).prepared tag false p) :
    Answers i s fun t => t.cru.slots = s.cru.slots ∧ EventsOnly { s.toDev with cru := t.cru } t ∧
      t.cru = { s.cru with stage := [], staging := false, prepared := some p } ∧
      (t.ended tag).map (fun r => (r.status, r.payload, r.effect)) = some (.done, t.updResult 2 t.cru.prepared, .none) := by
  refine answers_leaves he hf rfl ⟨rfl, eventsOnly_cru fun pt hpt => ?_, rfl, congrArg (Option.map _) (ended_finish (markStart_isSome h))⟩
  simp [eventParts] at hpt
  by_cases ha : pt = .anvil
  · subst ha
    exact prepared_anvil ..
  · rw [Dev.prepared_get _ _ _ _ (by simp [hpt, ha]), Dev.markStart_get _ _ (by simp [hpt])]

theorem keyUpdatePrepare_row {tag : Nat} {c : Cmd} {s : Dev} {m : Bytes} (h : s.canRun 0x48 tag c = true) (hw : c.w 6 = 1) (h7 : c.w 7 = 0)
    (hz : c.zeroFrom 8 = true) (hp : c.plen = 0) (hm : m = wordsToBytes s.cru.stage) (hprep : s.cru.prepared = none) (hlen : 128 ≤ m.length)
    (hmsg : m.length = updateLen m) (hsound : s.updateSound m = true) (hkind : (m.getD 6 0).toNat = 1) (hprov : s.cru.provisioned = true) :
    keyUpdatePrepare tag s = (s.markStart c).prepareUpdate tag false m := by
  have hbad : ¬(decide (8 ≤ c.w 6) || c.w 7 != 0 || !c.zeroFrom 8 || c.plen != 0) = true := by simp [hw, h7, hz, hp]
  refine (startCmd_of_sel _ h (isUpdate_of_canRun h (by rw [hw]))).trans ((if_neg hbad).trans ?_)
  have hs : (s.markStart c).updateSound m = true := hsound
  have hlt : ¬m.length < 128 := by omega
  have hauto : bit 2 1 = false := rfl
  simp only [Dev.markStart_cru, ← hm, hprep, Option.isSome_none, Bool.false_eq_true, if_false, hlt, decide_false, hs, hkind, hprov,
    Bool.not_true, Bool.and_false, if_true, decide_true, started_w, hw, hauto, ← hmsg, bne_self_eq_false, Bool.or_self, OfNat.one_ne_ofNat, Bool.false_and]

theorem keyUpdatePrepare_answers {tag : Nat} {c : Cmd} {s : State} {m : Bytes} (h : s.canRun 0x48 tag c = true) (hw : c.w 6 = 1)
    (h7 : c.w 7 = 0) (hz : c.zeroFrom 8 = true) (hp : c.plen = 0) (hm : m = wordsToBytes s.cru.stage) (hprep : s.cru.prepared = none)
    (hlen : 128 ≤ m.length) (hmsg : m.length = updateLen m) (hsound : s.updateSound m = true) (hkind : (m.getD 6 0).toNat = 1)
    (hprov : s.cru.provisioned = true) :
    Answers (.keyUpdatePrepare tag) s fun t =>
      let n := (m.getD 7 0).toNat
      let counter := leNat (slice 24 4 m)
      let failed (st : Status) : Prop := t.ended tag = some (.gives st []) ∧ t.cru = { s.cru with stage := [], staging := false }
      t.cru.slots = s.cru.slots ∧ EventsOnly { s.toDev with cru := t.cru } t ∧
      if s.keyBad 1 = true then t.ended tag = some (.gives .slotBad [])
      else if ecdsaVerify (s.key 1).material (sha256 (m.take (144 + 96 * n))) (slice (144 + 96 * n) 64 m) = false then failed .authFail
      else if counter ≤ s.updCounter then failed .counterStale
      else if s.keyBad 5 = true then t.ended tag = some (.gives .slotBad [])
      else match ecdh (s.key 5).material (slice 32 64 m) with
        | none => failed .authFail
        | some z =>
          let kek := hkdf z s.cru.uid (ascii "kum" ++ slice 24 4 m) 32
          let es := entries n (gcmCrypt kek (slice 96 12 m) (slice 128 (96 * n) m))
          let slots := es.map (fun e => (e.getD 0 0).toNat)
          if gcmTag kek (slice 96 12 m) (m.take 128) (slice 128 (96 * n) m) ≠ slice (128 + 96 * n) 16 m then failed .authFail
          else if es.all entryOk = false ∨ distinctSlots slots = false then failed .imageInvalid
          else match s.assign slots slots with
            | none => failed .slotExhausted
            | some ss =>
              if s.keysProtected = true then failed .protected_
              else
                t.cru = { s.cru with stage := [], staging := false,
                                     prepared := some ⟨1, counter, List.zipWith entryShadow ss es, ss, [], []⟩ } ∧
                (t.ended tag).map (fun r => (r.status, r.payload, r.effect)) = some (.done, t.updResult 2 t.cru.prepared, .none) := by
  have hrow := keyUpdatePrepare_row h hw h7 hz hp hm hprep hlen hmsg hsound hkind hprov
  simp only [Dev.prepareUpdate, markStart_keyBad, markStart_key, markStart_updCounter, Dev.markStart_cru, markStart_assign,
    markStart_keysProtected] at hrow
  dsimp only
  split
  · next hb1 => exact prepareBad_answers h rfl (hrow.trans (if_pos hb1))
  · next hb1 =>
    replace hrow := hrow.trans (if_neg hb1)
    split
    · next hv => exact prepareFail_answers h rfl (hrow.trans (if_pos (by simpa using hv)))
    · next hv =>
      replace hrow := hrow.trans (if_neg (by simpa using hv))
      split
      · next hcnt => exact prepareFail_answers h rfl (hrow.trans (if_pos hcnt))
      · next hcnt =>
        replace hrow := hrow.trans (if_neg hcnt)
        split
        · next hb5 => exact prepareBad_answers h rfl (hrow.trans (if_pos hb5))
        · next hb5 =>
          replace hrow := hrow.trans (if_neg hb5)
          cases hz : ecdh (s.key 5).material (slice 32 64 m) with
          | none =>
            rw [hz] at hrow
            exact prepareFail_answers h rfl hrow
          | some z =>
            rw [hz] at hrow
            dsimp only at hrow ⊢
            split
            · next hg => exact prepareFail_answers h rfl (hrow.trans (if_pos (by simpa using hg)))
            · next hg =>
              replace hrow := hrow.trans (if_neg (by simpa using hg))
              split
              · next hes => exact prepareFail_answers h rfl (hrow.trans (if_pos (by simpa using hes)))
              · next hes =>
                replace hrow := hrow.trans (if_neg (by simpa using hes))
                split
                · next ha =>
                  rw [ha] at hrow
                  exact prepareFail_answers h rfl hrow
                · next ss ha =>
                  rw [ha] at hrow
                  dsimp only at hrow
                  split
                  · next hw => exact prepareFail_answers h rfl (hrow.trans (if_pos hw))
                  · next hw => exact prepared_answers h rfl (hrow.trans (if_neg hw))

/-- Settles O19: STAGE, DISCARD and PREPARE, test by test in the order of R338. -/
theorem keyUpdatePreparation : Obligations.KeyUpdatePreparation := by
  unfold Obligations.KeyUpdatePreparation
  exact ⟨fun _ _ _ h => ⟨keyUpdateStage_answers h, keyUpdateDiscard_answers h⟩,
    fun _ _ _ _ h hw h7 hz hp hm _ hprep hlen hmsg hsound hkind hprov =>
      keyUpdatePrepare_answers h hw h7 hz hp hm hprep hlen hmsg hsound hkind hprov⟩

end Sys2Proof.Machine
end

section
/-!
PROOFS. Commits, attestations, randomness and the entropy source (chapters 14 and 15).
-/

namespace Sys2Proof.Machine

/-! ### KEY_UPDATE COMMIT and the roll-forward (R339) -/

theorem writeCommit_kind1 {p : Prepared} (d : Dev) (hk : p.kind = 1) : ∃ mac, d.writeCommit p =
    { d with cru := { d.cru with commit := some ⟨p.counter, p.shadows.length, p.digest, mac⟩ } } := by
  rw [Dev.writeCommit, if_neg (by rw [hk]; decide)]
  exact ⟨_, rfl⟩

theorem keyUpdateCommit_row {tag : Nat} {c : Cmd} {s : Dev} (h : s.canRun 0x48 tag c = true) (hw : c.w 6 = 2) (hz : c.zeroFrom 7 = true)
    (hp : c.plen = 0) :
    keyUpdateCommit tag s = match s.cru.prepared with
      | none => (s.markStart c).fail tag .stateConflict
      | some p => (((s.markStart c).writeCommit p).nvQueue (devWrites (some tag) p.pages)).finish tag
          ⟨.done, (((s.markStart c).writeCommit p).nvQueue (devWrites (some tag) p.pages)).updResult 0 (some p), .commit, none, []⟩ := by
  refine (startCmd_of_sel _ h (isUpdate_of_canRun h (by rw [hw]))).trans ((if_neg (by simp [hw, hz, hp])).trans ?_)
  cases hprep : s.cru.prepared <;> simp only [Dev.markStart_cru, hprep]

theorem keyUpdateCommit_answers {tag : Nat} {c : Cmd} {s : State} (h : s.canRun 0x48 tag c = true) (hw : c.w 6 = 2) (hz : c.zeroFrom 7 = true)
    (hp : c.plen = 0) :
    Answers (.keyUpdateCommit tag) s fun t =>
      match s.cru.prepared with
      | none => t.ended tag = some (.gives .stateConflict []) ∧ OnlyCommands s.toDev t
      | some p => p.kind = 1 →
        t.cru.commit.map (fun x => (x.counter, x.digest)) = some (p.counter, p.digest) ∧ t.cru = { s.cru with commit := t.cru.commit } ∧
        t.nv.queue = s.nv.queue ++ devWrites (some tag) p.pages ∧
        (t.ended tag).map (fun r => (r.status, r.effect)) = some (.done, .commit) ∧ EventsOnly { s.toDev with cru := t.cru } t := by
  have hrow := keyUpdateCommit_row h hw hz hp
  cases hprep : s.cru.prepared with
  | none =>
    rw [hprep] at hrow
    exact answers_refused rfl h hrow
  | some p =>
    rw [hprep] at hrow
    dsimp only at hrow
    by_cases hk : p.kind = 1
    · obtain ⟨mac, hmac⟩ := writeCommit_kind1 (s.markStart c) hk
      rw [hmac] at hrow
      refine answers_leaves rfl hrow rfl fun _ => ⟨rfl, rfl, rfl, congrArg (Option.map _) (ended_finish (markStart_isSome h)),
        eventsOnly_cru fun pt hpt => ?_⟩
      simp [eventParts] at hpt
      rw [Dev.finish_get _ _ _ (by simp [hpt]), Dev.nvQueue_get _ _ (by simp [hpt]), Dev.get_with_cru _ _ (by simp [hpt]),
        Dev.markStart_get _ _ (by simp [hpt])]
    · exact ⟨_, rfl, rfl, fun hk1 => absurd hk1 hk⟩

theorem putKey_cru (o : Option Nat) (n a : Nat) (m : Bytes) (d : Dev) : (d.putKey o n a m).cru = (d.setKey n a m).cru := by
  rw [Dev.putKey]
  split <;> rfl

/-- The roll-forward of one shadow of a KIND 1 update (R339). -/
theorem rollForward_cru {write : Bool} {origin tag op : Nat} {d : Dev} {k : Commit} {p : Prepared} {x : Shadow} (hk : d.cru.commit = some k)
    (hp : d.cru.prepared = some p) (h1 : p.kind = 1) (hx : p.shadows = [x]) :
    (d.rollForward write origin tag op).cru =
      { (d.setKey x.slot x.attr x.material).cru with updCnt := max d.cru.updCnt k.counter, commit := none, prepared := none } := by
  have hno : ¬p.kind = 2 := by rw [h1]; decide
  rw [Dev.rollForward, hk, hp]
  simp only [hno, if_false, hx, List.foldl_cons, List.foldl_nil, Dev.log_cru, putKey_cru]
  cases write <;> rfl

theorem setKey_key_same {n a : Nat} {m : Bytes} {d : Dev} (h : n < d.cru.slots.length) :
    ((d.setKey n a m).key n).attr = a ∧ ((d.setKey n a m).key n).material = m := by
  simp [Dev.setKey, Dev.key, List.getD_eq_getElem?_getD, h]

theorem setKey_key_other {n k a : Nat} {m : Bytes} {d : Dev} (h : k ≠ n) : (d.setKey n a m).key k = d.key k := by
  simp [Dev.setKey, Dev.key, List.getD_eq_getElem?_getD, List.getElem?_set_ne h.symm]

theorem rollForward_one {write : Bool} {origin tag op : Nat} {d : Dev} {k : Commit} {p : Prepared} {x : Shadow} (hk : d.cru.commit = some k)
    (hp : d.cru.prepared = some p) (h1 : p.kind = 1) (hlen : d.cru.slots.length = 64) (hx : p.shadows = [x]) (hs : x.slot < 64) :
    ((d.rollForward write origin tag op).key x.slot).attr = x.attr ∧ ((d.rollForward write origin tag op).key x.slot).material = x.material ∧
    (∀ m, m ≠ x.slot → (d.rollForward write origin tag op).key m = d.key m) ∧
    (d.rollForward write origin tag op).cru.updCnt = max d.cru.updCnt k.counter ∧ (d.rollForward write origin tag op).cru.commit = none ∧
    (d.rollForward write origin tag op).cru.prepared = none ∧ (d.rollForward write origin tag op).cru.tokens = d.cru.tokens := by
  have hc := rollForward_cru (write := write) (origin := origin) (tag := tag) (op := op) hk hp h1 hx
  have hkey (m : Nat) : (d.rollForward write origin tag op).key m = (d.setKey x.slot x.attr x.material).key m := by
    rw [Dev.key, hc]
    rfl
  obtain ⟨hattr, hmat⟩ := setKey_key_same (a := x.attr) (m := x.material) (d := d) (by rw [hlen]; exact hs)
  refine ⟨by rw [hkey, hattr], by rw [hkey, hmat], fun m hm => (hkey m).trans (setKey_key_other hm), ?_⟩
  rw [hc]
  exact ⟨rfl, rfl, rfl, rfl⟩

/-- Settles O20: the commit record, and the slot that a shadow's roll-forward rewrites. -/
theorem keyUpdateCommits : Obligations.KeyUpdateCommits := by
  unfold Obligations.KeyUpdateCommits
  exact ⟨fun _ _ _ h hw hz hp _ => keyUpdateCommit_answers h hw hz hp,
    fun _ _ _ _ _ _ _ _ hk hp h1 hlen hx hs => rollForward_one hk hp h1 hlen hx hs⟩

/-! ### Attestation (R345) and RANDOM (R367) -/

@[simp] theorem markStart_statementHead (c : Cmd) (d : Dev) (ty start : Nat) (ch : Bytes) :
    (d.markStart c).statementHead ty start ch = d.statementHead ty start ch := rfl

theorem drawn_get {pt : Part} (n : Nat) (d : Dev) (h : pt ≠ .anvil) : (d.draw n).2.get pt = d.get pt := Dev.draw_get _ _ h

theorem slotBadEvent_flag (n : Option Nat) (d : Dev) : (d.slotBadEvent n).cru.slotBadFlag = true :=
  (congrArg Crucible.slotBadFlag (Dev.alsoSignal_get (pt := .cru) 151 _ (by decide))).trans rfl

/-- What SLOT_BAD marks before its event. -/
def Dev.slotMarked (n : Option Nat) (d : Dev) : Dev :=
  { d with cru := { d.cru with
    slotBadFlag := true, slotBad := match n with | some k => d.cru.slotBad ||| 2 ^ k | none => d.cru.slotBad } }

theorem slotBadEvent_eq (n : Option Nat) (d : Dev) : d.slotBadEvent n = (d.slotMarked n).alsoSignal 151 := rfl

/-- SLOT_BAD is an event beside the command's, out of DOZE and with ROOT running (R331). -/
theorem slotBadEvent_awake {d : Dev} (n : Option Nat) (hd : d.pwr.dev = .run) (hr : d.clock.rootOn = true) :
    RaisedBeside 151 d (d.slotBadEvent n) ∧ (d.slotBadEvent n).jrnl = d.jrnl := by
  rw [slotBadEvent_eq, alsoSignal_awake (d := d.slotMarked n) 151 (not_doze_of_run hd)]
  exact ⟨raise_beside 151 hr, (congrArg Dev.jrnl (raise_frame (d := d.slotMarked n) 151 hr)).trans rfl⟩

/-- A statement whose key has no valid record (R331). -/
theorem slotFail_answers {i : Instr} {op tag n : Nat} {f : Dev → Dev} {c : Cmd} {s : State} (h : s.canRun op tag c = true) (hr : s.clock.rootOn = true)
    (he : exec i s = run f s) (hf : f s.toDev = (s.markStart c).slotFail tag n) :
    Answers i s fun t => t.ended tag = some (.gives .slotBad []) ∧ t.cru.slotBadFlag = true ∧ t.cru.slots = s.cru.slots ∧
      RaisedBeside 151 s.toDev t := by
  have hrun : s.pwr.dev = .run := run_of_canRun h
  obtain ⟨hraised, hj⟩ := slotBadEvent_awake (d := s.markStart c) (some n) hrun hr
  have hcru : ((s.markStart c).slotFail tag n).cru = ((s.markStart c).slotBadEvent (some n)).cru := Dev.fail_get (pt := .cru) _ _ _ (by decide)
  have hflag : ((s.markStart c).slotFail tag n).cru.slotBadFlag = true := by rw [hcru, slotBadEvent_flag]
  have hslots : ((s.markStart c).slotFail tag n).cru.slots = s.cru.slots := by rw [hcru, slotBadEvent_slots, Dev.markStart_cru]
  exact answers_leaves he hf hj ⟨ended_slotFail (markStart_isSome h), hflag, hslots, hraised⟩

/-- The device once a signature's scalar is drawn and the statement's answer stands. -/
theorem attest_good {tag : Nat} {body : Bytes} {d : Dev} (h2 : d.keyBad 2 = false) :
    d.attest tag body = d.drawScalar.2.reply tag (bytesToWords (body ++ ecdsaSign (d.key 2).material (sha256 body) d.drawScalar.1)) :=
  if_neg (by simp [h2])

theorem attest_answers {i : Instr} {op tag : Nat} {f : Dev → Dev} {c : Cmd} {s : State} {body : Bytes} (h : s.canRun op tag c = true)
    (h2 : s.keyBad 2 = false) (he : exec i s = run f s) (hf : f s.toDev = (s.markStart c).attest tag body) :
    Answers i s fun t => t.ended tag = some (.gives .done (bytesToWords (body ++ ecdsaSign (s.key 2).material (sha256 body) s.drawScalar.1))) ∧
      t.cru = s.cru ∧ EventsOnly { s.toDev with anvil := t.anvil } t := by
  have hb : (s.markStart c).drawScalar.1 = s.drawScalar.1 := drawScalar_bytes rfl
  refine answers_leaves he (hf.trans (attest_good h2)) rfl ⟨?_, rfl, eventsOnly_anvil fun pt hpt => ?_⟩
  · rw [← hb]
    exact ended_reply (markStart_isSome h)
  · simp [eventParts] at hpt
    rw [Dev.reply_get _ _ _ (by simp [hpt]), Dev.drawScalar_get _ (by simp [hpt]), Dev.markStart_get _ _ (by simp [hpt])]

theorem attestIdentity_row {tag : Nat} {c : Cmd} {s : Dev} (h : s.canRun 0x4B tag c = true) (hp : c.plen = 16) (hz : c.zeroFrom 6 = true) :
    attestIdentity tag s = if s.keyBad 5 then (s.markStart c).slotFail tag 5
      else (s.markStart c).attest tag (s.statementHead 1 s.now c.bytes ++ (s.key 2).pub ++ (s.key 5).pub) :=
  (startCmd_of_canRun _ h).trans (if_neg (by simp [hp, hz]))

theorem attestIdentity_bad {tag : Nat} {c : Cmd} {s : State} (hp : c.plen = 16) (h : s.canRun 0x4B tag c = true) (hz : c.zeroFrom 6 = true)
    (hbad : s.keyBad 2 = true ∨ s.keyBad 5 = true) (hr : s.clock.rootOn = true) :
    Answers (.attestIdentity tag) s fun t => t.ended tag = some (.gives .slotBad []) ∧ t.cru.slotBadFlag = true ∧
      t.cru.slots = s.cru.slots ∧ RaisedBeside 151 s.toDev t := by
  have hrow := attestIdentity_row h hp hz
  by_cases h5 : s.keyBad 5 = true
  · exact slotFail_answers h hr rfl (hrow.trans (if_pos h5))
  · exact slotFail_answers h hr rfl ((hrow.trans (if_neg h5)).trans (if_pos (hbad.resolve_right h5)))

theorem attestIdentity_good {tag : Nat} {c : Cmd} {s : State} (hp : c.plen = 16) (h2 : s.keyBad 2 = false) (h : s.canRun 0x4B tag c = true)
    (hz : c.zeroFrom 6 = true) (h5 : s.keyBad 5 = false) :
    Answers (.attestIdentity tag) s fun t =>
      let body := s.statementHead 1 s.now c.bytes ++ (s.key 2).pub ++ (s.key 5).pub
      t.ended tag = some (.gives .done (bytesToWords (body ++ ecdsaSign (s.key 2).material (sha256 body) s.drawScalar.1))) ∧
      t.cru = s.cru ∧ EventsOnly { s.toDev with anvil := t.anvil } t :=
  attest_answers h h2 rfl ((attestIdentity_row h hp hz).trans (if_neg (by simp [h5])))

/-- What a statement about a key says of it (R345). -/
def Dev.keyStatement (d : Dev) (c : Cmd) : Bytes :=
  d.statementHead 2 d.now c.bytes ++ leBytes 8 (c.w 6) ++ leBytes 8 (d.key (c.w 6)).attr ++ leBytes 4 (d.usesOf (c.w 6)) ++
    leBytes 4 (d.key (c.w 6)).keyset ++ leBytes 8 0 ++ fit 64 0 (d.key (c.w 6)).pub ++ leBytes 32 0

theorem attestKey_row {tag : Nat} {c : Cmd} {s : Dev} (h : s.canRun 0x4C tag c = true) (hp : c.plen = 16) (hn : c.w 6 < 64)
    (hz : c.zeroFrom 7 = true) (hk : s.keyBad (c.w 6) = false) :
    attestKey tag s = if attrType (s.key (c.w 6)).attr = 0 then (s.markStart c).fail tag .stateConflict
      else (s.markStart c).attest tag (s.keyStatement c) :=
  (startCmd_of_canRun _ h).trans ((if_neg (by simp [started_w, hp, hz, Nat.not_le.mpr hn])).trans (if_neg (mt (show s.keyBad (c.w 6) = true from ·) (by simp [hk]))))

theorem attestKey_answers {tag : Nat} {c : Cmd} {s : State} (hp : c.plen = 16) (h2 : s.keyBad 2 = false) (h : s.canRun 0x4C tag c = true)
    (hn : c.w 6 < 64) (hz : c.zeroFrom 7 = true) (hk : s.keyBad (c.w 6) = false) :
    Answers (.attestKey tag) s fun t => t.cru = s.cru ∧ EventsOnly { s.toDev with anvil := t.anvil } t ∧
      if attrType (s.key (c.w 6)).attr = 0 then t.ended tag = some (.gives .stateConflict [])
      else t.ended tag = some (.gives .done (bytesToWords (s.keyStatement c ++
        ecdsaSign (s.key 2).material (sha256 (s.keyStatement c)) s.drawScalar.1))) := by
  have hrow := attestKey_row h hp hn hz hk
  split
  · next ha =>
    refine answers_leaves rfl (hrow.trans (if_pos ha)) rfl ⟨rfl, eventsOnly_anvil fun pt hpt => ?_, ended_fail (markStart_isSome h)⟩
    simp [eventParts] at hpt
    rw [Dev.fail_get _ _ _ (by simp [hpt]), Dev.markStart_get _ _ (by simp [hpt])]
  · next ha => exact (attest_answers h h2 rfl (hrow.trans (if_neg ha))).imp fun t ⟨he, hc, hev⟩ => ⟨hc, hev, he⟩

theorem random_answers {tag : Nat} {c : Cmd} {s : State} (h : s.canRun 0x4E tag c = true) (hlo : 1 ≤ c.w 6) (hhi : c.w 6 ≤ 1020)
    (hz : c.zeroFrom 7 = true) :
    Answers (.random tag) s fun t =>
      t.ended tag = some (.gives .done (word (c.w 6) :: bytesToWords (s.draw (c.w 6)).1)) ∧ t.anvil = (s.draw (c.w 6)).2.anvil ∧
      OnlyCommands { s.toDev with anvil := t.anvil } t := by
  have hrow : randomOp tag s.toDev = _ := (startCmd_of_canRun _ h).trans (if_neg (by simp [started_w, hz, Nat.not_lt.mpr hhi, Nat.ne_of_gt hlo]))
  refine answers_leaves rfl hrow rfl ⟨?_, rfl, rfl⟩
  exact ended_reply (markStart_isSome h)

/-! ### The entropy source and the shares (R318, R369–R377) -/

theorem takeSamples_pass {samples : List Nat} {h : Health} {d : Dev} (hf : d.anvil.health.feedAll samples = some h) :
    d.takeSamples samples = { d with anvil := { d.anvil with health := h } } := by
  rw [Dev.takeSamples, hf]

/-- A row whose journal stays answers what it leaves. -/
theorem answers_kept {i : Instr} {s : State} {f : Dev → Dev} {P : Dev → Prop} (he : exec i s = run f s) (hj : (f s.toDev).jrnl = s.jrnl)
    (hP : P (f s.toDev)) : Answers i s P := answers_leaves he rfl hj hP

theorem blockAccepted_pass {samples : List Nat} {h : Health} {d : Dev} (hd : d.domOn 10 = true) (hf : d.anvil.health.feedAll samples = some h)
    (hp : 1024 ≤ h.passed) (hg : 640 ≤ h.gathered) :
    blockAccepted samples d =
      { d.freshBlock.2 with anvil := { d.anvil with
          health := { h with gathered := h.gathered - 640 }, failWin := none, failed := false,
          blocks := if !d.anvil.ready && d.anvil.cold && d.anvil.blocks.length < 2 then d.anvil.blocks ++ [d.freshBlock.1] else d.anvil.blocks } } := by
  rw [blockAccepted, if_neg (by simp [hd]), takeSamples_pass hf]
  exact if_neg (by simp; omega)

theorem blockAccepted_short {samples : List Nat} {h : Health} {d : Dev} (hd : d.domOn 10 = true) (hf : d.anvil.health.feedAll samples = some h)
    (hs : h.passed < 1024 ∨ h.gathered < 640) : blockAccepted samples d = { d with anvil := { d.anvil with health := h } } := by
  rw [blockAccepted, if_neg (by simp [hd]), takeSamples_pass hf]
  exact if_pos (by simpa using hs)

/-- A failed health test, before and behind its event (R369, R377). -/
def Dev.hfailed (d : Dev) : Dev := { d with anvil := { d.anvil with hfail := true, health := Health.reset } }
def Dev.entropyWindow (d : Dev) : Dev :=
  { d with anvil := { d.anvil with failWin := if d.anvil.failed then none else some (d.anvil.failWin.getD (d.opened 6240000)) } }

theorem healthTestFail_row {samples : List Nat} {d : Dev} (hd : d.domOn 10 = true) (hf : d.anvil.health.feedAll samples = none)
    (hrun : d.pwr.dev = .run) : healthTestFail samples d = (d.hfailed.event 148).entropyWindow := by
  rw [healthTestFail, if_pos hd, Dev.takeSamples, hf]
  exact congrArg Dev.entropyWindow (signal_awake (d := d.hfailed) 148 (not_doze_of_run hrun))

theorem healthTestFail_answers {samples : List Nat} {s : State} (hu : s.hostUp = true) (hd : s.domOn 10 = true)
    (hf : s.anvil.health.feedAll samples = none) :
    Answers (.healthTestFail samples) s fun t =>
      t.anvil.hfail = true ∧ t.anvil.health = Health.reset ∧ Raised 148 s.toDev t ∧ t.anvil.ready = s.anvil.ready ∧
      (s.anvil.failed = false → s.anvil.failWin = none → t.anvil.failWin = some ⟨t.clock.tb, t.clock.tb + 6240000, t.clock.unc⟩) ∧
      EventsOnly { s.toDev with anvil := t.anvil } t := by
  have hr : s.hfailed.clock.rootOn = true := rootOn_of_hostUp hu
  have hraised : Raised 148 s.hfailed (s.hfailed.event 148) := event_raised 148 hr
  have hon : (s.hfailed.event 148).clock.rootOn = true := event_rootOn 148 hr
  have hrow : healthTestFail samples s.toDev = _ := healthTestFail_row hd hf (run_of_hostUp hu)
  rw [event_frame 148 hr] at hrow
  refine answers_leaves rfl hrow rfl ⟨rfl, rfl, hraised, rfl, fun hfl hw => ?_, rfl⟩
  have hfail : s.hfailed.anvil.failed = false := hfl
  have hnone : s.hfailed.anvil.failWin = none := hw
  simp only [Dev.entropyWindow, hfail, hnone, Bool.false_eq_true, if_false, Option.getD_none]
  exact congrArg some (opened_running _ hon)

/-- A reseed at its time from a fresh block, up to the commands that leave the hold (R373). -/
def Dev.reseeded (d : Dev) : Dev :=
  let w := d.wait d.reseedStamp
  let r := w.freshBlock.2.reseedWith w.freshBlock.1
  { r with anvil := { r.anvil with ready := true } }

def Dev.unheld (d : Dev) : Dev := { d with cmds := d.cmds.map (fun c => if c.phase = .held then { c with phase := .queued } else c) }

theorem reseed_row {s : Dev} (hu : s.hostUp = true) (hd : s.domOn 10 = true) (hdef : s.domDeferred 10 = false) (hf : s.anvil.failed = false)
    (hready : s.anvil.ready = true ∨ 2 ^ 20 ≤ s.anvil.requests) :
    reseed s = if s.anvil.ready then s.reseeded else s.reseeded.unheld.signal 149 := by
  rw [reseed, if_neg]
  · rfl
  · have ha := awake_of_hostUp hu
    rcases hready with h | h <;> simp [hd, hdef, ha, hf, h]
    exact fun _ => h

theorem reseed_answers {s : State} (hu : s.hostUp = true) (hd : s.domOn 10 = true) (hpos : s.clock.pos < 4000)
    (hdef : s.domDeferred 10 = false) (hf : s.anvil.failed = false) (hready : s.anvil.ready = true ∨ 2 ^ 20 ≤ s.anvil.requests) :
    Answers .reseed s fun t =>
      t.anvil.ready = true ∧ t.anvil.requests = 0 ∧ t.anvil.reseedDue = false ∧ t.anvil.reserve.isSome = true ∧
      EventsOnly { s.toDev with anvil := t.anvil, free := t.free } t ∧
      (s.anvil.ready = true → s.reseedStamp ≤ t.clock.tb ∧ t.cmds = s.cmds) ∧ (s.anvil.ready = false → Raised 149 s.toDev t ∧
        t.cmds = s.cmds.map (fun c => if c.phase = .held then { c with phase := .queued } else c)) := by
  have hrow : reseed s.toDev = _ := reseed_row hu hd hdef hf hready
  have hr := rootOn_of_hostUp hu
  by_cases h : s.anvil.ready = true
  · rw [if_pos h] at hrow
    exact answers_leaves rfl hrow rfl ⟨rfl, rfl, rfl, rfl, rfl, fun _ => ⟨(wait_reaches hr hpos).1, rfl⟩, fun hno => absurd (h.symm.trans hno) (by decide)⟩
  · have hon : s.reseeded.unheld.clock.rootOn = true := (wait_rootOn ..).trans hr
    have hraised := event_raised (d := s.reseeded.unheld) 149 hon
    have hesn : s.reseeded.unheld.clock.esn = s.clock.esn := wait_esn ..
    rw [if_neg h, signal_awake (d := s.reseeded.unheld) 149 (not_doze_of_run (show s.pwr.dev = .run from run_of_hostUp hu)), event_frame 149 hon] at hrow
    exact answers_leaves rfl hrow rfl ⟨rfl, rfl, rfl, rfl, rfl, fun hyes => absurd hyes h, fun _ => ⟨raised_of_eq hraised hesn rfl, rfl⟩⟩

theorem remask_row {s : Dev} (hu : s.hostUp = true) (hd : s.domOn 10 = true) (hr : s.anvil.ready = true) (ht : s.cru.tampered = false) :
    remask s =
      let d := s.wait (s.anvil.remaskAt + 1248000)
      { (d.draw 32).2 with
        cru := { s.cru with shareA := xorBytes s.cru.shareA (d.draw 32).1, shareB := xorBytes s.cru.shareB (d.draw 32).1 },
        anvil := { (d.draw 32).2.anvil with remaskAt := (d.draw 32).2.now } } := by
  rw [remask, if_pos (by simp [awake_of_hostUp hu, hd, hr, ht])]
  rfl

theorem remask_answers {s : State} (hu : s.hostUp = true) (hd : s.domOn 10 = true) (hpos : s.clock.pos < 4000) (hready : s.anvil.ready = true)
    (ht : s.cru.tampered = false) :
    Answers .remask s fun t =>
      s.anvil.remaskAt + 1248000 ≤ t.clock.tb ∧ t.anvil.requests = s.anvil.requests + 1 ∧ t.anvil.remaskAt = t.clock.tb ∧
      t = { s.toDev with clock := t.clock, anvil := t.anvil, cru := { s.cru with shareA := t.cru.shareA, shareB := t.cru.shareB } } ∧
      ∃ m, t.cru.shareA = xorBytes s.cru.shareA m ∧ t.cru.shareB = xorBytes s.cru.shareB m := by
  have hr := rootOn_of_hostUp hu
  refine answers_leaves rfl (remask_row hu hd hready ht) rfl ⟨(wait_reaches hr hpos).1, rfl, ?_, rfl, _, rfl, rfl⟩
  exact now_running (d := s.wait (s.anvil.remaskAt + 1248000)) ((wait_rootOn ..).trans hr)

/-- Settles O21: attestations, RANDOM, and the events of the entropy source and the shares. -/
theorem attestationsAndRandomness : Obligations.AttestationsAndRandomness := by
  unfold Obligations.AttestationsAndRandomness
  refine ⟨fun tag c s hp => ⟨attestIdentity_bad hp, attestIdentity_good hp, attestKey_answers hp⟩, fun tag c s => random_answers,
    fun samples h s hu hd hpos => ⟨fun hf hp hg => ?_, fun hf hs => ?_, healthTestFail_answers hu hd,
      reseed_answers hu hd hpos, remask_answers hu hd hpos⟩⟩
  · have hrow := blockAccepted_pass hd hf hp hg
    refine answers_leaves rfl hrow rfl ⟨rfl, rfl, ?_⟩
    by_cases hb : s.anvil.ready = false ∧ s.anvil.cold = true ∧ s.anvil.blocks.length < 2
    · rw [if_pos hb]
      simp [hb]
    · rw [if_neg hb]
      simp only [Bool.and_eq_true, Bool.not_eq_true', decide_eq_true_eq, and_assoc, hb, if_false]
  · exact answers_leaves rfl (blockAccepted_short hd hf hs) rfl rfl

end Sys2Proof.Machine
end

section
/-!
PROOFS. The atlas (chapter 12). O26 fails where the shadow's re-read needs the stripe and the medium has one die: nothing recovers the
data then (R496, R504), so ATLAS_COMMIT ends MEDIA_UNCORRECTABLE with no read told as lost.
-/

namespace Sys2Proof.Machine

/-- A READY load on a medium of one die, and an ATLAS_COMMIT that may start. -/
def oneDieCommit : State :=
  { Tests.ring (Tests.cmd 0x62) Tests.up with atlas := { Tests.up.atlas with load := { AtlasLoad.idle with state := 3 } } }

/-- A read that the ladder did not decode, and that is not told as lost. -/
def stripeRead : NandRead := ⟨15, 0, true, false⟩

theorem oneDieCommit_fails : ∀ t, exec (.atlasCommit 7 stripeRead) oneDieCommit = .next t →
    t.ended 7 = some (.gives .mediaUncorrectable []) := by
  intro t ht
  cases ht
  decide +kernel

/-- Refutes O26: a re-read that needs the stripe of a one-die medium is lost, though `nand.lost` is not set. -/
theorem not_atlasCommands : ¬ Obligations.AtlasCommands := by
  unfold Obligations.AtlasCommands
  rintro ⟨-, -, h⟩
  obtain ⟨hcommit, -⟩ := h 7 stripeRead (Tests.cmd 0x62) oneDieCommit (by decide +kernel)
  obtain ⟨t, ht, -, -, -, -, hend⟩ := hcommit (by decide +kernel)
  rw [if_neg (by decide +kernel), if_neg (by decide), if_neg (by decide +kernel), if_pos (by decide +kernel),
    oneDieCommit_fails t ht] at hend
  exact absurd hend.1 (by decide)

end Sys2Proof.Machine
end

section
/-!
PROOFS. Token exchanges, admissions and revocations (chapter 16).
-/

namespace Sys2Proof.Machine

/-! ### The first telegram of an exchange (R384, R428) -/

/-- The sequencer taken, and the aerials to which STANDBY is owed. -/
def Dev.onDuty (tag : Nat) (x : TokenRun) (d : Dev) : Dev :=
  let d := d.onSeq x.seq (fun q => { q with running := some tag, rom := true })
  { d with lf := { d.lf with standbyDue := x.mask } }

/-- The telegram goes out, and the exchange is the command's work. -/
def Dev.exchange (tag : Nat) (x : TokenRun) (code : Nat) (data : Bytes) (d : Dev) : Dev :=
  ((d.onDuty tag x).send (.command tag) x.mask x.rate code data).setToken tag x

theorem onSeq_get {pt : Part} (q : Nat) (f : Seqr → Seqr) (d : Dev) (h : pt ≠ .ham) : (d.onSeq q f).get pt = d.get pt := by
  rw [Dev.onSeq]
  split <;> cases pt <;> simp at h <;> rfl

theorem onSeq_lf (q : Nat) (f : Seqr → Seqr) (d : Dev) : (d.onSeq q f).lf = d.lf := onSeq_get (pt := .lf) q f d (by decide)
theorem onSeq_cru (q : Nat) (f : Seqr → Seqr) (d : Dev) : (d.onSeq q f).cru = d.cru := onSeq_get (pt := .cru) q f d (by decide)
theorem onSeq_seqr (q : Nat) (f : Seqr → Seqr) (d : Dev) : (d.onSeq q f).seqr q = f (d.seqr q) := by
  rw [Dev.onSeq, Dev.seqr]
  split <;> simp [Dev.seqr, *]

theorem onDuty_get {pt : Part} (tag : Nat) (x : TokenRun) (d : Dev) (h : pt ∉ [.lf, .ham]) : (d.onDuty tag x).get pt = d.get pt := by
  simp at h
  exact (Dev.get_with_lf _ _ h.1).trans (onSeq_get _ _ _ h.2)

theorem exchange_get {pt : Part} (tag : Nat) (x : TokenRun) (code : Nat) (data : Bytes) (d : Dev) (h : pt ∉ [.lf, .ham] ++ eventParts) :
    (d.exchange tag x code data).get pt = d.get pt := by
  simp [eventParts] at h
  rw [Dev.exchange, Dev.setToken, Dev.setPhase_get _ _ _ (by simp [h]), Dev.send_get _ _ _ _ _ _ (by simp [h]), onDuty_get _ _ _ (by simp [h])]

theorem tokenSend_eq {tag : Nat} {x y : TokenRun} {code : Nat} {data : Bytes} {d : Dev} (hs : y.seq = x.seq) (hm : y.mask = x.mask) :
    (d.onSeq x.seq (fun q => { q with running := some tag, rom := true })).tokenSend tag y code data = d.exchange tag y code data := by
  rw [Dev.exchange, Dev.onDuty, hs]
  rfl

theorem tokenBegin_idle {tag : Nat} {x : TokenRun} {code : Nat} {data : Bytes} {d : Dev} (h : d.lf.emission = none) :
    d.tokenBegin tag x code data = d.exchange tag x code data := by
  have ht : (d.onSeq x.seq (fun q => { q with running := some tag, rom := true })).takeLf = _ := takeLf_idle (by rw [onSeq_lf, h])
  rw [Dev.tokenBegin, ht, tokenSend_eq rfl rfl]

theorem exchange_working {tag : Nat} {x : TokenRun} {code : Nat} {data : Bytes} {d : Dev} (h : (d.cmd tag).isSome = true) :
    (d.exchange tag x code data).working tag = some (.token x) := by
  have hc : (d.onDuty tag x).cmd tag = d.cmd tag := cmd_of_cmds (onDuty_get (pt := .cmds) tag x d (by decide)) tag
  exact working_setPhase (((congrArg Option.isSome (send_cmd ..)).trans (congrArg Option.isSome hc)).trans h)

theorem exchange_emission (tag : Nat) (x : TokenRun) (code : Nat) (data : Bytes) (d : Dev) :
    (d.exchange tag x code data).lf.emission.map (fun e => e.2) = some (.command tag, x.mask) := send_emission ..

theorem telegram_of_wakeId {s d : Dev} (h : d.cru.wakeId = s.cru.wakeId) (code : Nat) (data : Bytes) : d.telegram code data = s.telegram code data := by
  simp only [Dev.telegram, h]

theorem exchange_air (tag : Nat) (x : TokenRun) (code : Nat) (data : Bytes) (d : Dev) :
    (d.exchange tag x code data).lf.air = d.telegram code data := by
  refine (send_air ..).trans (telegram_of_wakeId ?_ _ _)
  exact congrArg Crucible.wakeId (onSeq_cru x.seq _ d)

theorem exchange_seqr (tag : Nat) (x : TokenRun) (code : Nat) (data : Bytes) (d : Dev) :
    ((d.exchange tag x code data).seqr x.seq).running = some tag := by
  have hh : (d.exchange tag x code data).ham = (d.onDuty tag x).ham := Dev.send_get (pt := .ham) (.command tag) x.mask x.rate code data (d.onDuty tag x) (by decide)
  have hs : (d.exchange tag x code data).seqr x.seq = (d.onDuty tag x).seqr x.seq := by simp only [Dev.seqr, hh]
  rw [hs]
  exact congrArg Seqr.running (onSeq_seqr x.seq _ d)

theorem isToken_of_canRun {op tag : Nat} {c : Cmd} {d : Dev} (h : d.canRun op tag c = true)
    (ho : op = 0x40 ∨ op = 0x41 ∨ op = 0x42 ∨ op = 0x46) : c.isToken = true := by
  have hop := op_of_canRun h
  rcases ho with rfl | rfl | rfl | rfl <;> simp [Cmd.isToken, hop]

/-- An exchange runs on the sequencer that was free at the command's start (R115). -/
theorem started_hammer {op tag : Nat} {c : Cmd} {d : Dev} (h : d.canRun op tag c = true) (ho : op = 0x40 ∨ op = 0x41 ∨ op = 0x42 ∨ op = 0x46) :
    (d.started c).hammer = d.freeSeq := if_pos (isToken_of_canRun h ho)

/-- A command whose exchange has begun on the device `d`. -/
theorem answers_exchange {i : Instr} {s : State} {f : Dev → Dev} {op tag code : Nat} {c : Cmd} {x : TokenRun} {data : Bytes} {d : Dev}
    (he : exec i s = run f s) (h : s.canRun op tag c = true) (ht : f s.toDev = d.exchange tag x code data) (hd : d.cmds = (s.markStart c).cmds) :
    Answers i s fun t => t.working tag = some (.token x) ∧ (t.seqr x.seq).running = some tag ∧ t.lf.air = d.telegram code data ∧
      t.lf.emission.map (fun e => e.2) = some (.command tag, x.mask) ∧ ∀ pt, pt ∉ [.lf, .ham] ++ eventParts → t.get pt = d.get pt := by
  refine answers_settle he ht ⟨?_, ?_, ?_, ?_, fun pt hpt => ?_⟩
  · rw [settle_working]
    exact exchange_working ((congrArg Option.isSome (cmd_of_cmds hd tag)).trans (markStart_isSome h))
  · rw [Dev.seqr, settle_ham]
    exact exchange_seqr ..
  · rw [settle_lf, exchange_air]
  · rw [settle_lf, exchange_emission]
  · have hpt' := hpt
    simp [eventParts] at hpt'
    rw [Dev.settle_get _ _ (by simp [hpt']), exchange_get _ _ _ _ _ hpt]

/-- Such a row, on a device that differs in some parts only. -/
theorem eventsOnly_lf_anvil_ham {s t : Dev} (h : ∀ pt, pt ∉ [.lf, .anvil, .ham] ++ eventParts → t.get pt = s.get pt) :
    EventsOnly { s with lf := t.lf, anvil := t.anvil, ham := t.ham } t :=
  eventsOnly_of_get fun pt hpt => by
    cases pt
    case lf | anvil | ham => rfl
    case cmds | clock | pwr | evc | jrnl | nv | bg => exact absurd (by decide) hpt
    all_goals exact h _ (by decide)

theorem onlyCommands_cru {s t : Dev} (h : OnlyCommands s t) : t.cru = s.cru := by
  unfold OnlyCommands at h
  rw [h]
theorem onlyCommands_tok {s t : Dev} (h : OnlyCommands s t) : t.tok = s.tok := by
  unfold OnlyCommands at h
  rw [h]


/-- A command of a token that ends at its start leaves slots, tokens and session as they stood. -/
theorem answers_refused_tok {i : Instr} {s : State} {f : Dev → Dev} {op tag : Nat} {c : Cmd} {r : Result} (he : exec i s = run f s)
    (h : s.canRun op tag c = true) (ht : f s.toDev = (s.markStart c).finish tag r) :
    Answers i s fun t => t.cru = s.cru ∧ t.tok = s.tok ∧ t.ended tag = some r ∧ OnlyCommands s.toDev t :=
  (answers_refused he h ht).imp fun _ ⟨hend, honly⟩ => ⟨onlyCommands_cru honly, onlyCommands_tok honly, hend, honly⟩

/-- A token command that a bad slot ends (R331). -/
theorem answers_slotBad {i : Instr} {s : State} {f : Dev → Dev} {op tag : Nat} {c : Cmd} {n : Option Nat} (he : exec i s = run f s)
    (h : s.canRun op tag c = true) (ht : f s.toDev = ((s.markStart c).slotBadEvent n).fail tag .slotBad) :
    Answers i s fun t => t.cru.slots = s.cru.slots ∧ t.cru.tokens = s.cru.tokens ∧ t.tok = s.tok ∧ t.ended tag = some (.gives .slotBad []) ∧
      EventsOnly { s.toDev with cru := t.cru } t := by
  have hc : (((s.markStart c).slotBadEvent n).fail tag .slotBad).cru = ((s.markStart c).slotMarked n).cru :=
    (Dev.fail_get (pt := .cru) _ _ _ (by decide)).trans (Dev.alsoSignal_get (pt := .cru) 151 ((s.markStart c).slotMarked n) (by decide))
  have htok : (((s.markStart c).slotBadEvent n).fail tag .slotBad).tok = s.tok :=
    (Dev.fail_get (pt := .tok) _ _ _ (by decide)).trans (Dev.slotBadEvent_get (pt := .tok) _ _ (by decide))
  refine answers_settle he ht ⟨?_, ?_, ?_, ?_, eventsOnly_cru fun pt hpt => ?_⟩
  · rw [settle_cru, hc]
    rfl
  · rw [settle_cru, hc]
    rfl
  · rw [settle_tok, htok]
  · rw [settle_ended]
    exact ended_fail ((congrArg Option.isSome (cmd_of_cmds (Dev.slotBadEvent_get (pt := .cmds) n (s.markStart c) (by decide)) tag)).trans
      (markStart_isSome h))
  · simp [eventParts] at hpt
    rw [Dev.settle_get _ _ (by simp [hpt]), Dev.fail_get _ _ _ (by simp [hpt]), Dev.slotBadEvent_get _ _ (by simp [hpt]),
      Dev.markStart_get _ _ (by simp [hpt])]

/-! ### TOKEN_AUTH (R380–R383) -/

@[simp] theorem markStart_authSlot (c : Cmd) (d : Dev) (w : Nat) : (d.markStart c).authSlot w = d.authSlot w := rfl
@[simp] theorem markStart_tokenBad (c : Cmd) (d : Dev) (n : Nat) : (d.markStart c).tokenBad n = d.tokenBad n := rfl
@[simp] theorem markStart_lowestEmpty (c : Cmd) (d : Dev) (lo hi : Nat) : (d.markStart c).lowestEmpty lo hi = d.lowestEmpty lo hi := by
  simp only [Dev.lowestEmpty, markStart_keyEmpty]
@[simp] theorem markStart_ksSlot (c : Cmd) (d : Dev) : (d.markStart c).ksSlot = d.ksSlot := by
  simp only [Dev.ksSlot, Dev.markStart_tok, markStart_lowestEmpty]

/-- The exchange of a TOKEN_AUTH at its beginning. -/
def authRun (c : Cmd) (d : Dev) (n : Nat) : TokenRun :=
  { (d.started c).newRun 0 (d.usable (d.maskOf (c.w 7))) (d.bitTime (c.w 8)) n (d.slotRec n).id with nb := (d.draw 8).1 }

theorem tokenAuth_row {tag n k : Nat} {c : Cmd} {s : Dev} (h : s.canRun 0x40 tag c = true) (h6 : c.w 6 ≤ 31 ∨ c.w 6 = 0xFF)
    (h7 : c.w 7 < 256) (h8 : c.w 8 ≤ 2) (hz : c.zeroFrom 9 = true) (hn : s.authSlot (c.w 6) = some n) (hk : s.ksSlot = some k)
    (he : s.lf.emission = none) :
    tokenAuth tag s =
      if s.tokenBad n then ((s.markStart c).slotBadEvent none).fail tag .slotBad
      else if !s.enrolled n then (s.markStart c).fail tag .stateConflict
      else if s.usable (s.maskOf (c.w 7)) = 0 then (s.markStart c).fail tag (s.noAerial (s.maskOf (c.w 7)))
      else ((s.markStart c).draw 8).2.exchange tag (authRun c s n) 3 (idBytes (authRun c s n).token ++ (authRun c s n).nb) := by
  have hbad : ¬((decide (31 < c.w 6) && c.w 6 != 0xFF) || decide (256 ≤ c.w 7) || decide (2 < c.w 8) || !c.zeroFrom 9) = true := by
    simp [hz]; omega
  refine (startCmd_of_canRun _ h).trans ((if_neg hbad).trans ?_)
  have hb : ((s.markStart c).draw 8).2.tokenBegin tag (authRun c s n) 3 (idBytes (authRun c s n).token ++ (authRun c s n).nb) = _ :=
    tokenBegin_idle (d := ((s.markStart c).draw 8).2) he
  simp only [started_w, markStart_authSlot, hn, markStart_ksSlot, hk, ← hb]
  rfl

theorem tokenAuth_answers {tag n k : Nat} {c : Cmd} {s : State} (h : s.canRun 0x40 tag c = true) (h6 : c.w 6 ≤ 31 ∨ c.w 6 = 0xFF)
    (h7 : c.w 7 < 256) (h8 : c.w 8 ≤ 2) (hz : c.zeroFrom 9 = true) (hn : s.authSlot (c.w 6) = some n) (hk : s.ksSlot = some k)
    (he : s.lf.emission = none) :
    Answers (.tokenAuth tag) s fun t =>
      let mask := s.usable (s.maskOf (c.w 7))
      t.cru.slots = s.cru.slots ∧ t.tok = s.tok ∧
      if s.tokenBad n = true then t.ended tag = some (.gives .slotBad [])
      else if s.enrolled n = false then t.ended tag = some (.gives .stateConflict []) ∧ OnlyCommands s.toDev t
      else if mask = 0 then t.ended tag = some (.gives (s.noAerial (s.maskOf (c.w 7))) []) ∧ OnlyCommands s.toDev t
      else
        ∃ x, t.working tag = some (.token x) ∧ x.kind = 0 ∧ x.slot = n ∧ x.token = (s.slotRec n).id ∧ x.nb = (s.draw 8).1 ∧
          x.seq = s.freeSeq.getD 0 ∧ (t.seqr x.seq).running = some tag ∧ t.lf.air = s.telegram 3 (idBytes x.token ++ x.nb) ∧
          t.lf.emission.map (fun e => e.2) = some (.command tag, mask) ∧
          EventsOnly { s.toDev with lf := t.lf, anvil := t.anvil, ham := t.ham } t := by
  have hrow := tokenAuth_row h h6 h7 h8 hz hn hk he
  dsimp only
  split
  · next hb => exact (answers_slotBad rfl h (hrow.trans (if_pos hb))).imp fun t ⟨hsl, _, htok, hend, _⟩ => ⟨hsl, htok, hend⟩
  · next hb =>
    replace hrow := hrow.trans (if_neg hb)
    split
    · next hen =>
      exact (answers_refused_tok rfl h (hrow.trans (if_pos (by simp [hen])))).imp fun t ⟨hc, htok, hend⟩ => ⟨by rw [hc], htok, hend⟩
    · next hen =>
      replace hrow := hrow.trans (if_neg (by simp [hen]))
      split
      · next h0 =>
        exact (answers_refused_tok rfl h (hrow.trans (if_pos h0))).imp fun t ⟨hc, htok, hend⟩ => ⟨by rw [hc], htok, hend⟩
      · next h0 =>
        refine (answers_exchange rfl h (hrow.trans (if_neg h0)) rfl).imp fun t ⟨hwork, hseq, hair, hem, hframe⟩ => ?_
        have hcru : t.cru = s.cru := hframe .cru (by decide)
        refine ⟨by rw [hcru], hframe .tok (by decide), authRun c s.toDev n, hwork, rfl, rfl, rfl, rfl,
          congrArg (Option.getD · 0) (started_hammer h (by simp)), hseq, hair, hem, eventsOnly_lf_anvil_ham fun pt hpt => ?_⟩
        simp [eventParts] at hpt
        rw [hframe pt (by simp [eventParts, hpt]), Dev.draw_get _ _ (by simp [hpt]), Dev.markStart_get _ _ (by simp [hpt])]

/-! ### TOKEN_MEM_READ and TOKEN_MEM_WRITE (R386–R390) -/

theorem eventsOnly_lf_tok_ham {s t : Dev} (h : ∀ pt, pt ∉ [.lf, .tok, .ham] ++ eventParts → t.get pt = s.get pt) :
    EventsOnly { s with lf := t.lf, tok := t.tok, ham := t.ham } t :=
  eventsOnly_of_get fun pt hpt => by
    cases pt
    case lf | tok | ham => rfl
    case cmds | clock | pwr | evc | jrnl | nv | bg => exact absurd (by decide) hpt
    all_goals exact h _ (by decide)

/-- The memory counter's next value taken (R386). -/
def Dev.nextMc (y : TokenSession) (d : Dev) : Dev := { d with tok := { d.tok with session := some { y with mc := y.mc + 1 } } }

/-- The bytes of a request with its tag (R386). -/
def Dev.memData (x : TokenRun) (op arg : Nat) (body : Nat → Bytes) (z : TokenSession) (d : Dev) : Bytes :=
  let req := [byte op, byte x.page, byte arg, byte (z.mc + 1)] ++ body (z.mc + 1)
  req ++ (cmac d.kmm (ascii "MQ" ++ idBytes z.token ++ beBytes 4 (z.mc + 1) ++ req)).take 4

theorem memReq_eq {tag op arg : Nat} {x : TokenRun} {body : Nat → Bytes} {z : TokenSession} {d : Dev} (hz : d.tok.session = some z) :
    d.memReq tag x op arg body = (d.nextMc z).tokenSend tag x 5 (d.memData x op arg body z) := by
  rw [Dev.memReq, hz]
  rfl

theorem nextMc_onSeq (q : Nat) (f : Seqr → Seqr) (z : TokenSession) (d : Dev) : (d.onSeq q f).nextMc z = (d.nextMc z).onSeq q f := by
  unfold Dev.onSeq
  split <;> rfl

/-- The first request of a memory exchange. -/
theorem memReq_idle {tag op arg : Nat} {x y : TokenRun} {body : Nat → Bytes} {z : TokenSession} {d : Dev} (h : d.lf.emission = none)
    (hz : d.tok.session = some z) (hs : y.seq = x.seq) (hm : y.mask = x.mask) :
    ∃ data, ((d.onSeq x.seq (fun q => { q with running := some tag, rom := true })).takeLf).memReq tag y op arg body =
      (d.nextMc z).exchange tag y 5 data := by
  have htok : (d.onSeq x.seq (fun q => { q with running := some tag, rom := true })).tok.session = some z :=
    (congrArg Tokens.session (onSeq_get (pt := .tok) x.seq _ d (by decide))).trans hz
  rw [takeLf_idle (by rw [onSeq_lf, h]), memReq_eq htok, nextMc_onSeq, tokenSend_eq hs hm]
  exact ⟨_, rfl⟩

/-- The exchange of a READ once its request is out (R388). -/
def TokenRun.reading (x : TokenRun) : TokenRun := { x with stage := 0, at_ := x.missing, got := x.got.filter (fun g => g.2 != []) }

theorem memRead_idle {tag : Nat} {x : TokenRun} {z : TokenSession} {d : Dev} (h : d.lf.emission = none) (hz : d.tok.session = some z) :
    ∃ data, ((d.onSeq x.seq (fun q => { q with running := some tag, rom := true })).takeLf).memRead tag x =
      (d.nextMc z).exchange tag x.reading 5 data := by
  unfold Dev.memRead
  exact memReq_idle (y := x.reading) h hz rfl rfl

theorem memWrite_idle {tag : Nat} {x : TokenRun} {z : TokenSession} {d : Dev} (h : d.lf.emission = none) (hz : d.tok.session = some z)
    (hu : x.at_ < x.count) :
    ∃ data, ((d.onSeq x.seq (fun q => { q with running := some tag, rom := true })).takeLf).memWrite tag x =
      (d.nextMc z).exchange tag { x with stage := 0 } 5 data := by
  unfold Dev.memWrite
  rw [if_pos hu]
  exact memReq_idle (y := { x with stage := 0 }) h hz rfl rfl

/-- The exchange of a TOKEN_MEM_READ at its beginning. -/
def readRun (c : Cmd) (d : Dev) (z : TokenSession) : TokenRun :=
  { (d.started c).newRun 1 (d.usable (d.maskOf (c.w 9))) (d.bitTime (c.w 10)) z.slot z.token with
    page := c.w 6, first := if c.w2 7 = 0 then 2 ^ 32 - 1 else c.w2 7 }

/-- The exchange of a TOKEN_MEM_WRITE at its beginning. -/
def writeRun (c : Cmd) (d : Dev) (z : TokenSession) : TokenRun :=
  { (d.started c).newRun 2 (d.usable (d.maskOf (c.w 9))) (d.bitTime (c.w 10)) z.slot z.token with
    page := c.w 6, first := c.w 7, count := c.plen / 4, data := c.bytes }

theorem tokenMemRead_row {tag : Nat} {c : Cmd} {s : Dev} (h : s.canRun 0x41 tag c = true) (h6 : c.w 6 < 256) (h9 : c.w 9 < 256)
    (h10 : c.w 10 ≤ 2) (hz : c.zeroFrom 11 = true) :
    tokenMemRead tag s = match s.tok.session with
      | none => (s.markStart c).fail tag .stateConflict
      | some z =>
        if s.usable (s.maskOf (c.w 9)) = 0 then (s.markStart c).fail tag (s.noAerial (s.maskOf (c.w 9)))
        else (((s.markStart c).onSeq (readRun c s z).seq (fun q => { q with running := some tag, rom := true })).takeLf).memRead tag (readRun c s z) := by
  have hbad : ¬(decide (256 ≤ c.w 6) || decide (256 ≤ c.w 9) || decide (2 < c.w 10) || !c.zeroFrom 11) = true := by
    simp [hz]; omega
  refine (startCmd_of_canRun _ h).trans ((if_neg hbad).trans ?_)
  rw [Dev.markStart_tok]
  cases s.tok.session <;> rfl

theorem tokenMemWrite_row {tag : Nat} {c : Cmd} {s : Dev} (h : s.canRun 0x42 tag c = true) (h6 : c.w 6 < 256) (h9 : c.w 9 < 256)
    (h10 : c.w 10 ≤ 2) (hz : c.zeroFrom 11 = true) (h8 : c.w 8 = 0) (hlo : 4 ≤ c.plen) (hmod : c.plen % 4 = 0) (hu : c.w 7 + c.plen / 4 ≤ 128) :
    tokenMemWrite tag s = match s.tok.session with
      | none => (s.markStart c).fail tag .stateConflict
      | some z =>
        if s.usable (s.maskOf (c.w 9)) = 0 then (s.markStart c).fail tag (s.noAerial (s.maskOf (c.w 9)))
        else (((s.markStart c).onSeq (writeRun c s z).seq (fun q => { q with running := some tag, rom := true })).takeLf).memWrite tag
          (writeRun c s z) := by
  have hbad : ¬(decide (256 ≤ c.w 6) || decide (128 ≤ c.w 7) || c.w 8 != 0 || decide (256 ≤ c.w 9) || decide (2 < c.w 10) || !c.zeroFrom 11 ||
      decide (c.plen < 4) || c.plen % 4 != 0 || decide (128 < c.w 7 + c.plen / 4)) = true := by
    simp [hz, h8, hmod]; omega
  refine (startCmd_of_canRun _ h).trans ((if_neg hbad).trans ?_)
  rw [Dev.markStart_tok]
  cases s.tok.session <;> rfl

/-- A memory command whose exchange has begun. -/
theorem answers_memory {i : Instr} {s : State} {f : Dev → Dev} {op tag mask : Nat} {c : Cmd} {x : TokenRun} {z : TokenSession} {g : Dev}
    (he : exec i s = run f s) (h : s.canRun op tag c = true) (hx : x.mask = mask) (hrow : f s.toDev = g)
    (hg : ∃ data, g = ((s.markStart c).nextMc z).exchange tag x 5 data) :
    Answers i s fun t => t.working tag = some (.token x) ∧ t.tok = { s.tok with session := some { z with mc := z.mc + 1 } } ∧
      t.lf.emission.map (fun e => e.2) = some (.command tag, mask) ∧ EventsOnly { s.toDev with lf := t.lf, tok := t.tok, ham := t.ham } t := by
  obtain ⟨data, rfl⟩ := hg
  refine (answers_exchange he h hrow rfl).imp fun t ⟨hwork, _, _, hem, hframe⟩ =>
    ⟨hwork, hframe .tok (by decide), by rw [hem, hx], eventsOnly_lf_tok_ham fun pt hpt => ?_⟩
  simp [eventParts] at hpt
  rw [hframe pt (by simp [eventParts, hpt]), Dev.nextMc, Dev.get_with_tok _ _ (by simp [hpt]), Dev.markStart_get _ _ (by simp [hpt])]

theorem tokenMemRead_answers {tag : Nat} {c : Cmd} {s : State} (h6 : c.w 6 < 256) (h9 : c.w 9 < 256) (h10 : c.w 10 ≤ 2)
    (hz : c.zeroFrom 11 = true) (he : s.lf.emission = none) (h : s.canRun 0x41 tag c = true) :
    Answers (.tokenMemRead tag) s fun t =>
      match s.tok.session with
      | none => t.ended tag = some (.gives .stateConflict []) ∧ OnlyCommands s.toDev t
      | some y =>
        let mask := s.usable (s.maskOf (c.w 9))
        if mask = 0 then t.ended tag = some (.gives (s.noAerial (s.maskOf (c.w 9))) []) ∧ OnlyCommands s.toDev t
        else ∃ x, t.working tag = some (.token x) ∧ x.kind = 1 ∧ x.page = c.w 6 ∧ x.token = y.token ∧
          x.first = (if c.w2 7 = 0 then 2 ^ 32 - 1 else c.w2 7) ∧ t.tok = { s.tok with session := some { y with mc := y.mc + 1 } } ∧
          t.lf.emission.map (fun e => e.2) = some (.command tag, mask) ∧
          EventsOnly { s.toDev with lf := t.lf, tok := t.tok, ham := t.ham } t := by
  have hrow := tokenMemRead_row h h6 h9 h10 hz
  cases hs : s.tok.session with
  | none =>
    rw [hs] at hrow
    exact answers_refused rfl h hrow
  | some z =>
    rw [hs] at hrow
    dsimp only at hrow ⊢
    split
    · next h0 => exact answers_refused rfl h (hrow.trans (if_pos h0))
    · next h0 =>
      exact (answers_memory (x := (readRun c s.toDev z).reading) rfl h rfl (hrow.trans (if_neg h0))
        (memRead_idle (d := s.markStart c) he hs)).imp fun t ⟨hwork, ht⟩ => ⟨_, hwork, rfl, rfl, rfl, rfl, ht⟩

theorem tokenMemWrite_answers {tag : Nat} {c : Cmd} {s : State} (h6 : c.w 6 < 256) (h9 : c.w 9 < 256) (h10 : c.w 10 ≤ 2)
    (hz : c.zeroFrom 11 = true) (he : s.lf.emission = none) (h : s.canRun 0x42 tag c = true) (h8 : c.w 8 = 0) (hlo : 4 ≤ c.plen)
    (hmod : c.plen % 4 = 0) (hu : c.w 7 + c.plen / 4 ≤ 128) :
    Answers (.tokenMemWrite tag) s fun t =>
      match s.tok.session with
      | none => t.ended tag = some (.gives .stateConflict []) ∧ OnlyCommands s.toDev t
      | some y =>
        let mask := s.usable (s.maskOf (c.w 9))
        if mask = 0 then t.ended tag = some (.gives (s.noAerial (s.maskOf (c.w 9))) []) ∧ OnlyCommands s.toDev t
        else ∃ x, t.working tag = some (.token x) ∧ x.kind = 2 ∧ x.page = c.w 6 ∧ x.first = c.w 7 ∧ x.count = c.plen / 4 ∧
          x.data = c.bytes ∧ t.tok = { s.tok with session := some { y with mc := y.mc + 1 } } ∧
          t.lf.emission.map (fun e => e.2) = some (.command tag, mask) ∧
          EventsOnly { s.toDev with lf := t.lf, tok := t.tok, ham := t.ham } t := by
  have hrow := tokenMemWrite_row h h6 h9 h10 hz h8 hlo hmod hu
  cases hs : s.tok.session with
  | none =>
    rw [hs] at hrow
    exact answers_refused rfl h hrow
  | some z =>
    rw [hs] at hrow
    have hunit : (writeRun c s.toDev z).at_ < (writeRun c s.toDev z).count := by
      show 0 < c.plen / 4
      omega
    dsimp only at hrow ⊢
    split
    · next h0 => exact answers_refused rfl h (hrow.trans (if_pos h0))
    · next h0 =>
      exact (answers_memory (x := { writeRun c s.toDev z with stage := 0 }) rfl h rfl (hrow.trans (if_neg h0))
        (memWrite_idle (d := s.markStart c) he hs hunit)).imp fun t ⟨hwork, ht⟩ => ⟨_, hwork, rfl, rfl, rfl, rfl, rfl, ht⟩

/-- Settles O27: the starts of the three exchanges. -/
theorem tokenExchanges : Obligations.TokenExchanges := by
  unfold Obligations.TokenExchanges
  exact ⟨fun _ _ _ _ _ h h6 h7 h8 hz hn hk he => tokenAuth_answers h h6 h7 h8 hz hn hk he,
    fun _ _ _ h6 h9 h10 hz he => ⟨tokenMemRead_answers h6 h9 h10 hz he, tokenMemWrite_answers h6 h9 h10 hz he⟩⟩

end Sys2Proof.Machine
end

section
/-!
PROOFS. Tickets, admissions and revocations (chapter 16).
-/

namespace Sys2Proof.Machine

section
variable (c : Cmd) (d : Dev)
@[simp] theorem markStart_ticketCheck (kind lo hi : Nat) (m : Bytes) : (d.markStart c).ticketCheck kind lo hi m = d.ticketCheck kind lo hi m := rfl
@[simp] theorem markStart_ticketSigned (m : Bytes) : (d.markStart c).ticketSigned m = d.ticketSigned m := rfl
@[simp] theorem markStart_slotOfToken (id : Nat) : (d.markStart c).slotOfToken id = d.slotOfToken id := rfl
@[simp] theorem markStart_enrolLeft : (d.markStart c).enrolLeft = d.enrolLeft := rfl
@[simp] theorem markStart_slotWhere (p : Nat → Bool) : (d.markStart c).slotWhere p = d.slotWhere p := rfl
@[simp] theorem markStart_admWords (a : Admission) : (d.markStart c).admWords a = d.admWords a := rfl
@[simp] theorem markStart_admOpen : (d.markStart c).admOpen = d.admOpen := rfl
@[simp] theorem markStart_admits (id : Nat) : (d.markStart c).admits id = d.admits id := rfl
@[simp] theorem markStart_usesOf (n : Nat) : (d.markStart c).usesOf n = d.usesOf n := rfl
@[simp] theorem markStart_reserveSlot : (d.markStart c).reserveSlot = d.reserveSlot := rfl
end

/-! ### TOKEN_ENROL and LEARN_BEGIN (R395, R396) -/

theorem eventsOnly_tok_cru {s t : Dev} (h : ∀ pt, pt ∉ [.tok, .cru] ++ eventParts → t.get pt = s.get pt) :
    EventsOnly { s with tok := t.tok, cru := t.cru } t :=
  eventsOnly_of_get fun pt hpt => by
    cases pt
    case tok | cru => rfl
    case cmds | clock | pwr | evc | jrnl | nv | bg => exact absurd (by decide) hpt
    all_goals exact h _ (by decide)

theorem eventsOnly_lf_anvil_ham_cru {s t : Dev} (h : ∀ pt, pt ∉ [.lf, .anvil, .ham, .cru] ++ eventParts → t.get pt = s.get pt) :
    EventsOnly { s with lf := t.lf, anvil := t.anvil, ham := t.ham, cru := t.cru } t :=
  eventsOnly_of_get fun pt hpt => by
    cases pt
    case lf | anvil | ham | cru => rfl
    case cmds | clock | pwr | evc | jrnl | nv | bg => exact absurd (by decide) hpt
    all_goals exact h _ (by decide)

theorem eventsOnly_of_onlyCommands {s t : Dev} (h : OnlyCommands s t) : EventsOnly { s with tok := t.tok, cru := t.cru } t := by
  unfold OnlyCommands at h
  refine eventsOnly_tok_cru fun pt hpt => ?_
  rw [h]
  cases pt
  case cmds | clock | pwr | evc | jrnl | nv | bg => exact absurd (by decide) hpt
  all_goals rfl

/-- A ticket check answers SLOT_BAD only of K01 (R331, R395). -/
theorem keyBad_of_ticketCheck {kind lo hi : Nat} {m : Bytes} {d : Dev} (h : d.ticketCheck kind lo hi m = some .slotBad) : d.keyBad 1 = true := by
  unfold Dev.ticketCheck at h
  dsimp only at h
  by_contra hk
  rw [if_neg hk] at h
  repeat' split at h
  all_goals simp at h

/-- A ticket command that a check ends. -/
theorem answers_ticketFail {i : Instr} {s : State} {f : Dev → Dev} {op tag kind lo hi : Nat} {c : Cmd} {st : Status} {m : Bytes}
    (he : exec i s = run f s) (h : s.canRun op tag c = true) (hc : s.ticketCheck kind lo hi m = some st)
    (ht : f s.toDev = (s.markStart c).ticketFail tag st) :
    Answers i s fun t => EventsOnly { s.toDev with tok := t.tok, cru := t.cru } t ∧ (s.keyBad 1 = false → t.cru = s.cru) ∧
      t.ended tag = some (.gives st []) ∧ t.tok = s.tok := by
  by_cases hb : st = .slotBad
  · subst hb
    refine (answers_slotBad he h (ht.trans (if_pos rfl))).imp fun t ⟨_, _, htok, hend, hev⟩ =>
      ⟨?_, fun hk => absurd (keyBad_of_ticketCheck hc) (by simp [hk]), hend, htok⟩
    rw [htok]
    exact hev
  · exact (answers_refused_tok he h (ht.trans (if_neg hb))).imp fun t ⟨hcru, htok, hend, ho⟩ =>
      ⟨eventsOnly_of_onlyCommands ho, fun _ => hcru, hend, htok⟩

theorem ticketTaken_ended {tag : Nat} {a : Admission} {erase : Bool} {lift : List Nat} {d : Dev} (h : (d.cmd tag).isSome = true) :
    ((d.ticketTaken tag a erase lift).ended tag).map (fun r => (r.status, r.effect)) = some (.done, .admitting a erase lift) := by
  refine congrArg (Option.map _) (ended_finish ?_)
  cases erase <;> exact h

/-- A ticket taken: its counter, and for a learn session the admission that is ERASING (R395). -/
theorem answers_ticketTaken {i : Instr} {s : State} {f : Dev → Dev} {op tag : Nat} {c : Cmd} {a : Admission} {erase : Bool} {lift : List Nat}
    (he : exec i s = run f s) (h : s.canRun op tag c = true) (ht : f s.toDev = (s.markStart c).ticketTaken tag a erase lift) :
    Answers i s fun t => EventsOnly { s.toDev with tok := t.tok, cru := t.cru } t ∧ t.cru = s.cru ∧
      t.tok = { s.tok with tktCnt := a.counter, adm := if erase then { a with state := 1 } else s.tok.adm } ∧
      (t.ended tag).map (fun r => (r.status, r.effect)) = some (.done, .admitting a erase lift) := by
  have hj : ((s.markStart c).ticketTaken tag a erase lift).jrnl = s.jrnl := by cases erase <;> rfl
  refine answers_leaves he ht hj ⟨?_, ?_, ?_, ticketTaken_ended (markStart_isSome h)⟩
  all_goals cases erase <;> rfl

theorem tokenEnrol_row {tag : Nat} {c : Cmd} {s : Dev} (hz : c.zeroFrom 6 = true) (h : s.canRun 0x43 tag c = true) :
    tokenEnrol tag s = match s.ticketCheck 1 1 1 c.bytes with
      | some st => (s.markStart c).ticketFail tag st
      | none =>
        if (s.slotOfToken ((ticketOf c.bytes).ids.headD 0)).isSome ||
            (s.tok.revlist.contains ((ticketOf c.bytes).ids.headD 0) && !bit 0 (ticketOf c.bytes).flags) then (s.markStart c).fail tag .stateConflict
        else if s.enrolLeft = 0 then (s.markStart c).fail tag .limitReached
        else if (s.slotWhere (· != 1)).isNone then (s.markStart c).fail tag .slotExhausted
        else (s.markStart c).ticketTaken tag (admissionOf 2 c.bytes) false (if bit 0 (ticketOf c.bytes).flags then (ticketOf c.bytes).ids else []) := by
  refine (startCmd_of_canRun _ h).trans ((if_neg (by simp [hz])).trans ?_)
  simp only [started_bytes, markStart_ticketCheck]
  cases s.ticketCheck 1 1 1 c.bytes <;> rfl

theorem tokenEnrol_answers {tag : Nat} {c : Cmd} {s : State} (hz : c.zeroFrom 6 = true) (h : s.canRun 0x43 tag c = true) :
    Answers (.tokenEnrol tag) s fun t =>
      let k := ticketOf c.bytes
      EventsOnly { s.toDev with tok := t.tok, cru := t.cru } t ∧ (s.keyBad 1 = false → t.cru = s.cru) ∧
      match s.ticketCheck 1 1 1 c.bytes with
      | some st => t.ended tag = some (.gives st []) ∧ t.tok = s.tok
      | none =>
        if (s.slotOfToken (k.ids.headD 0)).isSome = true ∨ (s.tok.revlist.contains (k.ids.headD 0) = true ∧ bit 0 k.flags = false) then
          t.ended tag = some (.gives .stateConflict []) ∧ t.tok = s.tok
        else if s.enrolLeft = 0 then t.ended tag = some (.gives .limitReached []) ∧ t.tok = s.tok
        else if s.slotWhere (· != 1) = none then t.ended tag = some (.gives .slotExhausted []) ∧ t.tok = s.tok
        else t.tok = { s.tok with tktCnt := k.counter } ∧ (t.ended tag).map (fun r => (r.status, r.effect)) =
          some (.done, .admitting (admissionOf 2 c.bytes) false (if bit 0 k.flags then k.ids else [])) := by
  have hrow := tokenEnrol_row hz h
  cases hc : s.ticketCheck 1 1 1 c.bytes with
  | some st =>
    rw [hc] at hrow
    exact answers_ticketFail rfl h hc hrow
  | none =>
    rw [hc] at hrow
    dsimp only at hrow ⊢
    have refused {st : Status} (hf : tokenEnrol tag s.toDev = (s.markStart c).fail tag st) :
        Answers (.tokenEnrol tag) s fun t => EventsOnly { s.toDev with tok := t.tok, cru := t.cru } t ∧ (s.keyBad 1 = false → t.cru = s.cru) ∧
          t.ended tag = some (.gives st []) ∧ t.tok = s.tok :=
      (answers_refused_tok rfl h hf).imp fun t ⟨hcru, htok, hend, ho⟩ => ⟨eventsOnly_of_onlyCommands ho, fun _ => hcru, hend, htok⟩
    split
    · next hid => exact refused (hrow.trans (if_pos (by simpa using hid)))
    · next hid =>
      replace hrow := hrow.trans (if_neg (by simpa using hid))
      split
      · next hl => exact refused (hrow.trans (if_pos hl))
      · next hl =>
        replace hrow := hrow.trans (if_neg hl)
        split
        · next hs => exact refused (hrow.trans (if_pos (by simpa using hs)))
        · next hs =>
          exact (answers_ticketTaken rfl h (hrow.trans (if_neg (by simpa using hs)))).imp fun t ⟨hev, hcru, htok, hend⟩ =>
            ⟨hev, fun _ => hcru, htok, hend⟩

theorem learnBegin_row {tag : Nat} {c : Cmd} {s : Dev} (hz : c.zeroFrom 6 = true) (h : s.canRun 0x45 tag c = true) :
    learnBegin tag s =
      if s.tok.adm.state != 0 && s.tok.adm.kind == 1 && s.tok.adm.counter == (ticketOf c.bytes).counter && s.tok.adm.digest == sha256 c.bytes then
        (s.markStart c).finish tag ⟨.done, s.admWords s.tok.adm, .none, none, [tokenDraft 0xFF s.enrolLeft s.enrolLeft 0]⟩
      else match s.ticketCheck 2 0 32 c.bytes with
        | some st => (s.markStart c).ticketFail tag st
        | none =>
          if s.enrolLeft = 0 then (s.markStart c).fail tag .stateConflict
          else (s.markStart c).ticketTaken tag (admissionOf 1 c.bytes) true (if bit 0 (ticketOf c.bytes).flags then (ticketOf c.bytes).ids else []) := by
  refine (startCmd_of_canRun _ h).trans ((if_neg (by simp [hz])).trans ?_)
  simp only [started_bytes, markStart_ticketCheck]
  cases s.ticketCheck 2 0 32 c.bytes <;> rfl

theorem learnBegin_answers {tag : Nat} {c : Cmd} {s : State} (hz : c.zeroFrom 6 = true) (h : s.canRun 0x45 tag c = true) :
    Answers (.learnBegin tag) s fun t =>
      let k := ticketOf c.bytes
      let a := s.tok.adm
      EventsOnly { s.toDev with tok := t.tok, cru := t.cru } t ∧ (s.keyBad 1 = false → t.cru = s.cru) ∧
      if a.state ≠ 0 ∧ a.kind = 1 ∧ a.counter = k.counter ∧ a.digest = Machine.sha256 c.bytes then
        (t.ended tag).map (fun r => (r.status, r.payload, r.effect)) = some (.done, s.admWords a, .none) ∧ OnlyCommands s.toDev t
      else match s.ticketCheck 2 0 32 c.bytes with
        | some st => t.ended tag = some (.gives st []) ∧ t.tok = s.tok
        | none =>
          if s.enrolLeft = 0 then t.ended tag = some (.gives .stateConflict []) ∧ t.tok = s.tok
          else t.tok = { s.tok with tktCnt := k.counter, adm := { admissionOf 1 c.bytes with state := 1 } } ∧
            (t.ended tag).map (fun r => (r.status, r.effect)) =
              some (.done, .admitting (admissionOf 1 c.bytes) true (if bit 0 k.flags then k.ids else [])) := by
  have hrow := learnBegin_row hz h
  have hsame : (s.tok.adm.state != 0 && s.tok.adm.kind == 1 && s.tok.adm.counter == (ticketOf c.bytes).counter &&
      s.tok.adm.digest == sha256 c.bytes) = true ↔ s.tok.adm.state ≠ 0 ∧ s.tok.adm.kind = 1 ∧ s.tok.adm.counter = (ticketOf c.bytes).counter ∧
      s.tok.adm.digest = sha256 c.bytes := by simp [and_assoc]
  dsimp only
  split
  · next hold =>
    refine (answers_refused_tok rfl h (hrow.trans (if_pos (hsame.mpr hold)))).imp fun t ⟨hcru, htok, hend, ho⟩ =>
      ⟨eventsOnly_of_onlyCommands ho, fun _ => hcru, ?_, ho⟩
    rw [hend]
    rfl
  · next hnew =>
    replace hrow := hrow.trans (if_neg (mt hsame.mp hnew))
    cases hc : s.ticketCheck 2 0 32 c.bytes with
    | some st =>
      rw [hc] at hrow
      exact answers_ticketFail rfl h hc hrow
    | none =>
      rw [hc] at hrow
      dsimp only at hrow ⊢
      split
      · next hl =>
        exact (answers_refused_tok rfl h (hrow.trans (if_pos hl))).imp fun t ⟨hcru, htok, hend, ho⟩ =>
          ⟨eventsOnly_of_onlyCommands ho, fun _ => hcru, hend, htok⟩
      · next hl =>
        exact (answers_ticketTaken rfl h (hrow.trans (if_neg hl))).imp fun t ⟨hev, hcru, htok, hend⟩ => ⟨hev, fun _ => hcru, htok, hend⟩

/-! ### LEARN_ADD (R397, R398) -/

/-- The learn master used once (R379), and eight bytes drawn. -/
def Dev.learnUsed (tag : Nat) (c : Cmd) (d : Dev) : Dev := ((d.markStart c).useKey (some tag) d.tok.adm.klm).2
def Dev.learnDrawn (tag : Nat) (c : Cmd) (d : Dev) : Dev := ((d.learnUsed tag c).draw 8).2

/-- The exchange of a LEARN_ADD at its beginning, for the reserved slot `n`. -/
def learnRun (tag : Nat) (c : Cmd) (d : Dev) (n : Nat) : TokenRun :=
  { (d.started c).newRun 3 (d.usable (d.maskOf (c.w 8))) ((d.learnUsed tag c).bitTime (c.w 9)) n (c.w2 6) with
    nb := ((d.learnUsed tag c).draw 8).1, klm := d.tok.adm.klm, prio := (d.learnUsed tag c).tok.adm.prio,
    ticket := (d.learnUsed tag c).tok.adm.counter }

theorem learnRun_nb (tag : Nat) (c : Cmd) (d : Dev) (n : Nat) : (learnRun tag c d n).nb = (d.draw 8).1 := draw_bytes (useKey_anvil ..) 8

theorem learnDrawn_get {pt : Part} (tag : Nat) (c : Cmd) (d : Dev) (h : pt ∉ [.cru, .anvil] ++ eventParts) :
    (d.learnDrawn tag c).get pt = d.get pt := by
  simp [eventParts] at h
  rw [Dev.learnDrawn, Dev.draw_get _ _ (by simp [h]), Dev.learnUsed, Dev.useKey_get _ _ _ (by simp [h]), Dev.markStart_get _ _ (by simp [h])]

theorem learnDrawn_cmds (tag : Nat) (c : Cmd) (d : Dev) : (d.learnDrawn tag c).cmds = (d.markStart c).cmds :=
  (Dev.draw_get (pt := .cmds) _ _ (by decide)).trans (useKey_cmds ..)

theorem learnDrawn_cru (tag : Nat) (c : Cmd) (d : Dev) : (d.learnDrawn tag c).cru = { d.cru with uses := (d.learnDrawn tag c).cru.uses } := by
  have h : (d.learnDrawn tag c).cru = ((d.markStart c).useKey (some tag) d.tok.adm.klm).2.cru := Dev.draw_get (pt := .cru) _ _ (by decide)
  rw [h, useKey_cru]
  rfl

theorem learnAdd_row {tag : Nat} {c : Cmd} {s : Dev} (h : s.canRun 0x46 tag c = true) (h8 : c.w 8 < 256) (h9 : c.w 9 ≤ 2)
    (hz : c.zeroFrom 10 = true) (he : s.lf.emission = none) :
    learnAdd tag s =
      if !s.admOpen then (s.markStart c).fail tag .stateConflict
      else if !s.admits (c.w2 6) || s.tok.revlist.contains (c.w2 6) || (s.slotOfToken (c.w2 6)).isSome then (s.markStart c).fail tag .stateConflict
      else if s.keyBad s.tok.adm.klm then (s.markStart c).slotFail tag s.tok.adm.klm
      else if attrLimit (s.key s.tok.adm.klm).attr != 0 && attrLimit (s.key s.tok.adm.klm).attr ≤ s.usesOf s.tok.adm.klm then
        (s.markStart c).fail tag .limitReached
      else match s.reserveSlot with
        | none => (s.markStart c).fail tag .slotExhausted
        | some n =>
          if s.enrolLeft = 0 then (s.markStart c).fail tag .limitReached
          else if s.usable (s.maskOf (c.w 8)) = 0 then (s.markStart c).fail tag (s.noAerial (s.maskOf (c.w 8)))
          else (s.learnDrawn tag c).exchange tag (learnRun tag c s n) 3 (idBytes (c.w2 6) ++ (learnRun tag c s n).nb) := by
  have hbad : ¬(decide (256 ≤ c.w 8) || decide (2 < c.w 9) || !c.zeroFrom 10) = true := by
    simp [hz]; omega
  refine (startCmd_of_canRun _ h).trans ((if_neg hbad).trans ?_)
  have hlf : (s.learnDrawn tag c).lf = s.lf := learnDrawn_get (pt := .lf) tag c s (by decide)
  have hb (n : Nat) : (s.learnDrawn tag c).tokenBegin tag (learnRun tag c s n) 3 (idBytes (c.w2 6) ++ (learnRun tag c s n).nb) = _ :=
    tokenBegin_idle (by rw [hlf, he])
  simp only [← hb, Dev.markStart_tok, markStart_reserveSlot, markStart_keyBad]
  cases s.reserveSlot <;> rfl

theorem learnAdd_answers {tag : Nat} {c : Cmd} {s : State} (h : s.canRun 0x46 tag c = true) (h8 : c.w 8 < 256) (h9 : c.w 9 ≤ 2)
    (hz : c.zeroFrom 10 = true) (he : s.lf.emission = none) :
    Answers (.learnAdd tag) s fun t =>
      let id := c.w2 6
      let klm := s.tok.adm.klm
      let mask := s.usable (s.maskOf (c.w 8))
      t.tok = s.tok ∧ t.cru.tokens = s.cru.tokens ∧
      if s.admOpen = false ∨ s.admits id = false ∨ s.tok.revlist.contains id = true ∨ (s.slotOfToken id).isSome = true then
        t.ended tag = some (.gives .stateConflict []) ∧ OnlyCommands s.toDev t
      else if s.keyBad klm = true then t.ended tag = some (.gives .slotBad [])
      else if attrLimit (s.key klm).attr ≠ 0 ∧ attrLimit (s.key klm).attr ≤ s.usesOf klm then
        t.ended tag = some (.gives .limitReached []) ∧ OnlyCommands s.toDev t
      else match s.reserveSlot with
        | none => t.ended tag = some (.gives .slotExhausted []) ∧ OnlyCommands s.toDev t
        | some n =>
          if s.enrolLeft = 0 then t.ended tag = some (.gives .limitReached []) ∧ OnlyCommands s.toDev t
          else if mask = 0 then t.ended tag = some (.gives (s.noAerial (s.maskOf (c.w 8))) []) ∧ OnlyCommands s.toDev t
          else ∃ x, t.working tag = some (.token x) ∧ x.kind = 3 ∧ x.slot = n ∧ x.token = id ∧ x.nb = (s.draw 8).1 ∧
            t.lf.air = s.telegram 3 (idBytes id ++ x.nb) ∧ t.lf.emission.map (fun e => e.2) = some (.command tag, mask) ∧
            EventsOnly { s.toDev with lf := t.lf, anvil := t.anvil, ham := t.ham, cru := t.cru } t := by
  have hrow := learnAdd_row h h8 h9 hz he
  have refused {st : Status} (hf : learnAdd tag s.toDev = (s.markStart c).fail tag st) :
      Answers (.learnAdd tag) s fun t => t.tok = s.tok ∧ t.cru.tokens = s.cru.tokens ∧ t.ended tag = some (.gives st []) ∧ OnlyCommands s.toDev t :=
    (answers_refused_tok rfl h hf).imp fun t ⟨hcru, htok, hend⟩ => ⟨htok, by rw [hcru], hend⟩
  dsimp only
  split
  · next hno =>
    by_cases hop : s.admOpen = false
    · exact refused (hrow.trans (if_pos (by simp [hop])))
    · exact refused ((hrow.trans (if_neg (by simpa using hop))).trans (if_pos (by simpa [hop, or_assoc] using hno)))
  · next hno =>
    simp only [not_or] at hno
    obtain ⟨hop, had, hrev, hslot⟩ := hno
    replace hrow := (hrow.trans (if_neg (by simpa using hop))).trans (if_neg (by simp_all))
    split
    · next hb =>
      exact (answers_slotBad rfl h (hrow.trans (if_pos hb))).imp fun t ⟨_, htokens, htok, hend, _⟩ => ⟨htok, htokens, hend⟩
    · next hb =>
      replace hrow := hrow.trans (if_neg hb)
      split
      · next hlim => exact refused (hrow.trans (if_pos (by simpa using hlim)))
      · next hlim =>
        replace hrow := hrow.trans (if_neg (by simpa using hlim))
        cases hr : s.reserveSlot with
        | none =>
          rw [hr] at hrow
          exact refused hrow
        | some n =>
          rw [hr] at hrow
          dsimp only at hrow ⊢
          split
          · next hl => exact refused (hrow.trans (if_pos hl))
          · next hl =>
            replace hrow := hrow.trans (if_neg hl)
            split
            · next h0 => exact refused (hrow.trans (if_pos h0))
            · next h0 =>
              refine (answers_exchange rfl h (hrow.trans (if_neg h0)) (learnDrawn_cmds ..)).imp fun t ⟨hwork, _, hair, hem, hframe⟩ => ?_
              have hcru : t.cru = (s.learnDrawn tag c).cru := hframe .cru (by decide)
              have htok : (s.learnDrawn tag c).tok = s.tok := learnDrawn_get (pt := .tok) tag c s.toDev (by decide)
              have hwake : (s.learnDrawn tag c).cru.wakeId = s.cru.wakeId := by rw [learnDrawn_cru]
              refine ⟨(hframe .tok (by decide)).trans htok, ?_, learnRun tag c s.toDev n, hwork, rfl, rfl, rfl, learnRun_nb .., ?_, hem,
                eventsOnly_lf_anvil_ham_cru fun pt hpt => ?_⟩
              · rw [hcru, learnDrawn_cru]
              · rw [hair, telegram_of_wakeId hwake]
              · simp [eventParts] at hpt
                rw [hframe pt (by simp [eventParts, hpt]), learnDrawn_get _ _ _ (by simp [eventParts, hpt])]

/-- Settles O28: the tickets' checks and admissions, and the start of LEARN_ADD. -/
theorem admissionsOfTokens : Obligations.AdmissionsOfTokens := by
  unfold Obligations.AdmissionsOfTokens
  exact ⟨fun _ _ _ hz => ⟨tokenEnrol_answers hz, learnBegin_answers hz⟩, fun _ _ _ h h8 h9 hz he => learnAdd_answers h h8 h9 hz he⟩

/-! ### TOKEN_REVOKE (R394) -/

theorem tokenRevoke_row {tag : Nat} {c : Cmd} {s : Dev} (h : s.canRun 0x44 tag c = true) (hw : field 14 5 (c.w 6) = 0) (hz : c.zeroFrom 7 = true) :
    tokenRevoke tag s =
      let slot := if bit 15 (c.w 6) then none else some (c.w 6 % 32)
      if c.plen = 0 then (s.markStart c).finish tag ⟨.done, [], .revoke slot [], none, []⟩
      else if !ticketShape 3 1 8 c.bytes then (s.markStart c).fail tag .authFail
      else if s.keyBad 1 then (s.markStart c).slotFail tag 1
      else if !s.ticketSigned c.bytes then (s.markStart c).fail tag .authFail
      else (s.markStart c).finish tag ⟨.done, [], .revoke slot (ticketOf c.bytes).ids, none, []⟩ :=
  (startCmd_of_canRun _ h).trans (if_neg (by simp [hw, hz]))

theorem tokenRevoke_answers {tag : Nat} {c : Cmd} {s : State} (h : s.canRun 0x44 tag c = true) (hw : field 14 5 (c.w 6) = 0)
    (hz : c.zeroFrom 7 = true) :
    Answers (.tokenRevoke tag) s fun t =>
      let slot := if bit 15 (c.w 6) then none else some (c.w 6 % 32)
      (s.keyBad 1 = false → OnlyCommands s.toDev t) ∧
      if c.plen = 0 then t.ended tag = some ⟨.done, [], .revoke slot [], none, []⟩
      else if ticketShape 3 1 8 c.bytes = false then t.ended tag = some (.gives .authFail [])
      else if s.keyBad 1 = true then t.ended tag = some (.gives .slotBad [])
      else if s.ticketSigned c.bytes = false then t.ended tag = some (.gives .authFail [])
      else t.ended tag = some ⟨.done, [], .revoke slot (ticketOf c.bytes).ids, none, []⟩ := by
  have hrow := tokenRevoke_row h hw hz
  have finished {r : Result} (hf : tokenRevoke tag s.toDev = (s.markStart c).finish tag r) :
      Answers (.tokenRevoke tag) s fun t => (s.keyBad 1 = false → OnlyCommands s.toDev t) ∧ t.ended tag = some r :=
    (answers_refused rfl h hf).imp fun t ⟨hend, ho⟩ => ⟨fun _ => ho, hend⟩
  dsimp only at hrow ⊢
  split
  · next hp => exact finished (hrow.trans (if_pos hp))
  · next hp =>
    replace hrow := hrow.trans (if_neg hp)
    split
    · next hs => exact finished (hrow.trans (if_pos (by simp [hs])))
    · next hs =>
      replace hrow := hrow.trans (if_neg (by simp [hs]))
      split
      · next hb =>
        exact (answers_slotBad rfl h (hrow.trans (if_pos hb))).imp fun t ⟨_, _, _, hend, _⟩ => ⟨fun hk => absurd hb (by simp [hk]), hend⟩
      · next hb =>
        replace hrow := hrow.trans (if_neg hb)
        split
        · next hsig => exact finished (hrow.trans (if_pos (by simp [hsig])))
        · next hsig => exact finished (hrow.trans (if_neg (by simp [hsig])))

/-! ### LEARN_COMMIT and the close of an admission (R400, R401) -/

/-- The priorities written to the learnt slots (R400). -/
def Dev.prioritised (tag : Nat) (prio : Nat → Nat) (ss : List Nat) (d : Dev) : Dev :=
  ss.foldl (fun d n => d.putToken (some tag) n { d.slotRec n with prio := prio n }) d

theorem prioritised_get {pt : Part} (tag : Nat) (prio : Nat → Nat) (ss : List Nat) (d : Dev) (h : pt ∉ [.cru, .nv]) :
    (d.prioritised tag prio ss).get pt = d.get pt := by
  induction ss generalizing d with
  | nil => rfl
  | cons n ns ih => exact (ih _).trans (Dev.putToken_get _ _ _ _ h)

/-- The nibble of a slot in the payload of LEARN_COMMIT. -/
def nibbleOf (m : Bytes) (n : Nat) : Nat := if n % 2 = 0 then (m.getD (n / 2) 0).toNat % 16 else (m.getD (n / 2) 0).toNat / 16

theorem learnCommit_row {tag : Nat} {c : Cmd} {s : Dev} (h : s.canRun 0x47 tag c = true) (hz : c.zeroFrom 6 = true) (hp : c.plen = 0 ∨ c.plen = 8) :
    learnCommit tag s =
      if !s.admOpen then (s.markStart c).fail tag .stateConflict
      else
        let d := (s.markStart c).prioritised tag (nibbleOf c.bytes) ((bitsOf 32 s.tok.adm.learnt).filter (fun n => c.plen = 8 && s.enrolled n))
        d.finish tag ⟨.done, leWords 2 d.tok.adm.learnt ++ [word d.enrolLeft, word ((List.range 32).filter d.enrolled).length, 0, 0, 0, 0],
          .closeAdmission 0, none, []⟩ :=
  (startCmd_of_canRun _ h).trans (if_neg (by rcases hp with hp | hp <;> simp [hz, hp]))

theorem learnCommit_answers {tag : Nat} {c : Cmd} {s : State} (h : s.canRun 0x47 tag c = true) (hz : c.zeroFrom 6 = true)
    (hp : c.plen = 0 ∨ c.plen = 8) :
    Answers (.learnCommit tag) s fun t =>
      if s.admOpen = false then t.ended tag = some (.gives .stateConflict []) ∧ OnlyCommands s.toDev t
      else
        (∃ n, t.ended tag = some ⟨.done, leWords 2 s.tok.adm.learnt ++ [word s.enrolLeft, word n, 0, 0, 0, 0], .closeAdmission 0, none, []⟩) ∧
        t.tok = s.tok ∧ EventsOnly { s.toDev with cru := t.cru } t := by
  have hrow := learnCommit_row h hz hp
  split
  · next hop => exact answers_refused rfl h (hrow.trans (if_pos (by simp [hop])))
  · next hop =>
    replace hrow := hrow.trans (if_neg (by simp [hop]))
    dsimp only at hrow
    generalize hd : (s.markStart c).prioritised tag (nibbleOf c.bytes) _ = d at hrow
    have hget (pt : Part) (hpt : pt ∉ [.cru, .nv]) : d.get pt = (s.markStart c).get pt := by rw [← hd, prioritised_get _ _ _ _ hpt]
    have htok : d.tok = s.tok := hget .tok (by decide)
    have hcmd : (d.cmd tag).isSome = true := (congrArg Option.isSome (cmd_of_cmds (hget .cmds (by decide)) tag)).trans (markStart_isSome h)
    have hleft : d.enrolLeft = s.enrolLeft := by rw [Dev.enrolLeft, Dev.enrolLeft, htok]
    rw [htok, hleft] at hrow
    refine answers_leaves rfl hrow (hget .jrnl (by decide)) ⟨⟨_, ended_finish hcmd⟩, htok, eventsOnly_cru fun pt hpt => ?_⟩
    simp [eventParts] at hpt
    rw [Dev.finish_get _ _ _ (by simp [hpt]), hget _ (by simp [hpt]), Dev.markStart_get _ _ (by simp [hpt])]

theorem closeAdm_tok (origin tag op cause : Nat) (d : Dev) :
    (d.closeAdm origin tag op cause).tok = { d.tok with adm := { d.tok.adm with state := 0, cause := cause } } := by
  rw [Dev.closeAdm]
  refine (Dev.raise_get (pt := .tok) _ _ (by decide)).trans ((Dev.log_get (pt := .tok) _ _ _ _ _ (by decide)).trans ?_)
  rfl

theorem closeAdm_events (origin tag op cause : Nat) (d : Dev) :
    EventsOnly { d with tok := (d.closeAdm origin tag op cause).tok } (d.closeAdm origin tag op cause) := by
  refine eventsOnly_tok fun pt hpt => ?_
  simp [eventParts] at hpt
  rw [Dev.closeAdm, Dev.raise_get _ _ (by simp [hpt]), Dev.log_get _ _ _ _ _ (by simp [hpt]), Dev.saveAdm,
    Dev.recordWrite_get _ _ _ _ _ (by simp [hpt]), Dev.get_with_tok _ _ (by simp [hpt])]

/-- Settles O29. -/
theorem revocationsAndCloses : Obligations.RevocationsAndCloses := by
  unfold Obligations.RevocationsAndCloses
  exact ⟨fun _ _ _ => ⟨tokenRevoke_answers, learnCommit_answers⟩,
    fun origin tag op cause d => ⟨closeAdm_tok origin tag op cause d, closeAdm_events origin tag op cause d⟩⟩

end Sys2Proof.Machine
end

section
/-!
PROOFS. The commands of the node bus (chapter 18).
-/

namespace Sys2Proof.Machine

/-! ### Nodes -/

theorem setNode_node_same {a : Nat} {n : Node} {d : Dev} (h : NodesWf d) : (d.setNode a n).node a = n := cellGet_put_same h
theorem setNode_node_other {a b : Nat} {n : Node} {d : Dev} (hd : NodesWf d) (h : b ≠ a) : (d.setNode a n).node b = d.node b :=
  cellGet_put_other (d := fun _ => Node.empty) h hd

theorem node_of_kw {s d : Dev} (h : d.kw = s.kw) (a : Nat) : d.node a = s.node a := by rw [Dev.node, Dev.node, h]

/-- The node behind the end of its grant (R457). -/
theorem endGrant_node {origin tag op cause a : Nat} {d : Dev} {g : Grant} (hd : NodesWf d) (hg : (d.node a).grant = some g) :
    ((d.endGrant origin tag op cause a).node a).grant = none ∧ ((d.endGrant origin tag op cause a).node a).trunk = (d.node a).trunk ∧
      ∀ b, b ≠ a → (d.endGrant origin tag op cause a).node b = d.node b := by
  rw [Dev.endGrant, hg]
  dsimp only
  have hkw (n : Node) (x : Draft) : (((d.setNode a n).raise 44).log origin tag op x).kw = (d.setNode a n).kw :=
    (Dev.log_get (pt := .kw) _ _ _ _ _ (by decide)).trans (Dev.raise_get (pt := .kw) _ _ (by decide))
  refine ⟨?_, ?_, fun b hb => ?_⟩
  · rw [node_of_kw (hkw _ _), setNode_node_same hd]
  · rw [node_of_kw (hkw _ _), setNode_node_same hd]
  · rw [node_of_kw (hkw _ _), setNode_node_other hd hb]

section
variable (c : Cmd) (d : Dev)
@[simp] theorem markStart_node (a : Nat) : (d.markStart c).node a = d.node a := rfl
@[simp] theorem markStart_trunkOk (t : Nat) : (d.markStart c).trunkOk t = d.trunkOk t := rfl
@[simp] theorem markStart_nodesOn (t : Nat) : (d.markStart c).nodesOn t = d.nodesOn t := rfl
@[simp] theorem markStart_grantCount (t : Nat) : (d.markStart c).grantCount t = d.grantCount t := rfl
@[simp] theorem markStart_kwn (i : Nat) : (d.markStart c).kwn i = d.kwn i := rfl
@[simp] theorem markStart_scanWord (a : Nat) : (d.markStart c).scanWord a = d.scanWord a := rfl
end

/-- A node command's run that has begun, and nothing else. -/
theorem answers_nodeRun {i : Instr} {s : State} {f : Dev → Dev} {op tag : Nat} {c : Cmd} {x : NodeRun} (he : exec i s = run f s)
    (h : s.canRun op tag c = true) (ht : f s.toDev = (s.markStart c).setRun tag x) :
    Answers i s fun t => t.working tag = some (.node x) ∧ OnlyCommands s.toDev t :=
  answers_leaves he ht rfl ⟨working_setPhase (markStart_isSome h), rfl⟩

/-! ### NODE_PAIR (R452) -/

theorem pairWord {type : Nat} {b : Bool} (h : type < 8) :
    (type + 256 * b2n b) % 8 = type ∧ bit 8 (type + 256 * b2n b) = b := by
  have hbit : (type + 256 * b2n b) / 2 ^ 8 % 2 = b2n b := by cases b <;> simp [b2n] <;> omega
  refine ⟨by cases b <;> simp [b2n] <;> omega, ?_⟩
  rw [bit, Nat.testBit_eq_decide_div_mod_eq, hbit]
  cases b <;> rfl

theorem nodePair_row {tag a type : Nat} {b : Bool} {c : Cmd} {s : Dev} (h : s.canRun 0x70 tag c = true) (ha : c.w 6 = a) (hlo : 1 ≤ a)
    (hhi : a ≤ 255) (ht : type < 8) (h7 : c.w 7 = type + 256 * b2n b) (hz : c.zeroFrom 9 = true) (hp : c.plen = 32) :
    nodePair tag s =
      if (s.node a).state != 0 || !s.trunkOk (b2n b) then (s.markStart c).fail tag .stateConflict
      else if 128 ≤ (s.nodesOn (b2n b)).length then (s.markStart c).fail tag .limitReached
      else if (ecPoint c.bytes).isNone || 4 < type then (s.markStart c).fail tag .stateConflict
      else ((s.markStart c).drawScalar.2).setRun tag (NodeRun.new a (b2n b) [type, c.w 8] ((s.markStart c).drawScalar.1 ++ c.bytes)) := by
  obtain ⟨hmod, hbit⟩ := pairWord (b := b) ht
  have hbad : ¬(decide (c.w 6 = 0) || decide (255 < c.w 6) || c.w 7 - c.w 7 % 8 - 256 * b2n (bit 8 (c.w 7)) != 0 || !c.zeroFrom 9 ||
      c.plen != 32) = true := by
    rw [h7, hmod, hbit, ha]
    simp [hz, hp]
    omega
  refine (startCmd_of_canRun _ h).trans ((if_neg hbad).trans ?_)
  simp only [started_w, h7, hmod, hbit, ha, started_bytes]
  rfl

theorem nodePair_answers {tag a type : Nat} {b : Bool} {c : Cmd} {s : State} (h : s.canRun 0x70 tag c = true) (ha : c.w 6 = a) (hlo : 1 ≤ a)
    (hhi : a ≤ 255) (ht : type < 8) (h7 : c.w 7 = type + 256 * b2n b) (hz : c.zeroFrom 9 = true) (hp : c.plen = 32) :
    Answers (.nodePair tag) s fun t =>
      t.kw = s.kw ∧ OnlyCommands { s.toDev with anvil := t.anvil } t ∧
      if (s.node a).state ≠ 0 ∨ s.trunkOk (b2n b) = false then t.ended tag = some (.gives .stateConflict [])
      else if 128 ≤ (s.nodesOn (b2n b)).length then t.ended tag = some (.gives .limitReached [])
      else if (ecPoint c.bytes).isNone = true ∨ 4 < type then t.ended tag = some (.gives .stateConflict [])
      else t.working tag = some (.node (NodeRun.new a (b2n b) [type, c.w 8] (s.drawScalar.1 ++ c.bytes))) := by
  have hrow := nodePair_row h ha hlo hhi ht h7 hz hp
  have refused {st : Status} (hf : nodePair tag s.toDev = (s.markStart c).fail tag st) :
      Answers (.nodePair tag) s fun t => t.kw = s.kw ∧ OnlyCommands { s.toDev with anvil := t.anvil } t ∧ t.ended tag = some (.gives st []) :=
    answers_leaves rfl hf rfl ⟨rfl, rfl, ended_fail (markStart_isSome h)⟩
  split
  · next hst => exact refused (hrow.trans (if_pos (by simpa using hst)))
  · next hst =>
    replace hrow := hrow.trans (if_neg (by simpa using hst))
    split
    · next hl => exact refused (hrow.trans (if_pos hl))
    · next hl =>
      replace hrow := hrow.trans (if_neg hl)
      split
      · next hpt => exact refused (hrow.trans (if_pos (by simpa using hpt)))
      · next hpt =>
        replace hrow := hrow.trans (if_neg (by simpa using hpt))
        have hb : (s.markStart c).drawScalar.1 = s.drawScalar.1 := drawScalar_bytes rfl
        rw [hb] at hrow
        exact answers_leaves rfl hrow rfl ⟨rfl, rfl, working_setPhase (markStart_isSome h)⟩

/-! ### NODE_UNPAIR and NODE_REVOKE_GRANT (R454, R458) -/

/-- The node's grant ended in an event of the start, and the run that sends the frames. -/
def Dev.unbound (c : Cmd) (tag a : Nat) (d : Dev) : Dev :=
  (((d.markStart c).presentOn 4).endGrant oHost tag c.op 2 a).setRun tag (NodeRun.new a (d.node a).trunk [] [])

theorem presentOn_node (port a : Nat) (d : Dev) : (d.presentOn port).node a = d.node a :=
  node_of_kw (Dev.presentOn_get (pt := .kw) port d (by decide)) a

theorem answers_unbound {i : Instr} {s : State} {f : Dev → Dev} {op tag a : Nat} {c : Cmd} {g : Grant} (he : exec i s = run f s)
    (h : s.canRun op tag c = true) (hd : NodesWf s.toDev) (hg : (s.node a).grant = some g) (ht : f s.toDev = s.unbound c tag a) :
    Answers i s fun t => t.working tag = some (.node (NodeRun.new a (s.node a).trunk [] [])) ∧ (t.node a).grant = none ∧
      (∀ b, b ≠ a → t.node b = s.node b) ∧ EventsOnly { s.toDev with kw := t.kw } t := by
  have hkw : ((s.markStart c).presentOn 4).kw = s.kw := Dev.presentOn_get (pt := .kw) 4 (s.markStart c) (by decide)
  have hwf : NodesWf ((s.markStart c).presentOn 4) := by rwa [NodesWf, hkw]
  obtain ⟨hnone, -, hother⟩ := endGrant_node (origin := oHost) (tag := tag) (op := c.op) (cause := 2) hwf
    ((congrArg Node.grant (presentOn_node 4 a (s.markStart c))).trans hg)
  have hcmds : (((s.markStart c).presentOn 4).endGrant oHost tag c.op 2 a).cmds = (s.markStart c).cmds :=
    (Dev.endGrant_get (pt := .cmds) _ _ _ _ _ _ (by decide)).trans (Dev.presentOn_get (pt := .cmds) _ _ (by decide))
  have hnode (b : Nat) : (Dev.settle s.toDev (s.unbound c tag a)).node b = (((s.markStart c).presentOn 4).endGrant oHost tag c.op 2 a).node b :=
    node_of_kw (settle_kw ..) b
  refine answers_settle he ht ⟨?_, ?_, fun b hb => ?_, eventsOnly_kw fun pt hpt => ?_⟩
  · rw [settle_working]
    exact working_setPhase ((congrArg Option.isSome (cmd_of_cmds hcmds tag)).trans (markStart_isSome h))
  · rw [hnode, hnone]
  · rw [hnode, hother b hb]
    exact presentOn_node 4 b (s.markStart c)
  · simp [eventParts] at hpt
    rw [Dev.settle_get _ _ (by simp [hpt]), Dev.unbound, Dev.setRun, Dev.setPhase_get _ _ _ (by simp [hpt]),
      Dev.endGrant_get _ _ _ _ _ _ (by simp [hpt]), Dev.presentOn_get _ _ (by simp [hpt]), Dev.markStart_get _ _ (by simp [hpt])]

theorem nodeUnpair_row {tag : Nat} {c : Cmd} {s : Dev} (hw : c.w 6 ≤ 255) (hz : c.zeroFrom 7 = true) (h : s.canRun 0x71 tag c = true) :
    nodeUnpair tag s =
      if (s.node (c.w 6)).state = 0 then (s.markStart c).fail tag .done
      else if (s.node (c.w 6)).grant.isSome then
        (((s.markStart c).presentOn 4).endGrant oHost tag c.op 2 (c.w 6)).setRun tag (NodeRun.new (c.w 6)
          ((((s.markStart c).presentOn 4).endGrant oHost tag c.op 2 (c.w 6)).node (c.w 6)).trunk [] [])
      else (s.markStart c).setRun tag (NodeRun.new (c.w 6) (s.node (c.w 6)).trunk [] []) := by
  refine (startCmd_of_canRun _ h).trans ((if_neg (by simp [hz, started_w, Nat.not_lt.mpr hw])).trans ?_)
  simp only [started_w, markStart_node]
  refine if_congr Iff.rfl rfl ?_
  by_cases hg : (s.node (c.w 6)).grant.isSome = true
  · simp only [hg, if_true]
    rfl
  · simp only [hg]
    rfl

theorem nodeUnpair_answers {tag : Nat} {c : Cmd} {s : State} (hw : c.w 6 ≤ 255) (hz : c.zeroFrom 7 = true) (hd : NodesWf s.toDev)
    (h : s.canRun 0x71 tag c = true) :
    Answers (.nodeUnpair tag) s fun t =>
      if (s.node (c.w 6)).state = 0 then t.ended tag = some (.gives .done []) ∧ OnlyCommands s.toDev t
      else t.working tag = some (.node (NodeRun.new (c.w 6) (s.node (c.w 6)).trunk [] [])) ∧ (t.node (c.w 6)).grant = none ∧
        (∀ a, a ≠ c.w 6 → t.node a = s.node a) ∧ EventsOnly { s.toDev with kw := t.kw } t := by
  have hrow := nodeUnpair_row hw hz h
  split
  · next h0 => exact answers_refused rfl h (hrow.trans (if_pos h0))
  · next h0 =>
    replace hrow := hrow.trans (if_neg h0)
    cases hg : (s.node (c.w 6)).grant with
    | none =>
      refine answers_leaves rfl (hrow.trans (if_neg (by simp [hg]))) rfl ⟨working_setPhase (markStart_isSome h), hg, fun _ _ => rfl, rfl⟩
    | some g =>
      have hkw : ((s.markStart c).presentOn 4).kw = s.kw := Dev.presentOn_get (pt := .kw) 4 (s.markStart c) (by decide)
      have hwf : NodesWf ((s.markStart c).presentOn 4) := by rwa [NodesWf, hkw]
      obtain ⟨-, htrunk, -⟩ := endGrant_node (origin := oHost) (tag := tag) (op := c.op) (cause := 2) hwf
        ((congrArg Node.grant (presentOn_node 4 (c.w 6) (s.markStart c))).trans hg)
      replace hrow := hrow.trans (if_pos (by simp [hg]))
      rw [htrunk, presentOn_node] at hrow
      exact answers_unbound rfl h hd hg hrow

theorem nodeRevokeGrant_answers {tag : Nat} {c : Cmd} {s : State} (hw : c.w 6 ≤ 255) (hz : c.zeroFrom 7 = true) (hd : NodesWf s.toDev)
    (h : s.canRun 0x73 tag c = true) :
    Answers (.nodeRevokeGrant tag) s fun t =>
      if (s.node (c.w 6)).grant = none then t.ended tag = some (.gives .done []) ∧ OnlyCommands s.toDev t
      else t.working tag = some (.node (NodeRun.new (c.w 6) (s.node (c.w 6)).trunk [] [])) ∧ (t.node (c.w 6)).grant = none ∧
        (∀ a, a ≠ c.w 6 → t.node a = s.node a) ∧ EventsOnly { s.toDev with kw := t.kw } t := by
  have hrow : nodeRevokeGrant tag s.toDev = if (s.node (c.w 6)).grant.isNone then (s.markStart c).fail tag .done else s.unbound c tag (c.w 6) :=
    (startCmd_of_canRun _ h).trans (if_neg (by simp [hz, started_w, Nat.not_lt.mpr hw]))
  cases hg : (s.node (c.w 6)).grant with
  | none =>
    simp only [if_true]
    exact answers_refused rfl h (hrow.trans (if_pos (by simp [hg])))
  | some g =>
    simp only [reduceCtorEq, if_false]
    exact answers_unbound rfl h hd hg (hrow.trans (if_neg (by simp [hg])))

/-- Settles O30. -/
theorem nodePairing : Obligations.NodePairing := by
  unfold Obligations.NodePairing
  exact ⟨fun _ _ _ _ _ _ h ha hlo hhi ht h7 hz hp => nodePair_answers h ha hlo hhi ht h7 hz hp,
    fun _ _ _ hw hz hd => ⟨nodeUnpair_answers hw hz hd, nodeRevokeGrant_answers hw hz hd⟩⟩

/-! ### NODE_GRANT and NODE_MSG (R455, R463) -/

theorem nodeGrant_row {tag : Nat} {c : Cmd} {s : Dev} (h : s.canRun 0x72 tag c = true) (h6 : c.w 6 ≤ 255) (h7 : c.w 7 ≤ 7)
    (h8 : c.w 8 ≤ 31 ∨ c.w 8 = 0xFF) (h12 : c.w 12 ≤ 255 ∨ c.w 12 = 0xFFFF) (hz : c.zeroFrom 13 = true) :
    nodeGrant tag s =
      let n := s.node (c.w 6)
      let expiry := near48 s.now (c.w3 9)
      if n.state != 2 || (n.type != 2 && n.type != 4) then (s.markStart c).fail tag .stateConflict
      else if c.w 7 = 0 || expiry ≤ s.now + 2496000 || s.now + s.kwn 1 * 124800000 < expiry then (s.markStart c).fail tag .stateConflict
      else if !s.trunkOk n.trunk || n.silent || !n.synced then (s.markStart c).fail tag .stateConflict
      else if (if c.w 8 = 0xFF then !s.energised else (s.rel.sessions.getD (c.w 8) none).isNone) then (s.markStart c).fail tag .policyDeny
      else if n.grant.any (fun g => g.binding != c.w 8) || (n.grant.isNone && 40 ≤ s.grantCount n.trunk) then
        (s.markStart c).fail tag .stateConflict
      else (s.markStart c).setRun tag (NodeRun.new (c.w 6) n.trunk [c.w 7, c.w 8, expiry, if c.w 12 = 0xFFFF then s.kwn 2 else c.w 12,
        if n.grant.isSome then n.gnum else (n.gnum + 1) % 65536] []) := by
  have hbad : ¬(decide (255 < c.w 6) || decide (7 < c.w 7) || (decide (31 < c.w 8) && c.w 8 != 0xFF) ||
      (decide (255 < c.w 12) && c.w 12 != 0xFFFF) || !c.zeroFrom 13) = true := by
    simp [hz]; omega
  exact (startCmd_of_canRun _ h).trans (if_neg hbad)

theorem nodeGrant_answers {tag : Nat} {c : Cmd} {s : State} (h : s.canRun 0x72 tag c = true) (h6 : c.w 6 ≤ 255) (h7 : c.w 7 ≤ 7)
    (h8 : c.w 8 ≤ 31 ∨ c.w 8 = 0xFF) (h12 : c.w 12 ≤ 255 ∨ c.w 12 = 0xFFFF) (hz : c.zeroFrom 13 = true) :
    Answers (.nodeGrant tag) s fun t =>
      let n := s.node (c.w 6)
      let expiry := near48 s.now (c.w3 9)
      OnlyCommands s.toDev t ∧
      if n.state ≠ 2 ∨ (n.type ≠ 2 ∧ n.type ≠ 4) then t.ended tag = some (.gives .stateConflict [])
      else if c.w 7 = 0 ∨ expiry ≤ s.now + 2496000 ∨ s.now + s.kwn 1 * 124800000 < expiry then
        t.ended tag = some (.gives .stateConflict [])
      else if s.trunkOk n.trunk = false ∨ n.silent = true ∨ n.synced = false then t.ended tag = some (.gives .stateConflict [])
      else if (c.w 8 = 0xFF ∧ s.energised = false) ∨ (c.w 8 ≠ 0xFF ∧ s.rel.sessions.getD (c.w 8) none = none) then
        t.ended tag = some (.gives .policyDeny [])
      else if n.grant.any (fun g => g.binding != c.w 8) = true ∨ (n.grant = none ∧ 40 ≤ s.grantCount n.trunk) then
        t.ended tag = some (.gives .stateConflict [])
      else t.working tag = some (.node (NodeRun.new (c.w 6) n.trunk
        [c.w 7, c.w 8, expiry, if c.w 12 = 0xFFFF then s.kwn 2 else c.w 12,
         if n.grant.isSome then n.gnum else (n.gnum + 1) % 65536] [])) := by
  have hrow := nodeGrant_row h h6 h7 h8 h12 hz
  have refused {st : Status} (hf : nodeGrant tag s.toDev = (s.markStart c).fail tag st) :
      Answers (.nodeGrant tag) s fun t => OnlyCommands s.toDev t ∧ t.ended tag = some (.gives st []) :=
    (answers_refused rfl h hf).imp fun t ht => ht.symm
  dsimp only at hrow ⊢
  split
  · next hst => exact refused (hrow.trans (if_pos (by simpa using hst)))
  · next hst =>
    replace hrow := hrow.trans (if_neg (by simpa using hst))
    split
    · next hex => exact refused (hrow.trans (if_pos (by simpa [or_assoc] using hex)))
    · next hex =>
      replace hrow := hrow.trans (if_neg (by simpa [and_assoc] using hex))
      split
      · next htr => exact refused (hrow.trans (if_pos (by simpa [or_assoc] using htr)))
      · next htr =>
        replace hrow := hrow.trans (if_neg (by simpa [and_assoc] using htr))
        have hbind : (if c.w 8 = 0xFF then !s.energised else (s.rel.sessions.getD (c.w 8) none).isNone) = true ↔
            (c.w 8 = 0xFF ∧ s.energised = false) ∨ (c.w 8 ≠ 0xFF ∧ s.rel.sessions.getD (c.w 8) none = none) := by
          by_cases hff : c.w 8 = 0xFF
          · simp [hff]
          · simp only [hff, if_false, false_and, not_false_eq_true, true_and, false_or, ne_eq, Option.isNone_iff_eq_none]
        split
        · next hb => exact refused (hrow.trans (if_pos (hbind.mpr hb)))
        · next hb =>
          replace hrow := hrow.trans (if_neg (mt hbind.mp hb))
          split
          · next hg => exact refused (hrow.trans (if_pos (by simpa using hg)))
          · next hg =>
            exact (answers_nodeRun rfl h (hrow.trans (if_neg (by simpa using hg)))).imp fun t ht => ht.symm

theorem nodeMsg_answers {tag : Nat} {c : Cmd} {s : State} (h : s.canRun 0x74 tag c = true) (h6 : c.w 6 ≤ 255) (h7 : c.w 7 ≤ 1)
    (h8 : c.w 8 ≤ 47) (hz : c.zeroFrom 9 = true) (hp : c.plen = (c.w 8 + 1) / 2) :
    Answers (.nodeMsg tag) s fun t => OnlyCommands s.toDev t ∧
      let n := s.node (c.w 6)
      if n.state ≠ 2 ∨ s.trunkOk n.trunk = false ∨ n.synced = false then t.ended tag = some (.gives .stateConflict [])
      else t.working tag = some (.node (NodeRun.new (c.w 6) n.trunk [c.w 7] (c.bytes.take (c.w 8)))) := by
  have hbad : ¬(decide (255 < c.w 6) || decide (1 < c.w 7) || decide (47 < c.w 8) || !c.zeroFrom 9 || c.plen != (c.w 8 + 1) / 2) = true := by
    simp [hz, hp]; omega
  have hrow : nodeMsg tag s.toDev =
      if (s.node (c.w 6)).state != 2 || !s.trunkOk (s.node (c.w 6)).trunk || !(s.node (c.w 6)).synced then (s.markStart c).fail tag .stateConflict
      else (s.markStart c).setRun tag (NodeRun.new (c.w 6) (s.node (c.w 6)).trunk [c.w 7] (c.bytes.take (c.w 8))) :=
    (startCmd_of_canRun _ h).trans (if_neg hbad)
  dsimp only
  split
  · next hno => exact (answers_refused rfl h (hrow.trans (if_pos (by simpa [or_assoc] using hno)))).imp fun t ht => ht.symm
  · next hno => exact (answers_nodeRun rfl h (hrow.trans (if_neg (by simpa [and_assoc] using hno)))).imp fun t ht => ht.symm

/-! ### NODE_SCAN (R465) -/

theorem isScan_of_canRun {tag mode : Nat} {c : Cmd} {d : Dev} (h : d.canRun 0x75 tag c = true) (hm : c.w 6 % 4 = mode) : isScan mode c = true := by
  simp [isScan, op_of_canRun h, hm]

/-- The parameters of a scan of mode `m` on trunk `b`. -/
theorem scanBad_false {m : Nat} {b : Bool} {c : Cmd} (hm : m < 4) (h6 : c.w 6 = m + 256 * b2n b) (hz : c.zeroFrom 7 = true) : scanBad c = false := by
  rw [scanBad, h6]
  cases b <;> simp [b2n, hz] <;> omega

theorem scanStatus_answers {tag : Nat} {b : Bool} {c : Cmd} {s : State} (h : s.canRun 0x75 tag c = true) (hz : c.zeroFrom 7 = true)
    (h6 : c.w 6 = 256 * b2n b) :
    Answers (.nodeScanStatus tag) s fun t =>
      ∃ ws : List Word, t.ended tag = some (.gives .done ws) ∧ ws.length = 255 ∧ OnlyCommands s.toDev t ∧
        ∀ a, 1 ≤ a → a ≤ 255 → ws.getD (a - 1) 0 = s.scanWord a := by
  have h0 : c.w 6 % 4 = 0 := by rw [h6]; omega
  have h3 : isScan 3 c = false := by simp [isScan, h0]
  have hbad : ¬(scanBad c || isScan 3 c) = true := by simp [scanBad_false (m := 0) (by decide) (by simpa using h6) hz, h3]
  have hrow : nodeScanStatus tag s.toDev = (s.markStart c).reply tag ((List.range 255).map (fun i => s.scanWord (i + 1))) :=
    (startCmd_of_sel _ h (by rw [isScan_of_canRun h h0]; rfl)).trans (if_neg hbad)
  refine (answers_refused rfl h hrow).imp fun t ⟨hend, ho⟩ => ⟨_, hend, by simp, ho, fun a hlo hhi => ?_⟩
  have ha : a - 1 < 255 := by omega
  simp [List.getD_eq_getElem?_getD, ha, Nat.sub_add_cancel hlo]

theorem scanDiscover_answers {tag : Nat} {b : Bool} {c : Cmd} {s : State} (h : s.canRun 0x75 tag c = true) (hz : c.zeroFrom 7 = true)
    (h6 : c.w 6 = 1 + 256 * b2n b) :
    Answers (.nodeScanDiscover tag) s fun t => OnlyCommands s.toDev t ∧
      if s.trunkOk (b2n b) = false then t.ended tag = some (.gives .stateConflict [])
      else t.working tag = some (.node (NodeRun.new 0 (b2n b) [0] [])) := by
  have hb : bit 8 (c.w 6) = b := by rw [h6, (pairWord (type := 1) (by decide)).2]
  have hrow : nodeScanDiscover tag s.toDev = if !s.trunkOk (b2n (bit 8 (c.w 6))) then (s.markStart c).fail tag .stateConflict
      else (s.markStart c).setRun tag (NodeRun.new 0 (b2n (bit 8 (c.w 6))) [0] []) :=
    (startCmd_of_sel _ h (isScan_of_canRun h (by rw [h6]; omega))).trans
      (if_neg (mt (show scanBad c = true from ·) (by simp [scanBad_false (m := 1) (by decide) h6 hz])))
  rw [hb] at hrow
  split
  · next hno => exact (answers_refused rfl h (hrow.trans (if_pos (by simp [hno])))).imp fun t ht => ht.symm
  · next hok => exact (answers_nodeRun rfl h (hrow.trans (if_neg (by simp [hok])))).imp fun t ht => ht.symm

theorem scanUplinks_answers {tag : Nat} {b : Bool} {c : Cmd} {s : State} (h : s.canRun 0x75 tag c = true) (hz : c.zeroFrom 7 = true)
    (h6 : c.w 6 = 2 + 256 * b2n b) :
    Answers (.nodeScanUplinks tag) s fun t =>
      t.ended tag = some (.gives .done ((s.kw.ring.take 32).flatMap UplinkEntry.words)) ∧
      t.kw = { s.kw with ring := s.kw.ring.drop 32 } ∧ OnlyCommands { s.toDev with kw := t.kw } t := by
  have hrow : nodeScanUplinks tag s.toDev = _ :=
    (startCmd_of_sel _ h (isScan_of_canRun h (by rw [h6]; omega))).trans
      (if_neg (mt (show scanBad c = true from ·) (by simp [scanBad_false (m := 2) (by decide) h6 hz])))
  exact answers_leaves rfl hrow rfl ⟨ended_reply (markStart_isSome h), rfl, rfl⟩

/-- Settles O31. -/
theorem nodeCommands : Obligations.NodeCommands := by
  unfold Obligations.NodeCommands
  exact ⟨fun _ _ _ h h6 h7 h8 h12 hz => nodeGrant_answers h h6 h7 h8 h12 hz, fun _ _ _ h h6 h7 h8 hz hp => nodeMsg_answers h h6 h7 h8 hz hp,
    fun _ _ _ _ h hz => ⟨scanStatus_answers h hz, scanDiscover_answers h hz, scanUplinks_answers h hz⟩⟩

end Sys2Proof.Machine
end

section
/-!
PROOFS. Reads of the NV parameter store (chapter 19).
-/

namespace Sys2Proof.Machine

section
variable (c : Cmd) (d : Dev)
@[simp] theorem markStart_partition (id : Nat) : (d.markStart c).partition id = d.partition id := rfl
@[simp] theorem markStart_nvReadable (a n : Nat) : (d.markStart c).nvReadable a n = d.nvReadable a n := rfl
@[simp] theorem markStart_nvBytes (a n : Nat) : (d.markStart c).nvBytes a n = d.nvBytes a n := rfl
@[simp] theorem markStart_counterNow (a : Nat) : (d.markStart c).counterNow a = d.counterNow a := rfl
@[simp] theorem markStart_newestRec (p : Partition) : (d.markStart c).newestRec p = d.newestRec p := rfl
@[simp] theorem markStart_copyOk (a n : Nat) (place : Nat → Bool) : (d.markStart c).copyOk a n place = d.copyOk a n place := rfl
@[simp] theorem markStart_chooseCopy (a b n : Nat) (place : Nat → Bool) :
    (d.markStart c).chooseCopy a b n place = d.chooseCopy a b n place := by
  simp only [Dev.chooseCopy, markStart_copyOk, markStart_nvBytes]
  rfl
end

/-- The comparison of a record's copies (R478) touches what every event may. -/
theorem compare_get {pt : Part} (n : Nat) (ch : Option (Nat × Nat)) (d : Dev) (h : pt ∉ [.clock, .pwr, .evc, .jrnl, .nv]) :
    (d.compare n ch).get pt = d.get pt := by
  simp at h
  cases ch with
  | none => rfl
  | some xy =>
    unfold Dev.compare
    dsimp only
    split
    · rfl
    · split
      · rfl
      · rw [Dev.nvQueue_get _ _ (by simp [h]), Dev.note_get _ _ _ (by simp [h]), Dev.signal_get _ _ (by simp [h]),
          Dev.get_with_nv _ _ (by simp [h])]

theorem ended_of_cmds {s t : Dev} (h : t.cmds = s.cmds) (tag : Nat) : t.ended tag = s.ended tag := by simp only [Dev.ended, cmd_of_cmds h]

/-- A row has one answer: what it leaves, with journal hold settled (R144). -/
theorem answers_iff {i : Instr} {s : State} {f : Dev → Dev} {P : Dev → Prop} (he : exec i s = run f s) :
    Answers i s P ↔ P (Dev.settle s.toDev (f s.toDev)) := by
  refine ⟨fun ⟨t, ht, _, hP⟩ => ?_, fun hP => ⟨_, he, rfl, hP⟩⟩
  rw [he] at ht
  cases ht
  exact hP

/-! ### NV_READ (R480, R483, R488) -/

/-- Without errors a read meets nothing. -/
theorem nvMetIn_nil (a n : Nat) (d : Dev) : d.nvMetIn [] a n = d := rfl

theorem nvRead_row {tag : Nat} {c : Cmd} {s : Dev} {p : Partition} (h0 : c.w 6 ≠ 0) (h6 : c.w 6 < 256) (hz : c.zeroFrom 10 = true)
    (hp : c.plen = 0) (hpart : s.partition (c.w 6) = some p) (h : s.canRun 0x80 tag c = true) :
    nvRead tag [] s = match p.mode with
      | 0 =>
        if c.w 9 = 0 || 1024 < c.w 9 || 64 * p.pages < c.w2 7 + c.w 9 then (s.markStart c).fail tag .stateConflict
        else if s.nvReadable (p.addr + c.w2 7) (c.w 9) then (s.markStart c).reply tag (bytesToWords (s.nvBytes (p.addr + c.w2 7) (c.w 9)))
        else (s.markStart c).nvFail tag
      | 1 =>
        if c.w 9 = 0 || 1024 < c.w 9 || p.size - 8 < c.w2 7 + c.w 9 then (s.markStart c).fail tag .stateConflict
        else match s.chooseCopy p.addr (p.addr + p.size) p.size (fun _ => true) with
          | none => (s.markStart c).nvFail tag
          | some (x, y) => ((s.markStart c).compare p.size (some (x, y))).reply tag (bytesToWords (s.nvBytes (x + c.w2 7) (c.w 9)))
      | 3 =>
        if c.w 9 = 0 || 256 < c.w 9 || p.pages < c.w2 7 + c.w 9 then (s.markStart c).fail tag .stateConflict
        else
          let vs := (List.range (c.w 9)).map (fun i => s.counterNow (p.addr + 64 * (c.w2 7 + i)))
          if vs.any Option.isNone then (s.markStart c).nvFail tag else (s.markStart c).reply tag (vs.flatMap (fun v => leWords 2 (v.getD 0)))
      | _ => (s.markStart c).fail tag .stateConflict := by
  have hbad : ¬(decide (256 ≤ c.w 6) || !c.zeroFrom 10 || c.plen != 0) = true := by
    simp [hz, hp]; omega
  refine (startCmd_of_canRun _ h).trans ((if_neg hbad).trans ((if_neg h0).trans ?_))
  simp only [started_w, markStart_partition, hpart, nvMetIn_nil, markStart_chooseCopy]
  generalize s.chooseCopy p.addr (p.addr + p.size) p.size (fun _ => true) = ch
  cases ch <;> rfl

/-- A read that has ended, its command and `NVSTAT.UNCORR` alone changed. -/
theorem answers_nvRead {i : Instr} {s : State} {f : Dev → Dev} {op tag : Nat} {c : Cmd} {r : Result} (he : exec i s = run f s)
    (h : s.canRun op tag c = true) (hr : r ≠ .gives .nvUncorrectable []) (ht : f s.toDev = (s.markStart c).finish tag r) :
    Answers i s fun t => OnlyCommands { s.toDev with nv := t.nv } t ∧
      t.nv = { s.nv with uncorr := s.nv.uncorr || t.ended tag == some (.gives .nvUncorrectable []) } ∧ t.ended tag = some r := by
  have hend : ((s.markStart c).finish tag r).ended tag = some r := ended_finish (markStart_isSome h)
  have hne : (some r == some (Result.gives .nvUncorrectable [])) = false := by simpa using hr
  refine answers_leaves he ht rfl ⟨rfl, ?_, hend⟩
  rw [hend, hne, Bool.or_false]
  rfl

theorem answers_nvFail {i : Instr} {s : State} {f : Dev → Dev} {op tag : Nat} {c : Cmd} (he : exec i s = run f s)
    (h : s.canRun op tag c = true) (ht : f s.toDev = (s.markStart c).nvFail tag) :
    Answers i s fun t => OnlyCommands { s.toDev with nv := t.nv } t ∧
      t.nv = { s.nv with uncorr := s.nv.uncorr || t.ended tag == some (.gives .nvUncorrectable []) } ∧
      t.ended tag = some (.gives .nvUncorrectable []) := by
  have hend : ((s.markStart c).nvFail tag).ended tag = some (.gives .nvUncorrectable []) := ended_fail (markStart_isSome h)
  refine answers_leaves he ht rfl ⟨rfl, ?_, hend⟩
  rw [hend, beq_self_eq_true, Bool.or_true]
  rfl

theorem nvRead_raw {tag : Nat} {c : Cmd} {s : State} {p : Partition} (h0 : c.w 6 ≠ 0) (h6 : c.w 6 < 256) (hz : c.zeroFrom 10 = true)
    (hp : c.plen = 0) (hpart : s.partition (c.w 6) = some p) (h : s.canRun 0x80 tag c = true) (hm : p.mode = 0) :
    Answers (.nvRead tag []) s fun t => OnlyCommands { s.toDev with nv := t.nv } t ∧
      t.nv = { s.nv with uncorr := s.nv.uncorr || t.ended tag == some (.gives .nvUncorrectable []) } ∧ t.ended tag = some (
      if c.w 9 = 0 ∨ 1024 < c.w 9 ∨ 64 * p.pages < c.w2 7 + c.w 9 then .gives .stateConflict []
      else if s.nvReadable (p.addr + c.w2 7) (c.w 9) then .gives .done (bytesToWords (s.nvBytes (p.addr + c.w2 7) (c.w 9)))
      else .gives .nvUncorrectable []) := by
  have hrow := nvRead_row h0 h6 hz hp hpart h
  rw [hm] at hrow
  dsimp only at hrow
  split
  · next hout => exact answers_nvRead rfl h (by simp [Result.gives]) (hrow.trans (if_pos (by simpa [or_assoc] using hout)))
  · next hout =>
    replace hrow := hrow.trans (if_neg (by simpa [and_assoc] using hout))
    split
    · next hok => exact answers_nvRead rfl h (by simp [Result.gives]) (hrow.trans (if_pos hok))
    · next hok => exact answers_nvFail rfl h (hrow.trans (if_neg hok))

theorem nvRead_counter {tag : Nat} {c : Cmd} {s : State} {p : Partition} (h0 : c.w 6 ≠ 0) (h6 : c.w 6 < 256) (hz : c.zeroFrom 10 = true)
    (hp : c.plen = 0) (hpart : s.partition (c.w 6) = some p) (h : s.canRun 0x80 tag c = true) (hm : p.mode = 3) :
    Answers (.nvRead tag []) s fun t => OnlyCommands { s.toDev with nv := t.nv } t ∧
      t.nv = { s.nv with uncorr := s.nv.uncorr || t.ended tag == some (.gives .nvUncorrectable []) } ∧ t.ended tag = some (
      if c.w 9 = 0 ∨ 256 < c.w 9 ∨ p.pages < c.w2 7 + c.w 9 then .gives .stateConflict []
      else
        let vs := (List.range (c.w 9)).map (fun i => s.counterNow (p.addr + 64 * (c.w2 7 + i)))
        if vs.any Option.isNone then .gives .nvUncorrectable [] else .gives .done (vs.flatMap (fun v => leWords 2 (v.getD 0)))) := by
  have hrow := nvRead_row h0 h6 hz hp hpart h
  rw [hm] at hrow
  dsimp only at hrow ⊢
  split
  · next hout => exact answers_nvRead rfl h (by simp [Result.gives]) (hrow.trans (if_pos (by simpa [or_assoc] using hout)))
  · next hout =>
    replace hrow := hrow.trans (if_neg (by simpa [and_assoc] using hout))
    split
    · next hbad => exact answers_nvFail rfl h (hrow.trans (if_pos hbad))
    · next hok => exact answers_nvRead rfl h (by simp [Result.gives]) (hrow.trans (if_neg hok))

theorem nvRead_twin {tag : Nat} {c : Cmd} {s : State} {p : Partition} (h0 : c.w 6 ≠ 0) (h6 : c.w 6 < 256) (hz : c.zeroFrom 10 = true)
    (hp : c.plen = 0) (hpart : s.partition (c.w 6) = some p) (h : s.canRun 0x80 tag c = true) (hm : p.mode = 1) (hl : c.w 9 ≠ 0)
    (hhi : c.w 9 ≤ 1024) (hin : c.w2 7 + c.w 9 ≤ p.size - 8) :
    Answers (.nvRead tag []) s fun t => t.ended tag = some (match s.chooseCopy p.addr (p.addr + p.size) p.size (fun _ => true) with
      | none => .gives .nvUncorrectable []
      | some (x, _) => .gives .done (bytesToWords (s.nvBytes (x + c.w2 7) (c.w 9)))) := by
  have hrow := nvRead_row h0 h6 hz hp hpart h
  rw [hm] at hrow
  replace hrow := hrow.trans (if_neg (by simp [hl]; omega))
  generalize s.chooseCopy p.addr (p.addr + p.size) p.size (fun _ => true) = ch at hrow ⊢
  cases ch with
  | none => exact (answers_nvFail rfl h hrow).imp fun t ⟨_, _, hend⟩ => hend
  | some xy =>
    refine answers_settle rfl hrow ?_
    rw [settle_ended]
    exact ended_reply ((congrArg Option.isSome (cmd_of_cmds (compare_get (pt := .cmds) _ _ _ (by decide)) tag)).trans (markStart_isSome h))

theorem nvRead_answers {tag : Nat} {c : Cmd} {s : State} {p : Partition} (h0 : c.w 6 ≠ 0) (h6 : c.w 6 < 256) (hz : c.zeroFrom 10 = true)
    (hp : c.plen = 0) (hpart : s.partition (c.w 6) = some p) (h : s.canRun 0x80 tag c = true) :
    Answers (.nvRead tag []) s fun t =>
      let off := c.w2 7
      let len := c.w 9
      (p.mode = 0 → OnlyCommands { s.toDev with nv := t.nv } t ∧
        t.nv = { s.nv with uncorr := s.nv.uncorr || t.ended tag == some (.gives .nvUncorrectable []) } ∧ t.ended tag = some (
        if len = 0 ∨ 1024 < len ∨ 64 * p.pages < off + len then .gives .stateConflict []
        else if s.nvReadable (p.addr + off) len then .gives .done (bytesToWords (s.nvBytes (p.addr + off) len))
        else .gives .nvUncorrectable [])) ∧
      (p.mode = 1 → len ≠ 0 → len ≤ 1024 → off + len ≤ p.size - 8 →
        t.ended tag = some (match s.chooseCopy p.addr (p.addr + p.size) p.size (fun _ => true) with
          | none => .gives .nvUncorrectable []
          | some (x, _) => .gives .done (bytesToWords (s.nvBytes (x + off) len)))) ∧
      (p.mode = 2 → OnlyCommands s.toDev t ∧ t.ended tag = some (.gives .stateConflict [])) ∧
      (p.mode = 3 → OnlyCommands { s.toDev with nv := t.nv } t ∧
        t.nv = { s.nv with uncorr := s.nv.uncorr || t.ended tag == some (.gives .nvUncorrectable []) } ∧ t.ended tag = some (
        if len = 0 ∨ 256 < len ∨ p.pages < off + len then .gives .stateConflict []
        else
          let vs := (List.range len).map (fun i => s.counterNow (p.addr + 64 * (off + i)))
          if vs.any Option.isNone then .gives .nvUncorrectable [] else .gives .done (vs.flatMap (fun v => leWords 2 (v.getD 0))))) := by
  have row {P : Dev → Prop} : Answers (.nvRead tag []) s P ↔ P (Dev.settle s.toDev (nvRead tag [] s.toDev)) := answers_iff rfl
  refine row.mpr ⟨fun hm => row.mp (nvRead_raw h0 h6 hz hp hpart h hm), fun hm hl hhi hin => ?_, fun hm => ?_,
    fun hm => row.mp (nvRead_counter h0 h6 hz hp hpart h hm)⟩
  · exact (row (P := fun t => t.ended tag = _)).mp (nvRead_twin h0 h6 hz hp hpart h hm hl hhi hin)
  · have hrow := nvRead_row h0 h6 hz hp hpart h
    rw [hm] at hrow
    exact (row (P := fun t => OnlyCommands s.toDev t ∧ t.ended tag = _)).mp ((answers_refused rfl h hrow).imp fun t ht => ht.symm)

/-! ### NV_RECORD_READ (R482, R488) -/

theorem nvRecordRead_row {tag : Nat} {c : Cmd} {s : Dev} {p : Partition} (h6 : c.w 6 < 256) (hz : c.zeroFrom 10 = true)
    (hp : c.plen = 0) (hpart : s.partition (c.w 6) = some p) (h : s.canRun 0x83 tag c = true) (hm : p.mode = 2) (hsz : p.size ≤ 1024)
    (h9 : c.w 9 = 1) (hlo : 1 ≤ c.w2 7) (hhi : c.w2 7 ≤ s.newestRec p) (hff : c.w2 7 < 0xFFFFFFFF) (hold : s.newestRec p < c.w2 7 + p.ring) :
    nvRecordRead tag [] s = match s.chooseCopy (p.copyA (c.w2 7)) (p.copyB (c.w2 7)) p.size (fun q => q == c.w2 7) with
      | none => (s.markStart c).nvFail tag
      | some (x, y) => ((s.markStart c).compare p.size (some (x, y))).reply tag (leWords 2 (c.w2 7) ++ bytesToWords (s.nvBytes x (p.size - 8))) := by
  have hbad : ¬(decide (256 ≤ c.w 6) || !c.zeroFrom 10 || c.plen != 0) = true := by
    simp [hz, hp]; omega
  have hff' : c.w2 7 ≠ 0xFFFFFFFF := by omega
  have hcap : 1 ≤ 512 / (2 + (p.size - 8) / 2) := by
    rw [Nat.one_le_div_iff (by omega)]
    omega
  have hcount : min 1 (min (s.newestRec p + 1 - c.w2 7) (512 / (2 + (p.size - 8) / 2))) = 1 := by omega
  refine (startCmd_of_canRun _ h).trans ((if_neg hbad).trans ?_)
  have hkept : (decide (c.w2 7 = 0) || decide (s.newestRec p < c.w2 7) || decide (c.w2 7 + p.ring ≤ s.newestRec p)) = false := by
    simp; omega
  simp only [started_w, started_w2, markStart_partition, hpart, hm, h9, nvMetIn_nil, markStart_newestRec, hff', hkept, if_false, hcount,
    bne_self_eq_false, Bool.false_or, OfNat.one_ne_ofNat, decide_false, Bool.false_eq_true, Nat.reduceLT, Dev.readRecords, markStart_chooseCopy,
    markStart_nvBytes, ite_self, one_ne_zero]
  generalize s.chooseCopy (p.copyA (c.w2 7)) (p.copyB (c.w2 7)) p.size _ = ch
  cases ch with
  | none => rfl
  | some xy =>
    simp only [Option.map_some, List.append_nil]

theorem nvRecordRead_answers {tag : Nat} {c : Cmd} {s : State} {p : Partition} (h6 : c.w 6 < 256) (hz : c.zeroFrom 10 = true)
    (hp : c.plen = 0) (hpart : s.partition (c.w 6) = some p) (h : s.canRun 0x83 tag c = true) (hm : p.mode = 2) (hsz : p.size ≤ 1024)
    (h9 : c.w 9 = 1) (hlo : 1 ≤ c.w2 7) (hhi : c.w2 7 ≤ s.newestRec p) (hff : c.w2 7 < 0xFFFFFFFF) (hold : s.newestRec p < c.w2 7 + p.ring) :
    Answers (.nvRecordRead tag []) s fun t => EventsOnly s.toDev t ∧
      t.ended tag = some (match s.chooseCopy (p.copyA (c.w2 7)) (p.copyB (c.w2 7)) p.size (fun q => q == c.w2 7) with
        | none => .gives .nvUncorrectable []
        | some (x, _) => .gives .done (leWords 2 (c.w2 7) ++ bytesToWords (s.nvBytes x (p.size - 8)))) := by
  have hrow := nvRecordRead_row h6 hz hp hpart h hm hsz h9 hlo hhi hff hold
  generalize s.chooseCopy (p.copyA (c.w2 7)) (p.copyB (c.w2 7)) p.size (fun q => q == c.w2 7) = ch at hrow ⊢
  cases ch with
  | none =>
    refine answers_leaves rfl hrow rfl ⟨eventsOnly_of_get fun pt hpt => ?_, ended_fail (markStart_isSome h)⟩
    simp [eventParts] at hpt
    rw [Dev.nvFail, Dev.fail_get _ _ _ (by simp [hpt]), Dev.get_with_nv _ _ (by simp [hpt]), Dev.markStart_get _ _ (by simp [hpt])]
  | some xy =>
    refine answers_settle rfl hrow ⟨eventsOnly_of_get fun pt hpt => ?_, ?_⟩
    · simp [eventParts] at hpt
      rw [Dev.settle_get _ _ (by simp [hpt]), Dev.reply_get _ _ _ (by simp [hpt]), compare_get _ _ _ (by simp [hpt]),
        Dev.markStart_get _ _ (by simp [hpt])]
    · rw [settle_ended]
      exact ended_reply ((congrArg Option.isSome (cmd_of_cmds (compare_get (pt := .cmds) _ _ _ (by decide)) tag)).trans (markStart_isSome h))

/-- Settles O34. -/
theorem nvReads : Obligations.NvReads := by
  unfold Obligations.NvReads
  exact fun _ _ _ _ h0 h6 hz hp hpart => ⟨nvRead_answers h0 h6 hz hp hpart,
    fun h hm hsz h9 hlo hhi hff hold => nvRecordRead_answers h6 hz hp hpart h hm hsz h9 hlo hhi hff hold⟩

end Sys2Proof.Machine
end

section
/-!
PROOFS. The test port (chapters 4 and 17). O37 fails: a halt is an event of the host port, and its DEBUG record raises source 159 in an
event beside it, so the ESN grows by two.
-/

namespace Sys2Proof.Machine

/-- A debug session, and sequencer 0 with a ROM script on it. -/
def romDebugged : State :=
  { Tests.up with
    host := { Tests.up.host with dbgUnlocked := true }, ham := { Tests.up.ham with a := { Tests.up.ham.a with rom := true } } }

theorem romDebugged_esn : ∀ t, exec (.debugHalt 0) romDebugged = .next t → t.clock.esn = romDebugged.clock.esn + 2 := by
  intro t ht
  cases ht
  decide +kernel

/-- Refutes O37: a refused DEBUG_HALT takes two ESNs, its own and that of the event beside it that presents source 159. -/
theorem not_scriptCommandsAndDebug : ¬ Obligations.ScriptCommandsAndDebug := by
  unfold Obligations.ScriptCommandsAndDebug
  rintro ⟨-, h⟩
  obtain ⟨-, hhalt, -⟩ := h [] [] 0 0 romDebugged (by decide +kernel) (by decide)
  obtain ⟨t, ht, -, -, ⟨-, hesn, -⟩, -⟩ := (hhalt rfl (by decide)).2 (Or.inl rfl)
  rw [romDebugged_esn t ht] at hesn
  exact absurd hesn (by decide +kernel)

end Sys2Proof.Machine
end

section
/-!
PROOFS. What further functions of the model leave of the device, part by part.
-/

namespace Sys2Proof.Machine

@[simp] theorem Dev.onSeq_get {pt : Part} (q : ℕ) (f : Seqr → Seqr) (d : Dev) (h : pt ≠ .ham) : (Dev.onSeq q f d).get pt = d.get pt := by
  simp [Dev.onSeq, h, apply_ite (Dev.get · pt), foldl_get, apply_ite Prod.fst, apply_ite Prod.snd]

@[simp] theorem Dev.putChan_get {pt : Part} (n : ℕ) (c : Channel) (d : Dev) (h : pt ≠ .tmr) : (Dev.putChan n c d).get pt = d.get pt := by
  simp [Dev.putChan, h, apply_ite (Dev.get · pt), foldl_get, apply_ite Prod.fst, apply_ite Prod.snd]

@[simp] theorem Dev.newSpan_get {pt : Part} (n : ℕ) (w : ℕ) (c : Channel) (d : Dev) (h : pt ≠ .tmr) : (Dev.newSpan n w c d).get pt = d.get pt := by
  simp [Dev.newSpan, h, apply_ite (Dev.get · pt), foldl_get, apply_ite Prod.fst, apply_ite Prod.snd]

@[simp] theorem Dev.holdU_get {pt : Part} (n : ℕ) (d : Dev) (h : pt ≠ .tmr) : (Dev.holdU n d).get pt = d.get pt := by
  simp [Dev.holdU, h, apply_ite (Dev.get · pt), foldl_get, apply_ite Prod.fst, apply_ite Prod.snd]

@[simp] theorem Dev.tmrFreeze_get {pt : Part} (d : Dev) (h : pt ≠ .tmr) : (Dev.tmrFreeze d).get pt = d.get pt := by
  simp [Dev.tmrFreeze, h, apply_ite (Dev.get · pt), foldl_get, apply_ite Prod.fst, apply_ite Prod.snd]

@[simp] theorem Dev.restoreDue_get {pt : Part} (q : ℕ) (d : Dev) (h : pt ≠ .ham) : (Dev.restoreDue q d).get pt = d.get pt := by
  simp [Dev.restoreDue, h, apply_ite (Dev.get · pt), foldl_get, apply_ite Prod.fst, apply_ite Prod.snd]

@[simp] theorem Dev.endDebug_get {pt : Part} (d : Dev) (h : pt ∉ [.host, .tmr, .ham]) : (Dev.endDebug d).get pt = d.get pt := by
  simp at h
  simp [Dev.endDebug, h, apply_ite (Dev.get · pt), foldl_get, apply_ite Prod.fst, apply_ite Prod.snd]

@[simp] theorem Dev.noteDebug_get {pt : Part} (origin : ℕ) (old : ℕ) (d : Dev) (h : pt ∉ [.clock, .jrnl, .evc, .nv]) : (Dev.noteDebug origin old d).get pt = d.get pt := by
  simp at h
  simp [Dev.noteDebug, h, apply_ite (Dev.get · pt), foldl_get, apply_ite Prod.fst, apply_ite Prod.snd]

end Sys2Proof.Machine
end

section
/-!
PROOFS. What no event by itself moves: the states of the domains with the deferred POWER_OFFs (R57, R68), and, when a domain comes up,
the relay.
-/

namespace Sys2Proof.Machine

/-- The states of the domains and the deferred POWER_OFFs. -/
def Power.domains (p : Power) : List Domain × List Deferral := (p.doms, p.deferrals)

@[simp] theorem Dev.freeNat_domains (d : Dev) : (Dev.freeNat d).2.pwr.domains = d.pwr.domains := rfl

@[simp] theorem Dev.freeBool_domains (d : Dev) : (Dev.freeBool d).2.pwr.domains = d.pwr.domains := rfl

@[simp] theorem Dev.acceptOn_domains (port : ℕ) (close : Bool) (d : Dev) : (Dev.acceptOn port close d).pwr.domains = d.pwr.domains := by
  unfold Dev.acceptOn
  split <;> simp

theorem foldl_domains {α : Type} (f : Dev → α → Dev) (xs : List α) (h : ∀ d x, (f d x).pwr.domains = d.pwr.domains) (d : Dev) : (xs.foldl f d).pwr.domains = d.pwr.domains := by
  induction xs generalizing d with
  | nil => rfl
  | cons x xs ih => rw [List.foldl_cons, ih, h]

@[simp] theorem Dev.aside_domains (port : Nat) (f : Dev → Dev) (h : ∀ e, (f e).pwr.domains = e.pwr.domains) (d : Dev) : (d.aside port f).pwr.domains = d.pwr.domains := by
  unfold Dev.aside
  dsimp only
  rw [h]
  split <;> rfl

@[simp] theorem Dev.setPending_domains (n : ℕ) (d : Dev) : (Dev.setPending n d).pwr.domains = d.pwr.domains := rfl

@[simp] theorem Dev.latchAt_domains (w : ℕ) (t : ℕ) (d : Dev) : (Dev.latchAt w t d).pwr.domains = d.pwr.domains := by
  unfold Dev.latchAt
  dsimp only
  split <;> simp

@[simp] theorem Dev.latch_domains (w : ℕ) (d : Dev) : (Dev.latch w d).pwr.domains = d.pwr.domains := by simp [Dev.latch]

@[simp] theorem Dev.reach_domains (n : ℕ) (d : Dev) : (Dev.reach n d).pwr.domains = d.pwr.domains := by
  unfold Dev.reach
  dsimp only
  repeat' split
  all_goals simp

@[simp] theorem Dev.event_domains (n : ℕ) (d : Dev) : (Dev.event n d).pwr.domains = d.pwr.domains := by simp [Dev.event]

@[simp] theorem Dev.raise_domains (n : ℕ) (d : Dev) : (Dev.raise n d).pwr.domains = d.pwr.domains := by simp [Dev.raise]

@[simp] theorem Dev.nvKick_domains (d : Dev) : (Dev.nvKick d).pwr.domains = d.pwr.domains := rfl

@[simp] theorem Dev.nvQueue_domains (ws : List PageWrite) (d : Dev) : (Dev.nvQueue ws d).pwr.domains = d.pwr.domains := rfl

@[simp] theorem Dev.recordWrite_domains (owner : Option ℕ) (b : List ℕ) (a : List ℕ) (old : OldRecord) (d : Dev) : (Dev.recordWrite owner b a old d).pwr.domains = d.pwr.domains := rfl

@[simp] theorem Dev.headUnflushed_domains (d : Dev) : (Dev.headUnflushed d).pwr.domains = d.pwr.domains := by
  unfold Dev.headUnflushed
  split <;> simp

@[simp] theorem Dev.append_domains (r : Record) (d : Dev) : (Dev.append r d).pwr.domains = d.pwr.domains := by simp [Dev.append]

@[simp] theorem Dev.fold_domains (cls : ℕ) (d : Dev) : (Dev.fold cls d).pwr.domains = d.pwr.domains := rfl

@[simp] theorem Dev.log_domains (origin : ℕ) (tag : ℕ) (op : ℕ) (x3 : Draft) (d : Dev) : (Dev.log origin tag op x3 d).pwr.domains = d.pwr.domains := by
  unfold Dev.log
  split <;> simp

@[simp] theorem Dev.note_domains (origin : ℕ) (x1 : Draft) (d : Dev) : (Dev.note origin x1 d).pwr.domains = d.pwr.domains := by simp [Dev.note]

@[simp] theorem Dev.stateChange_domains (x : DevState) (d : Dev) : (Dev.stateChange x d).pwr.domains = d.pwr.domains := by
  unfold Dev.stateChange
  dsimp only
  split
  · rw [Dev.note_domains, Dev.event_domains]; rfl
  · rw [Dev.event_domains]; rfl

@[simp] theorem Dev.undoze_domains (d : Dev) : (Dev.undoze d).pwr.domains = d.pwr.domains := by
  unfold Dev.undoze
  split
  · rw [Dev.stateChange_domains]; rfl
  · rfl

@[simp] theorem Dev.alsoSignal_domains (n : ℕ) (d : Dev) : (Dev.alsoSignal n d).pwr.domains = d.pwr.domains := by simp [Dev.alsoSignal]

@[simp] theorem Dev.setNode_domains (a : ℕ) (n : Node) (d : Dev) : (Dev.setNode a n d).pwr.domains = d.pwr.domains := rfl

@[simp] theorem Dev.endGrant_domains (origin : ℕ) (tag : ℕ) (op : ℕ) (cause : ℕ) (a : ℕ) (d : Dev) : (Dev.endGrant origin tag op cause a d).pwr.domains = d.pwr.domains := by
  unfold Dev.endGrant
  dsimp only
  split <;> simp

@[simp] theorem Dev.endGrants_domains (origin : Nat) (tag : Nat) (op : Nat) (cause : Nat) (as : List Nat) (d : Dev) : (Dev.endGrants origin tag op cause as d).pwr.domains = d.pwr.domains := foldl_domains _ _ (by simp) d

@[simp] theorem Dev.grantFalls_domains (p : ℕ → Bool) (cause : ℕ) (d : Dev) : (Dev.grantFalls p cause d).pwr.domains = d.pwr.domains := rfl

@[simp] theorem Dev.setPhase_domains (tag : ℕ) (p : Phase) (d : Dev) : (Dev.setPhase tag p d).pwr.domains = d.pwr.domains := rfl

@[simp] theorem Dev.switchOff_domains (origin : ℕ) (tag : ℕ) (op : ℕ) (cause : ℕ) (d : Dev) : (Dev.switchOff origin tag op cause d).pwr.domains = d.pwr.domains := by simp [Dev.switchOff]

@[simp] theorem Dev.lockRelay_domains (origin : ℕ) (tag : ℕ) (op : ℕ) (cause : ℕ) (gcause : ℕ) (d : Dev) : (Dev.lockRelay origin tag op cause gcause d).pwr.domains = d.pwr.domains := by simp [Dev.lockRelay]

@[simp] theorem Dev.stopAir_domains (d : Dev) : (Dev.stopAir d).pwr.domains = d.pwr.domains := rfl

@[simp] theorem Dev.endExchange_domains (tag : ℕ) (d : Dev) : (Dev.endExchange tag d).pwr.domains = d.pwr.domains := by
  unfold Dev.endExchange
  split <;> simp

@[simp] theorem Dev.dropWork_domains (tag : ℕ) (d : Dev) : (Dev.dropWork tag d).pwr.domains = d.pwr.domains := by
  unfold Dev.dropWork
  dsimp only
  split <;> simp

@[simp] theorem Dev.enter_domains (c : Cmd) (status : ℕ) (ws : List Word) (d : Dev) : (Dev.enter c status ws d).pwr.domains = d.pwr.domains := rfl

@[simp] theorem Dev.releaseLogged_domains (c : Cmd) (st : ℕ) (esn : ℕ) (old : ℕ) (d : Dev) : (Dev.releaseLogged c st esn old d).pwr.domains = d.pwr.domains := by
  unfold Dev.releaseLogged
  split <;> simp

@[simp] theorem Dev.dropChild_domains (c : Cmd) (d : Dev) : (Dev.dropChild c d).pwr.domains = d.pwr.domains := by
  unfold Dev.dropChild
  split <;> simp

@[simp] theorem Dev.endBy_domains (st : Status) (c : Cmd) (d : Dev) : (Dev.endBy st c d).pwr.domains = d.pwr.domains := by simp [Dev.endBy]

@[simp] theorem Dev.endCmd_domains (st : Status) (c : Cmd) (d : Dev) : (Dev.endCmd st c d).pwr.domains = d.pwr.domains := Dev.aside_domains _ _ (by simp) d

@[simp] theorem Dev.finish_domains (tag : ℕ) (r : Result) (d : Dev) : (Dev.finish tag r d).pwr.domains = d.pwr.domains := rfl

@[simp] theorem Dev.fail_domains (tag : ℕ) (st : Status) (d : Dev) : (Dev.fail tag st d).pwr.domains = d.pwr.domains := rfl

@[simp] theorem Dev.putAerial_domains (n : ℕ) (a : Aerial) (d : Dev) : (Dev.putAerial n a d).pwr.domains = d.pwr.domains := rfl

@[simp] theorem Dev.clearFaults_domains (n : ℕ) (d : Dev) : (Dev.clearFaults n d).pwr.domains = d.pwr.domains := rfl

@[simp] theorem Dev.closeWindows_domains (tag : Option ℕ) (d : Dev) : (Dev.closeWindows tag d).pwr.domains = d.pwr.domains := rfl

@[simp] theorem Dev.pathLost_domains (d : Dev) : (Dev.pathLost d).pwr.domains = d.pwr.domains := by
  unfold Dev.pathLost
  repeat' split
  all_goals simp -implicitDefEqProofs [foldl_domains, apply_ite (fun e : Dev => e.pwr.domains), apply_ite Prod.fst, apply_ite Prod.snd]

@[simp] theorem Dev.draw_domains (n : ℕ) (d : Dev) : (Dev.draw n d).2.pwr.domains = d.pwr.domains := rfl

@[simp] theorem Dev.newReserve_domains (d : Dev) : (Dev.newReserve d).pwr.domains = d.pwr.domains := rfl

@[simp] theorem Dev.instantiate_domains (seed : Bytes) (d : Dev) : (Dev.instantiate seed d).pwr.domains = d.pwr.domains := by
  unfold Dev.instantiate
  dsimp only
  split <;> simp

@[simp] theorem Dev.entropyHold_domains (d : Dev) : (Dev.entropyHold d).pwr.domains = d.pwr.domains := by
  unfold Dev.entropyHold
  split <;> rfl

@[simp] theorem Dev.drbgStart_domains (d : Dev) : (Dev.drbgStart d).pwr.domains = d.pwr.domains := by
  unfold Dev.drbgStart
  dsimp only
  split <;> simp

@[simp] theorem Dev.setKey_domains (n : ℕ) (attr : ℕ) (material : Bytes) (d : Dev) : (Dev.setKey n attr material d).pwr.domains = d.pwr.domains := rfl

@[simp] theorem Dev.putKey_domains (owner : Option ℕ) (n : ℕ) (attr : ℕ) (material : Bytes) (d : Dev) : (Dev.putKey owner n attr material d).pwr.domains = d.pwr.domains := by
  unfold Dev.putKey
  split <;> simp

@[simp] theorem Dev.putToken_domains (owner : Option ℕ) (n : ℕ) (t : TokenSlot) (d : Dev) : (Dev.putToken owner n t d).pwr.domains = d.pwr.domains := rfl

@[simp] theorem Dev.clearVolatile_domains (d : Dev) : (Dev.clearVolatile d).pwr.domains = d.pwr.domains := rfl

@[simp] theorem Dev.expireSlots_domains (d : Dev) : (Dev.expireSlots d).pwr.domains = d.pwr.domains := by
  unfold Dev.expireSlots
  repeat' split
  all_goals simp -implicitDefEqProofs [foldl_domains, apply_ite (fun e : Dev => e.pwr.domains), apply_ite Prod.fst, apply_ite Prod.snd]

@[simp] theorem Dev.eraseRecords_domains (owner : Option ℕ) (d : Dev) : (Dev.eraseRecords owner d).pwr.domains = d.pwr.domains := by
  unfold Dev.eraseRecords
  repeat' split
  all_goals simp -implicitDefEqProofs [foldl_domains, apply_ite (fun e : Dev => e.pwr.domains), apply_ite Prod.fst, apply_ite Prod.snd]

@[simp] theorem Dev.rollForward_domains (write : Bool) (origin : ℕ) (tag : ℕ) (op : ℕ) (d : Dev) : (Dev.rollForward write origin tag op d).pwr.domains = d.pwr.domains := by
  unfold Dev.rollForward
  repeat' split
  all_goals simp -implicitDefEqProofs [foldl_domains, apply_ite (fun e : Dev => e.pwr.domains), apply_ite Prod.fst, apply_ite Prod.snd]

@[simp] theorem Dev.rollBack_domains (origin : ℕ) (tag : ℕ) (op : ℕ) (d : Dev) : (Dev.rollBack origin tag op d).pwr.domains = d.pwr.domains := by
  unfold Dev.rollBack
  split <;> simp

@[simp] theorem Dev.recoverUpdate_domains (d : Dev) : (Dev.recoverUpdate d).pwr.domains = d.pwr.domains := by
  unfold Dev.recoverUpdate
  dsimp only
  repeat' split
  all_goals simp

@[simp] theorem Dev.rootCheck_domains (d : Dev) : (Dev.rootCheck d).pwr.domains = d.pwr.domains := by
  unfold Dev.rootCheck
  dsimp only
  repeat' split
  all_goals simp

@[simp] theorem Dev.crucibleStart_domains (afterReset : Bool) (d : Dev) : (Dev.crucibleStart afterReset d).pwr.domains = d.pwr.domains := by
  unfold Dev.crucibleStart
  dsimp only
  repeat' split
  all_goals simp

@[simp] theorem Dev.onSeq_domains (q : ℕ) (f : Seqr → Seqr) (d : Dev) : (Dev.onSeq q f d).pwr.domains = d.pwr.domains := by
  unfold Dev.onSeq
  split <;> simp

@[simp] theorem Dev.kwSample_domains (d : Dev) : (Dev.kwSample d).pwr.domains = d.pwr.domains := rfl

@[simp] theorem Dev.kwStart_domains (d : Dev) : (Dev.kwStart d).pwr.domains = d.pwr.domains := by
  unfold Dev.kwStart
  dsimp only
  split <;> simp

@[simp] theorem Dev.kwStop_domains (d : Dev) : (Dev.kwStop d).pwr.domains = d.pwr.domains := rfl

@[simp] theorem Dev.setLoad_domains (l : AtlasLoad) (d : Dev) : (Dev.setLoad l d).pwr.domains = d.pwr.domains := rfl

@[simp] theorem Dev.applyCommitAtlas_domains (d : Dev) : (Dev.applyCommitAtlas d).pwr.domains = d.pwr.domains := rfl

@[simp] theorem Dev.reloadDue_domains (d : Dev) : (Dev.reloadDue d).pwr.domains = d.pwr.domains := rfl

@[simp] theorem Dev.zeroiseSeq_domains (q : Nat) (d : Dev) : (d.zeroiseSeq q).pwr.domains = d.pwr.domains := by
  have h := zeroiseSeq_frame q d
  unfold ScriptOnly at h
  rw [h]

@[simp] theorem Dev.putChan_domains (n : ℕ) (c : Channel) (d : Dev) : (Dev.putChan n c d).pwr.domains = d.pwr.domains := rfl

@[simp] theorem Dev.newSpan_domains (n : ℕ) (w : ℕ) (c : Channel) (d : Dev) : (Dev.newSpan n w c d).pwr.domains = d.pwr.domains := rfl

@[simp] theorem Dev.holdU_domains (n : ℕ) (d : Dev) : (Dev.holdU n d).pwr.domains = d.pwr.domains := rfl

@[simp] theorem Dev.armAt_domains (n : ℕ) (w : ℕ) (d : Dev) : (Dev.armAt n w d).pwr.domains = d.pwr.domains := rfl

@[simp] theorem Dev.driveBall_domains (n : ℕ) (d : Dev) : (Dev.driveBall n d).pwr.domains = d.pwr.domains := by
  unfold Dev.driveBall
  split <;> simp

@[simp] theorem Dev.setOut_domains (n : ℕ) (o : Bool) (d : Dev) : (Dev.setOut n o d).pwr.domains = d.pwr.domains := by simp [Dev.setOut]

@[simp] theorem Dev.tmrFreeze_domains (d : Dev) : (Dev.tmrFreeze d).pwr.domains = d.pwr.domains := by
  unfold Dev.tmrFreeze
  repeat' split
  all_goals simp -implicitDefEqProofs [foldl_domains, apply_ite (fun e : Dev => e.pwr.domains), apply_ite Prod.fst, apply_ite Prod.snd]

@[simp] theorem Dev.tmrOff_domains (d : Dev) : (Dev.tmrOff d).pwr.domains = d.pwr.domains := by
  unfold Dev.tmrOff
  repeat' split
  all_goals simp -implicitDefEqProofs [foldl_domains, apply_ite (fun e : Dev => e.pwr.domains), apply_ite Prod.fst, apply_ite Prod.snd]

@[simp] theorem Dev.tmrReset_domains (d : Dev) : (Dev.tmrReset d).pwr.domains = d.pwr.domains := by
  unfold Dev.tmrReset
  repeat' split
  all_goals simp -implicitDefEqProofs [foldl_domains, apply_ite (fun e : Dev => e.pwr.domains), apply_ite Prod.fst, apply_ite Prod.snd]

@[simp] theorem Dev.tmrUp_domains (d : Dev) : (Dev.tmrUp d).pwr.domains = d.pwr.domains := by
  unfold Dev.tmrUp
  split <;> simp

@[simp] theorem Dev.counterStart_domains (a : ℕ) (d : Dev) : (Dev.counterStart a d).pwr.domains = d.pwr.domains := by
  unfold Dev.counterStart
  dsimp only
  repeat' split
  all_goals simp

@[simp] theorem Dev.restoreRecord_domains (r : OldRecord) (d : Dev) : (Dev.restoreRecord r d).pwr.domains = d.pwr.domains := by
  unfold Dev.restoreRecord
  split <;> simp

@[simp] theorem Dev.keepRecord_domains (c : Cmd) (d : Dev) : (Dev.keepRecord c d).pwr.domains = d.pwr.domains := by
  unfold Dev.keepRecord
  dsimp only
  repeat' split
  all_goals simp

@[simp] theorem Dev.nvStart_domains (d : Dev) : (Dev.nvStart d).pwr.domains = d.pwr.domains := by
  unfold Dev.nvStart
  repeat' split
  all_goals simp -implicitDefEqProofs [foldl_domains, apply_ite (fun e : Dev => e.pwr.domains), apply_ite Prod.fst, apply_ite Prod.snd]

@[simp] theorem Dev.nvDrop_domains (p : Option Nat → Bool) (d : Dev) : (Dev.nvDrop p d).pwr.domains = d.pwr.domains := by
  have h := nvDrop_frame p d
  unfold RecordsOnly at h
  rw [h]

@[simp] theorem Dev.durable_domains (d : Dev) : (Dev.durable d).pwr.domains = d.pwr.domains := rfl

@[simp] theorem Dev.checkpoint_domains (d : Dev) : (Dev.checkpoint d).pwr.domains = d.pwr.domains := rfl

@[simp] theorem Dev.mapRead_domains (d : Dev) : (Dev.mapRead d).pwr.domains = d.pwr.domains := rfl

@[simp] theorem Dev.mediaPark_domains (d : Dev) : (Dev.mediaPark d).pwr.domains = d.pwr.domains := by
  unfold Dev.mediaPark
  dsimp only
  split <;> simp

@[simp] theorem Dev.mediaWake_domains (d : Dev) : (Dev.mediaWake d).pwr.domains = d.pwr.domains := by
  unfold Dev.mediaWake
  split <;> simp

@[simp] theorem Dev.restoreDue_domains (q : ℕ) (d : Dev) : (Dev.restoreDue q d).pwr.domains = d.pwr.domains := by simp [Dev.restoreDue]

@[simp] theorem Dev.breakOff_domains (cause : ℕ) (c : Cmd) (d : Dev) : (Dev.breakOff cause c d).pwr.domains = d.pwr.domains := by
  unfold Dev.breakOff
  split <;> simp

@[simp] theorem Dev.killCmd_domains (st : Status) (cause : ℕ) (c : Cmd) (d : Dev) : (Dev.killCmd st cause c d).pwr.domains = d.pwr.domains := by
  unfold Dev.killCmd
  split <;> simp

@[simp] theorem Dev.killCmds_domains (st : Status) (cause : ℕ) (p : Cmd → Bool) (d : Dev) : (Dev.killCmds st cause p d).pwr.domains = d.pwr.domains := by
  unfold Dev.killCmds
  repeat' split
  all_goals simp -implicitDefEqProofs [foldl_domains, apply_ite (fun e : Dev => e.pwr.domains), apply_ite Prod.fst, apply_ite Prod.snd]

@[simp] theorem Dev.endDebug_domains (d : Dev) : (Dev.endDebug d).pwr.domains = d.pwr.domains := by
  unfold Dev.endDebug
  dsimp only
  repeat' split
  all_goals simp

@[simp] theorem Dev.domainDown_domains (n : ℕ) (d : Dev) : (Dev.domainDown n d).pwr.domains = d.pwr.domains := by
  unfold Dev.domainDown
  dsimp only
  repeat' split
  all_goals simp

@[simp] theorem Dev.domainUp_domains (lost : Bool) (n : ℕ) (d : Dev) : (Dev.domainUp lost n d).pwr.domains = d.pwr.domains := by
  unfold Dev.domainUp
  dsimp only
  repeat' split
  all_goals simp

@[simp] theorem Dev.noteRequest_domains (n : ℕ) (old : ℕ) (new : ℕ) (cause : ℕ) (d : Dev) : (Dev.noteRequest n old new cause d).pwr.domains = d.pwr.domains := by simp [Dev.noteRequest]

@[simp] theorem Dev.freeNat_rel (d : Dev) : (Dev.freeNat d).2.rel = d.rel := rfl

@[simp] theorem Dev.freeBool_rel (d : Dev) : (Dev.freeBool d).2.rel = d.rel := rfl

theorem foldl_rel {α : Type} (f : Dev → α → Dev) (xs : List α) (h : ∀ d x, (f d x).rel = d.rel) (d : Dev) : (xs.foldl f d).rel = d.rel := by
  induction xs generalizing d with
  | nil => rfl
  | cons x xs ih => rw [List.foldl_cons, ih, h]

@[simp] theorem Dev.aside_rel (port : Nat) (f : Dev → Dev) (h : ∀ e, (f e).rel = e.rel) (d : Dev) : (d.aside port f).rel = d.rel := by
  unfold Dev.aside
  dsimp only
  rw [h]
  split <;> rfl

@[simp] theorem Dev.stateChange_rel (x0 : DevState) (d : Dev) : (Dev.stateChange x0 d).rel = d.rel := by
  unfold Dev.stateChange
  dsimp only
  split <;> simp

@[simp] theorem Dev.undoze_rel (d : Dev) : (Dev.undoze d).rel = d.rel := by
  unfold Dev.undoze
  split <;> simp

@[simp] theorem Dev.alsoSignal_rel (n : ℕ) (d : Dev) : (Dev.alsoSignal n d).rel = d.rel := by simp [Dev.alsoSignal]

@[simp] theorem Dev.clearFaults_rel (n : ℕ) (d : Dev) : (Dev.clearFaults n d).rel = d.rel := rfl

@[simp] theorem Dev.draw_rel (n : ℕ) (d : Dev) : (Dev.draw n d).2.rel = d.rel := rfl

@[simp] theorem Dev.newReserve_rel (d : Dev) : (Dev.newReserve d).rel = d.rel := rfl

@[simp] theorem Dev.instantiate_rel (seed : Bytes) (d : Dev) : (Dev.instantiate seed d).rel = d.rel := by
  unfold Dev.instantiate
  dsimp only
  split <;> simp

@[simp] theorem Dev.entropyHold_rel (d : Dev) : (Dev.entropyHold d).rel = d.rel := by
  unfold Dev.entropyHold
  split <;> simp

@[simp] theorem Dev.drbgStart_rel (d : Dev) : (Dev.drbgStart d).rel = d.rel := by
  unfold Dev.drbgStart
  dsimp only
  split <;> simp

@[simp] theorem Dev.expireSlots_rel (d : Dev) : (Dev.expireSlots d).rel = d.rel := by
  unfold Dev.expireSlots
  repeat' split
  all_goals simp -implicitDefEqProofs [foldl_rel, apply_ite (fun e : Dev => e.rel), apply_ite Prod.fst, apply_ite Prod.snd]

@[simp] theorem Dev.eraseRecords_rel (owner : Option ℕ) (d : Dev) : (Dev.eraseRecords owner d).rel = d.rel := by
  unfold Dev.eraseRecords
  repeat' split
  all_goals simp -implicitDefEqProofs [foldl_rel, apply_ite (fun e : Dev => e.rel), apply_ite Prod.fst, apply_ite Prod.snd]

@[simp] theorem Dev.rollForward_rel (write : Bool) (origin : ℕ) (tag : ℕ) (op : ℕ) (d : Dev) : (Dev.rollForward write origin tag op d).rel = d.rel := by
  unfold Dev.rollForward
  repeat' split
  all_goals simp -implicitDefEqProofs [foldl_rel, apply_ite (fun e : Dev => e.rel), apply_ite Prod.fst, apply_ite Prod.snd]

@[simp] theorem Dev.rollBack_rel (origin : ℕ) (tag : ℕ) (op : ℕ) (d : Dev) : (Dev.rollBack origin tag op d).rel = d.rel := by
  unfold Dev.rollBack
  split <;> simp

@[simp] theorem Dev.recoverUpdate_rel (d : Dev) : (Dev.recoverUpdate d).rel = d.rel := by
  unfold Dev.recoverUpdate
  dsimp only
  repeat' split
  all_goals simp

@[simp] theorem Dev.rootCheck_rel (d : Dev) : (Dev.rootCheck d).rel = d.rel := by
  unfold Dev.rootCheck
  dsimp only
  repeat' split
  all_goals simp

@[simp] theorem Dev.crucibleStart_rel (afterReset : Bool) (d : Dev) : (Dev.crucibleStart afterReset d).rel = d.rel := by
  unfold Dev.crucibleStart
  dsimp only
  repeat' split
  all_goals simp

@[simp] theorem Dev.kwSample_rel (d : Dev) : (Dev.kwSample d).rel = d.rel := rfl

@[simp] theorem Dev.kwStart_rel (d : Dev) : (Dev.kwStart d).rel = d.rel := by
  unfold Dev.kwStart
  dsimp only
  split <;> simp

@[simp] theorem Dev.reloadDue_rel (d : Dev) : (Dev.reloadDue d).rel = d.rel := rfl

@[simp] theorem Dev.newSpan_rel (n : ℕ) (w : ℕ) (c : Channel) (d : Dev) : (Dev.newSpan n w c d).rel = d.rel := rfl

@[simp] theorem Dev.armAt_rel (n : ℕ) (w : ℕ) (d : Dev) : (Dev.armAt n w d).rel = d.rel := rfl

@[simp] theorem Dev.driveBall_rel (n : ℕ) (d : Dev) : (Dev.driveBall n d).rel = d.rel := by
  unfold Dev.driveBall
  split <;> simp

@[simp] theorem Dev.setOut_rel (n : ℕ) (o : Bool) (d : Dev) : (Dev.setOut n o d).rel = d.rel := by simp [Dev.setOut]

@[simp] theorem Dev.tmrReset_rel (d : Dev) : (Dev.tmrReset d).rel = d.rel := by
  unfold Dev.tmrReset
  repeat' split
  all_goals simp -implicitDefEqProofs [foldl_rel, apply_ite (fun e : Dev => e.rel), apply_ite Prod.fst, apply_ite Prod.snd]

@[simp] theorem Dev.tmrUp_rel (d : Dev) : (Dev.tmrUp d).rel = d.rel := by
  unfold Dev.tmrUp
  split <;> simp

@[simp] theorem Dev.counterStart_rel (a : ℕ) (d : Dev) : (Dev.counterStart a d).rel = d.rel := by
  unfold Dev.counterStart
  dsimp only
  repeat' split
  all_goals simp

@[simp] theorem Dev.nvStart_rel (d : Dev) : (Dev.nvStart d).rel = d.rel := by
  unfold Dev.nvStart
  repeat' split
  all_goals simp -implicitDefEqProofs [foldl_rel, apply_ite (fun e : Dev => e.rel), apply_ite Prod.fst, apply_ite Prod.snd]

@[simp] theorem Dev.mapRead_rel (d : Dev) : (Dev.mapRead d).rel = d.rel := rfl

@[simp] theorem Dev.mediaWake_rel (d : Dev) : (Dev.mediaWake d).rel = d.rel := by
  unfold Dev.mediaWake
  split <;> simp

@[simp] theorem Dev.restoreDue_rel (q : ℕ) (d : Dev) : (Dev.restoreDue q d).rel = d.rel := by simp [Dev.restoreDue]

@[simp] theorem Dev.domainUp_rel (lost : Bool) (n : ℕ) (d : Dev) : (Dev.domainUp lost n d).rel = d.rel := by
  unfold Dev.domainUp
  dsimp only
  repeat' split
  all_goals simp

end Sys2Proof.Machine
end

section
/-!
PROOFS. Frames over any list of parts: what `EventsOnly` says of a row that touches some units besides.
-/

namespace Sys2Proof.Machine

/-- `s` with the parts of a list as `t` has them. -/
def Dev.taking (us : List Part) (s t : Dev) : Dev :=
  {
    ident := if us.contains .ident then t.ident else s.ident
    clock := if us.contains .clock then t.clock else s.clock
    pwr := if us.contains .pwr then t.pwr else s.pwr
    host := if us.contains .host then t.host else s.host
    start := if us.contains .start then t.start else s.start
    cmds := if us.contains .cmds then t.cmds else s.cmds
    store := if us.contains .store then t.store else s.store
    waiting := if us.contains .waiting then t.waiting else s.waiting
    sets := if us.contains .sets then t.sets else s.sets
    setLow := if us.contains .setLow then t.setLow else s.setLow
    jrnl := if us.contains .jrnl then t.jrnl else s.jrnl
    evc := if us.contains .evc then t.evc else s.evc
    tmr := if us.contains .tmr then t.tmr else s.tmr
    lf := if us.contains .lf then t.lf else s.lf
    uhf := if us.contains .uhf then t.uhf else s.uhf
    uwb := if us.contains .uwb then t.uwb else s.uwb
    atlas := if us.contains .atlas then t.atlas else s.atlas
    rel := if us.contains .rel then t.rel else s.rel
    cru := if us.contains .cru then t.cru else s.cru
    anvil := if us.contains .anvil then t.anvil else s.anvil
    tok := if us.contains .tok then t.tok else s.tok
    ham := if us.contains .ham then t.ham else s.ham
    kw := if us.contains .kw then t.kw else s.kw
    nv := if us.contains .nv then t.nv else s.nv
    med := if us.contains .med then t.med else s.med
    bg := if us.contains .bg then t.bg else s.bg
    free := if us.contains .free then t.free else s.free
  }

theorem taking_get (us : List Part) (s t : Dev) (pt : Part) :
    (s.taking us t).get pt = if us.contains pt then t.get pt else s.get pt := by
  cases pt <;> rfl

/-- A row touches the parts that every event may touch, and those of a list. -/
theorem eventsOnly_taking (us : List Part) {s t : Dev} (h : ∀ pt, pt ∉ us ++ eventParts → t.get pt = s.get pt) :
    EventsOnly (s.taking us t) t :=
  eventsOnly_of_get fun pt hpt => by
    rw [taking_get]
    split
    · rfl
    · next hu => exact h pt fun hm => (List.mem_append.mp hm).elim (fun hx => hu (by simpa using hx)) hpt

end Sys2Proof.Machine
end

section
/-!
PROOFS. The host's register accesses (chapter 4): what an access, its event and its journal record leave while the host port is up, and
the ports, windows and captures that no record goes with.
-/

namespace Sys2Proof.Machine

/-! ### An access while the host port is up -/

theorem access_hostUp {f : Dev → Dev} {s : Dev} (h : s.hostUp = true) : Dev.access f s = f s.accessed := by
  obtain ⟨hdev, hwait, hroot, -, -⟩ := hostUp_iff.mp h
  have hbus : s.busUp = true := by simp [Dev.busUp, hdev, hwait]
  have hz : s.undoze = s := undoze_awake (by rw [hdev]; decide)
  have hpd : (s.pwr.dev == .park || s.pwr.dev == .deep) = false := by rw [hdev]; rfl
  rw [Dev.access, hbus]
  simp only [Bool.not_true, Bool.false_eq_true, if_false, hpd, hz, now_running hroot]
  rfl

/-- A row that is an access answers what the access leaves, and at its end the entry to journal hold where the buffer is full. -/
theorem answers_access {i : Instr} {s : State} {f : Dev → Dev} {P : Dev → Prop} (he : exec i s = run (Dev.access f) s)
    (h : s.hostUp = true) : Answers i s P ↔ P (Dev.settle s.toDev (f s.accessed)) := by
  rw [answers_iff he, access_hostUp h]

/-- An access that makes no record answers what it leaves. -/
theorem answers_quiet {i : Instr} {s : State} {f : Dev → Dev} {P : Dev → Prop} (he : exec i s = run (Dev.access f) s) (h : s.hostUp = true)
    (hn : (f s.accessed).jrnl.nextNumber = s.jrnl.nextNumber) : Answers i s P ↔ P (f s.accessed) := by
  rw [answers_access he h, settle_same hn]

/-- An event on a port while ROOT runs and the device is in RUN touches the clock alone. -/
theorem presentOn_run {d : Dev} (port : Nat) (hd : d.pwr.dev = .run) (hr : d.clock.rootOn = true) :
    d.presentOn port = { d with clock := d.clock.accept d.wantDepth port false } := by
  rw [Dev.presentOn, undoze_awake (not_doze_of_run hd), acceptOn_running _ _ hr]

/-- The device in the event that a host access presents. -/
def Dev.hostEvent (s : Dev) : Dev := { s.accessed with clock := s.clock.accept s.wantDepth 13 false }

theorem present_accessed {s : Dev} (h : s.hostUp = true) : s.accessed.present = s.hostEvent :=
  presentOn_run (d := s.accessed) 13 (run_of_hostUp h) (rootOn_of_hostUp h)

/-! ### What moves in the clock -/

/-- The clock without time, the order of events and the arbiter's ports. -/
def Clock.rest (c : Clock) : Clock :=
  { c with tb := 0, rho := 0, pos := 0, depth := 0, fifo := [], esn := 0, evEsn := 0, evTb := 0, evPlace := 0 }

section
variable (want port : Nat) (close : Bool) (c : Clock)

theorem tick_rest : (c.tick want).rest = c.rest := by
  unfold Clock.tick
  dsimp only
  split <;> rfl

theorem tick_tb_lt : c.tb < (c.tick want).tb := by
  rw [tick_tb]
  omega

theorem room_rest (n : Nat) : (Clock.room want port n c).rest = c.rest := by
  induction n generalizing c with
  | zero => rfl
  | succ n ih =>
    rw [Clock.room]
    split
    · rw [ih, tick_rest]
    · rfl

theorem room_tb_le (n : Nat) : c.tb ≤ (Clock.room want port n c).tb := by
  induction n generalizing c with
  | zero => exact le_rfl
  | succ n ih =>
    rw [Clock.room]
    split
    · exact (tick_tb_lt want c).le.trans (ih _)
    · exact le_rfl

theorem turn_rest : (c.turn want port close).rest = c.rest := by
  rw [Clock.turn, room_rest]
  split
  · exact tick_rest ..
  · rfl

theorem turn_tb_le : c.tb ≤ (c.turn want port close).tb := by
  rw [Clock.turn]
  refine le_trans ?_ (room_tb_le ..)
  split
  · exact (tick_tb_lt ..).le
  · exact le_rfl

theorem accept_rest : (c.accept want port close).rest = c.rest := turn_rest want port close c
theorem accept_tb_le : c.tb ≤ (c.accept want port close).tb := turn_tb_le want port close c
theorem accept_unc : (c.accept want port close).unc = c.unc := by
  have h := congrArg Clock.unc (accept_rest want port close c)
  exact h
theorem follow_rest : (c.follow want port).rest = c.rest := room_rest want port c 13
theorem follow_tb_le : c.tb ≤ (c.follow want port).tb := room_tb_le want port c 13

@[simp] theorem advance_unc (t : Nat) : (c.advance want t).unc = c.unc := by
  unfold Clock.advance Clock.runTo Clock.forward Clock.atEdge
  dsimp only
  repeat' split
  all_goals rfl

/-- Under a running ROOT an advance reaches its stamp and never goes back, wherever in its period the clock stands (R51). -/
theorem advance_tb {c : Clock} (t : Nat) (hr : c.rootOn = true) : t ≤ (c.advance want t).tb ∧ c.tb ≤ (c.advance want t).tb := by
  rw [Clock.advance, if_pos hr, Clock.runTo]
  split
  · next h => exact ⟨h, le_rfl⟩
  · obtain ⟨htb, -, -⟩ := forward_spec want (512 * t) c
    rw [Nat.mul_div_cancel_left _ (by decide)] at htb
    exact ⟨htb, by omega⟩

end

/-! ### A journal record with room in the buffer (R137, R140) -/

section
variable {d : Dev} (h : d.jrnl.buf.length < 1024) (origin : Nat) (x : Draft)
include h

theorem note_append : d.note origin x = d.append (d.recordOf origin 0xFFFF 0xFF x) := if_pos h

theorem append_buf (r : Record) : ∃ tag, (d.append r).jrnl.buf = d.jrnl.buf ++ [{ r with number := d.jrnl.nextNumber, tag := tag }] := by
  have hb : d.headUnflushed.jrnl.buf = d.jrnl.buf ∧ d.headUnflushed.jrnl.nextNumber = d.jrnl.nextNumber := by
    unfold Dev.headUnflushed
    split <;> exact ⟨rfl, rfl⟩
  obtain ⟨hbuf, hnum⟩ := hb
  rw [← hbuf, ← hnum]
  exact ⟨(if d.headUnflushed.start.boot.isSome then zeroTag else d.headUnflushed.chainTag r d.headUnflushed.jrnl.lastTag), rfl⟩

theorem note_lastRecord : (d.note origin x).lastRecord = some (x.cls, x.subject, x.old, x.new, x.cause) := by
  obtain ⟨tag, hb⟩ := append_buf h (d.recordOf origin 0xFFFF 0xFF x)
  rw [note_append h, Dev.lastRecord, hb, List.getLast?_concat]
  rfl

theorem note_buf_length : (d.note origin x).jrnl.buf.length = d.jrnl.buf.length + 1 := by
  obtain ⟨tag, hb⟩ := append_buf h (d.recordOf origin 0xFFFF 0xFF x)
  rw [note_append h, hb, List.length_append]
  rfl

end

/-- A row whose records leave the general space unfilled answers what its meaning leaves. -/
theorem answers_noted {i : Instr} {s : State} {f : Dev → Dev} {P : Dev → Prop} (he : exec i s = run (Dev.access f) s) (h : s.hostUp = true)
    (hb : (f s.accessed).jrnl.buf.length < 960) : Answers i s P ↔ P (f s.accessed) := by
  rw [answers_access he h, settle_room (.inr hb)]

/-! ### Journalled register writes (R80) -/

section
variable {s : Dev} (h : s.hostUp = true)
include h

theorem hostEvent_rootOn : s.hostEvent.clock.rootOn = true := (accept_rootOn ..).trans (rootOn_of_hostUp h)

theorem hostEvent_buf : s.hostEvent.jrnl.buf.length < 900 := (hostUp_iff.mp h).2.2.2.2

theorem regWrite_accepted (offset w : Nat) (f : Dev → Dev) : Dev.regWrite offset w false false f s.accessed =
    f (s.hostEvent.note oHost (draft 0x04 0xFF offset (s.accessed.readReg offset).toNat w 0)) := by
  have hold : ¬ s.hostEvent.jrnl.hold = true := by
    show ¬ s.jrnl.hold = true
    simp [(hostUp_iff.mp h).2.2.2.1]
  rw [Dev.regWrite, present_accessed h]
  exact (if_neg (by decide)).trans ((if_neg hold).trans (if_neg (by decide)))

theorem regWrite_refused (offset w : Nat) (f : Dev → Dev) : Dev.regWrite offset w false true f s.accessed =
    s.hostEvent.note oHost (draft 0x04 0xFF offset (s.accessed.readReg offset).toNat w 2) := by
  have hold : ¬ s.hostEvent.jrnl.hold = true := by
    show ¬ s.jrnl.hold = true
    simp [(hostUp_iff.mp h).2.2.2.1]
  rw [Dev.regWrite, present_accessed h]
  exact (if_neg (by decide)).trans ((if_neg hold).trans (if_pos rfl))

theorem hostEvent_note_buf (x : Draft) : (s.hostEvent.note oHost x).jrnl.buf.length < 960 := by
  have hb := hostEvent_buf h
  rw [note_buf_length (by omega)]
  omega

theorem hostEvent_note_lastRecord (x : Draft) :
    (s.hostEvent.note oHost x).lastRecord = some (x.cls, x.subject, x.old, x.new, x.cause) := by
  have hb := hostEvent_buf h
  exact note_lastRecord (by omega) oHost x

end

theorem hostEvent_get {pt : Part} {s : Dev} (hpt : pt ∉ [.clock, .pwr]) : s.hostEvent.get pt = s.get pt := by
  simp only [List.mem_cons, List.not_mem_nil, or_false, not_or] at hpt
  exact (Dev.get_with_clock _ _ hpt.1).trans (Dev.get_with_pwr _ _ hpt.2)

theorem hostEvent_note_get {pt : Part} {s : Dev} (x : Draft) (hpt : pt ∉ [.clock, .pwr, .jrnl, .nv]) :
    (s.hostEvent.note oHost x).get pt = s.get pt := by
  simp only [List.mem_cons, List.not_mem_nil, or_false, not_or] at hpt
  rw [Dev.note_get _ _ _ (by simp [hpt]), hostEvent_get (by simp [hpt])]

/-! ### The submission and completion ports (R90-R94) -/

@[simp] theorem word_toNat (w : Word) : word w.toNat = w := by simp [word]

@[simp] theorem toNat_mod (w : Word) : w.toNat % 65536 = w.toNat := Nat.mod_eq_of_lt w.isLt

theorem sqPortWrite_answers {w : Word} {s : State} (h : s.hostUp = true) (hl : s.host.staged.length < 1040) :
    Answers (.sqPortWrite w) s fun t => t = { s.accessed with host := { s.host with staged := s.host.staged ++ [w] } } := by
  have hf : Dev.writeReg 0x16 w.toNat s.accessed = { s.accessed with host := { s.host with staged := s.host.staged ++ [w] } } := by
    rw [Dev.writeReg, toNat_mod]
    refine (if_pos hl).trans ?_
    rw [word_toNat]
    rfl
  exact (answers_quiet (f := Dev.writeReg 0x16 w.toNat) rfl h (by rw [hf]; rfl)).mpr hf

theorem stagingDiscard_answers {s : State} (h : s.hostUp = true) : Answers .stagingDiscard s fun t =>
    t = { s.accessed with host := { s.host with staged := [], refused := false } } :=
  (answers_quiet (f := Dev.writeReg 0x1A 2) rfl h rfl).mpr rfl

theorem rewind_answers {s : State} (h : s.hostUp = true) : Answers .rewind s fun t =>
    t = { s.accessed with host := { s.host with cqRead := 0 } } :=
  (answers_quiet (f := Dev.writeReg 0x20 2) rfl h rfl).mpr rfl

/-- While HRST_N is high a read is an access. -/
theorem reads_access {moved : Bool} {f : Dev → Dev} {s : Dev} (h : s.hostUp = true) :
    Dev.reads moved f s = (if moved then fun d => { d with host := { d.host with data := 0xFFFF } } else f) s.accessed := by
  rw [Dev.reads, (hostUp_iff.mp h).2.1]
  exact access_hostUp h

theorem cqPortRead_moved_answers {s : State} (h : s.hostUp = true) : Answers (.cqPortRead true) s fun t =>
    t = { s.accessed with host := { s.host with data := 0xFFFF } } := by
  refine (answers_iff (f := cqPortRead true) rfl).mpr ?_
  rw [cqPortRead, reads_access h]
  exact settle_same rfl

theorem length_words (e : Entry) : e.words.length = 8 + e.payload.length := by
  simp [Entry.words, leWords]
  omega

theorem cqPortRead_answers {s : State} (h : s.hostUp = true) : Answers (.cqPortRead false) s fun t => t.host.data = s.cqWord ∧
    t = { s.accessed with host := { s.host with data := s.cqWord, cqRead := t.host.cqRead } } ∧
    t.host.cqRead = match s.store with
      | [] => s.host.cqRead
      | e :: _ => if s.host.cqRead < 8 + e.payload.length then s.host.cqRead + 1 else s.host.cqRead := by
  refine (answers_iff (f := cqPortRead false) rfl).mpr ?_
  have hf : cqPortRead false s.toDev = s.accessed.readCqPort := reads_access h
  rw [hf, settle_same (s := s.toDev) (t := s.accessed.readCqPort) rfl]
  refine ⟨rfl, rfl, ?_⟩
  show (match s.store with
    | e :: _ => if s.host.cqRead < e.words.length then s.host.cqRead + 1 else s.host.cqRead
    | [] => s.host.cqRead) = _
  cases s.store with
  | nil => rfl
  | cons e es => simp only [length_words]

theorem pop_answers {s : State} (h : s.hostUp = true) : Answers .pop s fun t => t.store = s.store.drop 1 ∧
    t.host = { s.host with cqRead := 0 } ∧ t.clock.esn = s.clock.esn + 1 ∧
    t = { s.accessed with store := t.store, host := t.host, clock := t.clock } := by
  have hf : Dev.writeReg 0x20 1 s.accessed = { s.accessed with
      store := s.store.drop 1, host := { s.host with cqRead := 0 }, clock := s.clock.accept s.wantDepth 13 false } := by
    show ({ s.accessed.present with store := s.accessed.present.store.drop 1, host := { s.accessed.present.host with cqRead := 0 } } : Dev) = _
    rw [present_accessed h]
    rfl
  refine (answers_quiet (f := Dev.writeReg 0x20 1) rfl h (by rw [hf]; rfl)).mpr ?_
  rw [hf]
  exact ⟨rfl, rfl, accept_esn .., rfl⟩

/-! ### The doorbell (R90, R91) -/

/-- Where the doorbell's event stands: not before the buffer rung before has passed on (R91). -/
def Dev.rung (s : Dev) : Dev := (s.accessed.wait s.host.passedAt).present

theorem rung_frame {s : Dev} (h : s.hostUp = true) : s.rung = { s.accessed with clock := s.rung.clock } := by
  rw [Dev.rung, Dev.present, presentOn_run (d := s.accessed.wait s.host.passedAt) 13 (run_of_hostUp (d := s) h) ((wait_rootOn ..).trans (rootOn_of_hostUp (d := s) h))]
  rfl

theorem rung_clock {s : Dev} (h : s.hostUp = true) : s.rung.clock =
    (s.clock.advance s.wantDepth s.host.passedAt).accept s.wantDepth 13 false := by
  rw [Dev.rung, Dev.present, presentOn_run (d := s.accessed.wait s.host.passedAt) 13 (run_of_hostUp (d := s) h) ((wait_rootOn ..).trans (rootOn_of_hostUp (d := s) h))]
  rfl

/-- The doorbell's event is accepted with the next ESN, not before the present stamp and not before the staging buffer is free (R91, R52). -/
theorem rung_event {s : Dev} (h : s.hostUp = true) : s.rung.clock.evEsn = s.clock.esn ∧ s.rung.clock.evTb = s.rung.clock.tb ∧
    s.rung.clock.unc = s.clock.unc ∧ s.rung.clock.rootOn = true ∧ s.host.passedAt ≤ s.rung.clock.tb ∧ s.clock.tb ≤ s.rung.clock.tb := by
  have hr := rootOn_of_hostUp h
  obtain ⟨hreach, hback⟩ := advance_tb s.wantDepth s.host.passedAt hr
  have hmono := accept_tb_le s.wantDepth 13 false (s.clock.advance s.wantDepth s.host.passedAt)
  rw [rung_clock h]
  refine ⟨(accept_evEsn ..).trans (advance_esn ..), accept_evTb .., ?_, (accept_rootOn ..).trans ((advance_rootOn ..).trans hr),
    hreach.trans hmono, hback.trans hmono⟩
  exact (accept_unc ..).trans (advance_unc ..)

theorem ring_eq (s : Dev) : s.accessed.ring = if s.rung.sqFree = 0 then { s.rung with host := { s.rung.host with refused := true } }
    else
      let c := s.rung.stagedCmd .queued
      let reused := s.rung.cmds.any (fun b => b.tag == c.tag) || s.rung.store.any (fun e => e.tag == c.tag)
      let closing := match s.rung.rel.relay with
        | .closing t => t == c.tag
        | _ => false
      let hit := s.rung.cmds.filter (fun b => b.tag == c.tag)
      let d := if reused && !closing then s.rung.setPhase c.tag .lost else s.rung
      let d := if s.rung.stagedBad || reused then (c :: hit).foldl (fun d b => d.poisonBit (b.uses.headD 14)) d else d
      let c := { c with phase := if s.rung.stagedBad || reused then .lost else .queued }
      let d := { d with cmds := d.cmds ++ [c], host := { d.host with staged := [], passedAt := s.rung.now + s.rung.host.staged.length, refused := false } }
      let d := d.cancelSleep
      if !s.rung.stagedBad && !reused && c.stillborn d then d.endCmd .deadline c else d := rfl

theorem doorbell_full_answers {s : State} (h : s.hostUp = true) (hf : s.sqFree = 0) : Answers .doorbell s fun t =>
    t.host = { s.host with refused := true } ∧ t.cmds = s.cmds ∧ s.host.passedAt ≤ t.clock.tb ∧
    t = { s.accessed with host := t.host, clock := t.clock } := by
  have hframe := rung_frame h
  have hfree : s.rung.sqFree = 0 := by rw [hframe]; exact hf
  have hrow : Dev.writeReg 0x1A 1 s.accessed = { s.accessed with clock := s.rung.clock, host := { s.host with refused := true } } := by
    refine (ring_eq s.toDev).trans ((if_pos hfree).trans ?_)
    rw [hframe]
    rfl
  refine (answers_quiet (f := Dev.writeReg 0x1A 1) rfl h (by rw [hrow]; rfl)).mpr ?_
  rw [hrow]
  exact ⟨rfl, rfl, (rung_event h).2.2.2.2.1, rfl⟩

/-- The command that the doorbell queues. -/
def Dev.rungCmd (s : Dev) : Cmd := s.rung.stagedCmd .queued

theorem doorbell_answers {s : State} (h : s.hostUp = true) (hf : s.sqFree ≠ 0) (hbad : s.stagedBad = false)
    (hdl : bit 3 (s.host.staged.getD 0 0).toNat = false) (hsleep : s.pwr.sleep = none)
    (hcmds : ∀ c ∈ s.cmds, c.tag ≠ (s.host.staged.getD 1 0).toNat % 512)
    (hstore : ∀ e ∈ s.store, e.tag ≠ (s.host.staged.getD 1 0).toNat % 512) : Answers .doorbell s fun t =>
      t.cmds = s.cmds ++ [⟨(s.host.staged.getD 1 0).toNat % 512, fit 16 0 (s.host.staged.take 16), s.host.staged.drop 16, t.clock.evTb,
        s.clock.esn.toNat, s.clock.unc, .queued, 0, 0, none, [], false, !s.host.ready⟩] ∧
      s.host.passedAt ≤ t.clock.evTb ∧ s.clock.tb ≤ t.clock.evTb ∧
      t.host = { s.host with staged := [], passedAt := t.clock.evTb + s.host.staged.length, refused := false } ∧
      t = { s.accessed with cmds := t.cmds, host := t.host, clock := t.clock } := by
  have hframe := rung_frame h
  obtain ⟨hesn, htb, hunc, hroot, hpass, hback⟩ := rung_event h
  have hfree : s.rung.sqFree ≠ 0 := by rw [hframe]; exact hf
  have hb : s.rung.stagedBad = false := by rw [hframe]; exact hbad
  have htag : s.rungCmd.tag = (s.host.staged.getD 1 0).toNat % 512 := by rw [Dev.rungCmd, hframe]; rfl
  have hre : (s.rung.cmds.any (fun b => b.tag == s.rungCmd.tag) || s.rung.store.any (fun e => e.tag == s.rungCmd.tag)) = false := by
    rw [htag, hframe]
    simpa using ⟨hcmds, hstore⟩
  have hnow : s.rung.now = s.rung.clock.evTb := (now_running hroot).trans htb.symm
  have hcmd : s.rungCmd = ⟨(s.host.staged.getD 1 0).toNat % 512, fit 16 0 (s.host.staged.take 16), s.host.staged.drop 16,
      s.rung.clock.evTb, s.clock.esn.toNat, s.clock.unc, .queued, 0, 0, none, [], false, !s.host.ready⟩ := by
    rw [← hesn, ← hunc, Dev.rungCmd, hframe]
    rfl
  have hwin : s.rungCmd.window = none := by
    have hdv : s.rungCmd.dlValid = false := by
      rw [hcmd, Cmd.dlValid, Cmd.w, getD_fit _ _ (by decide)]
      simpa using hdl
    rw [Cmd.window, hdv]
    rfl
  have hrow : Dev.writeReg 0x1A 1 s.accessed = { s.accessed with
      clock := s.rung.clock, cmds := s.cmds ++ [s.rungCmd],
      host := { s.host with staged := [], passedAt := s.rung.clock.evTb + s.host.staged.length, refused := false } } := by
    have hstill (d : Dev) : s.rungCmd.stillborn d = false := by rw [Cmd.stillborn, hwin]; rfl
    refine (ring_eq s.toDev).trans ((if_neg hfree).trans ?_)
    extract_lets c reused closing hit d₁ d₂ c₂ hst d₃ d₄
    have hr : reused = false := hre
    have h₁ : d₁ = s.rung := by simp [d₁, hr]
    have h₂ : d₂ = s.rung := by simp [d₂, hb, hr, h₁]
    have hc : c₂ = s.rungCmd := by simp only [c₂, hb, hr]; rfl
    have hs : d₃.pwr.sleep = none := by
      show d₂.pwr.sleep = none
      rw [h₂, hframe]
      exact hsleep
    have h₄ : d₄ = d₃ := by simp only [d₄, Dev.cancelSleep, hs, Option.isSome_none, Bool.false_eq_true, if_false]
    rw [hc, hb, hr, hstill, h₄]
    simp only [d₃, hst, h₂, hc, hnow, Bool.not_false, Bool.and_false, Bool.false_eq_true, if_false]
    rw [hframe]
    rfl
  refine (answers_quiet (f := Dev.writeReg 0x1A 1) rfl h (by rw [hrow]; rfl)).mpr ?_
  rw [hrow]
  exact ⟨by rw [hcmd], hpass.trans htb.ge, hback.trans htb.ge, rfl, rfl⟩

/-- Settles O39: while the host port is up each of its ports is an access, and only POP and DOORBELL are events. -/
theorem hostPorts : Obligations.HostPorts := fun _ _ h =>
  ⟨sqPortWrite_answers h, stagingDiscard_answers h, cqPortRead_moved_answers h, cqPortRead_answers h, rewind_answers h, pop_answers h,
    doorbell_full_answers h, doorbell_answers h⟩

end Sys2Proof.Machine
end

section
/-!
PROOFS. Domain requests (R55-R57, R68, R71, R72).
-/

namespace Sys2Proof.Machine

/-! ### The state in which a request is judged -/

/-- The event of a `PWRREQ` write, with the value stored. -/
def Dev.asked (w : Nat) (s : Dev) : Dev :=
  { s.hostEvent with pwr := { s.hostEvent.pwr with req := word w } }

theorem asked_rootOn {w : Nat} {s : Dev} (h : s.hostUp = true) : (s.asked w).clock.rootOn = true :=
  (accept_rootOn ..).trans (rootOn_of_hostUp h)

theorem asked_buf_lt {w : Nat} {s : Dev} (h : s.hostUp = true) : (s.asked w).jrnl.buf.length < 900 := (hostUp_iff.mp h).2.2.2.2

/-- A write of `PWRREQ` that names a domain and an action is judged in its event (R55). -/
theorem writePwrreq_row {n act : Nat} {s : Dev} (h : s.hostUp = true) (hn : n < 24) (hlo : 1 ≤ act) (hhi : act ≤ 4) :
    Dev.writeReg 0x10 (n % 32 + 32 * act) s.accessed =
      if s.requestBarred n act then (s.asked (n + 32 * act)).requestRefused n
      else match (generalizing := false) act with
        | 1 => (s.asked (n + 32 * act)).requestOn n
        | 2 => (s.asked (n + 32 * act)).requestOff n
        | 3 => (s.asked (n + 32 * act)).requestGate n
        | _ => (s.asked (n + 32 * act)).requestUngate n := by
  have hw : (n % 32 + 32 * act) % 65536 = n + 32 * act := by omega
  have hdom : (n + 32 * act) % 32 = n := by omega
  have hact : field 7 5 (n + 32 * act) = act := by simp only [field]; omega
  have hhold : s.jrnl.hold = false := (hostUp_iff.mp h).2.2.2.1
  have hgood : ¬ (decide (24 ≤ n) || decide (5 ≤ act) || decide (256 ≤ n + 32 * act)) = true := by simp; omega
  have hask : ¬ (decide (act = 0) || s.accessed.jrnl.hold) = true := by
    rw [show s.accessed.jrnl.hold = false from hhold]
    simp
    omega
  show Dev.writePwrreq ((n % 32 + 32 * act) % 65536) s.accessed = _
  rw [hw, Dev.writePwrreq, hdom, hact]
  refine (if_neg hgood).trans ((if_neg hask).trans ?_)
  rw [present_accessed h]
  have hbar : (s.asked (n + 32 * act)).requestBarred n act = s.requestBarred n act := rfl
  rw [← hbar]
  obtain rfl | rfl | rfl | rfl : act = 1 ∨ act = 2 ∨ act = 3 ∨ act = 4 := by omega
  all_goals rfl

/-! ### A request's record -/

theorem noteRequest_lastRecord {d : Dev} (h : d.jrnl.buf.length < 1024) (n old new cause : Nat) :
    (d.noteRequest n old new cause).lastRecord = some (0x41, n, old, new, cause) := note_lastRecord h oHost _

theorem noteRequest_get {pt : Part} (n old new cause : Nat) (d : Dev) (h : pt ∉ [.jrnl, .nv]) :
    (d.noteRequest n old new cause).get pt = d.get pt := Dev.note_get _ _ _ h

theorem noteRequest_pwr (n old new cause : Nat) (d : Dev) : (d.noteRequest n old new cause).pwr = d.pwr := Dev.note_pwr ..

theorem noteRequest_buf {d : Dev} (h : d.jrnl.buf.length < 1024) (n old new cause : Nat) :
    (d.noteRequest n old new cause).jrnl.buf.length = d.jrnl.buf.length + 1 := note_buf_length h oHost _

/-! ### PWRREQ_SELECT -/

theorem pwrreqSelect_answers {n : Nat} {s : State} (h : s.hostUp = true) (hn : n < 24) :
    Answers (.pwrreqSelect n) s fun t => t.pwr = { s.accessed.pwr with req := word n } ∧ t.lastRecord = some (4, 0x10, s.pwr.req.toNat, n, 0) ∧
      EventsOnly s.toDev t := by
  have hw : n % 32 % 65536 = n := by omega
  have hdom : n % 32 = n := by omega
  have hact : field 7 5 n = 0 := by simp only [field]; omega
  have hgood : ¬ (decide (24 ≤ n) || decide (5 ≤ 0) || decide (256 ≤ n)) = true := by simp; omega
  have hrow : Dev.writeReg 0x10 (n % 32) s.accessed =
      { s.hostEvent.note oHost (draft 0x04 0xFF 0x10 s.pwr.req.toNat n 0) with pwr := { s.accessed.pwr with req := word n } } := by
    show Dev.writePwrreq (n % 32 % 65536) s.accessed = _
    rw [hw, Dev.writePwrreq, hdom, hact]
    refine (if_neg hgood).trans ((if_pos rfl).trans ((regWrite_accepted h ..).trans ?_))
    rw [Dev.note_pwr]
    rfl
  refine (answers_noted (f := Dev.writeReg 0x10 (n % 32)) rfl h ?_).mpr ?_
  · rw [hrow]
    exact hostEvent_note_buf h _
  · rw [hrow]
    refine ⟨rfl, hostEvent_note_lastRecord h _, eventsOnly_of_get fun pt hpt => ?_⟩
    simp only [eventParts, List.mem_cons, List.not_mem_nil, or_false, not_or] at hpt
    rw [Dev.get_with_pwr _ _ (by simp [hpt]), hostEvent_note_get _ (by simp [hpt])]

/-! ### What a request leaves -/

theorem eventsOnly_asked {w : Nat} {s t : Dev} (h : ∀ pt, pt ∉ eventParts → t.get pt = (s.asked w).get pt) : EventsOnly s t :=
  eventsOnly_of_get fun pt hpt => by
    rw [h pt hpt]
    simp only [eventParts, List.mem_cons, List.not_mem_nil, or_false, not_or] at hpt
    rw [Dev.asked, Dev.get_with_pwr _ _ (by simp [hpt]), hostEvent_get (by simp [hpt])]

theorem eventsOnly_noteRequest {w n old new cause : Nat} {s d : Dev} (h : ∀ pt, pt ∉ eventParts → d.get pt = (s.asked w).get pt) :
    EventsOnly s (d.noteRequest n old new cause) :=
  eventsOnly_asked (w := w) fun pt hpt => by
    rw [← h pt hpt]
    simp only [eventParts, List.mem_cons, List.not_mem_nil, or_false, not_or] at hpt
    exact noteRequest_get _ _ _ _ _ (by simp [hpt])

theorem requestRefused_eq {w n : Nat} {s : Dev} : (s.asked w).requestRefused n =
    (Dev.raise 14 { s.asked w with pwr := { (s.asked w).pwr with rej := true } }).noteRequest n (s.dstate n) (s.dstate n) 1 := rfl

theorem barred_answers {i : Instr} {n act : Nat} {s : State} (he : exec i s = run (Dev.access (Dev.writeReg 0x10 (n % 32 + 32 * act))) s)
    (h : s.hostUp = true) (hn : n < 24) (hlo : 1 ≤ act) (hhi : act ≤ 4) (hb : s.requestBarred n act = true) : Answers i s fun t =>
      t.pwr = { s.accessed.pwr with req := word (n + 32 * act), rej := true } ∧ EventsOnly s.toDev t ∧
        t.lastRecord = some (0x41, n, s.dstate n, s.dstate n, 1) := by
  have hrow := (writePwrreq_row h hn hlo hhi).trans ((if_pos hb).trans requestRefused_eq)
  have hf := raise_frame 14 (d := { s.asked (n + 32 * act) with pwr := { (s.asked (n + 32 * act)).pwr with rej := true } })
    (asked_rootOn (w := n + 32 * act) h)
  have hbuf : s.jrnl.buf.length < 900 := hostEvent_buf h
  rw [hf] at hrow
  refine (answers_noted he h ?_).mpr ?_
  · rw [hrow, noteRequest_buf (by show s.jrnl.buf.length < 1024; omega)]
    show s.jrnl.buf.length + 1 < 960
    omega
  · rw [hrow]
    refine ⟨noteRequest_pwr .., eventsOnly_noteRequest (w := n + 32 * act) fun pt hpt => ?_, noteRequest_lastRecord (by show s.jrnl.buf.length < 1024; omega) ..⟩
    cases pt <;> simp [eventParts] at hpt <;> rfl

/-! ### POWER_ON -/

theorem filter_deferrals {n : Nat} {d : Dev} (h : d.domDeferred n = false) : d.pwr.deferrals.filter (fun f => f.dom != n) = d.pwr.deferrals := by
  rw [List.filter_eq_self]
  intro f hf
  have := List.any_eq_false.mp h f hf
  simpa using this

theorem getD_set_dom (l : List Domain) (n m : Nat) (x : Domain) (h : n < l.length) :
    (l.set n x).getD m .off = if m = n then x else l.getD m .off := by
  by_cases hm : m = n
  · subst hm
    simp [List.getD_eq_getElem?_getD, h]
  · rw [if_neg hm, List.getD_eq_getElem?_getD, List.getD_eq_getElem?_getD, List.getElem?_set_ne (Ne.symm hm)]

/-- What POWER_ON makes of the domain's state (R57). -/
def Domain.powered : Domain → Domain
  | .off => .on
  | .lost => .on
  | .drain => .on
  | x => x

theorem set_dom_self {n : Nat} {d : Dev} (hn : n < d.pwr.doms.length) : d.pwr.doms.set n (d.dom n) = d.pwr.doms := by
  rw [Dev.dom, List.getD_eq_getElem _ _ hn, List.set_getElem_self]

theorem domainUp_kept (lost : Bool) (n : Nat) (d : Dev) : (d.domainUp lost n).pwr.doms = d.pwr.doms ∧
    (d.domainUp lost n).pwr.deferrals = d.pwr.deferrals ∧ (d.domainUp lost n).sets = d.sets ∧ (d.domainUp lost n).rel = d.rel := by
  have h := Dev.domainUp_domains lost n d
  exact ⟨congrArg Prod.fst h, congrArg Prod.snd h, Dev.domainUp_sets .., Dev.domainUp_rel ..⟩

/-- A domain that a request brings to `on`, with what comes up with it. -/
theorem powered_kept {n new : Nat} {d e : Dev} (h : e.pwr.doms = (Dev.setDom n .on (d.noteRequest n (d.dstate n) new 0)).pwr.doms ∧
    e.pwr.deferrals = (Dev.setDom n .on (d.noteRequest n (d.dstate n) new 0)).pwr.deferrals ∧
    e.sets = (Dev.setDom n .on (d.noteRequest n (d.dstate n) new 0)).sets ∧
    e.rel = (Dev.setDom n .on (d.noteRequest n (d.dstate n) new 0)).rel) :
    e.pwr.doms = d.pwr.doms.set n .on ∧ e.pwr.deferrals = d.pwr.deferrals ∧ e.sets = d.sets ∧ e.rel = d.rel := by
  obtain ⟨hdoms, hdefs, hsets, hrel⟩ := h
  refine ⟨hdoms.trans ?_, hdefs.trans ?_, hsets.trans (Dev.note_sets ..), hrel.trans (Dev.note_rel ..)⟩ <;>
    rw [Dev.setDom, noteRequest_pwr]

/-- POWER_ON touches no other domain and no setting, leaves the relay, and cancels the domain's deferral (R57, R72). -/
theorem requestOn_kept {n : Nat} {d : Dev} (hn : n < d.pwr.doms.length) :
    (d.requestOn n).pwr.doms = (if d.domDeferred n then d.pwr.doms else d.pwr.doms.set n (d.dom n).powered) ∧
    (d.requestOn n).pwr.deferrals = d.pwr.deferrals.filter (fun f => f.dom != n) ∧ (d.requestOn n).sets = d.sets ∧
    (d.requestOn n).rel = d.rel := by
  cases hdef : d.domDeferred n with
  | true =>
    have hrow : d.requestOn n = (d.dropDeferral n).noteRequest n (d.dstate n) ((d.dropDeferral n).dstate n) 3 := if_pos hdef
    rw [hrow]
    refine ⟨?_, ?_, Dev.note_sets .., Dev.note_rel ..⟩ <;> rw [noteRequest_pwr] <;> rfl
  | false =>
    rw [filter_deferrals hdef]
    have hrow : d.requestOn n = match d.dom n with
        | .off => ((d.noteRequest n (d.dstate n) 1 0).setDom n .on).domainUp false n
        | .lost => ((d.noteRequest n (d.dstate n) 1 0).setDom n .on).domainUp true n
        | .drain => (d.noteRequest n (d.dstate n) 1 0).setDom n .on
        | _ => d.noteRequest n (d.dstate n) (d.dstate n) 0 := if_neg (by simp [hdef])
    rw [hrow]
    cases hx : d.dom n with
    | off => exact powered_kept (domainUp_kept false n _)
    | lost => exact powered_kept (domainUp_kept true n _)
    | drain => exact powered_kept ⟨rfl, rfl, rfl, rfl⟩
    | on | gated =>
      rw [if_neg Bool.false_ne_true]
      refine ⟨?_, congrArg Power.deferrals (noteRequest_pwr ..), Dev.note_sets .., Dev.note_rel ..⟩
      exact (congrArg Power.doms (noteRequest_pwr ..)).trans ((set_dom_self hn).symm.trans (by rw [hx]; rfl))

@[simp] theorem settle_dom (s t : Dev) (m : Nat) : (Dev.settle s t).dom m = t.dom m := by rw [Dev.dom, Dev.dom, settle_pwr]

theorem powerOn_answers {n : Nat} {s : State} (h : s.hostUp = true) (hn : n < 24) (hd : s.pwr.doms.length = 24)
    (hb : s.requestBarred n 1 = false) : Answers (.powerOn n) s fun t => t.sets = s.sets ∧ t.rel = s.rel ∧
      (∀ m, m ≠ n → t.dom m = s.dom m) ∧ t.pwr.deferrals = s.pwr.deferrals.filter (fun f => f.dom != n) ∧
      t.dom n = (if s.domDeferred n then s.dom n else match s.dom n with
        | .off => .on
        | .lost => .on
        | .drain => .on
        | x => x) := by
  have hlen : n < (s.asked (n + 32 * 1)).pwr.doms.length := by show n < s.pwr.doms.length; omega
  obtain ⟨hdoms, hdefs, hsets, hrel⟩ := requestOn_kept hlen
  have hrow : Dev.writeReg 0x10 (n % 32 + 32 * 1) s.accessed = (s.asked (n + 32 * 1)).requestOn n :=
    (writePwrreq_row h hn le_rfl (by decide)).trans (if_neg (Bool.eq_false_iff.mp hb))
  have hdom (m : Nat) : ((s.asked (n + 32 * 1)).requestOn n).dom m =
      if s.domDeferred n then s.dom m else if m = n then (s.dom n).powered else s.dom m := by
    rw [Dev.dom, hdoms]
    show (if s.domDeferred n then s.pwr.doms else s.pwr.doms.set n (s.dom n).powered).getD m .off = _
    split
    · rfl
    · exact getD_set_dom _ _ _ _ (by omega)
  refine (answers_access (f := Dev.writeReg 0x10 (n % 32 + 32 * 1)) rfl h).mpr ?_
  rw [hrow]
  simp only [settle_sets, settle_rel, settle_pwr, settle_dom]
  refine ⟨hsets, hrel, fun m hm => ?_, hdefs, ?_⟩
  · refine (hdom m).trans ?_
    rw [if_neg hm, ite_self]
  · refine (hdom n).trans ?_
    rw [if_pos rfl]
    rfl

/-! ### POWER_OFF -/

theorem supplyGone_domains (n : Nat) (x : Domain) (p : Cmd → Bool) (d : Dev) :
    (d.supplyGone n x p).pwr.domains = (d.pwr.doms.set n x, d.pwr.deferrals) := by
  rw [Dev.supplyGone]
  simp only [Dev.domainDown_domains, Dev.killCmds_domains]
  rfl

theorem switchDomain_domains (deferred : Bool) (n : Nat) (d : Dev) :
    (d.switchDomain deferred n).pwr.domains = (d.pwr.doms.set n .off, d.pwr.deferrals) := by
  have hlock (e : Dev) (origin tag op cause gcause : Nat) : (e.lockRelay origin tag op cause gcause).pwr.domains = e.pwr.domains :=
    Dev.lockRelay_domains ..
  have hkeep (e : Dev) (h : e.pwr.domains = d.pwr.domains) (p : Cmd → Bool) :
      (e.supplyGone n .off p).pwr.domains = (d.pwr.doms.set n .off, d.pwr.deferrals) := by
    rw [supplyGone_domains, show e.pwr.doms = d.pwr.doms from congrArg Prod.fst h, show e.pwr.deferrals = d.pwr.deferrals from congrArg Prod.snd h]
  rw [Dev.switchDomain]
  refine hkeep _ ?_ _
  split <;> split <;> simp

/-- POWER_OFF of a domain that is on and not held: it drains, or its supply goes (R57). -/
theorem requestOff_off {n : Nat} {d : Dev} (hdef : d.domDeferred n = false) (hon : ¬ (d.domOn n = false ∨ d.dom n = .drain))
    (hheld : d.domHeld n = false) : (d.requestOff n).pwr.doms = d.pwr.doms.set n (if d.drains n then .drain else .off) := by
  have hstay : ¬ (!d.domOn n || d.dom n == .drain) = true := by simpa using hon
  rw [Dev.requestOff]
  refine (congrArg (fun e : Dev => e.pwr.doms) ((if_neg (by simp [hdef])).trans ((if_neg hstay).trans (if_neg (by simp [hheld]))))).trans ?_
  split
  · rw [Dev.setDom, noteRequest_pwr]
  · refine (congrArg Prod.fst (switchDomain_domains false n _)).trans ?_
    rw [noteRequest_pwr]

/-- A deferral of a domain opened in the present event (R68). -/
def Dev.deferring (n : Nat) (d : Dev) : Dev :=
  { d with pwr := { d.pwr with deferrals := d.pwr.deferrals ++ [⟨n, d.clock.evEsn, d.opened (d.setting 0x010000 * 124800)⟩] } }

/-- POWER_OFF of a held domain is deferred in the event of source 11 (R68). -/
theorem requestOff_held {n : Nat} {d : Dev} (hdef : d.domDeferred n = false) (hon : ¬ (d.domOn n = false ∨ d.dom n = .drain))
    (hheld : d.domHeld n = true) : 
    d.requestOff n = ((d.deferring n).raise 11).noteRequest n (d.dstate n) 5 2 := by
  have hstay : ¬ (!d.domOn n || d.dom n == .drain) = true := by simpa using hon
  exact (if_neg (by simp [hdef])).trans ((if_neg hstay).trans (if_pos hheld))

theorem requestOff_stays {n : Nat} {d : Dev} (h : d.domDeferred n = true ∨ d.domOn n = false ∨ d.dom n = .drain) : ∃ cause,
    d.requestOff n = d.noteRequest n (d.dstate n) (d.dstate n) cause := by
  cases hdef : d.domDeferred n with
  | true => exact ⟨9, if_pos hdef⟩
  | false =>
    have hstay : (!d.domOn n || d.dom n == .drain) = true := by simpa [hdef] using h
    exact ⟨0, (if_neg (by simp [hdef])).trans (if_pos hstay)⟩

/-- A request that is only recorded. -/
theorem asked_noteRequest (w n old new cause : Nat) (s : Dev) : (∀ m, ((s.asked w).noteRequest n old new cause).dom m = s.dom m) ∧
    ((s.asked w).noteRequest n old new cause).pwr = (s.asked w).pwr ∧ EventsOnly s ((s.asked w).noteRequest n old new cause) ∧
    ((s.asked w).noteRequest n old new cause).sets = s.sets := by
  refine ⟨fun m => ?_, noteRequest_pwr .., eventsOnly_noteRequest (w := w) fun _ _ => rfl, Dev.note_sets ..⟩
  rw [Dev.dom, noteRequest_pwr]
  rfl

theorem powerOff_answers {n : Nat} {s : State} (h : s.hostUp = true) (hn : n < 24) (hd : s.pwr.doms.length = 24)
    (hb : s.requestBarred n 2 = false) : Answers (.powerOff n) s fun t => t.sets = s.sets ∧ (∀ m, m ≠ n → t.dom m = s.dom m) ∧
      if s.domDeferred n = true then t.dom n = s.dom n ∧ t.pwr.deferrals = s.pwr.deferrals ∧ EventsOnly s.toDev t
      else if s.domOn n = false ∨ s.dom n = .drain then t.dom n = s.dom n ∧ EventsOnly s.toDev t
      else if s.domHeld n = true then
        t.dom n = s.dom n ∧ t.lastRecord = some (0x41, n, s.dstate n, 5, 2) ∧ EventsOnly s.toDev t ∧
        (∃ w, t.pwr.deferrals = s.pwr.deferrals ++ [⟨n, s.clock.esn, w⟩] ∧ w.uOpen = s.clock.unc ∧ s.clock.tb ≤ w.opens ∧
          w.close = w.opens + s.setting 0x010000 * 124800)
      else t.dom n = if s.drains n then .drain else .off := by
  have hrow : Dev.writeReg 0x10 (n % 32 + 32 * 2) s.accessed = (s.asked (n + 32 * 2)).requestOff n :=
    (writePwrreq_row h hn (by decide) (by decide)).trans (if_neg (Bool.eq_false_iff.mp hb))
  have hbuf : s.jrnl.buf.length < 900 := hostEvent_buf h
  have hnoted {d : Dev} {old new cause : Nat} (hj : d.jrnl.buf.length = s.jrnl.buf.length) :
      (d.noteRequest n old new cause).jrnl.buf.length < 960 := by
    rw [noteRequest_buf (by omega)]
    omega
  by_cases hstay : s.domDeferred n = true ∨ s.domOn n = false ∨ s.dom n = .drain
  · obtain ⟨cause, hrest⟩ := requestOff_stays (d := s.asked (n + 32 * 2)) hstay
    rw [hrest] at hrow
    obtain ⟨hdom, hpwr, hev, hsets⟩ :=
      asked_noteRequest (n + 32 * 2) n ((s.asked (n + 32 * 2)).dstate n) ((s.asked (n + 32 * 2)).dstate n) cause s.toDev
    refine (answers_noted (f := Dev.writeReg 0x10 (n % 32 + 32 * 2)) rfl h (by rw [hrow]; exact hnoted rfl)).mpr ?_
    rw [hrow]
    refine ⟨hsets, fun m _ => hdom m, ?_⟩
    split
    · exact ⟨hdom n, by rw [hpwr]; rfl, hev⟩
    · next hdef => exact (if_pos (hstay.resolve_left hdef)).mpr ⟨hdom n, hev⟩
  · have hdef : s.domDeferred n = false := by simpa using fun hx => hstay (.inl hx)
    have hon : ¬ (s.domOn n = false ∨ s.dom n = .drain) := fun hx => hstay (.inr hx)
    simp only [hdef, Bool.false_eq_true, if_false, hon]
    cases hheld : s.domHeld n with
    | true =>
      rw [requestOff_held (d := s.asked (n + 32 * 2)) hdef hon hheld,
        raise_frame 11 (d := (s.asked (n + 32 * 2)).deferring n) (asked_rootOn (w := n + 32 * 2) h)] at hrow
      refine (answers_noted (f := Dev.writeReg 0x10 (n % 32 + 32 * 2)) rfl h (by rw [hrow]; exact hnoted rfl)).mpr ?_
      have hopen := opened_running (d := s.asked (n + 32 * 2)) (s.setting 0x010000 * 124800) (asked_rootOn (w := n + 32 * 2) h)
      have hesn : (s.asked (n + 32 * 2)).clock.evEsn = s.clock.esn := accept_evEsn ..
      rw [hrow, if_pos rfl]
      refine ⟨Dev.note_sets .., fun m _ => ?_, ?_, noteRequest_lastRecord (by show s.jrnl.buf.length < 1024; omega) .., eventsOnly_noteRequest (w := n + 32 * 2) fun pt hpt => ?_, ?_⟩
      · rw [Dev.dom, noteRequest_pwr]; rfl
      · rw [Dev.dom, noteRequest_pwr]; rfl
      · cases pt <;> simp [eventParts] at hpt <;> rfl
      · refine ⟨⟨(s.asked (n + 32 * 2)).clock.tb, (s.asked (n + 32 * 2)).clock.tb + s.setting 0x010000 * 124800, s.clock.unc⟩, ?_, rfl,
          accept_tb_le .., rfl⟩
        rw [noteRequest_pwr]
        show s.pwr.deferrals ++ [(⟨n, (s.asked (n + 32 * 2)).clock.evEsn, (s.asked (n + 32 * 2)).opened (s.setting 0x010000 * 124800)⟩ : Deferral)] = _
        rw [hopen, hesn, show (s.asked (n + 32 * 2)).clock.unc = s.clock.unc from accept_unc ..]
    | false =>
      have hoff := requestOff_off (d := s.asked (n + 32 * 2)) hdef hon hheld
      have hdom (m : Nat) : ((s.asked (n + 32 * 2)).requestOff n).dom m = if m = n then (if s.drains n then .drain else .off) else s.dom m := by
        rw [Dev.dom, hoff]
        exact getD_set_dom s.pwr.doms _ _ _ (by omega)
      refine (answers_access (f := Dev.writeReg 0x10 (n % 32 + 32 * 2)) rfl h).mpr ?_
      rw [hrow, if_neg Bool.false_ne_true]
      simp only [settle_sets, settle_dom]
      exact ⟨Dev.requestOff_sets .., fun m hm => (hdom m).trans (if_neg hm), (hdom n).trans (if_pos rfl)⟩

/-! ### CLK_GATE and CLK_UNGATE (R71) -/

/-- What a gate or an ungate leaves besides the recorded request: a domain's state, `PWRSTAT.IGN`, and the page writes that may begin. -/
structure Regated (w n : Nat) (x : Domain) (ign : Bool) (s t : Dev) : Prop where
  events : EventsOnly s t
  dom : ∀ m, t.dom m = if m = n then x else s.dom m
  ign : t.pwr.ign = ign
  room : t.jrnl.buf.length < 960

theorem regated_note {w n old new cause : Nat} {s d : Dev} (h : s.hostUp = true) (hd : ∃ ign, d = { s.asked w with pwr := { (s.asked w).pwr with ign := ign } }) :
    Regated w n (s.dom n) d.pwr.ign s (d.noteRequest n old new cause) := by
  obtain ⟨ign, rfl⟩ := hd
  have hbuf : s.jrnl.buf.length < 900 := hostEvent_buf h
  refine ⟨eventsOnly_noteRequest (w := w) fun pt hpt => ?_, fun m => ?_, by rw [noteRequest_pwr], ?_⟩
  · cases pt <;> simp [eventParts] at hpt <;> rfl
  · rw [Dev.dom, noteRequest_pwr]
    split
    · next hm => rw [hm]; rfl
    · rfl
  · rw [noteRequest_buf (by show s.jrnl.buf.length < 1024; omega)]
    show s.jrnl.buf.length + 1 < 960
    omega

theorem regated_setDom {w n old new : Nat} {x : Domain} {s : Dev} (h : s.hostUp = true) (hn : n < s.pwr.doms.length) :
    Regated w n x s.pwr.ign s (Dev.setDom n x ((s.asked w).noteRequest n old new 0)) := by
  have hr := regated_note (w := w) (n := n) (old := old) (new := new) (cause := 0) h ⟨_, (rfl : s.asked w = _)⟩
  refine ⟨eventsOnly_asked (w := w) fun pt hpt => ?_, fun m => ?_, hr.ign, hr.room⟩
  · simp only [eventParts, List.mem_cons, List.not_mem_nil, or_false, not_or] at hpt
    rw [Dev.setDom, Dev.get_with_pwr _ _ (by simp [hpt]), noteRequest_get _ _ _ _ _ (by simp [hpt])]
  · rw [Dev.dom, Dev.setDom, noteRequest_pwr]
    exact getD_set_dom s.pwr.doms _ _ _ hn

theorem eventsOnly_nvKick {s t : Dev} (h : EventsOnly s t) : EventsOnly s t.nvKick := by
  unfold EventsOnly at h ⊢
  rw [Dev.nvKick, h]

theorem clkGate_answers {n : Nat} {s : State} (h : s.hostUp = true) (hn : n < 24) (hd : s.pwr.doms.length = 24)
    (hb : s.requestBarred n 3 = false) : Answers (.clkGate n) s fun t => EventsOnly s.toDev t ∧ (∀ m, m ≠ n → t.dom m = s.dom m) ∧
      t.dom n = (if s.domHeld n = false ∧ s.dom n = .on then .gated else s.dom n) ∧ t.pwr.ign = (s.pwr.ign || s.domHeld n) := by
  have hrow : Dev.writeReg 0x10 (n % 32 + 32 * 3) s.accessed = (s.asked (n + 32 * 3)).requestGate n :=
    (writePwrreq_row h hn (by decide) (by decide)).trans (if_neg (Bool.eq_false_iff.mp hb))
  have hg : Regated (n + 32 * 3) n (if s.domHeld n = false ∧ s.dom n = .on then .gated else s.dom n) (s.pwr.ign || s.domHeld n) s.toDev
      ((s.asked (n + 32 * 3)).requestGate n) := by
    cases hheld : s.domHeld n with
    | true =>
      rw [if_neg (by simp), Bool.or_true]
      have hw : (s.asked (n + 32 * 3)).requestGate n =
        Dev.noteRequest n (s.dstate n) (s.dstate n) 8 { s.asked (n + 32 * 3) with pwr := { (s.asked (n + 32 * 3)).pwr with ign := true } } :=
        if_pos hheld
      rw [hw]
      exact regated_note h ⟨true, rfl⟩
    | false =>
      rw [Bool.or_false]
      have hw : (s.asked (n + 32 * 3)).requestGate n = if s.dom n == .on then
          ((s.asked (n + 32 * 3)).noteRequest n (s.dstate n) 2 0).setDom n .gated
        else (s.asked (n + 32 * 3)).noteRequest n (s.dstate n) (s.dstate n) 0 := if_neg (Bool.eq_false_iff.mp hheld)
      rw [hw]
      by_cases hon : s.dom n = .on
      · rw [if_pos (show (s.dom n == .on) = true by simp [hon]), if_pos (show false = false ∧ s.dom n = .on from ⟨rfl, hon⟩)]
        exact regated_setDom h (by omega)
      · rw [if_neg (show ¬ (s.dom n == .on) = true by simpa using hon), if_neg (show ¬ (false = false ∧ s.dom n = .on) by simp [hon])]
        exact regated_note h ⟨_, (rfl : s.asked (n + 32 * 3) = _)⟩
  refine (answers_noted (f := Dev.writeReg 0x10 (n % 32 + 32 * 3)) rfl h (by rw [hrow]; exact hg.room)).mpr ?_
  rw [hrow]
  exact ⟨hg.events, fun m hm => (hg.dom m).trans (if_neg hm), (hg.dom n).trans (if_pos rfl), hg.ign⟩

theorem clkUngate_answers {n : Nat} {s : State} (h : s.hostUp = true) (hn : n < 24) (hd : s.pwr.doms.length = 24)
    (hb : s.requestBarred n 4 = false) : Answers (.clkUngate n) s fun t => EventsOnly s.toDev t ∧ (∀ m, m ≠ n → t.dom m = s.dom m) ∧
      t.dom n = (if s.dom n = .gated then .on else s.dom n) ∧ t.pwr.ign = s.pwr.ign := by
  have hrow : Dev.writeReg 0x10 (n % 32 + 32 * 4) s.accessed = (s.asked (n + 32 * 4)).requestUngate n :=
    (writePwrreq_row h hn (by decide) (by decide)).trans (if_neg (Bool.eq_false_iff.mp hb))
  have hg : Regated (n + 32 * 4) n (if s.dom n = .gated then .on else s.dom n) s.pwr.ign s.toDev ((s.asked (n + 32 * 4)).requestUngate n) := by
    have hw : (s.asked (n + 32 * 4)).requestUngate n = if s.dom n == .gated then
        if n = 16 then (((s.asked (n + 32 * 4)).noteRequest n (s.dstate n) 1 0).setDom n .on).nvKick
        else ((s.asked (n + 32 * 4)).noteRequest n (s.dstate n) 1 0).setDom n .on
      else (s.asked (n + 32 * 4)).noteRequest n (s.dstate n) (s.dstate n) 0 := rfl
    rw [hw]
    by_cases hx : s.dom n = .gated
    · rw [if_pos (show (s.dom n == .gated) = true by simp [hx]), if_pos hx]
      have hset := regated_setDom (w := n + 32 * 4) (n := n) (old := s.dstate n) (new := 1) (x := .on) h (by omega)
      split
      · exact ⟨eventsOnly_nvKick hset.events, hset.dom, hset.ign, hset.room⟩
      · exact hset
    · rw [if_neg (show ¬ (s.dom n == .gated) = true by simpa using hx), if_neg hx]
      exact regated_note h ⟨_, (rfl : s.asked (n + 32 * 4) = _)⟩
  refine (answers_noted (f := Dev.writeReg 0x10 (n % 32 + 32 * 4)) rfl h (by rw [hrow]; exact hg.room)).mpr ?_
  rw [hrow]
  exact ⟨hg.events, fun m hm => (hg.dom m).trans (if_neg hm), (hg.dom n).trans (if_pos rfl), hg.ign⟩

/-- Settles O38: a request is judged in the event of its write, and only the domain it names moves. -/
theorem domainRequests : Obligations.DomainRequests := by
  intro n s hn h hd
  refine ⟨pwrreqSelect_answers h hn, ?_, powerOn_answers h hn hd, powerOff_answers h hn hd, clkGate_answers h hn hd, clkUngate_answers h hn hd⟩
  simp only [List.mem_cons, List.not_mem_nil, or_false]
  rintro r (rfl | rfl | rfl | rfl) hb
  · exact barred_answers rfl h hn (by simp) (by simp) hb
  · exact barred_answers rfl h hn (by simp) (by simp) hb
  · exact barred_answers rfl h hn (by simp) (by simp) hb
  · exact barred_answers rfl h hn (by simp) (by simp) hb

end Sys2Proof.Machine
end

section
/-!
PROOFS. The timer channels (R165, R166, R169), the captures of TB and the journal head (R48, R100).
-/

namespace Sys2Proof.Machine

/-! ### Channels one by one -/

theorem putChan_chan_same {n : Nat} {c : Channel} {d : Dev} (h : n < d.tmr.length) : (d.putChan n c).chan n = c := by
  simp [Dev.chan, Dev.putChan, List.getD_eq_getElem?_getD, h]

theorem putChan_chan_other {n m : Nat} {c : Channel} {d : Dev} (h : m ≠ n) : (d.putChan n c).chan m = d.chan m := by
  simp only [Dev.chan, Dev.putChan, List.getD_eq_getElem?_getD, List.getElem?_set_ne (Ne.symm h)]

@[simp] theorem putChan_length (n : Nat) (c : Channel) (d : Dev) : (d.putChan n c).tmr.length = d.tmr.length := List.length_set

/-- A step of one channel: it touches that channel alone, and leaves it as `R` says. -/
def ChanStep (R : Nat → Dev → Channel → Prop) (g : Nat → Dev → Dev) : Prop :=
  ∀ n e, n < e.tmr.length → g n e = { e with tmr := (g n e).tmr } ∧ (g n e).tmr.length = e.tmr.length ∧
    (∀ m, m ≠ n → (g n e).chan m = e.chan m) ∧ R n e ((g n e).chan n)

/-- What `R` says of a channel rests on that channel and on no other. -/
def ChanLocal (R : Nat → Dev → Channel → Prop) : Prop :=
  ∀ n e tmr c, ({ e with tmr := tmr } : Dev).chan n = e.chan n → R n { e with tmr := tmr } c → R n e c

/-- Steps of different channels do not meet. -/
theorem foldl_chan {R : Nat → Dev → Channel → Prop} {g : Nat → Dev → Dev} (hg : ChanStep R g) (hR : ChanLocal R) :
    ∀ (ns : List Nat) (d : Dev), ns.Nodup → (∀ n ∈ ns, n < d.tmr.length) →
      ns.foldl (fun e n => g n e) d = { d with tmr := (ns.foldl (fun e n => g n e) d).tmr } ∧
      (∀ m, m ∉ ns → (ns.foldl (fun e n => g n e) d).chan m = d.chan m) ∧
      ∀ m ∈ ns, R m d ((ns.foldl (fun e n => g n e) d).chan m)
  | [], _, _, _ => ⟨rfl, fun _ _ => rfl, fun _ hm => absurd hm List.not_mem_nil⟩
  | n :: ns, d, hnd, hlen => by
    obtain ⟨hn, hnd⟩ := List.nodup_cons.mp hnd
    obtain ⟨hframe, hl, hother, hsame⟩ := hg n d (hlen n List.mem_cons_self)
    obtain ⟨hf, hout, hin⟩ := foldl_chan hg hR ns (g n d) hnd fun m hm => by rw [hl]; exact hlen m (List.mem_cons_of_mem _ hm)
    rw [List.foldl_cons]
    refine ⟨?_, fun m hm => ?_, fun m hm => ?_⟩
    · refine hf.trans ?_
      rw [hframe]
    · rw [List.mem_cons, not_or] at hm
      rw [hout m hm.2, hother m hm.1]
    · rcases List.mem_cons.mp hm with rfl | hm
      · rw [hout _ hn]
        exact hsame
      · have hne : m ≠ n := fun he => hn (he ▸ hm)
        have hstep (c : Channel) : R m (g n d) c → R m d c := by
          rw [hframe]
          refine hR m d (g n d).tmr c ?_
          rw [← hframe]
          exact hother m hne
        exact hstep _ (hin m hm)

/-! ### GO, HALT and co-snapshots -/

theorem chanStep_putChan {R : Nat → Dev → Channel → Prop} {g : Nat → Dev → Dev} {h : Nat → Dev → Channel}
    (hg : ∀ n e, n < e.tmr.length → g n e = e.putChan n (h n e)) (hr : ∀ n e, R n e (h n e)) : ChanStep R g := fun n e hn => by
  rw [hg n e hn]
  exact ⟨rfl, putChan_length .., fun m hm => putChan_chan_other hm, by rw [putChan_chan_same hn]; exact hr n e⟩

theorem putChan_self {n : Nat} {d : Dev} (h : n < d.tmr.length) : d.putChan n (d.chan n) = d := by
  rw [Dev.putChan, Dev.chan, List.getD_eq_getElem _ _ h, List.set_getElem_self]

theorem putChan_putChan (n : Nat) (a b : Channel) (d : Dev) : (d.putChan n a).putChan n b = d.putChan n b := by
  rw [Dev.putChan, Dev.putChan, Dev.putChan, List.set_set]

/-- A channel that GO starts: it runs, from the present stamp where it did not run before (R166). -/
def ChanStarted (n : Nat) (d : Dev) (c : Channel) : Prop :=
  if (d.chan n).run then c = d.chan n else c.run = true ∧ c.start = d.now

/-- A channel that HALT stops. -/
def ChanStopped (_ : Nat) (_ : Dev) (c : Channel) : Prop := c.run = false

/-- A channel that a TB snapshot finds (R169). -/
def ChanSnapped (n : Nat) (d : Dev) (c : Channel) : Prop :=
  if (d.chan n).cosnap then c.snap = d.tmrC n d.now ∧ c.snapAt = d.now else c = d.chan n

theorem chanLocal_started : ChanLocal ChanStarted := fun n e tmr c h => by
  unfold ChanStarted
  rw [h]
  exact id

theorem chanLocal_stopped : ChanLocal ChanStopped := fun _ _ _ _ _ => id

theorem tmrC_congr {n t : Nat} {d e : Dev} (h : e.chan n = d.chan n) (hs : e.sets = d.sets) : e.tmrC n t = d.tmrC n t := by
  have hset (a : Nat) : e.setting a = d.setting a := by rw [Dev.setting, Dev.setting, hs]
  simp only [Dev.tmrC, Dev.tmrU, Dev.tmrSpan, Dev.tmrP, Dev.tmrLap, hset, h]

theorem chanLocal_snapped : ChanLocal ChanSnapped := fun n e tmr c h => by
  unfold ChanSnapped
  rw [h, tmrC_congr h rfl]
  exact id

theorem chanStep_start : ChanStep ChanStarted fun n d => d.startChan n :=
  chanStep_putChan (h := fun n d => if (d.chan n).run then d.chan n else
      { d.chan n with
        run := true, start := d.now, edges := 0, prevCap := none,
        past := d.tmrSpan n d.now :: (d.chan n).past.filter (fun x => d.now ≤ x.until_ + filterMax) })
    (fun n e hn => by
      unfold Dev.startChan
      dsimp only
      split
      · rw [putChan_self hn]
      · rfl)
    (fun n e => by
      unfold ChanStarted
      split
      · rfl
      · exact ⟨rfl, rfl⟩)

theorem chanStep_stop : ChanStep ChanStopped fun n d => d.stopChan n := fun n e hn => by
  unfold ChanStopped
  dsimp only
  unfold Dev.stopChan
  split
  · refine ⟨rfl, ?_, fun m hm => ?_, ?_⟩
    · simp [Dev.holdU, Dev.newSpan, Dev.snapChan]
    · dsimp only
      rw [putChan_chan_other hm, Dev.snapChan, putChan_chan_other hm, Dev.holdU, Dev.newSpan, putChan_chan_other hm]
    · dsimp only
      rw [putChan_chan_same (by simpa [Dev.holdU, Dev.newSpan, Dev.snapChan] using hn)]
  · next h => exact ⟨rfl, rfl, fun _ _ => rfl, by simpa using h⟩

theorem chanStep_snap : ChanStep ChanSnapped fun n d => if (d.chan n).cosnap then d.snapChan n else d := fun n e hn => by
  unfold ChanSnapped
  dsimp only
  by_cases h : (e.chan n).cosnap = true
  · rw [if_pos h, if_pos h]
    refine ⟨rfl, putChan_length .., fun m hm => putChan_chan_other hm, ?_⟩
    rw [Dev.snapChan, putChan_chan_same hn]
    exact ⟨rfl, rfl⟩
  · rw [if_neg h, if_neg h]
    exact ⟨rfl, rfl, fun _ _ => rfl, rfl⟩

end Sys2Proof.Machine
end

section
/-!
PROOFS. The settings window (R130-R134): what a write of `SET_DATA` leaves where its setting takes one word.
-/

namespace Sys2Proof.Machine

/-- A setting whose value in effect and whose judgement rest on the settings, the node bus and journal hold alone: writable, of one word,
outside the timers' and the loops' own words, and without a window of its own. -/
structure PlainSetting (r : SettingRow) : Prop where
  one : r.words = 1
  writable : r.lock ≠ 1
  noTimer : r.addr / 0x10000 ≠ 0x0C ∨ 0x0C0200 ≤ r.addr
  noLoop : loopAt r.addr = none
  noWindow : r.addr ≠ 0x0B0030

section
variable {r : SettingRow} (hr : PlainSetting r) {d e : Dev} (hs : e.sets = d.sets)
include hr hs

theorem value_congr : e.value r = d.value r := by
  have hset : e.setting r.addr = d.setting r.addr := by rw [Dev.setting, Dev.setting, hs]
  unfold Dev.value
  dsimp only
  split
  · next hu =>
    have hgo : 0x0C0200 ≤ r.addr := hr.noTimer.resolve_left (by simpa using hu)
    rw [Dev.timerValue, Dev.timerValue, if_pos hgo, if_pos hgo]
  · rw [if_pos hr.writable, if_pos hr.writable, hset]

theorem attempt_congr (a w : Nat) : e.attempt r a w = d.attempt r a w := by
  unfold Dev.attempt
  simp only [value_congr hr hs, hr.one, if_true]

theorem valueOk_congr (v : Nat) : e.valueOk r.addr v = d.valueOk r.addr v := by
  have hset (a : Nat) : e.setting a = d.setting a := by rw [Dev.setting, Dev.setting, hs]
  unfold Dev.valueOk
  rw [hr.noLoop]
  have htmr : (0x0C0000 ≤ r.addr && r.addr < 0x0C0200 : Bool) = false := by
    have := hr.noTimer
    simp
    omega
  simp only [hset, htmr, Bool.false_eq_true, if_false]

theorem settingProtected_congr (hk : e.kw = d.kw) (v : Nat) : e.settingProtected r v = d.settingProtected r v := by
  have htmr : (0x0C0000 ≤ r.addr && r.addr < 0x0C0200 && (decide ((tmrAt r.addr).2 = 2) || decide ((tmrAt r.addr).2 = 8)) : Bool) = false := by
    have := hr.noTimer
    have : (0x0C0000 ≤ r.addr && r.addr < 0x0C0200 : Bool) = false := by simp; omega
    rw [this]
    rfl
  have hcount (t : Nat) : e.grantCount t = d.grantCount t := by unfold Dev.grantCount Dev.nodesOn; rw [hk]
  unfold Dev.settingProtected
  simp only [hr.noWindow, if_false, htmr, hcount, Bool.false_eq_true]

theorem judge_congr {a w : Nat} {f : Bool} (ha : settingRow a = some r) (hk : e.kw = d.kw) (hj : e.jrnl = d.jrnl) :
    e.judge f a w = d.judge f a w := by
  have hset (a : Nat) : e.setting a = d.setting a := by rw [Dev.setting, Dev.setting, hs]
  unfold Dev.judge
  rw [ha]
  simp only [attempt_congr hr hs, settingProtected_congr hr hs hk, valueOk_congr hr hs, hset, hj]

end

/-! ### A write in its event (R134) -/

section
variable {r : SettingRow} {d : Dev} {a w cause : Nat} {f : Bool} (origin : Nat) (ha : settingRow a = some r) (hone : r.words = 1)
include ha hone

theorem writeSetting_refused (hc : d.judge f a w = cause) (hne : cause ≠ 0) (hh : d.jrnl.hold = false) :
    d.writeSetting origin f a w = (cause, d.note origin (draft 0x02 (a / 0x10000 % 256) a (d.value r) (d.attempt r a w) cause)) := by
  have hlow : ¬ (decide (r.words = 2) && decide (a ≠ r.addr)) = true := by simp [hone]
  have hnote (x : Draft) : d.noteRefused origin x = d.note origin x := if_neg (by simp [hh])
  unfold Dev.writeSetting
  rw [hc, ha]
  dsimp only
  rw [if_pos hne, if_neg hlow, hnote]

theorem writeSetting_accepted (hc : d.judge f a w = 0) : d.writeSetting origin f a w =
    (0, ((d.note origin (draft 0x01 (a / 0x10000 % 256) a (d.value r) (d.attempt r a w) 0)).settingWritten r.addr
      (d.attempt r a w)).dropLow r false) := by
  have hlow : ¬ lowWord r a = true := by simp [lowWord, hone]
  unfold Dev.writeSetting
  rw [hc, ha]
  dsimp only
  rw [if_neg (not_not.mpr rfl), if_neg hlow]

end

theorem dropLow_kept (r : SettingRow) (d : Dev) : d.dropLow r false = { d with setLow := d.setLow.filter (fun p => p.1 != r.addr) } := rfl

end Sys2Proof.Machine
end

section
/-!
PROOFS. TMR_GO and TMR_HALT through the settings window (R166), the captures (R48, R100).
-/

namespace Sys2Proof.Machine

theorem mem_bitsOf {n m i : Nat} : i ∈ bitsOf n m ↔ i < n ∧ bit i m = true := by simp [bitsOf, bit]

theorem nodup_bitsOf (n m : Nat) : (bitsOf n m).Nodup := List.nodup_range.filter _

/-! ### A write of a mask -/

/-- The row of a setting that acts on the channels of its mask (R166). -/
def maskRow (a : Nat) : SettingRow := uRow a 0 65535 0

theorem settingRow_go : settingRow 0x0C0200 = some (maskRow 0x0C0200) := by decide +kernel
theorem settingRow_halt : settingRow 0x0C0201 = some (maskRow 0x0C0201) := by decide +kernel

theorem plainSetting_go : PlainSetting (maskRow 0x0C0200) := ⟨rfl, by decide, .inr (by decide), by decide, by decide⟩
theorem plainSetting_halt : PlainSetting (maskRow 0x0C0201) := ⟨rfl, by decide, .inr (by decide), by decide, by decide⟩

/-- With no compare due none is presented before the write (R173). -/
theorem dueMatches_none {d : Dev} (h : ∀ n, n < 16 → d.tmrPast n = false) : d.dueMatches = d := by
  have hfold (ns : List Nat) (hns : ∀ n ∈ ns, n < 16) :
      ns.foldl (fun d n => if d.clock.rootOn && d.tmrPast n then gptCompareMatch n d else d) d = d := by
    induction ns with
    | nil => rfl
    | cons n ns ih =>
      rw [List.foldl_cons, if_neg (by simp [h n (hns n List.mem_cons_self)])]
      exact ih fun m hm => hns m (List.mem_cons_of_mem _ hm)
  exact hfold _ fun n hn => List.mem_range.mp hn

/-- The device in the event of a write of a setting that the access selects. -/
def Dev.selected (a : Nat) (s : Dev) : Dev := { s.hostEvent with host := (s.selectSetting a).host }

theorem selectSetting_setAddr (a : Nat) (d : Dev) (h : a < 2 ^ 24) : (d.selectSetting a).setAddr = a := by
  unfold Dev.setAddr Dev.selectSetting
  dsimp only
  have hx : d.host.setAddrHi.toNat < 65536 := d.host.setAddrHi.isLt
  simp only [word, BitVec.toNat_ofNat]
  omega

theorem setAdvance_frame (d : Dev) : d.setAdvance = { d with host := d.setAdvance.host } := by
  unfold Dev.setAdvance
  split <;> rfl

/-- A mask setting written through the window: `go` acts on its channels, and the window's own registers move with it. -/
theorem writeMask_row {a mask : Nat} {s : Dev} {act : Nat → Dev → Dev} (h : s.hostUp = true) (hrow : settingRow a = some (maskRow a))
    (hp : PlainSetting (maskRow a)) (hm : mask < 65536) (ha : a < 2 ^ 24) (hj : s.judge false a mask = 0)
    (hpast : ∀ n, n < 16 → s.tmrPast n = false)
    (hact : ∀ d : Dev, d.settingWritten a mask = (bitsOf 16 mask).foldl (fun d n => act n d) d) :
    ∃ x host, (s.accessed.selectSetting a).writeReg 0x30 mask =
      { ((bitsOf 16 mask).foldl (fun d n => act n d) ((s.selected a).note oHost x)) with
        host := host, setLow := ((bitsOf 16 mask).foldl (fun d n => act n d) ((s.selected a).note oHost x)).setLow.filter (fun p => p.1 != a) } := by
  have hdue : (s.accessed.selectSetting a).dueBefore a = s.accessed.selectSetting a := by
    unfold Dev.dueBefore
    split
    · exact dueMatches_none hpast
    · rfl
  have hpres : (s.accessed.selectSetting a).present = s.selected a :=
    presentOn_run (d := s.accessed.selectSetting a) 13 (run_of_hostUp h) (rootOn_of_hostUp h)
  have hjudge : (s.selected a).judge false a mask = 0 := (judge_congr (d := s) (e := s.selected a) hp rfl hrow rfl rfl).trans hj
  have hatt : (s.selected a).attempt (maskRow a) a mask = mask := by simp [Dev.attempt, maskRow, uRow]
  have hset (d : Dev) : (d.settingWritten (maskRow a).addr mask).dropLow (maskRow a) false =
      { (bitsOf 16 mask).foldl (fun d n => act n d) d with
        setLow := ((bitsOf 16 mask).foldl (fun d n => act n d) d).setLow.filter (fun p => p.1 != a) } := by
    rw [show d.settingWritten (maskRow a).addr mask = _ from hact d]
    rfl
  have hw := writeSetting_accepted (f := false) oHost hrow rfl hjudge
  rw [hatt, hset] at hw
  refine ⟨draft 0x01 (a / 0x10000 % 256) a ((s.selected a).value (maskRow a)) mask 0, (Dev.writeSetData mask (s.accessed.selectSetting a)).host, ?_⟩
  show Dev.writeSetData (mask % 65536) (s.accessed.selectSetting a) = _
  rw [Nat.mod_eq_of_lt hm, Dev.writeSetData, selectSetting_setAddr a _ ha, hdue, hpres, hw]
  exact setAdvance_frame _

/-- What a mask setting leaves: its channels moved as `act` says, at the stamp of its event. -/
theorem answers_mask {i : Instr} {a mask : Nat} {s : State} {act : Nat → Dev → Dev} {R : Nat → Dev → Channel → Prop}
    (he : exec i s = run (Dev.access fun d => (d.selectSetting a).writeReg 0x30 mask) s) (h : s.hostUp = true)
    (hrow : settingRow a = some (maskRow a)) (hp : PlainSetting (maskRow a)) (hm : mask < 65536) (ha : a < 2 ^ 24)
    (hj : s.judge false a mask = 0) (hpast : ∀ n, n < 16 → s.tmrPast n = false) (hl : s.tmr.length = 16)
    (hact : ∀ d : Dev, d.settingWritten a mask = (bitsOf 16 mask).foldl (fun d n => act n d) d) (hstep : ChanStep R act) (hR : ChanLocal R) :
    Answers i s fun t =>
      (∀ n, n < 16 → (bit n mask = false → t.chan n = s.chan n) ∧
        (bit n mask = true → ∃ d : Dev, d.chan n = s.chan n ∧ d.now = t.clock.evTb ∧ R n d (t.chan n))) ∧
      EventsOnly { s.toDev with host := t.host, tmr := t.tmr, setLow := t.setLow } t := by
  obtain ⟨x, host, hw⟩ := writeMask_row h hrow hp hm ha hj hpast hact
  have htmr : ((s.selected a).note oHost x).tmr = s.tmr := Dev.note_tmr ..
  obtain ⟨hframe, hout, hin⟩ := foldl_chan hstep hR (bitsOf 16 mask) ((s.selected a).note oHost x) (nodup_bitsOf ..) fun n hn => by
    rw [htmr, hl]
    exact (mem_bitsOf.mp hn).1
  have hchan (n : Nat) : ((s.selected a).note oHost x).chan n = s.chan n := by rw [Dev.chan, htmr]; rfl
  have hclock : ((s.selected a).note oHost x).clock = s.hostEvent.clock := Dev.note_clock ..
  rw [hframe] at hw
  refine (answers_noted he h ?_).mpr ?_
  · show ((s.accessed.selectSetting a).writeReg 0x30 mask).jrnl.buf.length < 960
    rw [hw]
    have hb : s.jrnl.buf.length < 900 := hostEvent_buf h
    show ((s.selected a).note oHost x).jrnl.buf.length < 960
    rw [note_buf_length (by show s.jrnl.buf.length < 1024; omega)]
    show s.jrnl.buf.length + 1 < 960
    omega
  · dsimp only
    rw [hw]
    refine ⟨fun n hn => ⟨fun hb => ?_, fun hb => ⟨(s.selected a).note oHost x, hchan n, ?_, hin n (mem_bitsOf.mpr ⟨hn, hb⟩)⟩⟩,
      eventsOnly_taking [.host, .tmr, .setLow] fun pt hpt => ?_⟩
    · exact (hout n fun hm => by simp [mem_bitsOf, hb] at hm).trans (hchan n)
    · rw [Dev.now, hclock]
      exact now_running (d := s.hostEvent) (hostEvent_rootOn h)
    · have hn : ((s.selected a).note oHost x).get pt = (s.selected a).get pt := Dev.note_get _ _ _ (by simp [eventParts] at hpt; simp [hpt])
      cases pt <;> simp [eventParts] at hpt <;> exact hn

theorem tmrGo_answers {mask : Nat} {s : State} (h : s.hostUp = true) (hm : mask < 65536) (hl : s.tmr.length = 16)
    (hj : s.judge false 0x0C0200 mask = 0) (hpast : ∀ n, n < 16 → s.tmrPast n = false) : Answers (.tmrGo mask) s fun t =>
      (∀ n, n < 16 → (t.chan n).run = ((s.chan n).run || bit n mask) ∧ (bit n mask = false → t.chan n = s.chan n) ∧
        (bit n mask = true → (s.chan n).run = false → (t.chan n).start = t.clock.evTb)) ∧
      EventsOnly { s.toDev with host := t.host, tmr := t.tmr, setLow := t.setLow } t := by
  refine (answers_mask (R := ChanStarted) rfl h settingRow_go plainSetting_go hm (by decide) hj hpast hl (fun _ => rfl) chanStep_start
    chanLocal_started).imp fun t ⟨hchan, hev⟩ => ⟨fun n hn => ?_, hev⟩
  obtain ⟨hout, hin⟩ := hchan n hn
  cases hb : bit n mask with
  | false => exact ⟨by rw [hout hb, Bool.or_false], fun _ => hout hb, fun hx => absurd hx Bool.false_ne_true⟩
  | true =>
    obtain ⟨d, hd, hnow, hR⟩ := hin hb
    rw [ChanStarted, hd, hnow] at hR
    cases hrun : (s.chan n).run with
    | true =>
      rw [hrun, if_pos rfl] at hR
      exact ⟨by rw [hR, hrun]; rfl, fun hx => absurd hx.symm Bool.false_ne_true, fun _ hx => absurd hx.symm Bool.false_ne_true⟩
    | false =>
      rw [hrun, if_neg Bool.false_ne_true] at hR
      exact ⟨by rw [hR.1]; rfl, fun hx => absurd hx.symm Bool.false_ne_true, fun _ _ => hR.2⟩

theorem tmrHalt_answers {mask : Nat} {s : State} (h : s.hostUp = true) (hm : mask < 65536) (hl : s.tmr.length = 16)
    (hj : s.judge false 0x0C0201 mask = 0) (hpast : ∀ n, n < 16 → s.tmrPast n = false) : Answers (.tmrHalt mask) s fun t =>
      (∀ n, n < 16 → (t.chan n).run = ((s.chan n).run && !bit n mask) ∧ (bit n mask = false → t.chan n = s.chan n)) ∧
      EventsOnly { s.toDev with host := t.host, tmr := t.tmr, setLow := t.setLow } t := by
  refine (answers_mask (R := ChanStopped) rfl h settingRow_halt plainSetting_halt hm (by decide) hj hpast hl (fun _ => rfl) chanStep_stop
    chanLocal_stopped).imp fun t ⟨hchan, hev⟩ => ⟨fun n hn => ?_, hev⟩
  obtain ⟨hout, hin⟩ := hchan n hn
  cases hb : bit n mask with
  | false => exact ⟨by rw [hout hb, Bool.not_false, Bool.and_true], fun _ => hout hb⟩
  | true =>
    obtain ⟨d, -, -, hR⟩ := hin hb
    exact ⟨by rw [Bool.not_true, Bool.and_false]; exact hR, fun hx => absurd hx.symm Bool.false_ne_true⟩

/-! ### The captures -/

/-- The clock of a TB snapshot's event, with the capture (R48). -/
def Dev.captured48 (s : Dev) : Dev :=
  { s.hostEvent with clock := { s.hostEvent.clock with
      snapTb := s.hostEvent.clock.evTb, snapRes := s.hostEvent.clock.rho, snapValid := true } }

theorem tbSnapshot_answers {s : State} (h : s.hostUp = true) (hl : s.tmr.length = 16) : Answers .tbSnapshot s fun t =>
    t.clock.snapTb = t.clock.tb ∧ t.clock.snapRes = t.clock.rho ∧ t.clock.snapValid = true ∧
      s.clock.tb ≤ t.clock.tb ∧ t.clock.esn = s.clock.esn + 1 ∧ (∀ n, n < 16 → (s.chan n).cosnap = false → t.chan n = s.chan n) ∧
      (∀ n, n < 16 → (s.chan n).cosnap = true → (t.chan n).snap = s.tmrC n t.clock.tb ∧ (t.chan n).snapAt = t.clock.tb) ∧
      t = { s.accessed with clock := t.clock, tmr := t.tmr } := by
  have hw : Dev.writeReg 0x34 1 s.accessed = s.captured48.coSnap := by
    show ({ s.accessed.present with clock := { s.accessed.present.clock with
      snapTb := s.accessed.present.clock.evTb, snapRes := s.accessed.present.clock.rho, snapValid := true } } : Dev).coSnap = _
    rw [present_accessed h]
    rfl
  obtain ⟨hframe, -, hin⟩ := foldl_chan chanStep_snap chanLocal_snapped (List.range 16) s.captured48 List.nodup_range fun n hn => by
    show n < s.tmr.length
    rw [hl]
    exact List.mem_range.mp hn
  have hnow : s.captured48.now = s.hostEvent.clock.tb := now_running (d := s.captured48) (hostEvent_rootOn h)
  have hco : s.captured48.coSnap = { s.captured48 with tmr := s.captured48.coSnap.tmr } := hframe
  have hchan (n : Nat) (hn : n < 16) : ChanSnapped n s.captured48 (s.captured48.coSnap.chan n) := hin n (List.mem_range.mpr hn)
  refine (answers_quiet (f := Dev.writeReg 0x34 1) rfl h (by rw [hw, hco]; rfl)).mpr ?_
  rw [hw]
  have hsame (n : Nat) : s.captured48.chan n = s.chan n := rfl
  have hclock : s.captured48.coSnap.clock = s.captured48.clock := by rw [hco]
  rw [hclock]
  refine ⟨rfl, rfl, rfl, accept_tb_le .., accept_esn .., fun n hn hc => ?_, fun n hn hc => ?_, hco⟩
  · have hs := hchan n hn
    rw [ChanSnapped, hsame n, if_neg (by rw [hc]; decide)] at hs
    exact hs
  · have hs := hchan n hn
    rw [ChanSnapped, hsame n, if_pos hc, hnow, tmrC_congr (d := s.toDev) (hsame n) rfl] at hs
    exact hs

theorem jrnlHeadCapture_answers {sel : Nat} {s : State} (h : s.hostUp = true) : Answers (.jrnlHeadCapture sel) s fun t =>
    t = { s.accessed with host := { s.host with
      jrnlSel := sel % 8, jrnlCapEsn := s.jrnl.lastEsn, jrnlCapTag := s.headTag, jrnlCapCount := s.jrnl.buf.length } } := by
  have hw : Dev.writeReg 0x50 (0x8000 + sel % 8) s.accessed = { s.accessed with host := { s.host with
      jrnlSel := sel % 8, jrnlCapEsn := s.jrnl.lastEsn, jrnlCapTag := s.headTag, jrnlCapCount := s.jrnl.buf.length } } := by
    have hk (k : Nat) (hlt : k < 8) : ((0x8000 + k) % 65536 &&& 0x7FF8 != 0) = false ∧ (0x8000 + k) % 65536 % 8 = k ∧
        bit 15 ((0x8000 + k) % 65536) = true := by
      revert k
      decide
    obtain ⟨hres, hsel, hcap⟩ := hk (sel % 8) (Nat.mod_lt _ (by decide))
    show Dev.writeJrnlHead ((0x8000 + sel % 8) % 65536) s.accessed = _
    rw [Dev.writeJrnlHead, hres, hsel, hcap]
    rfl
  exact (answers_quiet (f := Dev.writeReg 0x50 (0x8000 + sel % 8)) rfl h (by rw [hw]; rfl)).mpr hw

/-- Settles O41: the channels of a mask move one by one in the event of its write, and a capture reads the clock of its own event. -/
theorem timersAndCaptures : Obligations.TimersAndCaptures := fun _ _ _ h hm hl =>
  ⟨fun hj hpast => tmrGo_answers h hm hl hj hpast, fun hj hpast => tmrHalt_answers h hm hl hj hpast, tbSnapshot_answers h hl,
    jrnlHeadCapture_answers h⟩

end Sys2Proof.Machine
end

section
/-!
PROOFS. LOCKNOW, the watchdog, RELOCK and the plain registers (R79, R84, R85, R99, R101-R103).
-/

namespace Sys2Proof.Machine

/-! ### Plain registers -/

theorem registerWrite_moved_answers {offset : Nat} {w : Word} {s : State} (h : s.hostUp = true) :
    Answers (.registerWrite offset w true) s fun t => t = s.accessed :=
  (answers_quiet (f := id) rfl h rfl).mpr rfl

/-- A register's write is an access. -/
theorem answers_register {offset : Nat} {w : Word} {s : State} {t : Dev} {P : Dev → Prop} (h : s.hostUp = true)
    (hw : Dev.writeReg offset w.toNat s.accessed = t) (hb : t.jrnl.buf.length < 960) (hP : P t) : Answers (.registerWrite offset w false) s P := by
  subst hw
  exact (answers_noted (f := Dev.writeReg offset w.toNat) rfl h hb).mpr hP

theorem accessed_buf {s : Dev} (h : s.hostUp = true) : s.jrnl.buf.length < 960 := (hostEvent_buf h).trans (by decide)

theorem addrLo_answers {w : Word} {s : State} (h : s.hostUp = true) : Answers (.registerWrite 0x2C w false) s fun t =>
    t = { s.accessed with host := { s.host with setAddrLo := w } } := by
  have hw : Dev.writeReg 0x2C w.toNat s.accessed = { s.accessed with host := { s.host with setAddrLo := w } } := by
    rw [Dev.writeReg, toNat_mod]
    refine (if_neg (by simp [regReserved])).trans ?_
    dsimp only
    rw [word_toNat]
    rfl
  exact answers_register h hw (accessed_buf h) rfl

theorem evcAddr_answers {w : Word} {s : State} (h : s.hostUp = true) : Answers (.registerWrite 0x28 w false) s fun t =>
    t = { s.accessed with host :=
      if w.toNat &&& 0x7000 = 0 then { s.host with evcAddr := w } else { s.host with poison := s.host.poison ||| 2 ^ 14 } } := by
  have hw : Dev.writeReg 0x28 w.toNat s.accessed = { s.accessed with host :=
      if w.toNat &&& 0x7000 = 0 then { s.host with evcAddr := w } else { s.host with poison := s.host.poison ||| 2 ^ 14 } } := by
    rw [Dev.writeReg, toNat_mod]
    by_cases hz : w.toNat &&& 0x7000 = 0
    · refine (if_neg (by simp [regReserved, hz])).trans ?_
      dsimp only
      rw [word_toNat, if_pos hz]
      rfl
    · refine (if_pos (by simpa [regReserved] using hz)).trans ?_
      rw [if_neg hz]
      rfl
  exact answers_register h hw (accessed_buf h) rfl

theorem pwrstat_answers {w : Word} {s : State} (h : s.hostUp = true) : Answers (.registerWrite 0x12 w false) s fun t =>
    t = { s.accessed with pwr := { s.accessed.pwr with
      rej := s.pwr.rej && !bit 8 w.toNat, ign := s.pwr.ign && !bit 9 w.toNat, brk := s.pwr.brk && !bit 10 w.toNat,
      loss := s.pwr.loss && !bit 12 w.toNat } } := by
  have hw : Dev.writeReg 0x12 w.toNat s.accessed = { s.accessed with pwr := { s.accessed.pwr with
      rej := s.pwr.rej && !bit 8 w.toNat, ign := s.pwr.ign && !bit 9 w.toNat, brk := s.pwr.brk && !bit 10 w.toNat,
      loss := s.pwr.loss && !bit 12 w.toNat } } := by
    have hrow : Dev.writeReg 0x12 w.toNat s.accessed = if w.toNat % 65536 &&& 0 != 0 then s.accessed.poisonBit (regPoison 0x12)
      else s.accessed.clearStatus 0x12 (w.toNat % 65536) := rfl
    rw [hrow, toNat_mod]
    exact if_neg (by simp)
  exact answers_register h hw (accessed_buf h) rfl

/-! ### Journalled registers -/

theorem irqMask_answers {w : Word} {s : State} (h : s.hostUp = true) : Answers (.registerWrite 0x24 w false) s fun t =>
    t.host = { s.host with irqMask := w } ∧ t.lastRecord = some (4, 0x24, s.host.irqMask.toNat, w.toNat, 0) ∧
      EventsOnly { s.toDev with host := t.host } t := by
  have hw : Dev.writeReg 0x24 w.toNat s.accessed =
      { s.hostEvent.note oHost (draft 0x04 0xFF 0x24 s.host.irqMask.toNat w.toNat 0) with host := { s.host with irqMask := w } } := by
    rw [Dev.writeReg, toNat_mod]
    refine (regWrite_accepted h ..).trans ?_
    rw [word_toNat, Dev.note_host]
    rfl
  refine answers_register h hw (hostEvent_note_buf h _) ⟨rfl, hostEvent_note_lastRecord h _, eventsOnly_taking [.host] fun pt hpt => ?_⟩
  simp only [eventParts, List.cons_append, List.nil_append, List.mem_cons, List.not_mem_nil, or_false, not_or] at hpt
  rw [Dev.get_with_host _ _ hpt.1, hostEvent_note_get _ (by simp [hpt])]

theorem wdtCfg_locked_answers {w : Word} {s : State} (h : s.hostUp = true) (hlock : bit 14 s.host.wdtCfg.toNat = true) :
    Answers (.registerWrite 0x56 w false) s fun t =>
      t.host = s.host ∧ t.lastRecord = some (4, 0x56, s.host.wdtCfg.toNat, w.toNat, 2) ∧ EventsOnly s.toDev t := by
  have hw : Dev.writeReg 0x56 w.toNat s.accessed = s.hostEvent.note oHost (draft 0x04 0xFF 0x56 s.host.wdtCfg.toNat w.toNat 2) := by
    rw [Dev.writeReg, toNat_mod]
    show Dev.writeWdtCfg w.toNat s.accessed = _
    rw [Dev.writeWdtCfg]
    show Dev.regWrite 0x56 w.toNat (!bit 14 s.host.wdtCfg.toNat && _) (bit 14 s.host.wdtCfg.toNat) _ s.accessed = _
    rw [hlock]
    exact regWrite_refused h ..
  refine answers_register h hw (hostEvent_note_buf h _) ⟨Dev.note_host .., hostEvent_note_lastRecord h _, eventsOnly_of_get fun pt hpt => ?_⟩
  simp only [eventParts, List.mem_cons, List.not_mem_nil, or_false, not_or] at hpt
  exact hostEvent_note_get _ (by simp [hpt])

/-! ### LOCKNOW (R99) -/

theorem locknow_answers {s : State} (h : s.hostUp = true) : Answers .locknow s fun t =>
    t.rel = { s.rel with relay := .locked, cause := 2 } ∧ t.energised = false ∧ EventsOnly { s.toDev with rel := t.rel, kw := t.kw } t := by
  have hw : Dev.writeReg 0x48 0xA5A5 s.accessed = s.hostEvent.lockRelay oHost 0xFFFF 0xFF 2 5 := by
    show s.accessed.present.lockRelay oHost 0xFFFF 0xFF 2 5 = _
    rw [present_accessed h]
  refine (answers_access (f := Dev.writeReg 0x48 0xA5A5) rfl h).mpr ?_
  rw [hw]
  refine ⟨(settle_rel ..).trans (lockRelay_rel ..), ?_, eventsOnly_rel_kw fun pt hpt => ?_⟩
  · rw [Dev.energised, settle_rel]
    exact lockRelay_energised oHost 0xFFFF 0xFF 2 5 s.hostEvent
  · simp [eventParts] at hpt
    rw [Dev.settle_get _ _ (by simp [hpt]), Dev.lockRelay_get _ _ _ _ _ _ (by simp [hpt]), hostEvent_get (by simp [hpt])]

/-! ### The watchdog (R101, R102) -/

theorem wdtRestart_eq (d : Dev) : d.wdtRestart = { d with host := { d.host with
    wdtWin := if bit 15 d.host.wdtCfg.toNat then some (d.opened (d.host.wdtCfg.toNat % 4096 * 124800)) else none } } := rfl

theorem wdtKick_answers {s : State} (h : s.hostUp = true) (hwin : s.host.wdtWin.any s.reached = false) : Answers (.wdtKick 0x6B2E) s fun t =>
    EventsOnly { s.toDev with host := t.host } t ∧ t.host = { s.host with
      wdtExpired := false, wdtWin := if bit 15 s.host.wdtCfg.toNat then some (t.opened (s.host.wdtCfg.toNat % 4096 * 124800)) else none } := by
  have hw : Dev.writeReg 0x58 0x6B2E s.accessed = Dev.wdtRestart { s.hostEvent with host := { s.host with wdtExpired := false } } := by
    have hlate : s.accessed.host.wdtWin.filter s.accessed.reached = none := by
      show s.host.wdtWin.filter s.reached = none
      cases hw : s.host.wdtWin with
      | none => rfl
      | some x =>
        rw [hw] at hwin
        exact Option.filter_some_neg (by simpa using hwin)
    show Dev.writeWdtKick 0x6B2E s.accessed = _
    rw [Dev.writeWdtKick, if_pos rfl, hlate]
    dsimp only
    rw [if_neg (by simp), present_accessed h]
    rfl
  refine (answers_noted (f := Dev.writeReg 0x58 0x6B2E) rfl h (by rw [hw]; exact accessed_buf (s := s.toDev) h)).mpr ?_
  rw [hw]
  exact ⟨rfl, rfl⟩

/-- A kick with a wrong code: its record, and behind it the expiry's own event (R102). -/
def Dev.badKick (w : Word) (s : Dev) : Dev := s.hostEvent.note oHost (draft 0x04 0xFF 0x58 0 w.toNat 2)

/-- The expiry as the watchdog's own event behind a kick. -/
def Dev.badKickExpiry (w : Word) (s : Dev) : Dev :=
  Dev.setPending 9 { s.badKick w with clock := (s.badKick w).clock.follow (s.badKick w).wantDepth 2 }

theorem wdtKick_wrong_answers {w : Word} {s : State} (h : s.hostUp = true) (hw : w ≠ 0x6B2E) (ha : field 13 12 s.host.wdtCfg.toNat = 0) :
    Answers (.wdtKick w) s fun t => t.host.wdtExpired = true ∧ t.jrnl.buf.length = s.jrnl.buf.length + 2 ∧
      EventsOnly { s.toDev with host := t.host } t := by
  have hbuf : s.jrnl.buf.length < 900 := hostEvent_buf h
  have hhost : (s.badKick w).host = s.host := Dev.note_host ..
  have hlen : (s.badKick w).jrnl.buf.length = s.jrnl.buf.length + 1 := note_buf_length (d := s.hostEvent) (by show s.jrnl.buf.length < 1024; omega) ..
  have hroot : (s.badKick w).clock.rootOn = true := by rw [Dev.badKick, Dev.note_clock]; exact hostEvent_rootOn h
  have hne : w.toNat ≠ 0x6B2E := fun he => hw (BitVec.eq_of_toNat_eq he)
  have hrow : ∃ x, Dev.writeReg 0x58 w.toNat s.accessed =
      Dev.wdtRestart (Dev.note oPower x { s.badKickExpiry w with host := { (s.badKickExpiry w).host with wdtExpired := true } }) := by
    refine ⟨resetDraft 0 (s.badKickExpiry w).host.causes (s.badKickExpiry w).host.causes, ?_⟩
    rw [Dev.writeReg, toNat_mod]
    show Dev.writeWdtKick w.toNat s.accessed = _
    rw [Dev.writeWdtKick, if_neg hne, present_accessed h]
    show Dev.wdtExpire { s.badKick w with clock := (s.badKick w).clock.follow (s.badKick w).wantDepth 2 } = _
    have hreach : Dev.reach 9 { s.badKick w with clock := (s.badKick w).clock.follow (s.badKick w).wantDepth 2 } = s.badKickExpiry w :=
      reach_running 9 ((follow_rootOn ..).trans hroot)
    have hact : field 13 12 (s.badKickExpiry w).host.wdtCfg.toNat = 0 := by
      show field 13 12 (s.badKick w).host.wdtCfg.toNat = 0
      rw [hhost, ha]
    rw [Dev.wdtExpire, hreach, hact]
    exact if_neg (by simp)
  obtain ⟨x, hrow⟩ := hrow
  have hlen2 : (Dev.note oPower x { s.badKickExpiry w with host := { (s.badKickExpiry w).host with wdtExpired := true } }).jrnl.buf.length =
      s.jrnl.buf.length + 2 := by
    rw [note_buf_length (by show (s.badKick w).jrnl.buf.length < 1024; omega)]
    show (s.badKick w).jrnl.buf.length + 1 = _
    omega
  refine (answers_noted (f := Dev.writeReg 0x58 w.toNat) rfl h (by rw [hrow]; exact hlen2.trans_lt (by omega))).mpr ?_
  rw [hrow]
  refine ⟨?_, hlen2, eventsOnly_taking [.host] fun pt hpt => ?_⟩
  · show (Dev.note oPower x { s.badKickExpiry w with host := { (s.badKickExpiry w).host with wdtExpired := true } }).host.wdtExpired = true
    rw [Dev.note_host]
  · simp only [eventParts, List.cons_append, List.nil_append, List.mem_cons, List.not_mem_nil, or_false, not_or] at hpt
    rw [wdtRestart_eq, Dev.get_with_host _ _ hpt.1, Dev.note_get _ _ _ (by simp [hpt]), Dev.get_with_host _ _ hpt.1, Dev.badKickExpiry,
      Dev.setPending_get _ _ hpt.2.2.2.2.1, Dev.get_with_clock _ _ hpt.2.2.1, Dev.badKick, hostEvent_note_get _ (by simp [hpt])]

/-! ### RELOCK (R103) -/

/-- The end of a debug session: neither sequencer stays halted (R103, R430). -/
theorem endDebug_clears (d : Dev) : d.endDebug.host.dbgUnlocked = false ∧ d.endDebug.host.dbgAllow = d.host.dbgAllow ∧
    (d.host.dbgUnlocked = true → d.endDebug.ham.a.halted = false ∧ d.endDebug.ham.b.halted = false) := by
  have hhost (e : Dev) : e.tmrFreeze.host = e.host := Dev.tmrFreeze_get (pt := .host) e (by decide)
  have hham (e : Dev) : e.tmrFreeze.ham = e.ham := Dev.tmrFreeze_get (pt := .ham) e (by decide)
  cases hu : d.host.dbgUnlocked with
  | false =>
    have he : d.endDebug = d := if_pos (by simp [hu])
    rw [he]
    exact ⟨hu, rfl, fun hx => absurd hx Bool.false_ne_true⟩
  | true =>
    rw [Dev.endDebug, if_neg (by simp [hu])]
    dsimp only
    rw [hhost, hham]
    split <;> split <;> exact ⟨rfl, rfl, fun _ => ⟨rfl, rfl⟩⟩

/-- The device in which RELOCK is judged: its record made, ALLOW as written. -/
def Dev.relocking (allow : Bool) (s : Dev) : Dev :=
  let d := s.hostEvent.note oHost (draft 0x04 0xFF 0x5A (s.accessed.readReg 0x5A).toNat (32 + b2n allow) 0)
  { d with host := { d.host with dbgAllow := allow } }

theorem relock_row {allow : Bool} {s : Dev} (h : s.hostUp = true) : ∃ old, Dev.writeReg 0x5A (32 + b2n allow) s.accessed =
    if (s.relocking allow).host.dbgUnlocked then (s.relocking allow).endDebug.noteDebug oHost old else s.relocking allow := by
  refine ⟨(s.hostEvent.note oHost (draft 0x04 0xFF 0x5A (s.accessed.readReg 0x5A).toNat (32 + b2n allow) 0)).dbgctl, ?_⟩
  have hw : Dev.writeReg 0x5A (32 + b2n allow) s.accessed = Dev.writeDbgctl (32 + b2n allow) s.accessed := by cases allow <;> rfl
  have hbad : (32 + b2n allow &&& 0xFFC0 != 0) = false := by cases allow <;> rfl
  have hlock : (!bit 0 (32 + b2n allow) || bit 5 (32 + b2n allow)) = true := by cases allow <;> rfl
  have hallow : bit 0 (32 + b2n allow) = allow := by cases allow <;> rfl
  rw [hw, Dev.writeDbgctl, hbad, regWrite_accepted h]
  dsimp only
  rw [hlock, hallow, Bool.and_true]
  rfl

theorem relock_answers {allow : Bool} {s : State} (h : s.hostUp = true) : Answers (.relock allow) s fun t => t.host.dbgUnlocked = false ∧
    t.host.dbgAllow = allow ∧ t.cru = s.cru ∧ t.rel = s.rel ∧ t.sets = s.sets ∧
    (s.host.dbgUnlocked = true → t.ham.a.halted = false ∧ t.ham.b.halted = false) := by
  obtain ⟨old, hrow⟩ := relock_row (allow := allow) h
  have hkeep {pt : Part} (hpt : pt ∉ [.host, .clock, .pwr, .jrnl, .nv]) : (s.relocking allow).get pt = s.get pt := by
    simp only [List.mem_cons, List.not_mem_nil, or_false, not_or] at hpt
    rw [Dev.relocking, Dev.get_with_host _ _ hpt.1, hostEvent_note_get _ (by simp [hpt])]
  have hlocked : (s.relocking allow).host.dbgUnlocked = s.host.dbgUnlocked := by
    show (s.hostEvent.note oHost _).host.dbgUnlocked = _
    rw [Dev.note_host]
    rfl
  refine (answers_access (f := Dev.writeReg 0x5A (32 + b2n allow)) rfl h).mpr ?_
  rw [hrow, hlocked]
  simp only [settle_host, settle_cru, settle_rel, settle_sets, settle_ham]
  cases hu : s.host.dbgUnlocked with
  | false =>
    rw [if_neg Bool.false_ne_true]
    exact ⟨hlocked.trans hu, rfl, hkeep (pt := .cru) (by decide), hkeep (pt := .rel) (by decide), hkeep (pt := .sets) (by decide),
      fun hx => absurd hx Bool.false_ne_true⟩
  | true =>
    obtain ⟨hun, hal, hhalt⟩ := endDebug_clears (s.relocking allow)
    have hnote {pt : Part} (hpt : pt ∉ [.clock, .jrnl, .evc, .nv]) : ((s.relocking allow).endDebug.noteDebug oHost old).get pt =
        (s.relocking allow).endDebug.get pt := Dev.noteDebug_get _ _ _ hpt
    have hend {pt : Part} (hpt : pt ∉ [.clock, .pwr, .jrnl, .evc, .nv, .host, .tmr, .ham]) :
        ((s.relocking allow).endDebug.noteDebug oHost old).get pt = s.get pt := by
      simp only [List.mem_cons, List.not_mem_nil, or_false, not_or] at hpt
      rw [hnote (by simp [hpt]), Dev.endDebug_get _ (by simp [hpt]), hkeep (by simp [hpt])]
    have hh := hnote (pt := .host) (by decide)
    have hm := hnote (pt := .ham) (by decide)
    simp only [Dev.get] at hh hm
    rw [if_pos rfl, hh, hm]
    exact ⟨hun, hal, hend (pt := .cru) (by decide), hend (pt := .rel) (by decide), hend (pt := .sets) (by decide),
      fun _ => hhalt (hlocked.trans hu)⟩

/-- Settles O42: each of these writes is an access of the host port; the journalled ones leave their record, the plain ones only their
register. -/
theorem registerWrites : Obligations.RegisterWrites := fun _ _ _ _ h =>
  ⟨locknow_answers h, wdtKick_answers h, wdtKick_wrong_answers h, relock_answers h, irqMask_answers h, wdtCfg_locked_answers h,
    registerWrite_moved_answers h, addrLo_answers h, evcAddr_answers h, pwrstat_answers h⟩

end Sys2Proof.Machine
end

section
/-!
PROOFS. The event controller's window and the settings window (R97, R98, R130-R134, R151-R157).
-/

namespace Sys2Proof.Machine

/-! ### SET_DATA: a plain setting's write -/

/-- What an accepted write of a setting brings about where it is not one of the three that act on a unit's state besides (R132). -/
theorem settingWritten_plain {a v : Nat} (d : Dev) (hloop : loopAt a = none) (hu : a / 0x10000 ≠ 0x0C) (ha : a ∉ [0x000020, 0x0B0030, 0x0B0051]) :
    ∃ uhf atlas, d.settingWritten a v = { d.putSetting a v with uhf := uhf, atlas := atlas } ∧
      (a ∉ [0x030000, 0x030001, 0x080001] → uhf = d.uhf ∧ atlas = d.atlas) := by
  simp only [List.mem_cons, List.not_mem_nil, or_false, not_or] at ha
  obtain ⟨h20, h30, h51⟩ := ha
  have hgo : a ≠ 0x0C0200 := fun he => hu (by rw [he])
  have hhalt : a ≠ 0x0C0201 := fun he => hu (by rw [he])
  have htmr : ¬ (decide (0x0C0000 ≤ a) && decide (a < 0x0C0200)) = true := by simp; omega
  rw [Dev.settingWritten, hloop]
  dsimp only
  rw [if_neg hgo, if_neg hhalt, if_neg htmr, if_neg h30, if_neg h20, if_neg h51]
  by_cases huhf : a = 0x030000 ∨ a = 0x030001
  · rw [if_pos (by simpa using huhf)]
    exact ⟨_, _, rfl, fun hx => absurd huhf (by simp at hx; tauto)⟩
  · rw [if_neg (by simpa using huhf)]
    by_cases hat : a = 0x080001 ∧ v = 0
    · rw [if_pos (by simpa using hat)]
      exact ⟨_, _, rfl, fun hx => absurd hat.1 (by simp at hx; tauto)⟩
    · rw [if_neg (by simpa using hat)]
      exact ⟨_, _, rfl, fun _ => ⟨rfl, rfl⟩⟩

/-- A write of `SET_DATA` in its event. -/
theorem writeSetData_row {w : Word} {s : Dev} (h : s.hostUp = true) (hu : s.setAddr / 0x10000 ≠ 0x0C) {cause : Nat} {d : Dev}
    (hw : s.hostEvent.writeSetting oHost false s.setAddr w.toNat = (cause, d)) (hne : cause ≠ 4) :
    Dev.writeReg 0x30 w.toNat s.accessed = (d.setOutcome cause).setAdvance := by
  have hdue : s.accessed.dueBefore s.accessed.setAddr = s.accessed := if_neg hu
  show Dev.writeSetData (w.toNat % 65536) s.accessed = _
  rw [toNat_mod, Dev.writeSetData, hdue, present_accessed h, show s.accessed.setAddr = s.setAddr from rfl, hw]
  dsimp only
  rw [if_neg hne]

/-- `SET_STAT` after a write that is no host error, and the index that may advance (R133, R134). -/
theorem outcome_host {cause : Nat} (d : Dev) (h : cause ≤ 3) : (d.setOutcome cause).setAdvance = { d with host := (d.setOutcome cause).setAdvance.host } ∧
    (d.setOutcome cause).setAdvance.host.setOk = (cause == 0) ∧
    (d.setOutcome cause).setAdvance.host.setLocked = (d.host.setLocked || cause == 1) ∧
    (d.setOutcome cause).setAdvance.host.setProt = (d.host.setProt || cause == 2) ∧
    (d.setOutcome cause).setAdvance.host.setRange = (d.host.setRange || cause == 3) := by
  have hout : d.setOutcome cause = { d with host := { d.host with
      setOk := cause == 0, setLocked := d.host.setLocked || cause == 1, setProt := d.host.setProt || cause == 2,
      setRange := d.host.setRange || cause == 3 } } := by
    interval_cases cause <;> simp [Dev.setOutcome]
  rw [hout]
  unfold Dev.setAdvance
  split <;> exact ⟨rfl, rfl, rfl, rfl, rfl⟩

/-- A judgement outside journal hold (R134). -/
theorem judge_le {a w : Nat} {f : Bool} {d : Dev} (hh : d.jrnl.hold = false) (hne : d.judge f a w ≠ 4) : d.judge f a w ≤ 3 := by
  have hcases : d.judge f a w ∈ [4, 1, 2, 3, 0] := by
    unfold Dev.judge
    simp only [hh, Bool.false_eq_true, if_false]
    repeat' split
    all_goals simp
  simp only [List.mem_cons, List.not_mem_nil, or_false] at hcases
  omega

/-- What a judged write leaves before `SET_STAT` shows it. -/
structure SettingLeft (s : Dev) (r : SettingRow) (v cause : Nat) (d : Dev) : Prop where
  host : d.host = s.host
  sets : d.sets = if cause = 0 then cellPut (settingDefault r.addr) r.addr v s.sets else s.sets
  record : d.lastRecord = some (if cause = 0 then 1 else 2, r.addr, s.value r, v, cause)
  units : r.addr ∉ [0x030000, 0x030001, 0x080001] → d.uhf = s.uhf ∧ d.atlas = s.atlas
  others : ∀ pt, pt ∉ [.sets, .setLow, .uhf, .atlas] ++ eventParts → d.get pt = s.get pt
  room : d.jrnl.buf.length < 960

theorem settingLeft_note {s : Dev} {r : SettingRow} {v cause cls unit : Nat} (h : s.hostUp = true) (hcls : cls = if cause = 0 then 1 else 2)
    (hne : cause ≠ 0) : SettingLeft s r v cause (s.hostEvent.note oHost (draft cls unit r.addr (s.value r) v cause)) where
  host := Dev.note_host ..
  sets := by rw [if_neg hne]; exact Dev.note_sets ..
  record := by rw [hostEvent_note_lastRecord h, hcls]; rfl
  units _ := ⟨Dev.note_uhf .., Dev.note_atlas ..⟩
  others pt hpt := by
    simp only [eventParts, List.cons_append, List.nil_append, List.mem_cons, List.not_mem_nil, or_false, not_or] at hpt
    exact hostEvent_note_get _ (by simp [hpt])
  room := hostEvent_note_buf h _

theorem settingLeft_accepted {s : Dev} {r : SettingRow} {v unit : Nat} (h : s.hostUp = true) (hloop : loopAt r.addr = none)
    (hu : r.addr / 0x10000 ≠ 0x0C) (hspec : r.addr ∉ [0x000020, 0x0B0030, 0x0B0051]) :
    SettingLeft s r v 0 (((s.hostEvent.note oHost (draft 1 unit r.addr (s.value r) v 0)).settingWritten r.addr v).dropLow r false) := by
  obtain ⟨uhf, atlas, hset, hkeep⟩ := settingWritten_plain (v := v) (s.hostEvent.note oHost (draft 1 unit r.addr (s.value r) v 0)) hloop hu hspec
  have hsets : (s.hostEvent.note oHost (draft 1 unit r.addr (s.value r) v 0)).sets = s.sets := Dev.note_sets ..
  have hrec := hostEvent_note_lastRecord h (draft 1 unit r.addr (s.value r) v 0)
  rw [hset, dropLow_kept]
  refine ⟨Dev.note_host .., ?_, hrec, fun hx => ?_, fun pt hpt => ?_, hostEvent_note_buf h (draft 1 unit r.addr (s.value r) v 0)⟩
  · show cellPut (settingDefault r.addr) r.addr v (s.hostEvent.note oHost (draft 1 unit r.addr (s.value r) v 0)).sets = _
    rw [hsets]
    rfl
  · obtain ⟨h1, h2⟩ := hkeep hx
    exact ⟨h1.trans (Dev.note_uhf ..), h2.trans (Dev.note_atlas ..)⟩
  · have hn : (s.hostEvent.note oHost (draft 1 unit r.addr (s.value r) v 0)).get pt = s.get pt :=
      hostEvent_note_get _ (by simp [eventParts] at hpt; simp [hpt])
    rw [← hn]
    cases pt <;> simp [eventParts] at hpt <;> rfl

theorem setDataWrite_answers {w : Word} {r : SettingRow} {s : State} (h : s.hostUp = true) (hrow : settingRow s.setAddr = some r)
    (haddr : r.addr = s.setAddr) (hone : r.words = 1) (hlock : r.lock ≠ 1) (hu : r.addr / 65536 ≠ 0x0C) (hloop : loopAt r.addr = none)
    (hspec : r.addr ∉ [0x000020, 0x0B0030, 0x0B0051]) {cause : Nat} (hc : s.judge false r.addr w.toNat = cause) (hne : cause ≠ 4) :
    Answers (.setDataWrite w) s fun t =>
        t.host.setOk = (cause == 0) ∧ t.host.setLocked = (s.host.setLocked || cause == 1) ∧
        t.host.setProt = (s.host.setProt || cause == 2) ∧ t.host.setRange = (s.host.setRange || cause == 3) ∧
        t.sets = (if cause = 0 then cellPut (settingDefault r.addr) r.addr (s.attempt r r.addr w.toNat) s.sets else s.sets) ∧
        t.lastRecord = some (if cause = 0 then 1 else 2, r.addr, s.value r, s.attempt r r.addr w.toNat, cause) ∧
        (r.addr ∉ [0x030000, 0x030001, 0x080001] → t.uhf = s.uhf ∧ t.atlas = s.atlas) ∧
        EventsOnly { s.toDev with host := t.host, sets := t.sets, setLow := t.setLow, uhf := t.uhf, atlas := t.atlas } t := by
  have hp : PlainSetting r := ⟨hone, hlock, .inl hu, hloop, by simp at hspec; exact hspec.2.1⟩
  have hle : cause ≤ 3 := hc ▸ judge_le (hostUp_iff.mp h).2.2.2.1 (hc ▸ hne)
  have hbuf : s.jrnl.buf.length < 900 := hostEvent_buf h
  have hroom : s.hostEvent.jrnl.buf.length < 1024 := by show s.jrnl.buf.length < 1024; omega
  rw [haddr] at hu hloop hspec hc ⊢
  have hjudge : s.hostEvent.judge false s.setAddr w.toNat = cause := (judge_congr (d := s.toDev) (e := s.hostEvent) hp rfl hrow rfl rfl).trans hc
  have hval : s.hostEvent.value r = s.value r := value_congr (d := s.toDev) (e := s.hostEvent) hp rfl
  have hatt : s.hostEvent.attempt r s.setAddr w.toNat = s.attempt r s.setAddr w.toNat := attempt_congr (d := s.toDev) (e := s.hostEvent) hp rfl ..
  have hrest : ∃ d, SettingLeft s.toDev r (s.attempt r s.setAddr w.toNat) cause d ∧
      Dev.writeReg 0x30 w.toNat s.accessed = (d.setOutcome cause).setAdvance := by
    by_cases h0 : cause = 0
    · subst h0
      have hw := writeSetData_row h hu (writeSetting_accepted oHost hrow hone hjudge) hne
      rw [hval, hatt] at hw
      rw [← haddr] at hw hu hloop hspec ⊢
      exact ⟨_, settingLeft_accepted h hloop hu hspec, hw⟩
    · have hw := writeSetData_row h hu (writeSetting_refused oHost hrow hone hjudge h0 (hostUp_iff.mp h).2.2.2.1) hne
      rw [hval, hatt] at hw
      rw [← haddr] at hw ⊢
      exact ⟨_, settingLeft_note h (if_neg h0).symm h0, hw⟩
  obtain ⟨d, hd, hw⟩ := hrest
  obtain ⟨hframe, hok, hlk, hpr, hrg⟩ := outcome_host d hle
  rw [hframe] at hw
  rw [hd.host] at hlk hpr hrg
  refine (answers_noted (f := Dev.writeReg 0x30 w.toNat) rfl h (by rw [hw]; exact hd.room)).mpr ?_
  rw [hw, ← haddr]
  rw [← haddr] at hd
  refine ⟨hok, hlk, hpr, hrg, hd.sets, hd.record, hd.units, eventsOnly_taking [.host, .sets, .setLow, .uhf, .atlas] fun pt hpt => ?_⟩
  simp only [List.cons_append, List.nil_append, List.mem_cons, not_or] at hpt
  rw [Dev.get_with_host _ _ hpt.1]
  exact hd.others pt (by simp [hpt])

/-! ### SET_DATA: a read (R133) -/

/-- A row that makes no record, by what it leaves. -/
theorem answers_still {i : Instr} {s : State} {f : Dev → Dev} {t : Dev} {P : Dev → Prop} (he : exec i s = run f s) (hf : f s.toDev = t)
    (hn : t.jrnl.nextNumber = s.jrnl.nextNumber) (hP : P t) : Answers i s P := by
  subst hf
  exact answers_run he hn hP

theorem setDataRead_moved_answers {s : State} (h : s.hostUp = true) : Answers (.setDataRead true) s fun t =>
    t = { s.accessed with host := { s.host with data := 0xFFFF } } := by
  refine (answers_iff (f := setDataRead true) rfl).mpr ?_
  rw [setDataRead, reads_access h]
  exact settle_same rfl

theorem setDataRead_answers {s : State} (h : s.hostUp = true) : Answers (.setDataRead false) s fun t =>
    t.host.data = s.readSetting s.setAddr ∧ t.host.setOk = true ∧ t.host.setAddrHi = s.host.setAddrHi ∧
      t = { s.accessed with host := t.host } ∧
      t.host.setAddrLo = if bit 15 s.host.setAddrHi.toNat then s.host.setAddrLo + 1 else s.host.setAddrLo := by
  have hf : setDataRead false s.toDev = Dev.setAdvance { s.accessed with host := { s.host with data := s.readSetting s.setAddr, setOk := true } } :=
    (reads_access h).trans rfl
  refine answers_still (f := setDataRead false) rfl hf (by rw [setAdvance_frame]; rfl) ?_
  rw [Dev.setAdvance]
  dsimp only
  split
  · exact ⟨rfl, rfl, rfl, rfl, rfl⟩
  · exact ⟨rfl, rfl, rfl, rfl, rfl⟩

/-! ### CLAIM (R157) -/

/-- `EVC_ADDR` put at the claim index of a line. -/
def Dev.indexed (line : Nat) (s : Dev) : Dev :=
  { s.accessed with host := { s.host with evcAddr := word (s.host.evcAddr.toNat / 0x1000 * 0x1000 + 0x250 + line % 4) } }

theorem claim_row {line : Nat} {moved : Bool} {s : Dev} (h : s.hostUp = true) : claim line moved s =
    (if moved then fun d => { d with host := { d.host with data := 0xFFFF } } else Dev.readEvcData) (s.indexed line) := by
  have hi : Dev.access (fun d => { d with host := { d.host with
      evcAddr := word (d.host.evcAddr.toNat / 0x1000 * 0x1000 + 0x250 + line % 4) } }) s = s.indexed line := access_hostUp h
  have hup : (s.indexed line).hostUp = true := h
  rw [claim, hi, reads_access hup]
  rfl

theorem claim_moved_answers {line : Nat} {s : State} (h : s.hostUp = true) : Answers (.claim line true) s fun t =>
    t.host.data = 0xFFFF ∧ t = { s.accessed with host := t.host } := by
  exact answers_still (f := claim line true) rfl (claim_row h) rfl ⟨rfl, rfl⟩

theorem evcAdvance_frame (d : Dev) : d.evcAdvance = { d with host := { d.host with evcAddr := d.evcAdvance.host.evcAddr } } := by
  unfold Dev.evcAdvance
  dsimp only
  split <;> rfl

theorem claimed_eq (line : Nat) (d : Dev) : d.claimed line = { d with evc := match d.claimable line with
    | none => d.evc
    | some n => if d.sticks n then d.evc else { d.evc with pendH := d.evc.pendH.set n none } } := by
  unfold Dev.claimed
  cases d.claimable line with
  | none => rfl
  | some n =>
    dsimp only
    split <;> rfl

theorem claim_answers {line : Nat} {s : State} (h : s.hostUp = true) : Answers (.claim line false) s fun t =>
    t.host.data = s.claimWord (line % 4) ∧ t = { s.accessed with host := t.host, evc := t.evc } ∧
      t.evc = match s.claimable (line % 4) with
        | none => s.evc
        | some n => if s.sticks n then s.evc else { s.evc with pendH := s.evc.pendH.set n none } := by
  have hk : line % 4 < 4 := Nat.mod_lt _ (by decide)
  have haddr : (s.indexed line).host.evcAddr.toNat % 4096 = 0x250 + line % 4 := by
    have := s.host.evcAddr.isLt
    show (word (s.host.evcAddr.toNat / 0x1000 * 0x1000 + 0x250 + line % 4)).toNat % 4096 = _
    rw [toNat_word (by omega)]
    omega
  have hread : (s.indexed line).readEvc (0x250 + line % 4) = s.claimWord (line % 4) := by
    have hi : line % 4 = 0 ∨ line % 4 = 1 ∨ line % 4 = 2 ∨ line % 4 = 3 := by omega
    rcases hi with hi | hi | hi | hi <;> rw [hi] <;> rfl
  have hrow : claim line false s.toDev = Dev.evcAdvance { (s.indexed line).claimed (line % 4) with
      host := { ((s.indexed line).claimed (line % 4)).host with data := s.claimWord (line % 4) } } := by
    rw [claim_row h]
    show (s.indexed line).readEvcData = _
    rw [Dev.readEvcData, haddr, hread]
    dsimp only
    rw [if_pos (by simp; omega), show 0x250 + line % 4 - 0x250 = line % 4 by omega]
  rw [evcAdvance_frame, claimed_eq] at hrow
  exact answers_still (f := claim line false) rfl hrow rfl ⟨rfl, rfl, rfl⟩

/-! ### EVC_DATA_WRITE of a source's configuration (R97, R152, R153) -/

/-- The value that a write gives a source's configuration (R152). -/
def Dev.srcCfgOf (i w : Nat) (s : Dev) : Nat := if sourceProg i then w % 16384 else w % 1024 + field 13 10 (s.srcCfg i) * 1024

theorem srcCfgOf_lt (i w : Nat) (s : Dev) : s.srcCfgOf i w < 65536 := by
  have hf : field 13 10 (s.srcCfg i) < 16 := Nat.mod_lt _ (by decide)
  unfold Dev.srcCfgOf
  split <;> omega

theorem readEvc_srcCfg {i : Nat} (hi : i < 0xA0) (d : Dev) : (d.readEvc i).toNat = d.srcCfg i := by
  have ha : evcAssigned i = true := by simp [evcAssigned, hi]
  rw [Dev.readEvc, ha]
  exact congrArg BitVec.toNat (if_pos hi)

theorem writeSrcCfg_srcCfg {i w : Nat} {d : Dev} (hi : i < d.evc.srcCfg.length) : (d.writeSrcCfg i w).srcCfg i = d.srcCfgOf i w ∧
    ∀ k, k ≠ i → (d.writeSrcCfg i w).srcCfg k = d.srcCfg k := by
  refine ⟨?_, fun k hk => ?_⟩
  · show ((d.evc.srcCfg.set i (word (d.srcCfgOf i w))).getD i 0).toNat = _
    rw [List.getD_eq_getElem?_getD, List.getElem?_set_self hi, Option.getD_some, toNat_word (srcCfgOf_lt ..)]
  · show ((d.evc.srcCfg.set i (word (d.srcCfgOf i w))).getD k 0).toNat = (d.evc.srcCfg.getD k 0).toNat
    rw [List.getD_eq_getElem?_getD, List.getElem?_set_ne (Ne.symm hk), List.getD_eq_getElem?_getD]

theorem writeEvcData_row {w : Word} {i cause : Nat} {s d : Dev} (h : s.hostUp = true) (hi : s.host.evcAddr.toNat % 4096 = i)
    (hw : s.hostEvent.writeEvc i w.toNat = (cause, d)) (hne : cause ≠ 4) : Dev.writeReg 0x2A w.toNat s.accessed = d.evcAdvance := by
  show Dev.writeEvcData (w.toNat % 65536) s.accessed = _
  rw [toNat_mod, Dev.writeEvcData, present_accessed h, show s.accessed.host.evcAddr = s.host.evcAddr from rfl, hi, hw]
  dsimp only
  rw [if_neg hne]

/-- A write of a source's configuration in its event, with `EVC_STAT.OK`. -/
def Dev.configured (i w : Nat) (s : Dev) : Dev :=
  { s.hostEvent.writeSrcCfg i w with evc := { (s.hostEvent.writeSrcCfg i w).evc with statOk := true } }

theorem evcDataWrite_accepted_answers {w : Word} {i : Nat} {s : State} (h : s.hostUp = true) (hl : s.evc.srcCfg.length = 160)
    (hi : s.host.evcAddr.toNat % 4096 = i) (hlt : i < 0xA0) (hj : s.judgeEvc i w.toNat = 0) : Answers (.evcDataWrite w) s fun t =>
      t.srcCfg i = s.srcCfgOf i w.toNat ∧ (∀ k, k ≠ i → t.srcCfg k = s.srcCfg k) ∧ t.evc.statOk = true ∧
        t.lastRecord = some (3, i, s.srcCfg i, s.srcCfgOf i w.toNat, 0) ∧
        t.evc.srcFilt = s.evc.srcFilt ∧ t.evc.wcfg = s.evc.wcfg ∧ EventsOnly { s.toDev with host := t.host } t := by
  obtain ⟨hsame, hother⟩ := writeSrcCfg_srcCfg (w := w.toNat) (d := s.hostEvent) (show i < s.evc.srcCfg.length by omega)
  have hbuf : s.jrnl.buf.length < 900 := hostEvent_buf h
  have hroom : (s.configured i w.toNat).jrnl.buf.length < 1024 := by show s.jrnl.buf.length < 1024; omega
  have hw : s.hostEvent.writeEvc i w.toNat =
      (0, (s.configured i w.toNat).note oHost (draft 3 0xFF i (s.srcCfg i) (s.srcCfgOf i w.toNat) 0)) := by
    have ha : evcAssigned i = true := by simp [evcAssigned, hlt]
    have hwr : s.hostEvent.evcWritten i w.toNat = s.hostEvent.writeSrcCfg i w.toNat := if_pos hlt
    have hnew : (if evcAssigned i && (decide (i < 0x250) || decide (0x258 ≤ i)) then ((s.hostEvent.writeSrcCfg i w.toNat).readEvc i).toNat
        else (s.hostEvent.readEvc i).toNat) = s.srcCfgOf i w.toNat := by
      rw [if_pos (by simp [ha]; omega), readEvc_srcCfg hlt, hsame]
      rfl
    unfold Dev.writeEvc
    dsimp only
    rw [if_pos (show s.hostEvent.judgeEvc i w.toNat = 0 from hj), hwr, hnew, readEvc_srcCfg hlt]
    rfl
  have hrow := writeEvcData_row h hi hw (by decide)
  rw [evcAdvance_frame] at hrow
  have hevc : ((s.configured i w.toNat).note oHost (draft 3 0xFF i (s.srcCfg i) (s.srcCfgOf i w.toNat) 0)).evc = (s.configured i w.toNat).evc :=
    Dev.note_evc ..
  refine (answers_noted (f := Dev.writeReg 0x2A w.toNat) rfl h ?_).mpr ?_
  · rw [hrow]
    show ((s.configured i w.toNat).note oHost _).jrnl.buf.length < 960
    rw [note_buf_length hroom]
    show s.jrnl.buf.length + 1 < 960
    omega
  · rw [hrow]
    refine ⟨?_, fun k hk => ?_, ?_, note_lastRecord hroom .., ?_, ?_, eventsOnly_taking [.host] fun pt hpt => ?_⟩
    · rw [Dev.srcCfg, hevc]
      exact hsame
    · rw [Dev.srcCfg, hevc]
      exact hother k hk
    · rw [hevc]; rfl
    · rw [hevc]; rfl
    · rw [hevc]; rfl
    · simp only [eventParts, List.cons_append, List.nil_append, List.mem_cons, List.not_mem_nil, or_false, not_or] at hpt
      rw [Dev.get_with_host _ _ hpt.1, Dev.note_get _ _ _ (by simp [hpt])]
      cases pt <;> simp at hpt <;> rfl

theorem evcDataWrite_locked_answers {w : Word} {i : Nat} {s : State} (h : s.hostUp = true)
    (hi : s.host.evcAddr.toNat % 4096 = i) (hlt : i < 0xA0) (hj : s.judgeEvc i w.toNat = 1) : Answers (.evcDataWrite w) s fun t =>
      t.evc = { s.evc with statOk := false, statLocked := true } ∧ t.lastRecord = some (3, i, s.srcCfg i, w.toNat, 1) ∧
        EventsOnly { s.toDev with host := t.host } t := by
  have hevc : (s.hostEvent.note oHost (draft 3 0xFF i (s.srcCfg i) w.toNat 1)).evc = s.evc := Dev.note_evc ..
  have hw : s.hostEvent.writeEvc i w.toNat = (1, { s.hostEvent.note oHost (draft 3 0xFF i (s.srcCfg i) w.toNat 1) with
      evc := { s.evc with statOk := false, statLocked := true } }) := by
    have hnote (x : Draft) : s.hostEvent.noteRefused oHost x = s.hostEvent.note oHost x := if_neg (by
      show ¬ s.jrnl.hold = true
      simp [(hostUp_iff.mp h).2.2.2.1])
    unfold Dev.writeEvc
    dsimp only
    rw [show s.hostEvent.judgeEvc i w.toNat = 1 from hj, if_neg (by decide), hnote, readEvc_srcCfg hlt,
      show s.hostEvent.srcCfg i = s.srcCfg i from rfl, hevc]
    simp
  have hrow := writeEvcData_row h hi hw (by decide)
  rw [evcAdvance_frame] at hrow
  refine (answers_noted (f := Dev.writeReg 0x2A w.toNat) rfl h (by rw [hrow]; exact hostEvent_note_buf h _)).mpr ?_
  rw [hrow]
  refine ⟨rfl, hostEvent_note_lastRecord h _, eventsOnly_taking [.host] fun pt hpt => ?_⟩
  simp only [eventParts, List.cons_append, List.nil_append, List.mem_cons, List.not_mem_nil, or_false, not_or] at hpt
  rw [Dev.get_with_host _ _ hpt.1, Dev.get_with_evc _ _ (by simp [hpt]), hostEvent_note_get _ (by simp [hpt])]

/-- Settles O40: a claim, a configuration, and a plain setting's write and read, each through its window. -/
theorem registerWindows : Obligations.RegisterWindows := by
  refine ⟨fun line w s h hl => ⟨claim_moved_answers h, claim_answers h, fun i hi hlt => ⟨?_, evcDataWrite_locked_answers h hi hlt⟩⟩,
    fun w r s h hrow haddr hone hlock hu hloop hspec => ⟨fun cause hc hne => ?_, setDataRead_moved_answers h, setDataRead_answers h⟩⟩
  · exact evcDataWrite_accepted_answers h hl hi hlt
  · exact setDataWrite_answers h hrow haddr hone hlock hu hloop hspec hc hne

end Sys2Proof.Machine
end

section
/-!
PROOFS. The SYS operations of a sequencer, and the entry and return of a handler (R411, R415, R416).
-/

namespace Sys2Proof.Machine

/-! ### The other sequencer, and the source lists of one -/

theorem onSeq_other {q : Nat} (hq : q < 2) (f : Seqr → Seqr) (d : Dev) : (d.onSeq q f).seqr (1 - q) = d.seqr (1 - q) := by
  obtain rfl | rfl : q = 0 ∨ q = 1 := by omega
  · rfl
  · rfl

/-- A change of a sequencer depends on the sequencer's present state alone. -/
theorem onSeq_congr {q : Nat} {f g : Seqr → Seqr} {d : Dev} (h : f (d.seqr q) = g (d.seqr q)) : d.onSeq q f = d.onSeq q g := by
  unfold Dev.onSeq
  unfold Dev.seqr at h
  split at h
  · next hq => rw [if_pos hq, if_pos hq, h]
  · next hq => rw [if_neg hq, if_neg hq, h]

theorem advanced_congr {q : Nat} {f g : Seqr → Seqr} {d : Dev} (h : HWord) (hfg : f (d.seqr q) = g (d.seqr q)) :
    d.advanced q h f = d.advanced q h g :=
  onSeq_congr (by rw [hfg])

/-- The active sources of a sequencer as `f` leaves them. -/
def Dev.onActive (q : Nat) (f : List Nat → List Nat) (d : Dev) : Dev :=
  { d with evc := if q = 0 then { d.evc with actA := f d.evc.actA } else { d.evc with actB := f d.evc.actB } }

theorem onActive_actOf (q : Nat) (f : List Nat → List Nat) (d : Dev) : (d.onActive q f).actOf q = f (d.actOf q) := by
  by_cases hq : q = 0
  · simp only [Dev.onActive, Dev.actOf, if_pos hq]
  · simp only [Dev.onActive, Dev.actOf, if_neg hq]

theorem onActive_frame (q : Nat) (f : List Nat → List Nat) (d : Dev) : d.onActive q f =
    { d with evc := { d.evc with actA := (d.onActive q f).evc.actA, actB := (d.onActive q f).evc.actB } } := by
  by_cases hq : q = 0
  · simp only [Dev.onActive, if_pos hq]
  · simp only [Dev.onActive, if_neg hq]

theorem onActive_seqr (p q : Nat) (f : List Nat → List Nat) (d : Dev) : (d.onActive q f).seqr p = d.seqr p := rfl

theorem onActive_pendOf (p q : Nat) (f : List Nat → List Nat) (d : Dev) : (d.onActive q f).pendOf p = d.pendOf p := by
  rw [onActive_frame]
  rfl

/-! ### The rows at their words -/

section
variable {q op : Nat} {d : Dev}

/-- A row of one operation at its word, whose body names its sequencer by `q % 2`. -/
theorem sysRow (body : HWord → Seqr → Dev → HOut) {cls : Nat} (h : d.atWord q cls op = true) :
    Dev.instr q cls [op] body d = (body (d.seqr q).fetch (d.seqr q) d).leaves q d :=
  instr_of_atWord body h (List.mem_singleton_self op)

theorem lt_of_atWord {cls : Nat} (h : d.atWord q cls op = true) : q < 2 := (atWord_iff.mp h).1

theorem haltOp_done (h : d.atWord q 7 0 = true) (hi : (d.seqr q).fetch.iBits = 0) (hn : (d.seqr q).num (d.seqr q).fetch.a ≤ 512) :
    haltOp q d =
      d.endScript q 0 (Result.gives .done (bytesToWords ((d.seqr q).ob.take (2 * (d.seqr q).num (d.seqr q).fetch.a)))) := by
  rw [haltOp, sysRow _ h]
  simp only [hi, if_neg (Nat.not_lt.mpr hn), Nat.mod_eq_of_lt (lt_of_atWord h)]
  rfl

theorem haltOp_long (h : d.atWord q 7 0 = true) (hi : (d.seqr q).fetch.iBits = 0) (hn : 512 < (d.seqr q).num (d.seqr q).fetch.a) :
    haltOp q d = d.endScript q 3 (Result.plain .stateConflict) := by
  rw [haltOp, sysRow _ h]
  simp only [hi, if_pos hn]
  rfl

/-- The status that HALT selects for a script that is not done (R411). -/
def haltStatus (i : Nat) : Status := if i = 1 then .authFail else if i = 2 then .noResponse else .stateConflict

theorem haltOp_fails (h : d.atWord q 7 0 = true) (hi : 1 ≤ (d.seqr q).fetch.iBits) :
    haltOp q d = d.endScript q 0 (Result.gives (haltStatus (d.seqr q).fetch.iBits) []) := by
  rw [haltOp, sysRow _ h]
  simp only [Nat.mod_eq_of_lt (lt_of_atWord h)]
  match hk : (d.seqr q).fetch.iBits, hi with
  | 1, _ => rfl
  | 2, _ => rfl
  | n + 3, _ => rfl

theorem retiOp_empty (h : d.atWord q 7 1 = true) (hf : (d.seqr q).frames = []) :
    retiOp q d = d.endScript q 6 (Result.plain .stateConflict) := by
  rw [retiOp, sysRow _ h]
  simp only [hf]
  rfl

/-- A sequencer with its newest frame restored (R416). -/
def Seqr.returned (f : Frame) (fs : List Frame) (u : Seqr) : Seqr :=
  { u with pc := f.pc, flags := f.flags, prog := f.prog, w := u.w.take 12 ++ f.w12, frames := fs, wait := f.wait }

theorem retiOp_returns (h : d.atWord q 7 1 = true) {f : Frame} {fs : List Frame} (hf : (d.seqr q).frames = f :: fs) :
    retiOp q d = (d.onSeq q (Seqr.returned f fs)).onActive q (fun l => l.erase f.source) := by
  rw [retiOp, sysRow _ h]
  simp only [hf, Nat.mod_eq_of_lt (lt_of_atWord h)]
  rfl

/-- The flags with IE set to a value's lowest bit (R411). -/
def withIe (v flags : Nat) : Nat := flags % 16 + 16 * (v % 2) + 32 * (flags / 32)

theorem bit_withIe (v flags : Nat) : bit 4 (withIe v flags) = bit 0 v ∧ ∀ i, i ≠ 4 → bit i (withIe v flags) = bit i flags := by
  have hlow : flags % 16 + 16 * (v % 2) < 2 ^ 5 := by omega
  have hsplit : withIe v flags = 2 ^ 5 * (flags / 32) + (flags % 16 + 16 * (v % 2)) := by
    unfold withIe
    omega
  have hbit : ∀ i, bit i (withIe v flags) = if i < 5 then (flags % 16 + 16 * (v % 2)).testBit i else (flags / 32).testBit (i - 5) := by
    intro i
    rw [bit, hsplit, Nat.testBit_two_pow_mul_add _ hlow]
  have hin : ∀ i, (flags % 16 + 16 * (v % 2)).testBit i = if i < 4 then flags.testBit i else (v % 2).testBit (i - 4) := by
    intro i
    have hl : flags % 16 < 2 ^ 4 := by omega
    have he : flags % 16 + 16 * (v % 2) = 2 ^ 4 * (v % 2) + flags % 2 ^ 4 := by omega
    rw [he, Nat.testBit_two_pow_mul_add _ (by omega : flags % 2 ^ 4 < 2 ^ 4)]
    split
    · next hi => rw [Nat.testBit_mod_two_pow, decide_eq_true hi, Bool.true_and]
    · rfl
  constructor
  · rw [hbit, if_pos (by decide), hin, if_neg (by decide)]
    show (v % 2 ^ 1).testBit 0 = v.testBit 0
    rw [Nat.testBit_mod_two_pow]
    rfl
  · intro i hi
    rw [hbit]
    by_cases h5 : i < 5
    · rw [if_pos h5, hin, if_pos (by omega)]
      rfl
    · rw [if_neg h5, show flags / 32 = flags / 2 ^ 5 from rfl, Nat.testBit_div_two_pow, bit]
      congr 1
      omega

theorem ienOp_of_atWord (h : d.atWord q 7 2 = true) :
    ienOp q d = d.advanced q (d.seqr q).fetch (fun u => { u with flags := withIe (d.seqr q).fetch.iBits (d.seqr q).flags }) := by
  rw [ienOp, sysRow _ h]
  simp only [Nat.mod_eq_of_lt (lt_of_atWord h), leaves_next]
  exact advanced_congr _ rfl

theorem signalOp_of_atWord (h : d.atWord q 7 3 = true) :
    signalOp q d = (d.signal (128 + 4 * q + (d.seqr q).fetch.iBits)).advanced q (d.seqr q).fetch id := by
  rw [signalOp, sysRow _ h]
  simp only [Nat.mod_eq_of_lt (lt_of_atWord h), leaves_next]

theorem tbreadOp_of_atWord (h : d.atWord q 7 4 = true) :
    tbreadOp q d = d.advanced q (d.seqr q).fetch (fun u =>
      (u.setReg (d.seqr q).fetch.d (BitVec.ofNat 32 d.now)).setReg ((d.seqr q).fetch.d + 1) (BitVec.ofNat 32 (d.now / 2 ^ 32))) := by
  rw [tbreadOp, sysRow _ h]
  simp only [Nat.mod_eq_of_lt (lt_of_atWord h), leaves_next]

theorem setr_of_atWord (h : d.atWord q 7 5 = true) :
    setr q d = d.answers q (d.seqr q).fetch (d.readSetting ((d.seqr q).num (d.seqr q).fetch.a % 2 ^ 24)).toNat := by
  rw [setr, sysRow _ h]
  simp only [Nat.mod_eq_of_lt (lt_of_atWord h), leaves_next]
  rfl

/-- The source that GETSRC answers (R411). -/
def newestSource : List Frame → Nat
  | f :: _ => f.source
  | [] => 0xFFFFFFFF

theorem getsrcOp_of_atWord (h : d.atWord q 7 8 = true) :
    getsrcOp q d = d.answers q (d.seqr q).fetch (newestSource (d.seqr q).frames) := by
  rw [getsrcOp, sysRow _ h]
  simp only [Nat.mod_eq_of_lt (lt_of_atWord h), leaves_next]
  cases (d.seqr q).frames <;> rfl

theorem sysNopOp_of_atWord (h : d.atWord q 7 9 = true) : sysNopOp q d = d.advanced q (d.seqr q).fetch id := by
  rw [sysNopOp, sysRow _ h]
  simp only [Nat.mod_eq_of_lt (lt_of_atWord h), leaves_next]

end

/-! ### The entry of a handler (R415, R416) -/

theorem clearPend_stands {q n : Nat} {d : Dev} (h : d.sticks n = true) : d.clearPend q n = d := if_pos h

theorem clearPend_clears {q n : Nat} {d : Dev} (h : d.sticks n = false) : (d.clearPend q n).pendOf q = (d.pendOf q).set n none := by
  have hs : ¬ d.sticks n = true := by simp [h]
  by_cases hq : q = 0
  · simp only [Dev.clearPend, Dev.pendOf, if_neg hs, if_pos hq]
  · simp only [Dev.clearPend, Dev.pendOf, if_neg hs, if_neg hq]

theorem clearPend_frame (q n : Nat) (d : Dev) : d.clearPend q n =
    { d with evc := { d.evc with pendA := (d.clearPend q n).evc.pendA, pendB := (d.clearPend q n).evc.pendB } } := by
  unfold Dev.clearPend
  split
  · rfl
  · split
    · rfl
    · rfl

/-- A sequencer that has entered its handler at `hd` for source `n`, with its frame saved (R416). -/
def Seqr.entered (hd n : Nat) (u : Seqr) : Seqr :=
  Seqr.setReg { u with
    frames := ⟨u.pc, u.flags, u.prog, fit 4 0 (u.w.drop 12), n, u.wait⟩ :: u.frames, flags := u.flags % 16 + 32 * (u.flags / 32),
    pc := hd, prog := 0, wait := none } 12 (BitVec.ofNat 32 n)

/-- The device after the entry of a handler. -/
def Dev.handling (q hd n : Nat) (d : Dev) : Dev :=
  (((d.wait (d.now + 3)).onSeq q (Seqr.entered hd n)).clearPend q n).onActive q (fun l => n :: l)

theorem hammerEntry_enters {q hd n : Nat} {d : Dev} (hq : q < 2) (hh : (d.seqr q).image.bind Script.handler = some hd)
    (ho : d.offered q = some n) (hr : d.scriptRuns q = true) (hie : bit 4 (d.seqr q).flags = true) (ha : (d.seqr q).awaits ≠ some n) :
    hammerEntry q d = d.handling q hd n := by
  have hie' : (d.seqr q).flag 4 = true := hie
  simp only [hammerEntry, Nat.mod_eq_of_lt hq, hh, ho]
  rw [if_neg (by simp [hr, hie', ha])]
  exact congrArg (fun e : Dev => (e.clearPend q n).onActive q (fun l => n :: l))
    (onSeq_congr (q := q) (d := d.wait (d.now + 3)) rfl)

theorem handling_seqr (q hd n : Nat) (d : Dev) : (d.handling q hd n).seqr q = (d.seqr q).entered hd n := by
  rw [Dev.handling, onActive_seqr, clearPend_frame]
  exact seqr_onSeq q (Seqr.entered hd n) (d.wait (d.now + 3))

theorem handling_other {q : Nat} (hq : q < 2) (hd n : Nat) (d : Dev) : (d.handling q hd n).seqr (1 - q) = d.seqr (1 - q) := by
  rw [Dev.handling, onActive_seqr, clearPend_frame]
  exact onSeq_other hq (Seqr.entered hd n) (d.wait (d.now + 3))

theorem sticks_congr {s t : Dev} (n : Nat) (he : t.evc = s.evc) : t.sticks n = s.sticks n := by
  unfold Dev.sticks Dev.active Dev.srcCfg
  rw [he]

theorem handling_pendOf {q n : Nat} (hd : Nat) {d : Dev} (hs : d.sticks n = false) :
    (d.handling q hd n).pendOf q = (d.pendOf q).set n none := by
  have he : ((d.wait (d.now + 3)).onSeq q (Seqr.entered hd n)).evc = d.evc := Dev.onSeq_evc ..
  rw [Dev.handling, onActive_pendOf, clearPend_clears (by rw [sticks_congr n he, hs])]
  unfold Dev.pendOf
  rw [he]

theorem handling_actOf (q hd n : Nat) (d : Dev) : (d.handling q hd n).actOf q = n :: d.actOf q := by
  have he : ((d.wait (d.now + 3)).onSeq q (Seqr.entered hd n)).evc = d.evc := Dev.onSeq_evc ..
  rw [Dev.handling, onActive_actOf, clearPend_frame]
  unfold Dev.actOf
  dsimp only
  rw [he]

theorem handling_clock (q hd n : Nat) (d : Dev) : (d.handling q hd n).clock = (d.wait (d.now + 3)).clock := by
  rw [Dev.handling, onActive_frame, clearPend_frame]
  exact Dev.onSeq_clock ..

theorem handling_jrnl (q hd n : Nat) (d : Dev) : (d.handling q hd n).jrnl = d.jrnl := by
  rw [Dev.handling, onActive_frame, clearPend_frame]
  exact Dev.onSeq_jrnl ..

/-- The continued value grows with the LF cycles (R42). -/
theorem continued_mono {c : Clock} {m n : Nat} (h : m ≤ n) : c.continued m ≤ c.continued n := by
  have hmul := Nat.mul_le_mul_right c.frozen h
  unfold Clock.continued ceilDiv
  exact Nat.add_le_add_left (Nat.div_le_div_right (by omega)) _

/-- No wait takes time back, whether ROOT runs or the continuation counts (R42, R51). -/
theorem now_le_wait (t : Nat) (d : Dev) (hp : d.clock.pos < 4000) : d.now ≤ (d.wait t).now := by
  by_cases hr : d.clock.rootOn = true
  · rw [now_running hr, now_running (by rw [wait_rootOn, hr])]
    exact (wait_reaches hr hp).2.1
  · have hw : (d.wait t).clock = { d.clock with lfCycles := max d.clock.lfCycles (d.clock.cycleAt t) } := if_neg hr
    unfold Dev.now
    rw [hw, Clock.now, if_neg hr, Clock.now, if_neg hr]
    exact continued_mono (le_max_left ..)

/-! ### The obligation -/

/-- Settles O47: each row at its word, the end of a script by HALT and by RETI with no frame, and the entry and return of a handler. -/
theorem sysOperations : Obligations.SysOperations := by
  intro q s
  refine ⟨fun hat => ⟨fun hi hn => ?_, fun hi hn => ?_, fun hi => ?_⟩, fun hat => ⟨fun hf => ?_, fun f fs hf => ?_⟩, fun hat => ?_,
    fun hup hat => ?_, fun hat => ?_, fun hat => ?_, fun hat => ?_, fun hat => ?_, fun hd n hq hp hh ho hr hie ha => ?_⟩
  · exact answers_leaves rfl (haltOp_done hat hi hn) (endScript_jrnl ..) (scriptEnded_endScript ..)
  · exact answers_fault rfl (haltOp_long hat hi hn)
  · exact answers_leaves rfl (haltOp_fails hat hi) (endScript_jrnl ..) (scriptEnded_endScript ..)
  · exact answers_fault rfl (retiOp_empty hat hf)
  · have hq := lt_of_atWord hat
    refine answers_leaves rfl (retiOp_returns hat hf) (by rw [onActive_frame]; exact Dev.onSeq_jrnl ..) ⟨?_, ?_, ?_, ?_⟩
    · rw [onActive_seqr, seqr_onSeq]
      rfl
    · rw [onActive_actOf]
      unfold Dev.actOf
      rw [Dev.onSeq_evc]
    · rw [onActive_seqr, onSeq_other hq]
    · rw [onActive_frame, onSeq_frame]
  · obtain ⟨hie, hrest⟩ := bit_withIe (s.seqr q).fetch.iBits (s.seqr q).flags
    exact answers_leaves rfl (ienOp_of_atWord hat) (advanced_jrnl ..) ⟨_, rfl, hie, hrest⟩
  · have hroot := rootOn_of_hostUp hup
    have hrow := signalOp_of_atWord hat
    rw [signal_awake _ (not_doze_of_run (run_of_hostUp hup))] at hrow
    have hev := event_frame (128 + 4 * q + (s.seqr q).fetch.iBits) hroot
    refine answers_leaves rfl hrow (by rw [advanced_jrnl, hev]) ⟨?_, ?_, ?_⟩
    · have hraised := event_raised (128 + 4 * q + (s.seqr q).fetch.iBits) hroot
      unfold Raised at hraised ⊢
      unfold Dev.advanced
      rwa [onSeq_frame]
    · rw [hev]
      unfold Dev.advanced Dev.onSeq
      split <;> rfl
    · rw [hev]
      unfold EventsOnly Dev.advanced
      rw [onSeq_frame]
  · exact answers_leaves rfl (tbreadOp_of_atWord hat) (advanced_jrnl ..) rfl
  · exact answers_leaves rfl (setr_of_atWord hat) (advanced_jrnl ..) rfl
  · refine answers_leaves rfl (getsrcOp_of_atWord hat) (advanced_jrnl ..) ?_
    cases (s.seqr q).frames <;> rfl
  · exact answers_leaves rfl (sysNopOp_of_atWord hat) (advanced_jrnl ..) rfl
  · refine answers_leaves rfl (hammerEntry_enters hq hh ho hr hie ha) (handling_jrnl ..)
      ⟨?_, ?_, ?_, ?_, handling_actOf q hd n s.toDev, fun hs => handling_pendOf hd hs, ?_, handling_other hq hd n s.toDev⟩
    · rw [handling_seqr]
      rfl
    · rw [handling_seqr]
      rfl
    · rw [handling_seqr]
      show ((s.seqr q).flags % 16 + 32 * ((s.seqr q).flags / 32)).testBit 4 = false
      exact (bit_withIe 0 (s.seqr q).flags).1
    · rw [handling_seqr]
      rfl
    · have hc := handling_clock q hd n s.toDev
      unfold Dev.now
      rw [hc]
      exact now_le_wait _ s.toDev hp

end Sys2Proof.Machine
end

section
/-!
PROOFS. The operations of a script that reach the settings, the DRBG and memory (R411, R413). First what a unit operation does where it
stands ready, which the radio and key operations use as well.
-/

namespace Sys2Proof.Machine

/-! ### A setting's write by a script (R134, R411) -/

/-- A write judged in an event that has moved the clock alone: a refused one. -/
theorem settingLeft_refused {s : Dev} (c : Clock) (origin unit : Nat) (r : SettingRow) (v cause : Nat) (hb : s.jrnl.buf.length < 900)
    (hne : cause ≠ 0) :
    SettingLeft s r v cause (Dev.note origin (draft 2 unit r.addr (s.value r) v cause) { s with clock := c }) where
  host := Dev.note_host ..
  sets := by rw [if_neg hne]; exact Dev.note_sets ..
  record := by
    rw [note_lastRecord (d := { s with clock := c }) (show s.jrnl.buf.length < 1024 by omega), if_neg hne]
    rfl
  units _ := ⟨Dev.note_uhf .., Dev.note_atlas ..⟩
  others pt hpt := by
    simp only [eventParts, List.cons_append, List.nil_append, List.mem_cons, List.not_mem_nil, or_false, not_or] at hpt
    rw [Dev.note_get _ _ _ (by simp [hpt])]
    exact Dev.get_with_clock _ _ (by simp [hpt])
  room := by
    rw [note_buf_length (d := { s with clock := c }) (show s.jrnl.buf.length < 1024 by omega)]
    show s.jrnl.buf.length + 1 < 960
    omega

/-- The same: an accepted one. -/
theorem settingLeft_taken {s : Dev} (c : Clock) (origin unit : Nat) (r : SettingRow) (v : Nat) (hb : s.jrnl.buf.length < 900)
    (hloop : loopAt r.addr = none) (hu : r.addr / 0x10000 ≠ 0x0C) (hspec : r.addr ∉ [0x000020, 0x0B0030, 0x0B0051]) :
    SettingLeft s r v 0
      (((Dev.note origin (draft 1 unit r.addr (s.value r) v 0) { s with clock := c }).settingWritten r.addr v).dropLow r false) := by
  have hlt : ({ s with clock := c } : Dev).jrnl.buf.length < 1024 := show s.jrnl.buf.length < 1024 by omega
  obtain ⟨uhf, atlas, hset, hkeep⟩ :=
    settingWritten_plain (v := v) (Dev.note origin (draft 1 unit r.addr (s.value r) v 0) { s with clock := c }) hloop hu hspec
  have hsets : (Dev.note origin (draft 1 unit r.addr (s.value r) v 0) { s with clock := c }).sets = s.sets := Dev.note_sets ..
  have hrec := note_lastRecord hlt origin (draft 1 unit r.addr (s.value r) v 0)
  have hroom : (Dev.note origin (draft 1 unit r.addr (s.value r) v 0) { s with clock := c }).jrnl.buf.length < 960 := by
    rw [note_buf_length hlt]
    show s.jrnl.buf.length + 1 < 960
    omega
  rw [hset, dropLow_kept]
  refine ⟨Dev.note_host .., ?_, hrec, fun hx => ?_, fun pt hpt => ?_, hroom⟩
  · show cellPut (settingDefault r.addr) r.addr v (Dev.note origin (draft 1 unit r.addr (s.value r) v 0) { s with clock := c }).sets = _
    rw [hsets]
    rfl
  · obtain ⟨h1, h2⟩ := hkeep hx
    exact ⟨h1.trans (Dev.note_uhf ..), h2.trans (Dev.note_atlas ..)⟩
  · have hn : (Dev.note origin (draft 1 unit r.addr (s.value r) v 0) { s with clock := c }).get pt = s.get pt := by
      rw [Dev.note_get _ _ _ (by simp [eventParts] at hpt; simp [hpt])]
      exact Dev.get_with_clock _ _ (by simp [eventParts] at hpt; simp [hpt])
    rw [← hn]
    cases pt <;> simp [eventParts] at hpt <;> rfl

theorem note_origin {d : Dev} (hb : d.jrnl.buf.length < 1024) (origin : Nat) (x : Draft) :
    (d.note origin x).jrnl.buf.getLast?.map Record.origin = some origin := by
  obtain ⟨tag, h⟩ := append_buf hb (d.recordOf origin 0xFFFF 0xFF x)
  rw [note_append hb, h, List.getLast?_concat]
  rfl

/-- A plain setting written in an event of a script: what it leaves, and its cause. -/
theorem writeSetting_left {r : SettingRow} {s : Dev} {c : Clock} {w cause : Nat} {forbidden : Bool} (origin : Nat)
    (h : s.hostUp = true) (hrow : settingRow r.addr = some r) (hone : r.words = 1) (hlock : r.lock ≠ 1) (hu : r.addr / 65536 ≠ 0x0C)
    (hloop : loopAt r.addr = none) (hspec : r.addr ∉ [0x000020, 0x0B0030, 0x0B0051]) (hc : s.judge forbidden r.addr w = cause) :
    ∃ d, Dev.writeSetting origin forbidden r.addr w { s with clock := c } = (cause, d) ∧
      SettingLeft s r (s.attempt r r.addr w) cause d ∧ d.jrnl.buf.getLast?.map Record.origin = some origin := by
  have hp : PlainSetting r := ⟨hone, hlock, .inl hu, hloop, by simp at hspec; exact hspec.2.1⟩
  have hbuf : s.jrnl.buf.length < 900 := hostEvent_buf h
  have hlt : ({ s with clock := c } : Dev).jrnl.buf.length < 1024 := show s.jrnl.buf.length < 1024 by omega
  have hjudge : Dev.judge { s with clock := c } forbidden r.addr w = cause :=
    (judge_congr (d := s) (e := { s with clock := c }) hp rfl hrow rfl rfl).trans hc
  have hval : Dev.value { s with clock := c } r = s.value r := value_congr (d := s) (e := { s with clock := c }) hp rfl
  have hatt : Dev.attempt { s with clock := c } r r.addr w = s.attempt r r.addr w :=
    attempt_congr (d := s) (e := { s with clock := c }) hp rfl ..
  by_cases h0 : cause = 0
  · subst h0
    have hw := writeSetting_accepted origin hrow hone hjudge
    rw [hval, hatt] at hw
    refine ⟨_, hw, settingLeft_taken c origin _ r _ hbuf hloop hu hspec, ?_⟩
    obtain ⟨uhf, atlas, hset, -⟩ := settingWritten_plain (v := s.attempt r r.addr w)
      (Dev.note origin (draft 1 (r.addr / 0x10000 % 256) r.addr (s.value r) (s.attempt r r.addr w) 0) { s with clock := c }) hloop hu hspec
    rw [hset, dropLow_kept]
    exact note_origin hlt origin _
  · have hw := writeSetting_refused origin hrow hone hjudge h0 (hostUp_iff.mp h).2.2.2.1
    rw [hval, hatt] at hw
    exact ⟨_, hw, settingLeft_refused c origin _ r _ cause hbuf h0, note_origin hlt origin _⟩

/-- SETW at its word: the write is judged in an event on the sequencer's port, and W[D] takes its cause. -/
theorem setw_of_atWord {q : Nat} {d : Dev} (h : d.atWord q 7 6 = true) :
    let u := d.seqr q
    let a := u.num u.fetch.a % 2 ^ 24
    let r := ((d.dueBefore a).presentOn (9 + q)).writeSetting (oHammer q) (!(u.image.map Script.settings).getD false) a (u.num u.fetch.b % 65536)
    setw q d = r.2.answers q u.fetch r.1 := by
  dsimp only
  rw [setw, sysRow _ h]
  simp only [Nat.mod_eq_of_lt (lt_of_atWord h), leaves_next]
  rfl

/-! ### A unit operation at its word (R413) -/

theorem occupied_iff {d : Dev} {f : Nat} : (decide (0 < d.occupants f) || bit f d.host.fnBusy) = false ↔
    (d.occupants f == 0 && !bit f d.host.fnBusy) = true := by
  cases bit f d.host.fnBusy <;> simp

/-- A unit operation that stands ready comes to its body, with the parameters of its block. -/
theorem unitOp_ready {q op n : Nat} {doms fns : List Nat} {d : Dev}
    (body : (Status → Dev → HOut) → (Nat → Nat) → Seqr → Dev → HOut) (h : d.unitReady q op n doms fns = true) :
    unitOp q op n doms fns body d =
      (body (fun st e => e.unitEnd q (d.seqr q).fetch st) (fun i => d.param q n i) (d.seqr q) d).leaves q d := by
  simp only [Dev.unitReady, Bool.and_eq_true, beq_iff_eq, List.all_eq_true, Bool.not_eq_true'] at h
  obtain ⟨⟨⟨⟨hat, halign⟩, hin⟩, hdoms⟩, hfns⟩ := h
  have hon : (doms.any fun k => !d.domOn k || ((d.seqr q).secure && d.newHoldBarred k)) = false := by
    rw [List.any_eq_false]
    intro k hk
    obtain ⟨hk, hb⟩ := hdoms k hk
    simp [Dev.domOn, hk, hb]
  have hclocks : (doms.any d.domGated) = false := by
    rw [List.any_eq_false]
    intro k hk
    simp [Dev.domGated, (hdoms k hk).1]
  have hfree : (fns.any fun f => decide (0 < d.occupants f) || bit f d.host.fnBusy) = false := by
    rw [List.any_eq_false]
    intro f hf
    obtain ⟨h0, hb⟩ := hfns f hf
    simp [h0, hb]
  rw [unitOp, sysRow _ hat]
  simp only [Nat.mod_eq_of_lt (lt_of_atWord hat), halign, bne_self_eq_false, Bool.false_eq_true, if_false, need_inData _ hin, hon, hclocks,
    hfree, Bool.or_false]
  rfl

theorem seq_of_unitReady {q op n : Nat} {doms fns : List Nat} {d : Dev} (h : d.unitReady q op n doms fns = true) : q % 2 = q := by
  simp only [Dev.unitReady, Bool.and_eq_true] at h
  obtain ⟨⟨⟨⟨hat, -⟩, -⟩, -⟩, -⟩ := h
  exact Nat.mod_eq_of_lt (lt_of_atWord hat)

/-- A unit operation with a domain of its unit off gives STATE_CONFLICT (R413). -/
theorem unitOp_off {q op n : Nat} {doms fns : List Nat} {d : Dev} (body : (Status → Dev → HOut) → (Nat → Nat) → Seqr → Dev → HOut)
    (hat : d.atWord q 6 op = true) (halign : (d.seqr q).num (d.seqr q).fetch.a % 4 = 0)
    (hin : (d.seqr q).inData ((d.seqr q).num (d.seqr q).fetch.a) (4 * n) = true) (hoff : (doms.any fun k => !d.domOn k) = true) :
    unitOp q op n doms fns body d = d.answers q (d.seqr q).fetch 0x16 := by
  have hbar : (doms.any fun k => !d.domOn k || ((d.seqr q).secure && d.newHoldBarred k)) = true := by
    obtain ⟨k, hk, hoff⟩ := List.any_eq_true.mp hoff
    exact List.any_eq_true.mpr ⟨k, hk, by rw [hoff, Bool.true_or]⟩
  rw [unitOp, sysRow _ hat]
  simp only [Nat.mod_eq_of_lt (lt_of_atWord hat), halign, bne_self_eq_false, Bool.false_eq_true, if_false, need_inData _ hin, hbar, if_true]
  rfl

/-- What ends a unit operation puts its status into W[D]. -/
@[simp] theorem leaves_unitEnd (q p : Nat) (h : HWord) (st : Status) (d e : Dev) :
    (e.unitEnd p h st).leaves q d = e.answers p h st.code := rfl

@[simp] theorem answers_jrnl (q : Nat) (h : HWord) (v : Nat) (d : Dev) : (d.answers q h v).jrnl = d.jrnl := advanced_jrnl ..

theorem answers_frame (q : Nat) (h : HWord) (v : Nat) (d : Dev) : d.answers q h v = { d with ham := (d.answers q h v).ham } := by
  unfold Dev.answers Dev.advanced
  exact onSeq_frame ..

/-- A shorter range within one in reach is in reach, and as writable. -/
theorem inData_mono {u : Seqr} {a m n : Nat} (h : u.inData a n = true) (hm : m ≤ n) : u.inData a m = true := by
  simp only [Seqr.inData, Bool.or_eq_true, Bool.and_eq_true, decide_eq_true_eq, List.all_eq_true] at h ⊢
  obtain ⟨hlow, hbanks⟩ | ⟨hlo, hhi⟩ := h
  · refine .inl ⟨by omega, fun b hb => ?_⟩
    obtain (hclaimed | hbelow) | habove := hbanks b hb
    · exact .inl (.inl hclaimed)
    · exact .inl (.inr (by omega))
    · exact .inr habove
  · exact .inr ⟨hlo, by omega⟩

theorem writable_mono {u : Seqr} {a m n : Nat} (h : u.writable a n = true) (hm : m ≤ n) : u.writable a m = true := by
  simp only [Seqr.writable, Bool.and_eq_true] at h ⊢
  exact ⟨inData_mono h.1 hm, h.2⟩

theorem slice_length_le {α : Type} (o n : Nat) (l : List α) : (slice o n l).length ≤ n := List.length_take_le ..

theorem cellsRead_length {α : Type} (x : α) (cs : List (Nat × α)) : ∀ n k, (cellsRead x k n cs).length = n
  | 0, _ => rfl
  | n + 1, k => congrArg (· + 1) (cellsRead_length x cs n (k + 1))

theorem dataRead_length_le (q a n : Nat) (d : Dev) : (d.dataRead q a n).length ≤ n := by
  unfold Dev.dataRead
  split
  · exact (cellsRead_length ..).le
  · exact slice_length_le ..

theorem inData_of_writable {u : Seqr} {a n : Nat} (h : u.writable a n = true) : u.inData a n = true := by
  simp only [Seqr.writable, Bool.and_eq_true] at h
  exact h.1

/-- Bytes that fit a writable range are written there. -/
theorem put_fits {d : Dev} {q a n : Nat} {bs : Bytes} (k : Dev → HOut) (h : (d.seqr q).writable a n = true) (hn : bs.length ≤ n) :
    d.put q a bs k = k (d.dataWrite q a bs) := put_writable k (writable_mono h hn)

end Sys2Proof.Machine
end

section
/-!
PROOFS. Settings, DRBG output and memory in a script (R411, R413): the obligation.
-/

namespace Sys2Proof.Machine

/-! ### SETW and DRAW -/

theorem setw_answers {q : Nat} {r : SettingRow} {s : State} (h : s.hostUp = true) (hat : s.atWord q 7 6 = true)
    (hrow : settingRow ((s.seqr q).num (s.seqr q).fetch.a % 2 ^ 24) = some r)
    (haddr : r.addr = (s.seqr q).num (s.seqr q).fetch.a % 2 ^ 24) (hone : r.words = 1) (hlock : r.lock ≠ 1)
    (hu : r.addr / 65536 ≠ 0x0C) (hloop : loopAt r.addr = none) (hspec : r.addr ∉ [0x000020, 0x0B0030, 0x0B0051]) {cause : Nat}
    (hc : s.judge (!((s.seqr q).image.map Script.settings).getD false) r.addr ((s.seqr q).num (s.seqr q).fetch.b % 65536) = cause) :
    Answers (.setw q) s fun t =>
      let v := s.attempt r r.addr ((s.seqr q).num (s.seqr q).fetch.b % 65536)
      t.sets = (if cause = 0 then cellPut (settingDefault r.addr) r.addr v s.sets else s.sets) ∧
      t.lastRecord = some (if cause = 0 then 1 else 2, r.addr, s.value r, v, cause) ∧
      t.jrnl.buf.getLast?.map Record.origin = some (2 + q) ∧
      t.seqr q = { (s.seqr q).setReg (s.seqr q).fetch.d (BitVec.ofNat 32 cause) with
        pc := (s.seqr q).pc + (s.seqr q).fetch.len, prog := 0, wait := none } ∧
      (r.addr ∉ [0x030000, 0x030001, 0x080001] → t.uhf = s.uhf ∧ t.atlas = s.atlas) ∧
      EventsOnly { s.toDev with sets := t.sets, setLow := t.setLow, ham := t.ham, uhf := t.uhf, atlas := t.atlas } t := by
  have hpresent : ((s.dueBefore r.addr).presentOn (9 + q)) = { s.toDev with clock := s.clock.accept s.wantDepth (9 + q) false } := by
    rw [show s.dueBefore r.addr = s.toDev from if_neg hu]
    exact presentOn_run _ (run_of_hostUp h) (rootOn_of_hostUp h)
  obtain ⟨d, hw, hd, horigin⟩ := writeSetting_left (c := s.clock.accept s.wantDepth (9 + q) false) (oHammer q) h
    (haddr ▸ hrow) hone hlock hu hloop hspec hc
  have hham : d.seqr q = s.seqr q := by
    unfold Dev.seqr
    rw [show d.ham = s.ham from hd.others .ham (by decide)]
  have ht : setw q s.toDev = d.answers q (s.seqr q).fetch cause := by
    rw [setw_of_atWord hat, ← haddr, hpresent, hw]
  have hframe : d.answers q (s.seqr q).fetch cause = { d with ham := (d.answers q (s.seqr q).fetch cause).ham } := answers_frame ..
  refine answers_room (f := setw q) rfl (.inr ?_) ?_
  · rw [ht, answers_jrnl]
    exact hd.room
  · rw [ht]
    refine ⟨(Dev.onSeq_sets ..).trans hd.sets, ?_, ?_, ?_, fun hx => ?_,
      eventsOnly_taking [.sets, .setLow, .ham, .uhf, .atlas] fun pt hpt => ?_⟩
    · rw [hframe]
      exact hd.record
    · rw [hframe]
      exact horigin
    · rw [Dev.answers, Dev.advanced, seqr_onSeq, hham]
    · rw [hframe]
      exact hd.units hx
    · simp only [List.cons_append, List.nil_append, List.mem_cons, not_or] at hpt
      rw [hframe, Dev.get_with_ham _ _ hpt.2.2.1]
      exact hd.others pt (by simp [hpt])

/-- DRAW at its word with the DRBG at hand writes its output (R411). -/
theorem drawOp_draws {q : Nat} {d : Dev} (hat : d.atWord q 7 7 = true) (h1 : 1 ≤ (d.seqr q).num (d.seqr q).fetch.b)
    (h256 : (d.seqr q).num (d.seqr q).fetch.b ≤ 256)
    (hw : (d.seqr q).writable ((d.seqr q).num (d.seqr q).fetch.a) ((d.seqr q).num (d.seqr q).fetch.b) = true)
    (h9 : d.dom 9 = .on) (h10 : d.dom 10 = .on)
    (hsec : (d.seqr q).secure = true → d.domDeferred 9 = false ∧ d.domDeferred 10 = false) (hbusy : bit 3 d.host.fnBusy = false)
    (hready : d.anvil.ready = true) (hlen : (d.draw ((d.seqr q).num (d.seqr q).fetch.b)).1.length = (d.seqr q).num (d.seqr q).fetch.b) :
    drawOp q d = ((d.draw ((d.seqr q).num (d.seqr q).fetch.b)).2.dataWrite q ((d.seqr q).num (d.seqr q).fetch.a)
      (d.draw ((d.seqr q).num (d.seqr q).fetch.b)).1).answers q (d.seqr q).fetch 0 := by
  have hin : (d.seqr q).inData ((d.seqr q).num (d.seqr q).fetch.a) ((d.seqr q).num (d.seqr q).fetch.b) = true :=
    inData_of_writable hw
  have hopen : ([9, 10].any fun k => !d.domOn k || ((d.seqr q).secure && d.newHoldBarred k)) = false := by
    cases hs : (d.seqr q).secure with
    | false => simp [Dev.domOn, h9, h10]
    | true =>
      obtain ⟨hd9, hd10⟩ := hsec hs
      simp [Dev.domOn, h9, h10, Dev.newHoldBarred, hd9, hd10]
  have hzero : ((d.seqr q).num (d.seqr q).fetch.b = 0) = False := by simp; omega
  rw [drawOp, sysRow _ hat]
  simp only [Nat.mod_eq_of_lt (lt_of_atWord hat), hzero, decide_false, Bool.false_or, decide_eq_true_eq, if_neg (Nat.not_lt.mpr h256), hin,
    Bool.not_true, Bool.false_eq_true, if_false, hopen, Dev.domGated, h9, h10, hbusy, Dev.entropy, hready, if_true]
  have hclocks : ((Domain.on == Domain.gated || Domain.on == Domain.gated || false) = true) = False := by decide
  simp only [hclocks, if_false]
  rw [put_writable (d := (d.draw ((d.seqr q).num (d.seqr q).fetch.b)).2) _ (by rw [hlen]; exact hw)]
  rfl

/-! ### COPY and CRC -/

/-- COPY of ranges that do not overlap (R413). -/
theorem copy_copies {q : Nat} {d : Dev} (h : d.unitReady q 9 3 [] [] = true) (hlen : d.param q 3 2 ≤ 16384)
    (hsep : d.param q 3 1 + d.param q 3 2 ≤ d.param q 3 0 ∨ d.param q 3 0 + d.param q 3 2 ≤ d.param q 3 1)
    (hin : (d.seqr q).inData (d.param q 3 0) (d.param q 3 2) = true) (hw : (d.seqr q).writable (d.param q 3 1) (d.param q 3 2) = true) :
    copy q d = (d.dataWrite q (d.param q 3 1) (d.dataRead q (d.param q 3 0) (d.param q 3 2))).answers q (d.seqr q).fetch 0 := by
  have hq := seq_of_unitReady h
  rw [copy, unitOp_ready _ h]
  dsimp only
  rw [hq, if_neg (by omega), if_neg (by simp; omega), need_inData _ hin, put_fits _ hw (dataRead_length_le ..)]
  rfl

/-- COPY of ranges that overlap is an OVERLAP fault (R413, R426). -/
theorem copy_overlap {q : Nat} {d : Dev} (h : d.unitReady q 9 3 [] [] = true) (hlen : d.param q 3 2 ≤ 16384)
    (h0 : d.param q 3 0 < d.param q 3 1 + d.param q 3 2) (h1 : d.param q 3 1 < d.param q 3 0 + d.param q 3 2) :
    copy q d = d.endScript q 5 (Result.plain .stateConflict) := by
  rw [copy, unitOp_ready _ h]
  dsimp only
  rw [if_neg (by omega), if_pos (by simp [h0, h1])]
  rfl

/-- The check of CRC over bytes: CRC-8 in one byte, or CRC-16 in two (R193, R221). -/
def crcBytes (kind : Nat) (m : Bytes) : Bytes :=
  if kind = 0 then leBytes 1 (crc 8 0x1D 0xFF m) else leBytes 2 (crc 16 0x1021 0xFFFF m)

theorem crcBytes_length (kind : Nat) (m : Bytes) (h : kind ≤ 1) : (crcBytes kind m).length = kind + 1 := by
  obtain rfl | rfl : kind = 0 ∨ kind = 1 := by omega
  · exact length_leBytes ..
  · exact length_leBytes ..

theorem crcOp_writes {q : Nat} {d : Dev} (h : d.unitReady q 10 4 [] [] = true) (hkind : d.param q 4 0 ≤ 1)
    (hin : (d.seqr q).inData (d.param q 4 1) (d.param q 4 2) = true)
    (hw : (d.seqr q).writable (d.param q 4 3) (d.param q 4 0 + 1) = true) :
    crcOp q d = (d.dataWrite q (d.param q 4 3) (crcBytes (d.param q 4 0) (d.dataRead q (d.param q 4 1) (d.param q 4 2)))).answers q
      (d.seqr q).fetch 0 := by
  have hq := seq_of_unitReady h
  rw [crcOp, unitOp_ready _ h]
  dsimp only
  rw [hq, if_neg (by omega), need_inData _ hin]
  exact congrArg (HOut.leaves q d) (put_writable (bs := crcBytes (d.param q 4 0) _) (fun e => e.unitEnd q (d.seqr q).fetch .done)
    (by rw [crcBytes_length _ _ hkind]; exact hw))

/-! ### ATLASQ -/

theorem insertKey_length {α : Type} (x : List Nat × α) : ∀ ys, (insertKey x ys).length = ys.length + 1
  | [] => rfl
  | y :: ys => by
    rw [insertKey]
    split
    · rfl
    · exact congrArg (· + 1) (insertKey_length x ys)

theorem neighbours_length_le (m body : Bytes) (v : List (Option Int)) (k nprobe : Nat) : (neighbours m body v k nprobe).length ≤ k := by
  unfold neighbours
  rw [List.length_map]
  exact List.length_take_le ..

theorem leWords_length : ∀ n v, (leWords n v).length = n
  | 0, _ => rfl
  | n + 1, v => congrArg (· + 1) (leWords_length n (v / 65536))

theorem wordsToBytes_length : ∀ ws, (wordsToBytes ws).length = 2 * ws.length
  | [] => rfl
  | w :: ws => by
    rw [wordsToBytes, List.length_cons, List.length_cons, wordsToBytes_length ws, List.length_cons]
    omega

theorem neighbourWords_length : ∀ ns : List Neighbour,
    (ns.flatMap (fun n => leWords 2 n.id ++ [word n.label] ++ leWords 2 n.dist)).length = 5 * ns.length
  | [] => rfl
  | n :: ns => by
    rw [List.flatMap_cons, List.length_append, neighbourWords_length ns]
    simp only [List.length_append, leWords_length, List.length_cons, List.length_nil]
    omega

/-- A query's words: two, and five for each of its neighbours (R274). -/
theorem runQueries_length_le (m : Bytes) (e : QueryEntry) (d : Dev) : (wordsToBytes (d.runQueries m 0 [e]).1).length ≤ 4 + 10 * e.k := by
  have hk := neighbours_length_le m (m.drop (bodyAt m)) (queryVector m (d.rawOf e)) e.k e.nprobe
  have hw : (d.runQueries m 0 [e]).1 = resultWords e.fromEvidence (runQuery m (d.rawOf e) e).1 (runQuery m (d.rawOf e) e).2 ++ [] := rfl
  rw [wordsToBytes_length, hw, List.append_nil, resultWords, List.length_cons, List.length_cons, neighbourWords_length]
  show 2 * (5 * (neighbours m (m.drop (bodyAt m)) (queryVector m (d.rawOf e)) e.k e.nprobe).length + 1 + 1) ≤ _
  omega

/-- What an awake device does about a block retired: one record at most, that of a die lost with it (R512, R514). -/
theorem retireBlock_buf {d : Dev} (hd : d.pwr.dev = .run) (hb : d.jrnl.buf.length < 900) : d.retireBlock.jrnl.buf.length < 960 := by
  have hstarts (e : Dev) (he : e.pwr = d.pwr) : (e.alsoStarts 141).jrnl = e.jrnl ∧ (e.alsoStarts 141).pwr = e.pwr := by
    unfold Dev.alsoStarts
    split
    · exact ⟨rfl, rfl⟩
    · rw [undoze_awake (by rw [he, hd]; decide)]
      exact ⟨Dev.arises_get (pt := .jrnl) _ _ (by decide), Dev.arises_get (pt := .pwr) _ _ (by decide)⟩
  have hgone (k : Nat) (e : Dev) : (e.dieGone k).jrnl = e.jrnl ∧ (e.dieGone k).pwr = e.pwr := by
    unfold Dev.dieGone
    split
    · exact ⟨rfl, rfl⟩
    · exact ⟨rfl, rfl⟩
  have hnoted (k old : Nat) (e : Dev) (he : e.jrnl.buf.length < 900) : (e.aside 11 (Dev.dieNoted k old)).jrnl.buf.length < 960 := by
    have hnote (x : Dev) (hx : x.jrnl = e.jrnl) : (Dev.dieNoted k old x).jrnl.buf.length < 960 := by
      have hr : (x.reach 139).jrnl = e.jrnl := (Dev.reach_get (pt := .jrnl) _ _ (by decide)).trans hx
      rw [Dev.dieNoted, Dev.noteMedia, note_buf_length (by rw [hr]; omega), hr]
      omega
    unfold Dev.aside
    split
    · exact hnote { e with clock := _ } rfl
    · exact hnote { e with clock := _ } rfl
  have hfree : d.freeNat.2.jrnl = d.jrnl ∧ d.freeNat.2.pwr = d.pwr := ⟨rfl, rfl⟩
  unfold Dev.retireBlock
  dsimp only
  split
  · exact hb.trans (by decide)
  · set e : Dev := { d.freeNat.2 with med := _ } with he
    have hlow : ∀ x : Dev, x = (if e.lowSpare then e.alsoStarts 141 else e) → x.jrnl = d.jrnl ∧ x.pwr = d.pwr := by
      rintro x rfl
      split
      · exact hstarts e rfl
      · exact ⟨rfl, rfl⟩
    generalize hx : (if e.lowSpare = true then e.alsoStarts 141 else e) = x
    obtain ⟨hj, hp⟩ := hlow x hx.symm
    split
    · obtain ⟨hgj, hgp⟩ := hgone (d.dieList.getD (d.freeNat.1 % max 1 d.dieList.length) 8) x
      rw [undoze_awake (by rw [hgp, hp, hd]; decide)]
      exact hnoted _ _ _ (by rw [hgj, hj]; exact hb)
    · rw [hj]
      exact hb.trans (by decide)

theorem nandLost_told {d : Dev} {n : NandRead} (h : d.nandLost n = false) : d.nandLost { n with lost := false } = false := by
  simp only [Dev.nandLost, Bool.or_eq_false_iff] at h ⊢
  exact ⟨trivial, h.2⟩

/-- A read that is not lost leaves room in the journal (R504). -/
theorem nandMet_buf {d : Dev} {n : NandRead} (hl : d.nandLost n = false) (hd : d.pwr.dev = .run) (hb : d.jrnl.buf.length < 900) :
    (d.nandMet n).jrnl.buf.length < 960 := by
  have hroom : d.jrnl.buf.length < 960 := hb.trans (by decide)
  unfold Dev.nandMet
  rw [if_neg (by simp [hl])]
  split
  · exact retireBlock_buf (d := { d with med := _ }) hd hb
  · split
    · exact hroom
    · exact hroom

/-- Lists that could be read leave room in the journal (R279). -/
theorem scanLists_buf {m : Bytes} {dl : Bool} {es : List QueryEntry} {nand : NandRead} {s d : Dev} (hs : s.scanLists m dl es nand = (none, d))
    (h : s.hostUp = true) : d.jrnl.buf.length < 960 := by
  have hb : s.jrnl.buf.length < 900 := hostEvent_buf h
  unfold Dev.scanLists at hs
  dsimp only at hs
  split at hs
  · exact absurd (congrArg Prod.fst hs) nofun
  · split at hs
    · exact absurd (congrArg Prod.fst hs) nofun
    · split at hs
      · exact absurd (congrArg Prod.fst hs) nofun
      · next hlost =>
        have hd := congrArg Prod.snd hs
        dsimp only at hd
        rw [← hd]
        split
        · exact hb.trans (by decide)
        · next hsome =>
          have hl : s.nandLost nand = false := by
            by_contra hne
            exact hlost (by rw [Bool.not_eq_false _ |>.mp hne]; simpa using hsome)
          exact nandMet_buf (nandLost_told hl) (run_of_hostUp h) hb

section
variable {q : Nat} {nand : NandRead} {d : Dev} {e : QueryEntry} (h : d.unitReady q 8 3 [13, 14] [] = true)
  (hin : (d.seqr q).inData (d.param q 3 0) 72 = true)
  (he : queryEntries 1 (bytesToWords (d.dataRead q (d.param q 3 0) 72)) = some [e]) (hraw : e.fromEvidence = false)
  (hmode : d.param q 3 2 ≤ 1) (hw : (d.seqr q).writable (d.param q 3 1) (4 + 10 * e.k) = true)
include h hin he hraw hmode hw

/-- ATLASQ with no committed image (R413). -/
theorem atlasq_absent (hnone : d.atlas.active = none) : atlasq q nand d = d.answers q (d.seqr q).fetch 0x17 := by
  have hq := seq_of_unitReady h
  have hreach : (d.seqr q).inData (d.param q 3 1) (4 + 10 * e.k) = true := inData_of_writable hw
  rw [atlasq, unitOp_ready _ h]
  dsimp only
  rw [hq, need_inData _ hin]
  simp only [he, hraw, Bool.false_or, decide_eq_true_eq, if_neg (Nat.not_lt.mpr hmode), hreach, Bool.not_true, Bool.false_eq_true, if_false,
    hnone]
  rfl

/-- ATLASQ with the image loaded writes its result (R413). -/
theorem atlasq_answers {v : Nat} {m : Bytes} {f : Dev} (hact : d.atlas.active = some (v, m)) (hload : d.atlas.loaded = true)
    (hbusy : bit 7 d.host.fnBusy = false) (hscan : d.scanLists m (d.param q 3 2 == 1) [e] nand = (none, f)) (hham : f.ham = d.ham) :
    atlasq q nand d = (f.dataWrite q (d.param q 3 1) (wordsToBytes (f.runQueries m 0 [e]).1)).answers q (d.seqr q).fetch
      (if (f.runQueries m 0 [e]).2.2 then 0 else 8) := by
  have hq := seq_of_unitReady h
  have hreach : (d.seqr q).inData (d.param q 3 1) (4 + 10 * e.k) = true := inData_of_writable hw
  have hseqr : f.seqr q = d.seqr q := by
    unfold Dev.seqr
    rw [hham]
  have hscan' : d.scanLists m (decide (d.param q 3 2 = 1)) [e] nand = (none, f) := hscan
  rw [atlasq, unitOp_ready _ h]
  dsimp only
  rw [hq, need_inData _ hin]
  simp only [he, hraw, Bool.false_or, decide_eq_true_eq, if_neg (Nat.not_lt.mpr hmode), hreach, Bool.not_true, Bool.false_eq_true, if_false,
    hact, hload, Bool.false_and, hbusy, Bool.or_false, hscan']
  rw [put_fits (d := f) _ (by rw [hseqr]; exact hw) (runQueries_length_le m e f)]
  cases (f.runQueries m 0 [e]).2.2 <;> rfl

end

/-! ### The obligation -/

/-- Settles O48: a setting's write judged in an event of the script's port, and the unit operations at their words. -/
theorem settingsAndMemoryOperations : Obligations.SettingsAndMemoryOperations := by
  refine ⟨fun q r s => ⟨fun h hat hrow haddr hone hlock hu hloop hspec cause hc => ?_,
    fun hat h1 h256 hw h9 h10 hsec hbusy hready hlen => ?_⟩, fun q nand s => ⟨fun r hr hat halign hin hoff => ?_,
    fun h hlen => ⟨fun hsep hin hw => ?_, fun h0 h1 => ?_⟩, fun h hkind hin hw => ?_, fun h e hin he hraw hmode hw =>
    ⟨fun hnone => ?_, fun v m d hup hact hload hbusy hscan hham => ?_⟩⟩⟩
  · exact setw_answers h hat hrow haddr hone hlock hu hloop hspec hc
  · exact answers_leaves rfl (drawOp_draws hat h1 h256 hw h9 h10 hsec hbusy hready hlen) (by rw [answers_jrnl, dataWrite_jrnl]; rfl) rfl
  · simp only [List.mem_cons, List.not_mem_nil, or_false] at hr
    obtain rfl | rfl | rfl | rfl | rfl | rfl | rfl | rfl | rfl := hr
    all_goals exact answers_leaves rfl (unitOp_off _ hat halign hin hoff) (answers_jrnl ..) rfl
  · exact answers_leaves rfl (copy_copies h hlen hsep hin hw) (by rw [answers_jrnl, dataWrite_jrnl]) rfl
  · exact answers_fault rfl (copy_overlap h hlen h0 h1)
  · exact answers_leaves rfl (crcOp_writes h hkind hin hw) (by rw [answers_jrnl, dataWrite_jrnl]) rfl
  · exact answers_leaves rfl (atlasq_absent h hin he hraw hmode hw hnone) (answers_jrnl ..) rfl
  · have ht := atlasq_answers h hin he hraw hmode hw hact hload hbusy hscan hham
    refine answers_room (f := atlasq q nand) rfl (.inr ?_) ht
    rw [ht, answers_jrnl, dataWrite_jrnl]
    exact scanLists_buf hscan hup

end Sys2Proof.Machine
end

section
/-!
PROOFS. The key operations of a script (R413, R414).
-/

namespace Sys2Proof.Machine

/-! ### A key operand (R328, R414) -/

theorem seqr_of_ham {d e : Dev} (q : Nat) (h : e.ham = d.ham) : e.seqr q = d.seqr q := by
  unfold Dev.seqr
  rw [h]

/-- A key that is refused gives its status (R414). -/
theorem withKey_refused {d : Dev} {u : Seqr} {v : Nat} {types : List Nat} {use : Option Nat} {st : Status} (fin : Status → Dev → HOut)
    (k : Bytes → Option Nat → Dev → HOut) (h : d.hammerKey u v types use = .inl st) (hst : st ≠ .slotBad) :
    d.withKey u v types use fin k = fin st d := by
  unfold Dev.withKey
  rw [h]
  split
  · next heq => exact absurd (Sum.inl.inj heq) hst
  · next heq => rw [Sum.inl.inj heq]
  · next heq => cases heq

/-- A key that is taken is handed on once its use has been counted (R328, R413). -/
theorem withKey_taken {d : Dev} {u : Seqr} {v : Nat} {types : List Nat} {use : Option Nat} {m : Bytes} {slot : Option Nat}
    (fin : Status → Dev → HOut) (k : Bytes → Option Nat → Dev → HOut) (h : d.hammerKey u v types use = .inr (m, slot))
    (hr : d.anvil.ready = true) : d.withKey u v types use fin k = k m slot (d.keyTaken slot) := by
  unfold Dev.withKey
  rw [h]
  exact if_pos hr

theorem keyTaken_get {pt : Part} (n : Option Nat) (d : Dev) (h : pt ∉ [.cru, .nv]) : (d.keyTaken n).get pt = d.get pt := by
  cases n with
  | none => rfl
  | some i => exact Dev.useKey_get _ _ _ h

theorem keyTaken_jrnl (n : Option Nat) (d : Dev) : (d.keyTaken n).jrnl = d.jrnl := keyTaken_get (pt := .jrnl) n d (by decide)

theorem keyTaken_ham (n : Option Nat) (d : Dev) : (d.keyTaken n).ham = d.ham := keyTaken_get (pt := .ham) n d (by decide)

theorem drawScalar_ham (d : Dev) : d.drawScalar.2.ham = d.ham := rfl

/-- A write to the data space moves no claim of the script. -/
theorem claimed_dataWrite (q a : Nat) (bs : Bytes) (d : Dev) : ((d.dataWrite q a bs).seqr q).claimed = (d.seqr q).claimed := by
  unfold Dev.dataWrite
  split
  · rfl
  · rw [seqr_onSeq]

theorem writable_congr {u v : Seqr} (h : u.claimed = v.claimed) (a n : Nat) : u.writable a n = v.writable a n := by
  unfold Seqr.writable Seqr.inData
  rw [h]

theorem inData_zero (u : Seqr) : u.inData 0 0 = true := by
  simp [Seqr.inData]

/-- A device whose sequencers stand as in another writes where that one may. -/
theorem put_as {d e : Dev} {q a : Nat} {bs : Bytes} (k : Dev → HOut) (hham : e.ham = d.ham) (h : (d.seqr q).writable a bs.length = true) :
    e.put q a bs k = k (e.dataWrite q a bs) := put_writable k (by rw [seqr_of_ham q hham]; exact h)

/-! ### AESN and CMACN -/

/-- The cipher that AESN names over a message: CBC either way, or CTR, with the IV it leaves (R413). -/
def aesnOut (mode : Nat) (k iv m : Bytes) : Bytes × Bytes :=
  if mode = 0 then cbcEncPart k iv m else if mode = 1 then cbcDecPart k iv m else ctrPart k iv m

section
variable {q : Nat} {d : Dev} (h : d.unitReady q 3 6 [9, 10] [3] = true) (hmode : d.param q 6 1 ≤ 2) (hlo : 1 ≤ d.param q 6 4)
  (hhi : d.param q 6 4 ≤ 256) (hin : (d.seqr q).inData (d.param q 6 2) (16 * d.param q 6 4) = true)
  (hiv : (d.seqr q).writable (d.param q 6 5) 16 = true)
include h hmode hlo hhi hin hiv

/-- AESN with its block in reach comes to its key. -/
theorem aesn_keyed : aesn q d = (d.withKey (d.seqr q) (d.param q 6 0) [1, 2] (some (if d.param q 6 1 = 1 then 1 else 0))
    (fun st e => e.unitEnd q (d.seqr q).fetch st) fun k _ e =>
      let r := aesnOut (d.param q 6 1) k (d.dataRead q (d.param q 6 5) 16) (d.dataRead q (d.param q 6 2) (16 * d.param q 6 4))
      e.put q (d.param q 6 3) r.1 fun e => e.put q (d.param q 6 5) r.2 fun e => e.unitEnd q (d.seqr q).fetch .done).leaves q d := by
  rw [aesn, unitOp_ready _ h]
  dsimp only
  rw [seq_of_unitReady h, if_neg (by simp; omega), need_inData _ hin, need_inData _ (inData_of_writable hiv)]
  rfl

theorem aesn_refused {st : Status} (hkey : d.hammerKey (d.seqr q) (d.param q 6 0) [1, 2] (some (if d.param q 6 1 = 1 then 1 else 0)) = .inl st)
    (hst : st ≠ .slotBad) : aesn q d = d.answers q (d.seqr q).fetch st.code := by
  rw [aesn_keyed h hmode hlo hhi hin hiv, withKey_refused _ _ hkey hst]
  rfl

theorem aesn_ciphers {k : Bytes} {slot : Option Nat}
    (hkey : d.hammerKey (d.seqr q) (d.param q 6 0) [1, 2] (some (if d.param q 6 1 = 1 then 1 else 0)) = .inr (k, slot))
    (hr : d.anvil.ready = true) (hout : (d.seqr q).writable (d.param q 6 3) (16 * d.param q 6 4) = true) :
    let out := aesnOut (d.param q 6 1) k (d.dataRead q (d.param q 6 5) 16) (d.dataRead q (d.param q 6 2) (16 * d.param q 6 4))
    out.1.length = 16 * d.param q 6 4 → out.2.length = 16 →
    aesn q d = (((d.keyTaken slot).dataWrite q (d.param q 6 3) out.1).dataWrite q (d.param q 6 5) out.2).answers q (d.seqr q).fetch 0 := by
  intro out h1 h2
  have hclaimed : (((d.keyTaken slot).dataWrite q (d.param q 6 3) out.1).seqr q).claimed = (d.seqr q).claimed := by
    rw [claimed_dataWrite, seqr_of_ham q (keyTaken_ham slot d)]
  rw [aesn_keyed h hmode hlo hhi hin hiv, withKey_taken _ _ hkey hr]
  dsimp only
  rw [put_as (bs := out.1) _ (keyTaken_ham slot d) (by rw [h1]; exact hout),
    put_writable (bs := out.2) _ (by rw [writable_congr hclaimed, h2]; exact hiv)]
  rfl

end

theorem cmacn_tags {q n : Nat} {d : Dev} {ver : Bool} {k : Bytes} {slot : Option Nat} (h : d.unitReady q 4 5 [9, 10] [3] = true)
    (hn : n ∈ [4, 8, 16]) (hp : d.param q 5 4 = n + (if ver then 256 else 0)) (hlen : d.param q 5 2 ≤ 4096)
    (hin : (d.seqr q).inData (d.param q 5 1) (d.param q 5 2) = true) (hw : (d.seqr q).writable (d.param q 5 3) n = true)
    (hkey : d.hammerKey (d.seqr q) (d.param q 5 0) [1, 2] (some (if ver then 3 else 2)) = .inr (k, slot)) (hr : d.anvil.ready = true) :
    let tag := (cmac k (d.dataRead q (d.param q 5 1) (d.param q 5 2))).take n
    tag.length = n →
    cmacn q d = if ver then (d.keyTaken slot).answers q (d.seqr q).fetch (if tag = d.dataRead q (d.param q 5 3) n then 0 else 4)
      else ((d.keyTaken slot).dataWrite q (d.param q 5 3) tag).answers q (d.seqr q).fetch 0 := by
  intro tag htag
  have hparts : d.param q 5 4 % 32 = n ∧ bit 8 (d.param q 5 4) = ver ∧ d.param q 5 4 / 32 % 8 = 0 ∧ d.param q 5 4 < 512 ∧
      (n = 4 ∨ n = 8 ∨ n = 16) := by
    rw [hp]
    simp only [List.mem_cons, List.not_mem_nil, or_false] at hn
    obtain rfl | rfl | rfl := hn <;> cases ver <;> decide
  obtain ⟨htl, hver, hmid, htop, hsize⟩ := hparts
  rw [cmacn, unitOp_ready _ h]
  dsimp only
  rw [seq_of_unitReady h, htl, hver, hmid, if_neg (by simp; omega), need_inData _ hin, need_inData _ (inData_of_writable hw),
    withKey_taken _ _ hkey hr]
  cases ver with
  | true =>
    simp only [if_true, beq_iff_eq, leaves_unitEnd, tag]
    split <;> rfl
  | false =>
    simp only [Bool.false_eq_true, if_false]
    rw [put_as (bs := tag) _ (keyTaken_ham slot d) (by rw [htag]; exact hw)]
    rfl

/-! ### HKDF -/

section
variable {q : Nat} {d : Dev} (h : d.unitReady q 5 8 [9, 10] [3] = true) (h1 : d.param q 8 1 ≤ 256) (h3 : d.param q 8 3 ≤ 256)
  (h5 : d.param q 8 5 ≤ 256) (h6 : bit 31 (d.param q 8 6) = false) (h7 : d.param q 8 7 ≤ 64)
  (hsalt : (d.seqr q).inData (d.param q 8 2) (d.param q 8 3) = true) (hinfo : (d.seqr q).inData (d.param q 8 4) (d.param q 8 5) = true)
include h h1 h3 h5 h6 h7 hsalt hinfo

/-- What is derived from a key goes to no memory (R413). -/
theorem unitHkdf_keyed (h0 : bit 31 (d.param q 8 0) = true) : unitHkdf q d = d.answers q (d.seqr q).fetch 0x16 := by
  rw [unitHkdf, unitOp_ready _ h]
  dsimp only
  rw [seq_of_unitReady h, h0, h6, if_neg (by simp; omega), need_inData _ hsalt, need_inData _ hinfo]
  rfl

theorem unitHkdf_writes (h0 : bit 31 (d.param q 8 0) = false) (hikm : (d.seqr q).inData (d.param q 8 0) (d.param q 8 1) = true)
    (hw : (d.seqr q).writable (d.param q 8 6) (d.param q 8 7) = true) :
    let out := hkdf (d.dataRead q (d.param q 8 0) (d.param q 8 1)) (d.dataRead q (d.param q 8 2) (d.param q 8 3))
      (d.dataRead q (d.param q 8 4) (d.param q 8 5)) (d.param q 8 7)
    out.length = d.param q 8 7 → unitHkdf q d = (d.dataWrite q (d.param q 8 6) out).answers q (d.seqr q).fetch 0 := by
  intro out hlen
  rw [unitHkdf, unitOp_ready _ h]
  dsimp only
  rw [seq_of_unitReady h, h0, h6, if_neg (by simp; omega), need_inData _ hsalt, need_inData _ hinfo, if_neg (by decide), need_inData _ hikm,
    if_neg (by decide), put_writable (bs := out) _ (by rw [hlen]; exact hw)]
  rfl

end

/-! ### ECMUL and ECDSA -/

section
variable {q : Nat} {d : Dev} {k : Bytes} {slot : Option Nat} (h : d.unitReady q 6 4 [9, 10] [3] = true) (h0 : d.param q 4 0 ≠ 0xFF)
  (hkey : d.hammerKey (d.seqr q) (d.param q 4 0) [3] (some 5) = .inr (k, slot)) (hr : d.anvil.ready = true)
include h h0 hkey hr

/-- ECMUL without a peer writes the public point (R413). -/
theorem ecmul_public (h2 : d.param q 4 2 = 0) (hw : (d.seqr q).writable (d.param q 4 3) 64 = true) (hlen : (ecPub k).length = 64) :
    ecmul q d = ((d.keyTaken slot).dataWrite q (d.param q 4 3) (ecPub k)).answers q (d.seqr q).fetch 0 := by
  have hnone : d.dataRead q 0 0 = [] := rfl
  rw [ecmul, unitOp_ready _ h]
  dsimp only
  simp only [seq_of_unitReady h, h2, if_true]
  rw [need_inData _ (inData_zero _), if_neg (by simp [inData_of_writable hw]), if_neg h0, withKey_taken _ _ hkey hr, hnone]
  unfold Dev.ecmulOut
  rw [if_pos (by rfl), put_as _ (keyTaken_ham slot d) (by rw [hlen]; exact hw)]
  rfl

theorem dataRead_length {a n : Nat} (hib : (d.seqr q).ib.length = 1024) (hob : (d.seqr q).ob.length = 1024)
    (hin : (d.seqr q).inData a n = true) : (d.dataRead q a n).length = n := by
  unfold Dev.dataRead
  split
  · exact cellsRead_length ..
  · next hhigh =>
    simp only [Seqr.inData, Bool.or_eq_true, Bool.and_eq_true, decide_eq_true_eq] at hin
    rw [slice, List.length_take, List.length_drop, List.length_append, hib, hob]
    omega

/-- ECMUL's shared secret goes to a volatile slot alone (R413). -/
theorem ecmul_noSlot (h2 : d.param q 4 2 ≠ 0) (hib : (d.seqr q).ib.length = 1024) (hob : (d.seqr q).ob.length = 1024)
    (hin : (d.seqr q).inData (d.param q 4 2) 64 = true) (h3 : d.param q 4 3 < 48 ∨ 63 < d.param q 4 3) :
    ecmul q d = (d.keyTaken slot).answers q (d.seqr q).fetch 0x16 := by
  have hlen : (d.dataRead q (d.param q 4 2) 64).length = 64 := dataRead_length h h0 hkey hr hib hob hin
  have hsome : ¬ (d.dataRead q (d.param q 4 2) 64).isEmpty = true := by
    rw [List.isEmpty_iff]
    intro he
    rw [he] at hlen
    exact absurd hlen (by decide)
  rw [ecmul, unitOp_ready _ h]
  dsimp only
  rw [seq_of_unitReady h, if_neg h2, need_inData _ hin, if_neg (by simp [h2]), if_neg h0, withKey_taken _ _ hkey hr]
  unfold Dev.ecmulOut
  rw [if_neg hsome, if_pos (by simp; omega)]
  rfl

end

section
variable {q : Nat} {d : Dev} (h : d.unitReady q 7 4 [9, 10] [3] = true) (hdig : (d.seqr q).inData (d.param q 4 2) 32 = true)
include h hdig

/-- ECDSA verifies under a public key in memory (R413). -/
theorem ecdsa_verifies (hsig : (d.seqr q).inData (d.param q 4 3) 64 = true) (h0 : d.param q 4 0 = 1) (h1 : bit 31 (d.param q 4 1) = true)
    (hpub : (d.seqr q).inData (d.param q 4 1 % 2 ^ 31) 64 = true) :
    let pub := d.dataRead q (d.param q 4 1 % 2 ^ 31) 64
    ecdsa q d = d.answers q (d.seqr q).fetch (if (ecPoint pub).isNone then 0x16
      else if ecdsaVerify pub (d.dataRead q (d.param q 4 2) 32) (d.dataRead q (d.param q 4 3) 64) then 0 else 4) := by
  rw [ecdsa, unitOp_ready _ h]
  dsimp only
  simp only [seq_of_unitReady h, h0, h1]
  rw [if_neg (by decide), need_inData _ hdig, need_inData _ hsig, if_pos trivial, need_inData _ hpub]
  split
  · rfl
  · split <;> rfl

/-- ECDSA signs with a drawn scalar (R413). -/
theorem ecdsa_signs {k : Bytes} {slot : Option Nat} (h0 : d.param q 4 0 = 0) (h1 : bit 31 (d.param q 4 1) = false)
    (hkey : d.hammerKey (d.seqr q) (d.param q 4 1) [3] (some 4) = .inr (k, slot)) (hr : d.anvil.ready = true)
    (hw : (d.seqr q).writable (d.param q 4 3) 64 = true) :
    let r := (d.keyTaken slot).drawScalar
    let sig := ecdsaSign k (d.dataRead q (d.param q 4 2) 32) r.1
    sig.length = 64 → ecdsa q d = (r.2.dataWrite q (d.param q 4 3) sig).answers q (d.seqr q).fetch 0 := by
  intro r sig hlen
  rw [ecdsa, unitOp_ready _ h]
  dsimp only
  simp only [seq_of_unitReady h, h0, h1]
  rw [if_neg (by decide), need_inData _ hdig, need_inData _ (inData_of_writable hw), if_neg (by decide), if_neg (by decide),
    withKey_taken _ _ hkey hr]
  exact congrArg (HOut.leaves q d) (put_as (d := d) (e := r.2) (bs := sig) _ ((drawScalar_ham _).trans (keyTaken_ham slot d))
    (by rw [hlen]; exact hw))

end

/-! ### The obligation -/

/-- Settles O49: each key operation at its word, with its key refused or taken. -/
theorem unitKeyOperations : Obligations.UnitKeyOperations := by
  intro q s hr
  refine ⟨fun h hmode hlo hhi hin hiv hout key hkey => ?_, fun h n hn ver hp hlen hin hw k slot hkey htag => ?_,
    fun h h1 h3 h5 h6 h7 hsalt hinfo => ⟨fun h0 => ?_, fun h0 hikm hw hlen => ?_⟩,
    fun h h0 k slot hkey => ⟨fun h2 hw hlen => ?_, fun h2 hib hob hin h3 => ?_⟩,
    fun h hdig hsig => ⟨fun h0 h1 hpub => ?_, fun k slot h0 h1 hkey hw hlen => ?_⟩⟩
  · match key, hkey with
    | .inl st, hkey => exact fun hst => answers_leaves rfl (aesn_refused h hmode hlo hhi hin hiv hkey hst) (answers_jrnl ..) rfl
    | .inr (k, slot), hkey =>
      intro h1 h2
      exact answers_leaves rfl (aesn_ciphers h hmode hlo hhi hin hiv hkey hr hout h1 h2)
        (by rw [answers_jrnl, dataWrite_jrnl, dataWrite_jrnl, keyTaken_jrnl]) rfl
  · refine answers_leaves rfl (cmacn_tags h hn hp hlen hin hw hkey hr htag) ?_ rfl
    split
    · rw [answers_jrnl, keyTaken_jrnl]
    · rw [answers_jrnl, dataWrite_jrnl, keyTaken_jrnl]
  · exact answers_leaves rfl (unitHkdf_keyed h h1 h3 h5 h6 h7 hsalt hinfo h0) (answers_jrnl ..) rfl
  · exact answers_leaves rfl (unitHkdf_writes h h1 h3 h5 h6 h7 hsalt hinfo h0 hikm hw hlen) (by rw [answers_jrnl, dataWrite_jrnl]) rfl
  · exact answers_leaves rfl (ecmul_public h h0 hkey hr h2 hw hlen) (by rw [answers_jrnl, dataWrite_jrnl, keyTaken_jrnl]) rfl
  · exact answers_leaves rfl (ecmul_noSlot h h0 hkey hr h2 hib hob hin h3) (by rw [answers_jrnl, keyTaken_jrnl]) rfl
  · exact answers_leaves rfl (ecdsa_verifies h hdig hsig h0 h1 hpub) (answers_jrnl ..) rfl
  · refine answers_leaves rfl (ecdsa_signs h hdig h0 h1 hkey hr hw hlen) ?_ rfl
    rw [answers_jrnl, dataWrite_jrnl]
    exact keyTaken_jrnl slot s.toDev

end Sys2Proof.Machine
end

section
/-!
PROOFS. What further functions of the model leave of the device, part by part.
-/

namespace Sys2Proof.Machine

@[simp] theorem Dev.frameBad_get {pt : Part} (noisy : Bool) (win : Option Listen) (d : Dev) (h : pt ∉ [.lf, .uhf]) : (Dev.frameBad noisy win d).get pt = d.get pt := by
  cases pt <;> simp at h <;> rfl

@[simp] theorem Dev.frameSeen_get {pt : Part} (m : ℕ) (f : TokenFrame) (d : Dev) (h : pt ≠ .uhf) : (Dev.frameSeen m f d).get pt = d.get pt := by
  simp [Dev.frameSeen, h, apply_ite (Dev.get · pt), foldl_get, apply_ite Prod.fst, apply_ite Prod.snd]

@[simp] theorem Dev.frameAccepted_get {pt : Part} (rx : UhfRx) (m : ℕ) (slot : Option ℕ) (f : TokenFrame) (d : Dev) (h : pt ≠ .uhf) : (Dev.frameAccepted rx m slot f d).get pt = d.get pt := by
  simp [Dev.frameAccepted, h, apply_ite (Dev.get · pt), foldl_get, apply_ite Prod.fst, apply_ite Prod.snd]

@[simp] theorem Dev.synced_get {pt : Part} (rx : UhfRx) (d : Dev) (h : pt ≠ .uhf) : (Dev.synced rx d).get pt = d.get pt := by
  simp [Dev.synced, h, apply_ite (Dev.get · pt), foldl_get, apply_ite Prod.fst, apply_ite Prod.snd]

@[simp] theorem Dev.receive_get {pt : Part} (rx : UhfRx) (d : Dev) (h : pt ∉ [.clock, .lf, .uhf]) : (Dev.receive rx d).1.get pt = d.get pt := by
  simp at h
  unfold Dev.receive
  dsimp only
  repeat' split
  all_goals simp [h, apply_ite (Dev.get · pt), foldl_get, apply_ite Prod.fst, apply_ite Prod.snd]

@[simp] theorem Dev.toStamp_get {pt : Part} (x0 : RangeRun) (t : ℕ) (d : Dev) (h : pt ≠ .clock) : (Dev.toStamp x0 t d).get pt = d.get pt := by
  simp [Dev.toStamp, h, apply_ite (Dev.get · pt), foldl_get, apply_ite Prod.fst, apply_ite Prod.snd]

@[simp] theorem Dev.launch_get {pt : Part} (x0 : RangeRun) (j : ℕ) (ru : ℕ) (d : Dev) (h : pt ≠ .uwb) : (Dev.launch x0 j ru d).get pt = d.get pt := by
  simp [Dev.launch, h, apply_ite (Dev.get · pt), foldl_get, apply_ite Prod.fst, apply_ite Prod.snd]

@[simp] theorem Dev.sendPoll_get {pt : Part} (tag : ℕ) (x1 : RangeRun) (d : Dev) (h : pt ≠ .uwb) : (Dev.sendPoll tag x1 d).get pt = d.get pt := by
  simp [Dev.sendPoll, h, apply_ite (Dev.get · pt), foldl_get, apply_ite Prod.fst, apply_ite Prod.snd]

@[simp] theorem Dev.sendFinal_get {pt : Part} (x0 : RangeRun) (d : Dev) (h : pt ≠ .uwb) : (Dev.sendFinal x0 d).get pt = d.get pt := by
  cases pt <;> simp at h <;> rfl

@[simp] theorem Dev.rangeNoted_get {pt : Part} (x0 : RangeRun) (m : Bytes) (d : Dev) (h : pt ≠ .uwb) : (Dev.rangeNoted x0 m d).get pt = d.get pt := by
  simp [Dev.rangeNoted, h, apply_ite (Dev.get · pt), foldl_get, apply_ite Prod.fst, apply_ite Prod.snd]

@[simp] theorem Dev.standby_get {pt : Part} (d : Dev) (h : pt ∉ [.clock, .pwr, .jrnl, .evc, .lf, .nv, .bg]) : (Dev.standby d).get pt = d.get pt := by
  simp at h
  simp [Dev.standby, h, apply_ite (Dev.get · pt), foldl_get, apply_ite Prod.fst, apply_ite Prod.snd]

@[simp] theorem Dev.airOut_get {pt : Part} (d : Dev) (h : pt ∉ [.clock, .lf]) : (Dev.airOut d).get pt = d.get pt := by
  cases pt <;> simp at h
  all_goals
    unfold Dev.airOut
    repeat' split
    all_goals simp [Dev.get_mk, Dev.parts]

@[simp] theorem Dev.rangeRest_get {pt : Part} (x0 : RangeRun) (resp : Option UwbRx) (rep : Option UwbRx) (d : Dev) (h : pt ∉ [.clock, .uwb]) : (Dev.rangeRest x0 resp rep d).2.2.get pt = d.get pt := by
  simp at h
  unfold Dev.rangeRest
  dsimp only
  repeat' split
  all_goals simp [h, apply_ite (Dev.get · pt), foldl_get, apply_ite Prod.fst, apply_ite Prod.snd]

end Sys2Proof.Machine
end

section
/-!
PROOFS. How much a stretch of a row may add to the journal's buffer. A row whose records leave the general space unfilled enters no journal
hold (R144), so its state is the one its meaning leaves.
-/

namespace Sys2Proof.Machine

/-- A stretch of a row that leaves the device's state and ROOT as they are and makes at most `n` records. -/
structure Steady (n : Nat) (s t : Dev) : Prop where
  dev : t.pwr.dev = s.pwr.dev
  rootOn : t.clock.rootOn = s.clock.rootOn
  buf : t.jrnl.buf.length ≤ s.jrnl.buf.length + n

namespace Steady

variable {m n : Nat} {s t u : Dev}

theorem refl (s : Dev) : Steady 0 s s := ⟨rfl, rfl, le_rfl⟩

theorem trans (h : Steady m s t) (k : Steady n t u) : Steady (m + n) s u :=
  ⟨k.dev.trans h.dev, k.rootOn.trans h.rootOn, by have := h.buf; have := k.buf; omega⟩

theorem mono (h : Steady m s t) (hmn : m ≤ n) : Steady n s t := ⟨h.dev, h.rootOn, by have := h.buf; omega⟩

/-- What moves no power state, clock or journal. -/
theorem of_parts (hp : t.pwr.dev = s.pwr.dev) (hc : t.clock.rootOn = s.clock.rootOn) (hj : t.jrnl = s.jrnl) : Steady 0 s t :=
  ⟨hp, hc, by rw [hj]; exact le_rfl⟩

/-- A stretch behind a change of what moves no power state, clock or journal. -/
theorem after (h : Steady n t u) (hp : t.pwr.dev = s.pwr.dev) (hc : t.clock.rootOn = s.clock.rootOn) (hj : t.jrnl = s.jrnl) : Steady n s u :=
  ⟨h.dev.trans hp, h.rootOn.trans hc, by rw [← hj]; exact h.buf⟩

/-- A stretch before such a change. -/
theorem before (h : Steady n s t) (hp : u.pwr.dev = t.pwr.dev) (hc : u.clock.rootOn = t.clock.rootOn) (hj : u.jrnl = t.jrnl) : Steady n s u :=
  ⟨hp.trans h.dev, hc.trans h.rootOn, by rw [hj]; exact h.buf⟩

theorem ite {c : Prop} [Decidable c] (h : Steady n s t) (k : Steady n s u) : Steady n s (if c then t else u) := by
  split
  · exact h
  · exact k

end Steady

theorem note_steady (origin : Nat) (x : Draft) (d : Dev) : Steady 1 d (d.note origin x) := by
  refine ⟨by rw [Dev.note_pwr], by rw [Dev.note_clock], ?_⟩
  by_cases h : d.jrnl.buf.length < 1024
  · exact (note_buf_length h origin x).le
  · rw [show d.note origin x = d.fold x.cls from if_neg h]
    exact Nat.le_succ _

theorem reach_steady (n : Nat) (d : Dev) : Steady 0 d (d.reach n) :=
  .of_parts (congrArg Power.dev (Dev.reach_get (pt := .pwr) n d (by decide))) (congrArg Clock.rootOn (Dev.reach_get (pt := .clock) n d (by decide)))
    (Dev.reach_get (pt := .jrnl) n d (by decide))

theorem acceptOn_steady (port : Nat) (close : Bool) (d : Dev) : Steady 0 d (d.acceptOn port close) := by
  unfold Dev.acceptOn
  split
  · exact .of_parts rfl (accept_rootOn ..) rfl
  · exact .of_parts rfl rfl rfl

theorem aside_steady {k : Nat} {f : Dev → Dev} (port : Nat) (d : Dev) (hf : ∀ e, Steady k e (f e)) : Steady k d (d.aside port f) := by
  unfold Dev.aside
  split
  · have h := hf { d with clock := d.clock.follow d.wantDepth port }
    exact ⟨h.dev, h.rootOn.trans (follow_rootOn ..), h.buf⟩
  · have h := hf { d with clock := { d.clock with evTb := d.now } }
    exact ⟨h.dev, h.rootOn, h.buf⟩

theorem raise_steady (n : Nat) (d : Dev) : Steady 0 d (d.raise n) := aside_steady _ d (reach_steady n)

theorem noteOn_steady (port origin : Nat) (x : Draft) (d : Dev) : Steady 1 d (d.noteOn port origin x) := aside_steady _ d (note_steady origin x)

theorem event_steady (n : Nat) (d : Dev) : Steady 0 d (d.event n) := (acceptOn_steady _ _ d).trans (reach_steady n _)

theorem begins_steady (n : Nat) (d : Dev) : Steady 0 d (d.begins n) :=
  .ite (.refl d) ((event_steady n _).after rfl rfl rfl)

theorem arises_steady (n : Nat) (d : Dev) : Steady 0 d (d.arises n) :=
  .ite (.refl d) ((raise_steady n _).after rfl rfl rfl)

theorem wait_steady (t : Nat) (d : Dev) : Steady 0 d (d.wait t) := .of_parts rfl (wait_rootOn ..) rfl

section
variable {d : Dev} (h : d.pwr.dev ≠ .doze)
include h

theorem presentOn_steady (port : Nat) : Steady 0 d (d.presentOn port) := by
  rw [Dev.presentOn, undoze_awake h]
  exact acceptOn_steady ..

theorem closeOn_steady (port : Nat) : Steady 0 d (d.closeOn port) := by
  rw [Dev.closeOn, undoze_awake h]
  exact acceptOn_steady ..

theorem signal_steady (n : Nat) : Steady 0 d (d.signal n) := by
  rw [signal_awake n h]
  exact event_steady n d

theorem alsoSignal_steady (n : Nat) : Steady 0 d (d.alsoSignal n) := by
  rw [alsoSignal_awake n h]
  exact raise_steady n d

theorem starts_steady (n : Nat) : Steady 0 d (d.starts n) := by
  unfold Dev.starts
  rw [undoze_awake h]
  exact .ite (.refl d) (begins_steady n d)

theorem alsoStarts_steady (n : Nat) : Steady 0 d (d.alsoStarts n) := by
  unfold Dev.alsoStarts
  rw [undoze_awake h]
  exact .ite (.refl d) (arises_steady n d)

/-- An override makes one record at most (R532). -/
theorem overrideCheck_steady (n : Nat) : Steady 1 d (d.overrideCheck n) := by
  unfold Dev.overrideCheck
  dsimp only
  split
  · split
    · exact (Steady.refl d).mono (Nat.zero_le 1)
    · generalize he : ({ d.putLoop n _ with bg := _ } : Dev) = e
      have hnoted (x : Draft) : Steady 1 d (e.noteOn (loopPort n) oLoop x) := (noteOn_steady _ oLoop x e).after (by rw [← he]; rfl) (by rw [← he]; rfl) (by rw [← he]; rfl)
      exact (hnoted _).trans (alsoSignal_steady (by rw [(hnoted _).dev]; exact h) 158)
  · exact Steady.mono (m := 0) (.of_parts rfl rfl rfl) (Nat.zero_le 1)

/-- So does the thermal check of an emission's start (R208). -/
theorem lfHeat_steady : Steady 1 d d.lfHeat := by
  unfold Dev.lfHeat
  dsimp only
  split
  · have hcond (b : Background) : Steady 0 d (if decide (0 ≤ d.overHeat) = true then Dev.starts 60 { d with bg := b } else Dev.ends 60 { d with bg := b }) :=
      .ite ((starts_steady (d := { d with bg := b }) h 60).after rfl rfl rfl) (.of_parts rfl rfl rfl)
    exact (hcond _).trans (overrideCheck_steady (by rw [(hcond _).dev]; exact h) 0)
  · exact (Steady.refl d).mono (Nat.zero_le 1)

theorem emit_steady (e : Emission) (mask b n : Nat) (wish : List Nat) : Steady 1 d (d.emit e mask b n wish) :=
  (lfHeat_steady h).before rfl rfl rfl

theorem send_steady (e : Emission) (mask b code : Nat) (data : Bytes) : Steady 1 d (d.send e mask b code data) :=
  (emit_steady h e mask b (d.telegramLen b data.length) []).before rfl rfl rfl

theorem standby_steady : Steady 1 d d.standby := by
  unfold Dev.standby
  dsimp only
  split
  · exact (send_steady (d := { d with lf := { d.lf with standbyDue := 0 } }) h ..).after rfl rfl rfl
  · exact Steady.mono (m := 0) (.of_parts rfl rfl rfl) (Nat.zero_le 1)

end

theorem airOut_steady (d : Dev) : Steady 0 d d.airOut := by
  unfold Dev.airOut
  split
  · exact (wait_steady _ d).before rfl rfl rfl
  · exact .refl d

/-- A row whose stretch leaves the general space unfilled answers what its meaning leaves. -/
theorem answers_steady {i : Instr} {s : State} {f : Dev → Dev} {P : Dev → Prop} {n : Nat} (he : exec i s = run f s)
    (hs : Steady n s.toDev (f s.toDev)) (hb : s.jrnl.buf.length + n < 960) (hP : P (f s.toDev)) : Answers i s P :=
  answers_room he (.inr (by have := hs.buf; omega)) hP

end Sys2Proof.Machine
end

section
/-!
PROOFS. The radio operations of a script (R413): the obligation.
-/

namespace Sys2Proof.Machine

/-! ### What the sequencers' state follows from -/

theorem onSeq_ham_congr {d e : Dev} (q : Nat) (f : Seqr → Seqr) (h : e.ham = d.ham) : (e.onSeq q f).ham = (d.onSeq q f).ham := by
  unfold Dev.onSeq
  rw [h]
  split <;> rfl

theorem dataWrite_ham_congr {d e : Dev} (q a : Nat) (bs : Bytes) (h : e.ham = d.ham) : (e.dataWrite q a bs).ham = (d.dataWrite q a bs).ham := by
  unfold Dev.dataWrite
  by_cases ha : a < 0x10000
  · rw [if_pos ha, if_pos ha, h]
  · rw [if_neg ha, if_neg ha]
    exact onSeq_ham_congr q _ h

theorem answers_ham_congr {d e : Dev} (q : Nat) (h : HWord) (v : Nat) (hh : e.ham = d.ham) : (e.answers q h v).ham = (d.answers q h v).ham :=
  onSeq_ham_congr q _ hh

theorem dataWrite_frame (q a : Nat) (bs : Bytes) (d : Dev) : d.dataWrite q a bs = { d with ham := (d.dataWrite q a bs).ham } := by
  unfold Dev.dataWrite
  split
  · rfl
  · exact onSeq_frame ..

/-- A write that ends a unit operation moves the hammer alone. -/
theorem written_get {pt : Part} (q a v : Nat) (bs : Bytes) (h : HWord) (d : Dev) (hpt : pt ≠ .ham) :
    ((d.dataWrite q a bs).answers q h v).get pt = d.get pt := by
  rw [answers_frame, Dev.get_with_ham _ _ hpt, dataWrite_frame, Dev.get_with_ham _ _ hpt]

theorem written_steady {n : Nat} {s d : Dev} (q a v : Nat) (bs : Bytes) (h : HWord) (hd : Steady n s d) :
    Steady n s ((d.dataWrite q a bs).answers q h v) :=
  hd.before (by rw [show ((d.dataWrite q a bs).answers q h v).pwr = d.pwr from written_get (pt := .pwr) q a v bs h d (by decide)])
    (by rw [show ((d.dataWrite q a bs).answers q h v).clock = d.clock from written_get (pt := .clock) q a v bs h d (by decide)])
    (written_get (pt := .jrnl) q a v bs h d (by decide))

/-! ### LFTX -/

/-- The codes a script sends without a signed image: none that R194 reserves, and none that is a token's own (R413). -/
def codeFree (code : Nat) : Prop := (1 ≤ code ∧ code ≤ 2) ∨ code = 6 ∨ code = 7 ∨ (0x40 ≤ code ∧ code ≤ 0x50)

/-- Word 0 of LFTX, by its fields. -/
theorem lftx_fields {p mask rate code : Nat} (hp : p = mask + 256 * rate + 65536 * code) (hm : mask < 256) (hr : rate < 3) (hc : codeFree code) :
    p % 256 = mask ∧ field 9 8 p = rate ∧ field 23 16 p = code ∧ field 15 10 p = 0 ∧ p < 2 ^ 24 ∧ codeReserved code = false ∧
      ¬ (3 ≤ code ∧ code ≤ 5) := by
  unfold codeFree at hc
  simp only [field, codeReserved, Bool.or_eq_false_iff, Bool.and_eq_false_iff, decide_eq_false_iff_not]
  omega

/-- The state that LFTX's telegram leaves at its end. -/
def Dev.lftxAir (q mask rate code : Nat) (d : Dev) : Dev :=
  (d.send (.command noTag) (d.usable (d.maskOf mask)) (d.bitTime rate) code (d.dataRead q (d.param q 5 1) (d.param q 5 2))).airOut

theorem lftxAir_get {pt : Part} (q mask rate code : Nat) (d : Dev) (hpt : pt ∉ [.clock, .pwr, .jrnl, .evc, .lf, .nv, .bg]) :
    (d.lftxAir q mask rate code).get pt = d.get pt := by
  simp only [List.mem_cons, List.not_mem_nil, or_false, not_or] at hpt
  rw [Dev.lftxAir, Dev.airOut_get _ (by simp [hpt]), Dev.send_get _ _ _ _ _ _ (by simp [hpt])]

theorem lftxAir_steady {d : Dev} (q mask rate code : Nat) (h : d.pwr.dev ≠ .doze) : Steady 1 d (d.lftxAir q mask rate code) :=
  (send_steady h ..).trans (airOut_steady _)

theorem airOut_emission (d : Dev) : d.airOut.lf.emission = none := by
  unfold Dev.airOut
  split
  · rfl
  · assumption

theorem airOut_air (d : Dev) : d.airOut.lf.air = d.lf.air := by
  unfold Dev.airOut
  split
  · rfl
  · rfl

theorem lftx_sends {q mask rate code : Nat} {d : Dev} (h : d.unitReady q 0 5 [4] [0] = true) (hidle : d.lf.emission = none) (hm : mask < 256)
    (hr : rate < 3) (hp : d.param q 5 0 = mask + 256 * rate + 65536 * code) (h2 : d.param q 5 2 ≤ 16) (hc : codeFree code)
    (h3 : d.param q 5 3 = 0) (hin : (d.seqr q).inData (d.param q 5 1) (d.param q 5 2) = true)
    (hw : (d.seqr q).writable ((d.seqr q).num (d.seqr q).fetch.a + 16) 4 = true) (huse : d.usable (d.maskOf mask) ≠ 0) :
    lftx q d = ((d.lftxAir q mask rate code).dataWrite q ((d.seqr q).num (d.seqr q).fetch.a + 16)
      (leBytes 4 (d.lftxAir q mask rate code).now)).answers q (d.seqr q).fetch 0 := by
  obtain ⟨hfm, hfr, hfc, hzero, htop, hfree, hown⟩ := lftx_fields hp hm hr hc
  have hrate : ¬ rate = 3 := by omega
  have h16 : ¬ 16 < d.param q 5 2 := by omega
  have htop' : ¬ 2 ^ 24 ≤ d.param q 5 0 := by omega
  have hham : (d.lftxAir q mask rate code).ham = d.ham := lftxAir_get (pt := .ham) q mask rate code d (by decide)
  have hown' : (decide (3 ≤ code) && decide (code ≤ 5) && (((d.seqr q).image.map Script.signer).getD 0 != 1)) = false := by
    simp only [Bool.and_eq_false_iff, decide_eq_false_iff_not]
    omega
  rw [lftx, unitOp_ready _ h]
  simp only [seq_of_unitReady h, hfm, hfr, hfc, hzero, hfree, h3, hrate, h16, htop', bne_self_eq_false, decide_false, Bool.or_false,
    Bool.false_and, Bool.false_eq_true, if_false, need_inData _ hin, hown', huse, if_true]
  rw [takeLf_idle hidle]
  exact congrArg (HOut.leaves q d) (put_as (d := d) (e := d.lftxAir q mask rate code) _ hham (by rw [length_leBytes]; exact hw))

/-! ### UHFRX -/

/-- A window's one frame, where it is accepted, moves time, the LF and the UHF units alone (R226). -/
theorem listenOnce_get {pt : Part} {w : Listen} {rx : Option UhfRx} {wanted : TokenFrame → Bool} {d e : Dev} {f : TokenFrame}
    (hrun : d.pwr.dev = .run) (h : d.listenOnce w rx wanted = (some f, e)) (hpt : pt ∉ [.clock, .lf, .uhf]) : e.get pt = d.get pt := by
  simp only [List.mem_cons, List.not_mem_nil, or_false, not_or] at hpt
  unfold Dev.listenOnce at h
  dsimp only at h
  split at h
  · exact absurd (congrArg Prod.fst h) nofun
  · next r =>
    split at h
    · exact absurd (congrArg Prod.fst h) nofun
    · split at h
      · next x k heard =>
        split at h
        · have hx : x.get pt = d.get pt := by
            have hg := Dev.receive_get (pt := pt) r { d with uhf := { d.uhf with windows := w :: d.uhf.windows } } (by simp [hpt])
            rw [heard] at hg
            rw [hg, Dev.get_with_uhf _ _ hpt.2.2]
          have hxrun : x.pwr.dev ≠ .doze := by
            have hg := Dev.receive_get (pt := .pwr) r { d with uhf := { d.uhf with windows := w :: d.uhf.windows } } (by decide)
            rw [heard] at hg
            rw [show x.pwr = d.pwr from hg, hrun]
            decide
          have hpresent (y : Dev) (hp : y.pwr = x.pwr) : (y.presentOn 7).get pt = y.get pt := by
            rw [Dev.presentOn, undoze_awake (by rw [hp]; exact hxrun), Dev.acceptOn_get _ _ _ hpt.1]
          have he : e = _ := (congrArg Prod.snd h).symm
          rw [he, Dev.frameAccepted_get _ _ _ _ _ hpt.2.2]
          exact (hpresent _ (by rfl)).trans ((Dev.get_with_uhf _ _ hpt.2.2).trans hx)
        · exact absurd (congrArg Prod.fst h) nofun
      · exact absurd (congrArg Prod.fst h) nofun

section
variable {q : Nat} {d : Dev} (h : d.unitReady q 1 6 [5] [1] = true) (h0 : d.param q 6 0 < 512) (hpath : d.anyPath = true)
  (hw : (d.seqr q).writable (d.param q 6 3) 80 = true)
include h h0 hpath hw

/-- The window that UHFRX opens (R226). -/
def Dev.uhfrxWindow (q : Nat) (d : Dev) : Listen :=
  d.listenAt (some noTag) (near32 d.now (d.param q 6 2)) (codeBody (d.param q 6 0 % 256)) [d.param q 6 0 % 256] (field 8 8 (d.param q 6 0))

/-- UHFRX whose window hears nothing ends at its close. -/
theorem uhfrx_silent : uhfrx q none d = (d.wait (d.uhfrxWindow q).close).answers q (d.seqr q).fetch 5 := by
  rw [uhfrx, unitOp_ready _ h]
  simp only [seq_of_unitReady h, Nat.not_le.mpr h0, if_false, hpath, Bool.not_true, Bool.false_eq_true, inData_of_writable hw]
  rfl

/-- UHFRX that hears its frame writes its bytes, its codes and its stamp. -/
theorem uhfrx_hears {rx : UhfRx} {f : TokenFrame} {e : Dev}
    (hl : d.listenOnce (d.uhfrxWindow q) (some rx) (fun f => d.param q 6 1 = 0xFFFFFFFF || f.id = d.param q 6 1) = (some f, e))
    (hham : e.ham = d.ham) (hlen : f.body.length ≤ 64) (hw8 : (d.seqr q).writable ((d.seqr q).num (d.seqr q).fetch.a + 16) 8 = true) :
    uhfrx q (some rx) d = ((e.dataWrite q (d.param q 6 3) (rx.bytes.take (8 + f.body.length))).dataWrite q
      ((d.seqr q).num (d.seqr q).fetch.a + 16) (leBytes 4 e.uhf.lastRssi ++ leBytes 4 e.now)).answers q (d.seqr q).fetch 0 := by
  have hclaimed : ((e.dataWrite q (d.param q 6 3) (rx.bytes.take (8 + f.body.length))).seqr q).claimed = (d.seqr q).claimed := by
    rw [claimed_dataWrite, seqr_of_ham q hham]
  have hframe := dataWrite_frame q (d.param q 6 3) (rx.bytes.take (8 + f.body.length)) e
  have hsame : (e.dataWrite q (d.param q 6 3) (rx.bytes.take (8 + f.body.length))).uhf = e.uhf ∧
      (e.dataWrite q (d.param q 6 3) (rx.bytes.take (8 + f.body.length))).now = e.now := by
    rw [hframe]
    exact ⟨rfl, rfl⟩
  have hl' : d.listenOnce (d.listenAt (some noTag) (near32 d.now (d.param q 6 2)) (codeBody (d.param q 6 0 % 256)) [d.param q 6 0 % 256]
      (field 8 8 (d.param q 6 0))) (some rx) (fun f => d.param q 6 1 = 0xFFFFFFFF || f.id = d.param q 6 1) = (some f, e) := hl
  rw [uhfrx, unitOp_ready _ h]
  simp only [seq_of_unitReady h, Nat.not_le.mpr h0, if_false, hpath, Bool.not_true, Bool.false_eq_true, inData_of_writable hw, hl']
  show HOut.leaves q d (e.put q (d.param q 6 3) (rx.bytes.take (8 + f.body.length)) _) = _
  rw [put_fits (d := e) (n := 80) _ (by rw [seqr_of_ham q hham]; exact hw) (by rw [List.length_take]; omega),
    put_fits (n := 8) _ (by rw [writable_congr hclaimed]; exact hw8) (by simp [length_leBytes]), hsame.1, hsame.2]
  rfl

end

end Sys2Proof.Machine
end

section
/-!
PROOFS. UWBRANGE, and the obligation on the radio operations (R413).
-/

namespace Sys2Proof.Machine

/-- Word 0 of UWBRANGE, by its fields. -/
theorem uwbrange_fields {p chan sts : Nat} (hchan : chan ∈ [0, 5, 9]) (hsts : sts < 3) (hp : p = chan + 16 * sts ∨ p = chan + 16 * sts + 256) :
    p < 512 ∧ field 7 6 p = 0 ∧ p % 16 = chan ∧ field 5 4 p = sts ∧ (chan = 0 ∨ chan = 5 ∨ chan = 9) := by
  simp only [List.mem_cons, List.not_mem_nil, or_false] at hchan
  simp only [field]
  omega

/-- The state that RANGE_ARM leaves, and the window of RANGE_READY that opens behind it (R241). -/
def Dev.rangeArmed (x : RangeRun) (d : Dev) : Dev :=
  let mask := d.usable (d.maskOf 0)
  let e := (d.send (.command noTag) mask (d.bitTime 0) 6 (beBytes 2 x.x ++ [armByte x, byte (x.da / 25)])).airOut
  { e with lf := { e.lf with standbyDue := mask } }

theorem rangeArmed_get {pt : Part} (x : RangeRun) (d : Dev) (hpt : pt ∉ [.clock, .pwr, .jrnl, .evc, .lf, .nv, .bg]) :
    (d.rangeArmed x).get pt = d.get pt := by
  simp only [List.mem_cons, List.not_mem_nil, or_false, not_or] at hpt
  rw [Dev.rangeArmed, Dev.get_with_lf _ _ (by simp [hpt]), Dev.airOut_get _ (by simp [hpt]), Dev.send_get _ _ _ _ _ _ (by simp [hpt])]

theorem rangeArmed_steady {d : Dev} (x : RangeRun) (h : d.pwr.dev ≠ .doze) : Steady 1 d (d.rangeArmed x) :=
  have hsent : Steady 1 d (d.send (.command noTag) (d.usable (d.maskOf 0)) (d.bitTime 0) 6
      (beBytes 2 x.x ++ [armByte x, byte (x.da / 25)])).airOut := (send_steady h _ _ _ _ _).trans (airOut_steady _)
  ⟨hsent.dev, hsent.rootOn, hsent.buf⟩

section
variable {q chan sts : Nat} {d : Dev} {rx : UhfRx} {resp rep : Option UwbRx} (h : d.unitReady q 2 3 [4, 5, 7, 8, 9, 10] [0, 1, 2] = true)
  (hchan : chan ∈ [0, 5, 9]) (hsts : sts < 3) (hp : d.param q 3 0 = chan + 16 * sts ∨ d.param q 3 0 = chan + 16 * sts + 256)
  (hw : (d.seqr q).writable (d.param q 3 2) 48 = true)
include h hchan hsts hp hw

omit hw h in
/-- Word 0 names no reserved value. -/
theorem uwbrange_sound : ¬ (decide (512 ≤ d.param q 3 0) || field 7 6 (d.param q 3 0) != 0 || decide (field 5 4 (d.param q 3 0) = 3) ||
    d.param q 3 0 % 16 != 0 && d.param q 3 0 % 16 != 5 && d.param q 3 0 % 16 != 9) = true := by
  obtain ⟨htop, hzero, hc, hs, hkind⟩ := uwbrange_fields hchan hsts hp
  simp only [hzero, hc, hs, Bool.or_eq_true, Bool.and_eq_true, decide_eq_true_eq, bne_iff_ne]
  omega

/-- UWBRANGE without a current token (R413). -/
theorem uwbrange_unowned (hnone : d.tok.session = none) : uwbrange q (some rx) resp rep d = d.answers q (d.seqr q).fetch 0x16 := by
  rw [uwbrange, unitOp_ready _ h]
  dsimp only
  rw [seq_of_unitReady h, if_neg (uwbrange_sound hchan hsts hp), if_neg (by rw [inData_of_writable hw]; decide), hnone]
  rfl

/-- UWBRANGE runs its exchange whole (R241, R413). -/
theorem uwbrange_ranges {tok : TokenSession} (htok : d.tok.session = some tok) (hr : d.anvil.ready = true) (hx : d.nextX ≤ 65535)
    (hlock : d.uwbBad = false) (huse : d.usable (d.maskOf 0) ≠ 0) (hidle : d.lf.emission = none) {f : TokenFrame} {d2 d3 : Dev} {ws : List Word} :
    let x := { d.newRange tok chan (d.param q 3 1 % 65536) with sts := sts }
    let d1 := d.rangeArmed x
    d1.listenOnce (d1.listenAt (some noTag) d1.now 4 [6] 0) (some rx) (fun f => f.id = x.token) = (some f, d2) →
    beNat (f.body.take 2) = x.x → f.body.getD 3 0 = 0 → d2.rangeRest x resp rep = (.done, ws, d3) → d3.ham = d.ham → ws.length = 24 →
    uwbrange q (some rx) resp rep d =
      (d3.freeWord.2.dataWrite q (d.param q 3 2) (wordsToBytes (ws.set 22 d3.freeWord.1))).standby.answers q (d.seqr q).fetch 0 := by
  intro x d1 hlisten hxx h3 hrest hham hlen
  obtain ⟨-, -, hc, hs, -⟩ := uwbrange_fields hchan hsts hp
  have hok : ¬ (beNat (f.body.take 2) != x.x || f.body.getD 3 0 != 0) = true := by simp only [hxx, h3, bne_self_eq_false, Bool.or_self]; decide
  have hsound := uwbrange_sound hchan hsts hp
  rw [uwbrange, unitOp_ready _ h]
  dsimp only
  rw [seq_of_unitReady h, if_neg hsound, if_neg (by rw [inData_of_writable hw]; decide), htok]
  dsimp only
  rw [Dev.entropy, if_pos hr, if_neg (by omega), if_neg (by simp [hlock]), if_neg huse, takeLf_idle hidle, hc, hs]
  dsimp only [d1, x, Dev.rangeArmed] at hlisten hok hrest
  rw [hlisten]
  dsimp only
  rw [if_neg hok, hrest]
  exact congrArg (HOut.leaves q d) (put_as (d := d) (e := d3.freeWord.2) _ hham (by rw [wordsToBytes_length, List.length_set, hlen]; exact hw))

end

/-! ### The obligation -/

theorem lftx_answers {q mask rate code : Nat} {s : State} (hup : s.hostUp = true) (h : s.unitReady q 0 5 [4] [0] = true)
    (hidle : s.lf.emission = none) (hm : mask < 256) (hr : rate < 3) (hp : s.param q 5 0 = mask + 256 * rate + 65536 * code)
    (h2 : s.param q 5 2 ≤ 16) (hc : codeFree code) (h3 : s.param q 5 3 = 0)
    (hin : (s.seqr q).inData (s.param q 5 1) (s.param q 5 2) = true)
    (hw : (s.seqr q).writable ((s.seqr q).num (s.seqr q).fetch.a + 16) 4 = true) (huse : s.usable (s.maskOf mask) ≠ 0) :
    Answers (.lftx q) s fun t =>
      t.lf.air = s.telegram code (s.dataRead q (s.param q 5 1) (s.param q 5 2)) ∧ t.lf.emission = none ∧
      t.ham = ((s.dataWrite q ((s.seqr q).num (s.seqr q).fetch.a + 16) (leBytes 4 t.clock.tb)).answers q (s.seqr q).fetch 0).ham ∧
      EventsOnly { s.toDev with lf := t.lf, ham := t.ham } t := by
  have ht := lftx_sends h hidle hm hr hp h2 hc h3 hin hw huse
  have hsteady := lftxAir_steady q mask rate code (not_doze_of_run (run_of_hostUp hup))
  have hbuf : s.jrnl.buf.length < 900 := hostEvent_buf hup
  have hham : (s.lftxAir q mask rate code).ham = s.ham := lftxAir_get (pt := .ham) q mask rate code s.toDev (by decide)
  have hnow : (s.lftxAir q mask rate code).now = (s.lftxAir q mask rate code).clock.tb :=
    now_running (hsteady.rootOn.trans (rootOn_of_hostUp hup))
  refine answers_steady (f := lftx q) rfl (by rw [ht]; exact written_steady q _ 0 _ _ hsteady) (by omega) ?_
  rw [ht]
  have hget {pt : Part} (hpt : pt ≠ .ham) := written_get (pt := pt) q ((s.seqr q).num (s.seqr q).fetch.a + 16) 0
    (leBytes 4 (s.lftxAir q mask rate code).now) (s.seqr q).fetch (s.lftxAir q mask rate code) hpt
  refine ⟨?_, ?_, ?_, eventsOnly_taking [.lf, .ham] fun pt hpt => ?_⟩
  · exact (congrArg Lf.air (hget (pt := .lf) (by decide))).trans ((airOut_air _).trans (send_air ..))
  · exact (congrArg Lf.emission (hget (pt := .lf) (by decide))).trans (airOut_emission _)
  · rw [show Clock.tb (Dev.clock _) = (s.lftxAir q mask rate code).now from
      (congrArg Clock.tb (hget (pt := .clock) (by decide))).trans hnow.symm]
    exact answers_ham_congr q _ 0 (dataWrite_ham_congr q _ _ hham)
  · simp only [List.cons_append, List.nil_append, List.mem_cons, not_or, eventParts] at hpt
    rw [hget hpt.2.1]
    exact lftxAir_get q mask rate code s.toDev (by simp [hpt])

theorem uwbrange_answers {q chan sts : Nat} {s : State} {rx : UhfRx} {resp rep : Option UwbRx} (hup : s.hostUp = true)
    (h : s.unitReady q 2 3 [4, 5, 7, 8, 9, 10] [0, 1, 2] = true) (hchan : chan ∈ [0, 5, 9]) (hsts : sts < 3)
    (hp : s.param q 3 0 = chan + 16 * sts ∨ s.param q 3 0 = chan + 16 * sts + 256) (hw : (s.seqr q).writable (s.param q 3 2) 48 = true)
    {tok : TokenSession} (htok : s.tok.session = some tok) (hr : s.anvil.ready = true) (hx : s.nextX ≤ 65535)
    (hlock : s.uwbBad = false) (huse : s.usable (s.maskOf 0) ≠ 0) (hidle : s.lf.emission = none) {f : TokenFrame} {d2 d3 : Dev} {ws : List Word} :
    let x := { s.newRange tok chan (s.param q 3 1 % 65536) with sts := sts }
    let d1 := s.rangeArmed x
    d1.listenOnce (d1.listenAt (some noTag) d1.now 4 [6] 0) (some rx) (fun f => f.id = x.token) = (some f, d2) →
    beNat (f.body.take 2) = x.x → f.body.getD 3 0 = 0 → d2.rangeRest x resp rep = (.done, ws, d3) → d3.ham = s.ham → ws.length = 24 →
    Answers (.uwbrange q (some rx) resp rep) s fun t =>
      t = (d3.freeWord.2.dataWrite q (s.param q 3 2) (wordsToBytes (ws.set 22 d3.freeWord.1))).standby.answers q (s.seqr q).fetch 0 := by
  intro x d1 hlisten hxx h3 hrest hham hlen
  have ht := uwbrange_ranges h hchan hsts hp hw htok hr hx hlock huse hidle hlisten hxx h3 hrest hham hlen
  have harmed := rangeArmed_steady x (not_doze_of_run (run_of_hostUp hup))
  have hrun : d1.pwr.dev = .run := harmed.dev.trans (run_of_hostUp hup)
  have hsame {pt : Part} (hpt : pt ∉ [.clock, .lf, .uhf, .uwb]) : d3.get pt = d1.get pt := by
    simp only [List.mem_cons, List.not_mem_nil, or_false, not_or] at hpt
    have hg := Dev.rangeRest_get (pt := pt) x resp rep d2 (by simp [hpt])
    rw [hrest] at hg
    exact hg.trans (listenOnce_get hrun hlisten (by simp [hpt]))
  have hbuf : s.jrnl.buf.length < 900 := hostEvent_buf hup
  set e := d3.freeWord.2.dataWrite q (s.param q 3 2) (wordsToBytes (ws.set 22 d3.freeWord.1)) with he
  have hej : e.jrnl = d1.jrnl := (dataWrite_jrnl ..).trans (hsame (pt := .jrnl) (by decide))
  have hep : e.pwr = d1.pwr := by
    rw [he, dataWrite_frame]
    exact hsame (pt := .pwr) (by decide)
  have hstand := standby_steady (d := e) (by rw [hep, hrun]; decide)
  refine answers_room (f := uwbrange q (some rx) resp rep) rfl (.inr ?_) ht
  rw [ht, answers_jrnl]
  have hb1 := hstand.buf
  have hb2 := harmed.buf
  rw [hej] at hb1
  exact lt_of_le_of_lt (hb1.trans (Nat.add_le_add_right hb2 1)) (by omega)

/-- Settles O50: each radio operation at its word; LFTX's and UWBRANGE's emissions make at most a record each, that of an override. -/
theorem unitRadioOperations : Obligations.UnitRadioOperations := by
  intro q rx resp rep s hup hidle
  refine ⟨fun h mask rate code hm hr hp h2 hc h3 hin hw huse => ?_, fun h h0 hpath hw hw8 => ⟨?_, fun f d hl hham hlen hbytes => ?_⟩,
    fun h chan sts hchan hsts hp hw => ⟨fun hnone => ?_, fun tok htok hr hx hlock huse f d2 d3 ws hlisten hxx h3 hrest hham hlen => ?_⟩⟩
  · exact lftx_answers hup h hidle hm hr hp h2 hc h3 hin hw huse
  · exact answers_leaves rfl (uhfrx_silent h h0 hpath hw) (answers_jrnl ..) rfl
  · refine answers_leaves rfl (uhfrx_hears h h0 hpath hw hl hham hlen hw8) ?_ rfl
    rw [answers_jrnl, dataWrite_jrnl, dataWrite_jrnl]
    exact listenOnce_get (pt := .jrnl) (run_of_hostUp hup) hl (by decide)
  · exact answers_leaves rfl (uwbrange_unowned h hchan hsts hp hw hnone) (answers_jrnl ..) rfl
  · exact uwbrange_answers hup h hchan hsts hp hw htok hr hx hlock huse hidle hlisten hxx h3 hrest hham hlen

end Sys2Proof.Machine
end

section
/-!
PROOFS. The closes of windows (R9). O51 fails where a session's close ends so many grants that their records fill the general space of the
journal: journal hold is then entered as an event of its own behind them (R144, R577), so the session's event is not the newest one.
-/

namespace Sys2Proof.Machine

/-- A journal record, of an event long past. -/
def oldRecord : Record := ⟨0, 0, 0, 0, 0, 0, 0, 0, 0, 0, 0, 0, 0, 0, zeroTag⟩

/-- A node with a grant bound to session 3. -/
def boundNode : Node := { Node.empty with grant := some ⟨0, 3, 0, ⟨0, 1000000, 0⟩⟩ }

/-- Session 3 is open with sixty grants bound to it, the device is unprovisioned, and 899 records are buffered. -/
def grantsBound : State :=
  { Tests.up with
    cru := { Tests.up.cru with provisioned := false }, jrnl := { Tests.up.jrnl with buf := List.replicate 899 oldRecord },
    rel := { Tests.up.rel with sessions := Tests.up.rel.sessions.set 3 (some ⟨0, 0, ⟨0, 100, 0⟩⟩) },
    kw := { Tests.up.kw with nodes := (List.range 60).map (fun i => (i, boundNode)) } }

/-- What a row answers is what its meaning leaves, with journal hold where the records call for it. -/
theorem settled_of_next {i : Instr} {s t : State} {f : Dev → Dev} (he : exec i s = run f s) (ht : exec i s = .next t) :
    t.toDev = Dev.settle s.toDev (f s.toDev) := by
  rw [he] at ht
  cases ht
  rfl

theorem grantsBound_close : (Dev.settle grantsBound.toDev (sessionTimeout 3 grantsBound.toDev)).clock.evEsn ≠ grantsBound.clock.esn := by
  decide +kernel

/-- Refutes O51: the records of sixty grants that a session's close ends fill the journal's general space, and the entry to journal hold is
the newest event then. -/
theorem not_windowCloses : ¬ Obligations.WindowCloses := by
  unfold Obligations.WindowCloses
  rintro ⟨h, -⟩
  obtain ⟨-, hsession, -⟩ := h 3 ⟨0, 100, 0⟩ grantsBound (by decide +kernel) (by decide +kernel) (by decide +kernel) (by decide +kernel)
    (by decide +kernel)
  obtain ⟨t, ht, -, -, -, hev, -⟩ := hsession ⟨0, 0, ⟨0, 100, 0⟩⟩ (by decide +kernel) rfl
  rw [settled_of_next (f := sessionTimeout 3) rfl ht] at hev
  exact grantsBound_close hev

end Sys2Proof.Machine
end

section
/-!
PROOFS. What no event by itself moves, further on: the states of the domains over more functions, and the holds with `PWRSTAT.BRK`
(R67-R69).
-/

namespace Sys2Proof.Machine

/-- The holds, and `PWRSTAT.BRK`. -/
def Power.held (p : Power) : List Hold × Bool := (p.holds, p.brk)

@[simp] theorem Dev.wait_domains (t : ℕ) (d : Dev) : (Dev.wait t d).pwr.domains = d.pwr.domains := rfl

@[simp] theorem Dev.toClose_domains (w : Window) (d : Dev) : (Dev.toClose w d).pwr.domains = d.pwr.domains := rfl

@[simp] theorem Dev.begins_domains (n : ℕ) (d : Dev) : (Dev.begins n d).pwr.domains = d.pwr.domains := by
  unfold Dev.begins
  split <;> simp

@[simp] theorem Dev.ends_domains (n : ℕ) (d : Dev) : (Dev.ends n d).pwr.domains = d.pwr.domains := rfl

@[simp] theorem Dev.holdEntry_domains (d : Dev) : (Dev.holdEntry d).pwr.domains = d.pwr.domains := by
  unfold Dev.holdEntry
  split <;> simp

@[simp] theorem Dev.presentOn_domains (port : ℕ) (d : Dev) : (Dev.presentOn port d).pwr.domains = d.pwr.domains := by simp [Dev.presentOn]

@[simp] theorem Dev.closeOn_domains (port : ℕ) (d : Dev) : (Dev.closeOn port d).pwr.domains = d.pwr.domains := by simp [Dev.closeOn]

@[simp] theorem Dev.signal_domains (n : ℕ) (d : Dev) : (Dev.signal n d).pwr.domains = d.pwr.domains := by simp [Dev.signal]

@[simp] theorem Dev.starts_domains (n : ℕ) (d : Dev) : (Dev.starts n d).pwr.domains = d.pwr.domains := by
  unfold Dev.starts
  split <;> simp

@[simp] theorem Dev.noteOn_domains (port : Nat) (origin : Nat) (x : Draft) (d : Dev) : (Dev.noteOn port origin x d).pwr.domains = d.pwr.domains := Dev.aside_domains _ _ (by simp) d

@[simp] theorem Dev.putLoop_domains (n : ℕ) (l : Loop) (d : Dev) : (Dev.putLoop n l d).pwr.domains = d.pwr.domains := rfl

@[simp] theorem Dev.overrideCheck_domains (n : ℕ) (d : Dev) : (Dev.overrideCheck n d).pwr.domains = d.pwr.domains := by
  unfold Dev.overrideCheck
  dsimp only
  repeat' split
  all_goals simp

@[simp] theorem Dev.drive_domains (wish : List ℕ) (d : Dev) : (Dev.drive wish d).pwr.domains = d.pwr.domains := rfl

@[simp] theorem Dev.lfHeat_domains (d : Dev) : (Dev.lfHeat d).pwr.domains = d.pwr.domains := by
  unfold Dev.lfHeat
  dsimp only
  repeat' split
  all_goals simp

@[simp] theorem Dev.emit_domains (e : Emission) (mask : ℕ) (b : ℕ) (n : ℕ) (wish : List ℕ) (d : Dev) : (Dev.emit e mask b n wish d).pwr.domains = d.pwr.domains := by simp [Dev.emit]

@[simp] theorem Dev.sendAt_domains (wish : List ℕ) (e : Emission) (mask : ℕ) (b : ℕ) (code : ℕ) (data : Bytes) (d : Dev) : (Dev.sendAt wish e mask b code data d).pwr.domains = d.pwr.domains := by simp [Dev.sendAt]

@[simp] theorem Dev.send_domains (e : Emission) (mask : ℕ) (b : ℕ) (code : ℕ) (data : Bytes) (d : Dev) : (Dev.send e mask b code data d).pwr.domains = d.pwr.domains := by simp [Dev.send]

@[simp] theorem Dev.setToken_domains (tag : ℕ) (x1 : TokenRun) (d : Dev) : (Dev.setToken tag x1 d).pwr.domains = d.pwr.domains := rfl

@[simp] theorem Dev.tokenSend_domains (tag : ℕ) (x1 : TokenRun) (code : ℕ) (data : Bytes) (d : Dev) : (Dev.tokenSend tag x1 code data d).pwr.domains = d.pwr.domains := by simp [Dev.tokenSend]

@[simp] theorem Dev.learnWritten_domains (tag : ℕ) (d : Dev) : (Dev.learnWritten tag d).pwr.domains = d.pwr.domains := by
  unfold Dev.learnWritten
  repeat' split
  all_goals simp -implicitDefEqProofs [foldl_domains, apply_ite (fun e : Dev => e.pwr.domains), apply_ite Prod.fst, apply_ite Prod.snd]

@[simp] theorem Dev.kwEpochWritten_domains (d : Dev) : (Dev.kwEpochWritten d).pwr.domains = d.pwr.domains := rfl

@[simp] theorem Dev.setContext_domains (c : Cmd) (x1 : Option Context) (d : Dev) : (Dev.setContext c x1 d).pwr.domains = d.pwr.domains := rfl

@[simp] theorem Dev.slotCopy_domains (p : ℕ) (ok : Bool) (d : Dev) : (Dev.slotCopy p ok d).pwr.domains = d.pwr.domains := by
  unfold Dev.slotCopy
  split <;> simp

@[simp] theorem Dev.programmed_domains (w : PageWrite) (d : Dev) : (Dev.programmed w d).pwr.domains = d.pwr.domains := by simp [Dev.programmed]

@[simp] theorem nvPageWriteEnd_domains (d : Dev) : (nvPageWriteEnd d).pwr.domains = d.pwr.domains := by
  unfold nvPageWriteEnd
  dsimp only
  repeat' split
  all_goals simp

@[simp] theorem Dev.zeroiseWork_domains (c : Cmd) (d : Dev) : (Dev.zeroiseWork c d).pwr.domains = d.pwr.domains := by
  unfold Dev.zeroiseWork
  dsimp only
  repeat' split
  all_goals simp

@[simp] theorem Dev.wait_held (t : ℕ) (d : Dev) : (Dev.wait t d).pwr.held = d.pwr.held := rfl

@[simp] theorem Dev.toClose_held (w : Window) (d : Dev) : (Dev.toClose w d).pwr.held = d.pwr.held := rfl

@[simp] theorem Dev.acceptOn_held (port : ℕ) (close : Bool) (d : Dev) : (Dev.acceptOn port close d).pwr.held = d.pwr.held := by
  unfold Dev.acceptOn
  split <;> simp

theorem foldl_held {α : Type} (f : Dev → α → Dev) (xs : List α) (h : ∀ d x, (f d x).pwr.held = d.pwr.held) (d : Dev) : (xs.foldl f d).pwr.held = d.pwr.held := by
  induction xs generalizing d with
  | nil => rfl
  | cons x xs ih => rw [List.foldl_cons, ih, h]

@[simp] theorem Dev.aside_held (port : Nat) (f : Dev → Dev) (h : ∀ e, (f e).pwr.held = e.pwr.held) (d : Dev) : (d.aside port f).pwr.held = d.pwr.held := by
  unfold Dev.aside
  dsimp only
  rw [h]
  split <;> rfl

@[simp] theorem Dev.setPending_held (n : ℕ) (d : Dev) : (Dev.setPending n d).pwr.held = d.pwr.held := rfl

@[simp] theorem Dev.latchAt_held (w : ℕ) (t : ℕ) (d : Dev) : (Dev.latchAt w t d).pwr.held = d.pwr.held := by
  unfold Dev.latchAt
  dsimp only
  split <;> simp

@[simp] theorem Dev.latch_held (w : ℕ) (d : Dev) : (Dev.latch w d).pwr.held = d.pwr.held := by simp [Dev.latch]

@[simp] theorem Dev.reach_held (n : ℕ) (d : Dev) : (Dev.reach n d).pwr.held = d.pwr.held := by
  unfold Dev.reach
  dsimp only
  repeat' split
  all_goals simp

@[simp] theorem Dev.event_held (n : ℕ) (d : Dev) : (Dev.event n d).pwr.held = d.pwr.held := by simp [Dev.event]

@[simp] theorem Dev.raise_held (n : ℕ) (d : Dev) : (Dev.raise n d).pwr.held = d.pwr.held := by simp [Dev.raise]

@[simp] theorem Dev.begins_held (n : ℕ) (d : Dev) : (Dev.begins n d).pwr.held = d.pwr.held := by
  unfold Dev.begins
  split <;> simp

@[simp] theorem Dev.ends_held (n : ℕ) (d : Dev) : (Dev.ends n d).pwr.held = d.pwr.held := rfl

@[simp] theorem Dev.nvKick_held (d : Dev) : (Dev.nvKick d).pwr.held = d.pwr.held := rfl

@[simp] theorem Dev.nvQueue_held (ws : List PageWrite) (d : Dev) : (Dev.nvQueue ws d).pwr.held = d.pwr.held := rfl

@[simp] theorem Dev.recordWrite_held (owner : Option ℕ) (b : List ℕ) (a : List ℕ) (old : OldRecord) (d : Dev) : (Dev.recordWrite owner b a old d).pwr.held = d.pwr.held := rfl

@[simp] theorem Dev.headUnflushed_held (d : Dev) : (Dev.headUnflushed d).pwr.held = d.pwr.held := by
  unfold Dev.headUnflushed
  split <;> simp

@[simp] theorem Dev.append_held (r : Record) (d : Dev) : (Dev.append r d).pwr.held = d.pwr.held := by simp [Dev.append]

@[simp] theorem Dev.fold_held (cls : ℕ) (d : Dev) : (Dev.fold cls d).pwr.held = d.pwr.held := rfl

@[simp] theorem Dev.holdEntry_held (d : Dev) : (Dev.holdEntry d).pwr.held = d.pwr.held := by
  unfold Dev.holdEntry
  split <;> simp

@[simp] theorem Dev.log_held (origin : ℕ) (tag : ℕ) (op : ℕ) (x3 : Draft) (d : Dev) : (Dev.log origin tag op x3 d).pwr.held = d.pwr.held := by
  unfold Dev.log
  split <;> simp

@[simp] theorem Dev.note_held (origin : ℕ) (x1 : Draft) (d : Dev) : (Dev.note origin x1 d).pwr.held = d.pwr.held := by simp [Dev.note]

@[simp] theorem Dev.stateChange_held (x : DevState) (d : Dev) : (Dev.stateChange x d).pwr.held = d.pwr.held := by
  unfold Dev.stateChange
  dsimp only
  split
  · rw [Dev.note_held, Dev.event_held]; rfl
  · rw [Dev.event_held]; rfl

@[simp] theorem Dev.undoze_held (d : Dev) : (Dev.undoze d).pwr.held = d.pwr.held := by
  unfold Dev.undoze
  split
  · rw [Dev.stateChange_held]; rfl
  · rfl

@[simp] theorem Dev.presentOn_held (port : ℕ) (d : Dev) : (Dev.presentOn port d).pwr.held = d.pwr.held := by simp [Dev.presentOn]

@[simp] theorem Dev.closeOn_held (port : ℕ) (d : Dev) : (Dev.closeOn port d).pwr.held = d.pwr.held := by simp [Dev.closeOn]

@[simp] theorem Dev.signal_held (n : ℕ) (d : Dev) : (Dev.signal n d).pwr.held = d.pwr.held := by simp [Dev.signal]

@[simp] theorem Dev.starts_held (n : ℕ) (d : Dev) : (Dev.starts n d).pwr.held = d.pwr.held := by
  unfold Dev.starts
  split <;> simp

@[simp] theorem Dev.alsoSignal_held (n : ℕ) (d : Dev) : (Dev.alsoSignal n d).pwr.held = d.pwr.held := by simp [Dev.alsoSignal]

@[simp] theorem Dev.noteOn_held (port : Nat) (origin : Nat) (x : Draft) (d : Dev) : (Dev.noteOn port origin x d).pwr.held = d.pwr.held := Dev.aside_held _ _ (by simp) d

@[simp] theorem Dev.setNode_held (a : ℕ) (n : Node) (d : Dev) : (Dev.setNode a n d).pwr.held = d.pwr.held := rfl

@[simp] theorem Dev.endGrant_held (origin : ℕ) (tag : ℕ) (op : ℕ) (cause : ℕ) (a : ℕ) (d : Dev) : (Dev.endGrant origin tag op cause a d).pwr.held = d.pwr.held := by
  unfold Dev.endGrant
  dsimp only
  split <;> simp

@[simp] theorem Dev.endGrants_held (origin : Nat) (tag : Nat) (op : Nat) (cause : Nat) (as : List Nat) (d : Dev) : (Dev.endGrants origin tag op cause as d).pwr.held = d.pwr.held := foldl_held _ _ (by simp) d

@[simp] theorem Dev.grantFalls_held (p : ℕ → Bool) (cause : ℕ) (d : Dev) : (Dev.grantFalls p cause d).pwr.held = d.pwr.held := rfl

@[simp] theorem Dev.setPhase_held (tag : ℕ) (p : Phase) (d : Dev) : (Dev.setPhase tag p d).pwr.held = d.pwr.held := rfl

@[simp] theorem Dev.switchOff_held (origin : ℕ) (tag : ℕ) (op : ℕ) (cause : ℕ) (d : Dev) : (Dev.switchOff origin tag op cause d).pwr.held = d.pwr.held := by simp [Dev.switchOff]

@[simp] theorem Dev.lockRelay_held (origin : ℕ) (tag : ℕ) (op : ℕ) (cause : ℕ) (gcause : ℕ) (d : Dev) : (Dev.lockRelay origin tag op cause gcause d).pwr.held = d.pwr.held := by simp [Dev.lockRelay]

@[simp] theorem Dev.stopAir_held (d : Dev) : (Dev.stopAir d).pwr.held = d.pwr.held := rfl

@[simp] theorem Dev.endExchange_held (tag : ℕ) (d : Dev) : (Dev.endExchange tag d).pwr.held = d.pwr.held := by
  unfold Dev.endExchange
  split <;> simp

@[simp] theorem Dev.dropWork_held (tag : ℕ) (d : Dev) : (Dev.dropWork tag d).pwr.held = d.pwr.held := by
  unfold Dev.dropWork
  dsimp only
  split <;> simp

@[simp] theorem Dev.enter_held (c : Cmd) (status : ℕ) (ws : List Word) (d : Dev) : (Dev.enter c status ws d).pwr.held = d.pwr.held := rfl

@[simp] theorem Dev.releaseLogged_held (c : Cmd) (st : ℕ) (esn : ℕ) (old : ℕ) (d : Dev) : (Dev.releaseLogged c st esn old d).pwr.held = d.pwr.held := by
  unfold Dev.releaseLogged
  split <;> simp

@[simp] theorem Dev.dropChild_held (c : Cmd) (d : Dev) : (Dev.dropChild c d).pwr.held = d.pwr.held := by
  unfold Dev.dropChild
  split <;> simp

@[simp] theorem Dev.endBy_held (st : Status) (c : Cmd) (d : Dev) : (Dev.endBy st c d).pwr.held = d.pwr.held := by simp [Dev.endBy]

@[simp] theorem Dev.endCmd_held (st : Status) (c : Cmd) (d : Dev) : (Dev.endCmd st c d).pwr.held = d.pwr.held := Dev.aside_held _ _ (by simp) d

@[simp] theorem Dev.finish_held (tag : ℕ) (r : Result) (d : Dev) : (Dev.finish tag r d).pwr.held = d.pwr.held := rfl

@[simp] theorem Dev.fail_held (tag : ℕ) (st : Status) (d : Dev) : (Dev.fail tag st d).pwr.held = d.pwr.held := rfl

@[simp] theorem Dev.putLoop_held (n : ℕ) (l : Loop) (d : Dev) : (Dev.putLoop n l d).pwr.held = d.pwr.held := rfl

@[simp] theorem Dev.overrideCheck_held (n : ℕ) (d : Dev) : (Dev.overrideCheck n d).pwr.held = d.pwr.held := by
  unfold Dev.overrideCheck
  dsimp only
  repeat' split
  all_goals simp

@[simp] theorem Dev.drive_held (wish : List ℕ) (d : Dev) : (Dev.drive wish d).pwr.held = d.pwr.held := rfl

@[simp] theorem Dev.lfHeat_held (d : Dev) : (Dev.lfHeat d).pwr.held = d.pwr.held := by
  unfold Dev.lfHeat
  dsimp only
  repeat' split
  all_goals simp

@[simp] theorem Dev.emit_held (e : Emission) (mask : ℕ) (b : ℕ) (n : ℕ) (wish : List ℕ) (d : Dev) : (Dev.emit e mask b n wish d).pwr.held = d.pwr.held := by simp [Dev.emit]

@[simp] theorem Dev.sendAt_held (wish : List ℕ) (e : Emission) (mask : ℕ) (b : ℕ) (code : ℕ) (data : Bytes) (d : Dev) : (Dev.sendAt wish e mask b code data d).pwr.held = d.pwr.held := by simp [Dev.sendAt]

@[simp] theorem Dev.send_held (e : Emission) (mask : ℕ) (b : ℕ) (code : ℕ) (data : Bytes) (d : Dev) : (Dev.send e mask b code data d).pwr.held = d.pwr.held := by simp [Dev.send]

@[simp] theorem Dev.closeWindows_held (tag : Option ℕ) (d : Dev) : (Dev.closeWindows tag d).pwr.held = d.pwr.held := rfl

@[simp] theorem Dev.pathLost_held (d : Dev) : (Dev.pathLost d).pwr.held = d.pwr.held := by
  unfold Dev.pathLost
  repeat' split
  all_goals simp -implicitDefEqProofs [foldl_held, apply_ite (fun e : Dev => e.pwr.held), apply_ite Prod.fst, apply_ite Prod.snd]

@[simp] theorem Dev.setKey_held (n : ℕ) (attr : ℕ) (material : Bytes) (d : Dev) : (Dev.setKey n attr material d).pwr.held = d.pwr.held := rfl

@[simp] theorem Dev.putKey_held (owner : Option ℕ) (n : ℕ) (attr : ℕ) (material : Bytes) (d : Dev) : (Dev.putKey owner n attr material d).pwr.held = d.pwr.held := by
  unfold Dev.putKey
  split <;> simp

@[simp] theorem Dev.putToken_held (owner : Option ℕ) (n : ℕ) (t : TokenSlot) (d : Dev) : (Dev.putToken owner n t d).pwr.held = d.pwr.held := rfl

@[simp] theorem Dev.clearVolatile_held (d : Dev) : (Dev.clearVolatile d).pwr.held = d.pwr.held := rfl

@[simp] theorem Dev.eraseRecords_held (owner : Option ℕ) (d : Dev) : (Dev.eraseRecords owner d).pwr.held = d.pwr.held := by
  unfold Dev.eraseRecords
  repeat' split
  all_goals simp -implicitDefEqProofs [foldl_held, apply_ite (fun e : Dev => e.pwr.held), apply_ite Prod.fst, apply_ite Prod.snd]

@[simp] theorem Dev.rollForward_held (write : Bool) (origin : ℕ) (tag : ℕ) (op : ℕ) (d : Dev) : (Dev.rollForward write origin tag op d).pwr.held = d.pwr.held := by
  unfold Dev.rollForward
  repeat' split
  all_goals simp -implicitDefEqProofs [foldl_held, apply_ite (fun e : Dev => e.pwr.held), apply_ite Prod.fst, apply_ite Prod.snd]

@[simp] theorem Dev.rollBack_held (origin : ℕ) (tag : ℕ) (op : ℕ) (d : Dev) : (Dev.rollBack origin tag op d).pwr.held = d.pwr.held := by
  unfold Dev.rollBack
  split <;> simp

@[simp] theorem Dev.recoverUpdate_held (d : Dev) : (Dev.recoverUpdate d).pwr.held = d.pwr.held := by
  unfold Dev.recoverUpdate
  dsimp only
  repeat' split
  all_goals simp

@[simp] theorem Dev.setToken_held (tag : ℕ) (x1 : TokenRun) (d : Dev) : (Dev.setToken tag x1 d).pwr.held = d.pwr.held := rfl

@[simp] theorem Dev.onSeq_held (q : ℕ) (f : Seqr → Seqr) (d : Dev) : (Dev.onSeq q f d).pwr.held = d.pwr.held := by
  unfold Dev.onSeq
  split <;> simp

@[simp] theorem Dev.tokenSend_held (tag : ℕ) (x1 : TokenRun) (code : ℕ) (data : Bytes) (d : Dev) : (Dev.tokenSend tag x1 code data d).pwr.held = d.pwr.held := by simp [Dev.tokenSend]

@[simp] theorem Dev.learnWritten_held (tag : ℕ) (d : Dev) : (Dev.learnWritten tag d).pwr.held = d.pwr.held := by
  unfold Dev.learnWritten
  repeat' split
  all_goals simp -implicitDefEqProofs [foldl_held, apply_ite (fun e : Dev => e.pwr.held), apply_ite Prod.fst, apply_ite Prod.snd]

@[simp] theorem Dev.kwEpochWritten_held (d : Dev) : (Dev.kwEpochWritten d).pwr.held = d.pwr.held := rfl

@[simp] theorem Dev.kwStop_held (d : Dev) : (Dev.kwStop d).pwr.held = d.pwr.held := rfl

@[simp] theorem Dev.setContext_held (c : Cmd) (x1 : Option Context) (d : Dev) : (Dev.setContext c x1 d).pwr.held = d.pwr.held := rfl

@[simp] theorem Dev.setLoad_held (l : AtlasLoad) (d : Dev) : (Dev.setLoad l d).pwr.held = d.pwr.held := rfl

@[simp] theorem Dev.applyCommitAtlas_held (d : Dev) : (Dev.applyCommitAtlas d).pwr.held = d.pwr.held := rfl

@[simp] theorem Dev.reloadDue_held (d : Dev) : (Dev.reloadDue d).pwr.held = d.pwr.held := rfl

@[simp] theorem Dev.zeroiseSeq_held (q : Nat) (d : Dev) : (d.zeroiseSeq q).pwr.held = d.pwr.held := by
  have h := zeroiseSeq_frame q d
  unfold ScriptOnly at h
  rw [h]

@[simp] theorem Dev.putChan_held (n : ℕ) (c : Channel) (d : Dev) : (Dev.putChan n c d).pwr.held = d.pwr.held := rfl

@[simp] theorem Dev.newSpan_held (n : ℕ) (w : ℕ) (c : Channel) (d : Dev) : (Dev.newSpan n w c d).pwr.held = d.pwr.held := rfl

@[simp] theorem Dev.holdU_held (n : ℕ) (d : Dev) : (Dev.holdU n d).pwr.held = d.pwr.held := rfl

@[simp] theorem Dev.tmrFreeze_held (d : Dev) : (Dev.tmrFreeze d).pwr.held = d.pwr.held := by
  unfold Dev.tmrFreeze
  repeat' split
  all_goals simp -implicitDefEqProofs [foldl_held, apply_ite (fun e : Dev => e.pwr.held), apply_ite Prod.fst, apply_ite Prod.snd]

@[simp] theorem Dev.tmrOff_held (d : Dev) : (Dev.tmrOff d).pwr.held = d.pwr.held := by
  unfold Dev.tmrOff
  repeat' split
  all_goals simp -implicitDefEqProofs [foldl_held, apply_ite (fun e : Dev => e.pwr.held), apply_ite Prod.fst, apply_ite Prod.snd]

@[simp] theorem Dev.slotCopy_held (p : ℕ) (ok : Bool) (d : Dev) : (Dev.slotCopy p ok d).pwr.held = d.pwr.held := by
  unfold Dev.slotCopy
  split <;> simp

@[simp] theorem Dev.restoreRecord_held (r : OldRecord) (d : Dev) : (Dev.restoreRecord r d).pwr.held = d.pwr.held := by
  unfold Dev.restoreRecord
  split <;> simp

@[simp] theorem Dev.keepRecord_held (c : Cmd) (d : Dev) : (Dev.keepRecord c d).pwr.held = d.pwr.held := by
  unfold Dev.keepRecord
  dsimp only
  repeat' split
  all_goals simp

@[simp] theorem Dev.programmed_held (w : PageWrite) (d : Dev) : (Dev.programmed w d).pwr.held = d.pwr.held := by simp [Dev.programmed]

@[simp] theorem nvPageWriteEnd_held (d : Dev) : (nvPageWriteEnd d).pwr.held = d.pwr.held := by
  unfold nvPageWriteEnd
  dsimp only
  repeat' split
  all_goals simp

@[simp] theorem Dev.nvDrop_held (p : Option Nat → Bool) (d : Dev) : (Dev.nvDrop p d).pwr.held = d.pwr.held := by
  have h := nvDrop_frame p d
  unfold RecordsOnly at h
  rw [h]

@[simp] theorem Dev.durable_held (d : Dev) : (Dev.durable d).pwr.held = d.pwr.held := rfl

@[simp] theorem Dev.checkpoint_held (d : Dev) : (Dev.checkpoint d).pwr.held = d.pwr.held := rfl

@[simp] theorem Dev.mediaPark_held (d : Dev) : (Dev.mediaPark d).pwr.held = d.pwr.held := by
  unfold Dev.mediaPark
  dsimp only
  split <;> simp

@[simp] theorem Dev.restoreDue_held (q : ℕ) (d : Dev) : (Dev.restoreDue q d).pwr.held = d.pwr.held := by simp [Dev.restoreDue]

@[simp] theorem Dev.breakOff_held (cause : ℕ) (c : Cmd) (d : Dev) : (Dev.breakOff cause c d).pwr.held = d.pwr.held := by
  unfold Dev.breakOff
  split <;> simp

@[simp] theorem Dev.killCmd_held (st : Status) (cause : ℕ) (c : Cmd) (d : Dev) : (Dev.killCmd st cause c d).pwr.held = d.pwr.held := by
  unfold Dev.killCmd
  split <;> simp

@[simp] theorem Dev.killCmds_held (st : Status) (cause : ℕ) (p : Cmd → Bool) (d : Dev) : (Dev.killCmds st cause p d).pwr.held = d.pwr.held := by
  unfold Dev.killCmds
  repeat' split
  all_goals simp -implicitDefEqProofs [foldl_held, apply_ite (fun e : Dev => e.pwr.held), apply_ite Prod.fst, apply_ite Prod.snd]

@[simp] theorem Dev.endDebug_held (d : Dev) : (Dev.endDebug d).pwr.held = d.pwr.held := by
  unfold Dev.endDebug
  dsimp only
  repeat' split
  all_goals simp

@[simp] theorem Dev.domainDown_held (n : ℕ) (d : Dev) : (Dev.domainDown n d).pwr.held = d.pwr.held := by
  unfold Dev.domainDown
  dsimp only
  repeat' split
  all_goals simp

@[simp] theorem Dev.zeroiseWork_held (c : Cmd) (d : Dev) : (Dev.zeroiseWork c d).pwr.held = d.pwr.held := by
  unfold Dev.zeroiseWork
  dsimp only
  repeat' split
  all_goals simp

end Sys2Proof.Machine
end

section
/-!
PROOFS. What further functions of the model leave of the device, part by part.
-/

namespace Sys2Proof.Machine

@[simp] theorem Dev.setDom_get {pt : Part} (n : ℕ) (x1 : Domain) (d : Dev) (h : pt ≠ .pwr) : (Dev.setDom n x1 d).get pt = d.get pt := by
  simp [Dev.setDom, h, apply_ite (Dev.get · pt), foldl_get, apply_ite Prod.fst, apply_ite Prod.snd]

@[simp] theorem Dev.enter_get {pt : Part} (c : Cmd) (status : ℕ) (ws : List Word) (d : Dev) (h : pt ∉ [.cmds, .store]) : (Dev.enter c status ws d).get pt = d.get pt := by
  cases pt <;> simp at h <;> rfl

@[simp] theorem Dev.releaseLogged_get {pt : Part} (c : Cmd) (st : ℕ) (esn : ℕ) (old : ℕ) (d : Dev) (h : pt ∉ [.jrnl, .nv]) : (Dev.releaseLogged c st esn old d).get pt = d.get pt := by
  simp at h
  simp [Dev.releaseLogged, h, apply_ite (Dev.get · pt), foldl_get, apply_ite Prod.fst, apply_ite Prod.snd]

@[simp] theorem Dev.dropChild_get {pt : Part} (c : Cmd) (d : Dev) (h : pt ≠ .nv) : (Dev.dropChild c d).get pt = d.get pt := by
  simp [Dev.dropChild, h, apply_ite (Dev.get · pt), foldl_get, apply_ite Prod.fst, apply_ite Prod.snd]

@[simp] theorem Dev.endBy_get {pt : Part} (st : Status) (c : Cmd) (d : Dev) (h : pt ∉ [.cmds, .store, .jrnl, .lf, .uhf, .uwb, .ham, .kw, .nv]) : (Dev.endBy st c d).get pt = d.get pt := by
  simp at h
  simp [Dev.endBy, h, apply_ite (Dev.get · pt), foldl_get, apply_ite Prod.fst, apply_ite Prod.snd]

@[simp] theorem Dev.endCmd_get {pt : Part} (st : Status) (c : Cmd) (d : Dev) (h : pt ∉ [.clock, .cmds, .store, .jrnl, .lf, .uhf, .uwb, .ham, .kw, .nv]) : (Dev.endCmd st c d).get pt = d.get pt := by
  simp at h
  simp [Dev.endCmd, h, apply_ite (Dev.get · pt), foldl_get, apply_ite Prod.fst, apply_ite Prod.snd]

@[simp] theorem Dev.closeWindows_get {pt : Part} (tag : Option ℕ) (d : Dev) (h : pt ≠ .uhf) : (Dev.closeWindows tag d).get pt = d.get pt := by
  simp [Dev.closeWindows, h, apply_ite (Dev.get · pt), foldl_get, apply_ite Prod.fst, apply_ite Prod.snd]

@[simp] theorem Dev.pathLost_get {pt : Part} (d : Dev) (h : pt ∉ [.cmds, .uhf]) : (Dev.pathLost d).get pt = d.get pt := by
  simp at h
  simp [Dev.pathLost, h, apply_ite (Dev.get · pt), foldl_get, apply_ite Prod.fst, apply_ite Prod.snd]

@[simp] theorem Dev.clearVolatile_get {pt : Part} (d : Dev) (h : pt ∉ [.cru, .tok]) : (Dev.clearVolatile d).get pt = d.get pt := by
  cases pt <;> simp at h <;> rfl

@[simp] theorem Dev.rollForward_get {pt : Part} (write : Bool) (origin tag op : Nat) (d : Dev) (h : pt ∉ [.jrnl, .atlas, .cru, .tok, .nv]) :
    (Dev.rollForward write origin tag op d).get pt = d.get pt := by
  simp at h
  have htwo (d : Dev) (c : Crucible) (n : Nv) : ({ d with cru := c, nv := n } : Dev).get pt = d.get pt := by
    cases pt <;> simp at h <;> rfl
  have hfour (d : Dev) (c : Crucible) (k : Tokens) (a : Atlas) (n : Nv) :
      ({ d with cru := c, tok := k, atlas := a, nv := n } : Dev).get pt = d.get pt := by
    cases pt <;> simp at h <;> rfl
  have hkeys (xs : List Shadow) (e : Dev) : (xs.foldl (fun d x => d.putKey none x.slot x.attr x.material) e).get pt = e.get pt :=
    foldl_get (fun d x => Dev.putKey_get _ _ _ _ d (by simp [h])) xs e
  unfold Dev.rollForward
  dsimp only
  split
  · split
    · rw [Dev.log_get _ _ _ _ _ (by simp [h]), Dev.get_with_jrnl _ _ (by simp [h]), Dev.log_get _ _ _ _ _ (by simp [h]),
        hfour]
      cases write
      · rw [if_neg (by decide), htwo, hkeys, Dev.eraseRecords_get _ _ (by simp [h])]
      · rw [if_pos rfl, Dev.nvQueue_get _ _ (by simp [h]), htwo, hkeys,
          Dev.eraseRecords_get _ _ (by simp [h])]
    · rw [Dev.log_get _ _ _ _ _ (by simp [h])]
      cases write
      · rw [if_neg (by decide), htwo, hkeys]
      · rw [if_pos rfl, Dev.nvQueue_get _ _ (by simp [h]), htwo, hkeys]
  · simp [h]
  · rfl

@[simp] theorem Dev.rollBack_get {pt : Part} (origin : ℕ) (tag : ℕ) (op : ℕ) (d : Dev) (h : pt ∉ [.jrnl, .cru, .nv]) : (Dev.rollBack origin tag op d).get pt = d.get pt := by
  simp at h
  unfold Dev.rollBack
  split <;> simp [h, apply_ite (Dev.get · pt), foldl_get, apply_ite Prod.fst, apply_ite Prod.snd]

@[simp] theorem Dev.recoverUpdate_get {pt : Part} (d : Dev) (h : pt ∉ [.clock, .jrnl, .atlas, .cru, .tok, .nv]) : (Dev.recoverUpdate d).get pt = d.get pt := by
  simp at h
  simp [Dev.recoverUpdate, h, apply_ite (Dev.get · pt), foldl_get, apply_ite Prod.fst, apply_ite Prod.snd]

@[simp] theorem Dev.setToken_get {pt : Part} (tag : ℕ) (x1 : TokenRun) (d : Dev) (h : pt ≠ .cmds) : (Dev.setToken tag x1 d).get pt = d.get pt := by
  simp [Dev.setToken, h, apply_ite (Dev.get · pt), foldl_get, apply_ite Prod.fst, apply_ite Prod.snd]

@[simp] theorem Dev.tokenSend_get {pt : Part} (tag : ℕ) (x1 : TokenRun) (code : ℕ) (data : Bytes) (d : Dev) (h : pt ∉ [.clock, .pwr, .cmds, .jrnl, .evc, .lf, .nv, .bg]) : (Dev.tokenSend tag x1 code data d).get pt = d.get pt := by
  simp at h
  simp [Dev.tokenSend, h, apply_ite (Dev.get · pt), foldl_get, apply_ite Prod.fst, apply_ite Prod.snd]

@[simp] theorem Dev.learnWritten_get {pt : Part} (tag : ℕ) (d : Dev) (h : pt ∉ [.clock, .pwr, .cmds, .jrnl, .evc, .lf, .nv, .bg]) : (Dev.learnWritten tag d).get pt = d.get pt := by
  simp at h
  unfold Dev.learnWritten
  split <;> simp [h, apply_ite (Dev.get · pt), foldl_get, apply_ite Prod.fst, apply_ite Prod.snd]

@[simp] theorem Dev.kwEpochWritten_get {pt : Part} (d : Dev) (h : pt ≠ .kw) : (Dev.kwEpochWritten d).get pt = d.get pt := by
  simp [Dev.kwEpochWritten, h, apply_ite (Dev.get · pt), foldl_get, apply_ite Prod.fst, apply_ite Prod.snd]

@[simp] theorem Dev.kwStop_get {pt : Part} (d : Dev) (h : pt ≠ .kw) : (Dev.kwStop d).get pt = d.get pt := by
  simp [Dev.kwStop, h, apply_ite (Dev.get · pt), foldl_get, apply_ite Prod.fst, apply_ite Prod.snd]

@[simp] theorem Dev.setLoad_get {pt : Part} (l : AtlasLoad) (d : Dev) (h : pt ≠ .atlas) : (Dev.setLoad l d).get pt = d.get pt := by
  simp [Dev.setLoad, h, apply_ite (Dev.get · pt), foldl_get, apply_ite Prod.fst, apply_ite Prod.snd]

@[simp] theorem Dev.applyCommitAtlas_get {pt : Part} (d : Dev) (h : pt ∉ [.atlas, .nv]) : (Dev.applyCommitAtlas d).get pt = d.get pt := by
  cases pt <;> simp at h <;> rfl

@[simp] theorem Dev.reloadDue_get {pt : Part} (d : Dev) (h : pt ≠ .atlas) : (Dev.reloadDue d).get pt = d.get pt := by
  simp [Dev.reloadDue, h, apply_ite (Dev.get · pt), foldl_get, apply_ite Prod.fst, apply_ite Prod.snd]

@[simp] theorem Dev.zeroiseSeq_get {pt : Part} (q : Nat) (d : Dev) (h : pt ∉ [.evc, .ham]) : (Dev.zeroiseSeq q d).get pt = d.get pt := by
  simp at h
  unfold Dev.zeroiseSeq
  dsimp only
  rw [Dev.get_with_evc _ _ h.1, Dev.onSeq_get _ _ _ h.2, Dev.get_with_ham _ _ h.2]

@[simp] theorem Dev.tmrOff_get {pt : Part} (d : Dev) (h : pt ≠ .tmr) : (Dev.tmrOff d).get pt = d.get pt := by
  simp [Dev.tmrOff, h, apply_ite (Dev.get · pt), foldl_get, apply_ite Prod.fst, apply_ite Prod.snd]

@[simp] theorem Dev.slotCopy_get {pt : Part} (p : ℕ) (ok : Bool) (d : Dev) (h : pt ≠ .cru) : (Dev.slotCopy p ok d).get pt = d.get pt := by
  unfold Dev.slotCopy
  split <;> simp [h, apply_ite (Dev.get · pt), foldl_get, apply_ite Prod.fst, apply_ite Prod.snd]

@[simp] theorem Dev.restoreRecord_get {pt : Part} (r : OldRecord) (d : Dev) (h : pt ∉ [.jrnl, .atlas, .cru, .tok, .ham, .kw, .nv]) : (Dev.restoreRecord r d).get pt = d.get pt := by
  simp at h
  unfold Dev.restoreRecord
  split <;> simp [h, apply_ite (Dev.get · pt), foldl_get, apply_ite Prod.fst, apply_ite Prod.snd]

@[simp] theorem Dev.keepRecord_get {pt : Part} (c : Cmd) (d : Dev) (h : pt ∉ [.atlas, .nv]) : (Dev.keepRecord c d).get pt = d.get pt := by
  simp at h
  unfold Dev.keepRecord
  dsimp only
  repeat' split
  all_goals simp [h, apply_ite (Dev.get · pt), foldl_get, apply_ite Prod.fst, apply_ite Prod.snd]

@[simp] theorem Dev.programmed_get {pt : Part} (w : PageWrite) (d : Dev) (h : pt ∉ [.cru, .nv]) : (Dev.programmed w d).get pt = d.get pt := by
  cases pt <;> simp at h <;> simp [Dev.programmed, Dev.get_mk, Dev.parts]

@[simp] theorem nvPageWriteEnd_get {pt : Part} (d : Dev) (h : pt ∉ [.clock, .pwr, .cmds, .jrnl, .evc, .lf, .cru, .kw, .nv, .bg]) : (nvPageWriteEnd d).get pt = d.get pt := by
  simp at h
  have hkick (e : Dev) (b : Bool) : (if b = true then e.signal 144 else e.nvKick).get pt = e.get pt := by
    cases b
    · rw [if_neg (by decide), Dev.nvKick_get _ (by simp [h])]
    · rw [if_pos rfl, Dev.signal_get _ _ (by simp [h])]
  have hepoch (e : Dev) (w : PageWrite) : (if w.page = 8 then e.kwEpochWritten else e).get pt = e.get pt := by
    split
    · exact Dev.kwEpochWritten_get e (by simp [h])
    · rfl
  unfold nvPageWriteEnd
  dsimp only
  split
  · rfl
  · split
    · rfl
    · rw [hkick]
      split
      · rw [Dev.learnWritten_get _ _ (by simp [h]), hepoch, Dev.get_with_nv _ _ (by simp [h]), Dev.programmed_get _ _ (by simp [h])]
      · rw [hepoch, Dev.get_with_nv _ _ (by simp [h]), Dev.programmed_get _ _ (by simp [h])]

@[simp] theorem Dev.nvDrop_get {pt : Part} (p : Option Nat → Bool) (d : Dev) (h : pt ∉ [.jrnl, .atlas, .cru, .tok, .ham, .kw, .nv]) : (Dev.nvDrop p d).get pt = d.get pt := by
  simp at h
  unfold Dev.nvDrop
  dsimp only
  rw [foldl_get (h := fun d c => Dev.keepRecord_get c d (by simp [h])), foldl_get, Dev.get_with_nv _ _ (by simp [h])]
  intro d u
  rw [Dev.restoreRecord_get _ _ (by simp [h]), Dev.get_with_nv _ _ (by simp [h])]

@[simp] theorem Dev.durable_get {pt : Part} (d : Dev) (h : pt ≠ .med) : (Dev.durable d).get pt = d.get pt := by
  simp [Dev.durable, h, apply_ite (Dev.get · pt), foldl_get, apply_ite Prod.fst, apply_ite Prod.snd]

@[simp] theorem Dev.checkpoint_get {pt : Part} (d : Dev) (h : pt ≠ .med) : (Dev.checkpoint d).get pt = d.get pt := by
  simp [Dev.checkpoint, h, apply_ite (Dev.get · pt), foldl_get, apply_ite Prod.fst, apply_ite Prod.snd]

@[simp] theorem Dev.mediaPark_get {pt : Part} (d : Dev) (h : pt ≠ .med) : (Dev.mediaPark d).get pt = d.get pt := by
  have hd : d.durable.checkpoint.get pt = d.get pt := by rw [Dev.checkpoint_get _ h, Dev.durable_get _ h]
  unfold Dev.mediaPark
  dsimp only
  split
  · rw [Dev.get_with_med _ _ h, hd]
  · exact hd

@[simp] theorem Dev.breakOff_get {pt : Part} (cause : Nat) (c : Cmd) (d : Dev) (h : pt ∉ [.jrnl, .evc, .atlas, .cru, .tok, .ham, .kw, .nv]) : (Dev.breakOff cause c d).get pt = d.get pt := by
  simp at h
  unfold Dev.breakOff
  dsimp only
  rw [Dev.nvDrop_get _ _ (by simp [h])]
  split
  · simp [h]
  · rfl

@[simp] theorem Dev.killCmd_get {pt : Part} (st : Status) (cause : ℕ) (c : Cmd) (d : Dev) (h : pt ∉ [.clock, .cmds, .store, .jrnl, .evc, .lf, .uhf, .uwb, .atlas, .cru, .tok, .ham, .kw, .nv]) : (Dev.killCmd st cause c d).get pt = d.get pt := by
  simp at h
  simp [Dev.killCmd, h, apply_ite (Dev.get · pt), foldl_get, apply_ite Prod.fst, apply_ite Prod.snd]

@[simp] theorem Dev.killCmds_get {pt : Part} (st : Status) (cause : ℕ) (p : Cmd → Bool) (d : Dev) (h : pt ∉ [.clock, .cmds, .store, .jrnl, .evc, .lf, .uhf, .uwb, .atlas, .cru, .tok, .ham, .kw, .nv]) : (Dev.killCmds st cause p d).get pt = d.get pt := by
  simp at h
  simp [Dev.killCmds, h, apply_ite (Dev.get · pt), foldl_get, apply_ite Prod.fst, apply_ite Prod.snd]

@[simp] theorem Dev.domainDown_get {pt : Part} (n : ℕ) (d : Dev) (h : pt ∉ [.host, .cmds, .tmr, .lf, .uhf, .atlas, .cru, .anvil, .tok, .ham, .kw, .nv]) : (Dev.domainDown n d).get pt = d.get pt := by
  cases pt <;> simp at h
  all_goals
    unfold Dev.domainDown
    repeat' split
    all_goals simp [Dev.get_mk, Dev.parts]

@[simp] theorem Dev.supplyGone_get {pt : Part} (n : ℕ) (x1 : Domain) (p : Cmd → Bool) (d : Dev) (h : pt ∉ [.clock, .pwr, .host, .cmds, .store, .jrnl, .evc, .tmr, .lf, .uhf, .uwb, .atlas, .cru, .anvil, .tok, .ham, .kw, .nv]) : (Dev.supplyGone n x1 p d).get pt = d.get pt := by
  simp at h
  simp [Dev.supplyGone, h, apply_ite (Dev.get · pt), foldl_get, apply_ite Prod.fst, apply_ite Prod.snd]

@[simp] theorem Dev.switchDomain_get {pt : Part} (deferred : Bool) (n : ℕ) (d : Dev) (h : pt ∉ [.clock, .pwr, .host, .cmds, .store, .jrnl, .evc, .tmr, .lf, .uhf, .uwb, .atlas, .rel, .cru, .anvil, .tok, .ham, .kw, .nv, .med]) : (Dev.switchDomain deferred n d).get pt = d.get pt := by
  simp at h
  simp [Dev.switchDomain, h, apply_ite (Dev.get · pt), foldl_get, apply_ite Prod.fst, apply_ite Prod.snd]

@[simp] theorem Dev.dropDeferral_get {pt : Part} (n : ℕ) (d : Dev) (h : pt ≠ .pwr) : (Dev.dropDeferral n d).get pt = d.get pt := by
  simp [Dev.dropDeferral, h, apply_ite (Dev.get · pt), foldl_get, apply_ite Prod.fst, apply_ite Prod.snd]

@[simp] theorem Dev.zeroiseWork_get {pt : Part} (c : Cmd) (d : Dev) (h : pt ∉ [.cru, .anvil]) : (Dev.zeroiseWork c d).get pt = d.get pt := by
  simp at h
  unfold Dev.zeroiseWork
  split <;> simp [h, apply_ite (Dev.get · pt), foldl_get, apply_ite Prod.fst, apply_ite Prod.snd]

@[simp] theorem Dev.applyDeferred_get {pt : Part} (n : ℕ) (d : Dev) (h : pt ∉ [.clock, .pwr, .host, .cmds, .store, .jrnl, .evc, .tmr, .lf, .uhf, .uwb, .atlas, .rel, .cru, .anvil, .tok, .ham, .kw, .nv, .med]) : (Dev.applyDeferred n d).get pt = d.get pt := by
  simp at h
  simp [Dev.applyDeferred, h, apply_ite (Dev.get · pt), foldl_get, apply_ite Prod.fst, apply_ite Prod.snd]

end Sys2Proof.Machine
end

section
/-!
PROOFS. Deferrals, hold releases, drains and DOZE (R57, R61, R67-R70).
-/

namespace Sys2Proof.Machine

/-! ### Time goes on -/

/-- A stretch of a row that takes no time back and leaves ROOT as it is. -/
structure Onward (s t : Dev) : Prop where
  tb : s.clock.tb ≤ t.clock.tb
  rootOn : t.clock.rootOn = s.clock.rootOn

namespace Onward

variable {s t u : Dev}

theorem refl (s : Dev) : Onward s s := ⟨le_rfl, rfl⟩

theorem trans (h : Onward s t) (k : Onward t u) : Onward s u := ⟨h.tb.trans k.tb, k.rootOn.trans h.rootOn⟩

theorem of_clock (h : t.clock = s.clock) : Onward s t := ⟨by rw [h], by rw [h]⟩

/-- What comes before a stretch and leaves the clock may be counted in. -/
theorem after (h : Onward t u) (hc : t.clock = s.clock) : Onward s u := (of_clock hc).trans h

/-- What follows a stretch and leaves the clock may be counted in. -/
theorem before (h : Onward s t) (hc : u.clock = t.clock) : Onward s u := h.trans (of_clock hc)

theorem ite {c : Prop} [Decidable c] (h : Onward s t) (k : Onward s u) : Onward s (if c then t else u) := by
  split
  · exact h
  · exact k

theorem foldl {α : Type} {f : Dev → α → Dev} (h : ∀ d x, Onward d (f d x)) (xs : List α) (d : Dev) : Onward d (xs.foldl f d) := by
  induction xs generalizing d with
  | nil => exact refl d
  | cons x xs ih => exact (h d x).trans (ih _)

end Onward

theorem acceptOn_onward (port : Nat) (close : Bool) (d : Dev) : Onward d (d.acceptOn port close) := by
  unfold Dev.acceptOn
  split
  · exact ⟨accept_tb_le .., accept_rootOn ..⟩
  · exact ⟨le_rfl, rfl⟩

theorem aside_onward {f : Dev → Dev} (port : Nat) (d : Dev) (hf : ∀ e, Onward e (f e)) : Onward d (d.aside port f) := by
  unfold Dev.aside
  split
  · have h := hf { d with clock := d.clock.follow d.wantDepth port }
    exact ⟨(follow_tb_le ..).trans h.tb, h.rootOn.trans (follow_rootOn ..)⟩
  · have h := hf { d with clock := { d.clock with evTb := d.now } }
    exact ⟨h.tb, h.rootOn⟩

theorem reach_onward (n : Nat) (d : Dev) : Onward d (d.reach n) := .of_clock (Dev.reach_get (pt := .clock) n d (by decide))
theorem event_onward (n : Nat) (d : Dev) : Onward d (d.event n) := (acceptOn_onward _ _ d).trans (reach_onward n _)
theorem raise_onward (n : Nat) (d : Dev) : Onward d (d.raise n) := aside_onward _ d (reach_onward n)
theorem note_onward (origin : Nat) (x : Draft) (d : Dev) : Onward d (d.note origin x) := .of_clock (Dev.note_clock ..)
theorem log_onward (origin tag op : Nat) (x : Draft) (d : Dev) : Onward d (d.log origin tag op x) :=
  .of_clock (Dev.log_get (pt := .clock) _ _ _ _ d (by decide))

theorem begins_onward (n : Nat) (d : Dev) : Onward d (d.begins n) :=
  .ite (.refl d) ((event_onward n { d with evc := { d.evc with cond := d.evc.cond.set n true } }).after rfl)

theorem undoze_onward (d : Dev) : Onward d d.undoze := by
  have hstate (x : DevState) (e : Dev) : Onward e (e.stateChange x) := by
    unfold Dev.stateChange
    dsimp only
    have hev (p : Power) : Onward e (Dev.event 10 { e with pwr := p }) := (event_onward 10 { e with pwr := p }).after rfl
    exact .ite ((hev _).trans (note_onward ..)) (hev _)
  unfold Dev.undoze
  exact .ite ((hstate .run { d with pwr := { d.pwr with prev := 1 } }).after rfl) (.refl d)

theorem presentOn_onward (port : Nat) (d : Dev) : Onward d (d.presentOn port) := (undoze_onward d).trans (acceptOn_onward ..)
theorem closeOn_onward (port : Nat) (d : Dev) : Onward d (d.closeOn port) := (undoze_onward d).trans (acceptOn_onward ..)
theorem signal_onward (n : Nat) (d : Dev) : Onward d (d.signal n) := (undoze_onward d).trans (event_onward ..)

theorem killCmd_onward (st : Status) (cause : Nat) (c : Cmd) (d : Dev) : Onward d (d.killCmd st cause c) := by
  have hbreak : Onward d (d.breakOff cause c) := .of_clock (Dev.breakOff_get (pt := .clock) _ _ d (by decide))
  have hend (x : Dev) : Onward x (x.endCmd st c) :=
    aside_onward _ x fun y => .of_clock (Dev.endBy_get (pt := .clock) _ _ y (by decide))
  unfold Dev.killCmd
  refine hbreak.trans ?_
  dsimp only
  split
  · exact (hend _).after rfl
  · exact hend _

theorem killCmds_onward (st : Status) (cause : Nat) (p : Cmd → Bool) (d : Dev) : Onward d (d.killCmds st cause p) :=
  .foldl (fun e c => killCmd_onward st cause c e) _ d

theorem recoverUpdate_onward (d : Dev) : Onward d d.recoverUpdate := by
  have hfwd (e : Dev) : Onward e (e.aside 13 (Dev.rollForward true oPower 0xFFFF 0xFF)) :=
    aside_onward 13 e fun x => .of_clock (Dev.rollForward_get (pt := .clock) _ _ _ _ x (by decide))
  have hback : Onward d (d.aside 13 (Dev.rollBack oPower 0xFFFF 0xFF)) :=
    aside_onward 13 d fun e => .of_clock (Dev.rollBack_get (pt := .clock) _ _ _ e (by decide))
  unfold Dev.recoverUpdate
  exact .ite ((hfwd { d with cru := { d.cru with rollFwd := true } }).after rfl) (.ite hback (.refl d))

theorem endGrant_onward (origin tag op cause a : Nat) (d : Dev) : Onward d (d.endGrant origin tag op cause a) := by
  unfold Dev.endGrant
  dsimp only
  split
  · exact .refl d
  · exact ((raise_onward 44 _).trans (log_onward ..)).after (Dev.setNode_get (pt := .clock) a _ d (by decide))

theorem endGrants_onward (origin tag op cause : Nat) (as : List Nat) (d : Dev) : Onward d (d.endGrants origin tag op cause as) :=
  .foldl (fun e a => endGrant_onward origin tag op cause a e) as d

theorem switchOff_onward (origin tag op cause : Nat) (d : Dev) : Onward d (d.switchOff origin tag op cause) := by
  unfold Dev.switchOff
  exact ((raise_onward 33 _).trans (log_onward ..)).after rfl

theorem lockRelay_onward (origin tag op cause gcause : Nat) (d : Dev) : Onward d (d.lockRelay origin tag op cause gcause) :=
  (switchOff_onward origin tag op cause d).trans (endGrants_onward ..)

theorem supplyGone_onward (n : Nat) (x : Domain) (p : Cmd → Bool) (d : Dev) : Onward d (d.supplyGone n x p) := by
  have hkill (e : Dev) : Onward e ((e.killCmds .holdBroken 11 p).domainDown n) :=
    (killCmds_onward ..).before (Dev.domainDown_get (pt := .clock) n _ (by decide))
  exact (hkill (Dev.setDom n x { d with pwr := { d.pwr with holds := d.pwr.holds.filter (fun h => h.dom != n) } })).after rfl

theorem switchDomain_onward (deferred : Bool) (n : Nat) (d : Dev) : Onward d (d.switchDomain deferred n) := by
  have hlock : Onward d (if n = 19 then d.lockRelay oHost 0xFFFF 0xFF 5 5 else d) := .ite (lockRelay_onward ..) (.refl d)
  have hpark (e : Dev) : Onward e (if n = 15 then e.mediaPark else e) :=
    .ite (.of_clock (Dev.mediaPark_get (pt := .clock) e (by decide))) (.refl e)
  exact (hlock.trans (hpark _)).trans (supplyGone_onward ..)

theorem applyDeferred_onward (n : Nat) (d : Dev) : Onward d (d.applyDeferred n) := by
  have hnote := note_onward oPower (powerDraft n (d.dstate n) 0 0) (d.dropDeferral n)
  exact (hnote.trans (switchDomain_onward true n _)).after rfl

theorem settle_onward (s t : Dev) : Onward t (Dev.settle s t) := by
  have happend (r : Record) (e : Dev) : Onward e (e.append r) := .of_clock (Dev.append_get (pt := .clock) r e (by decide))
  have hhold (e : Dev) (j : Journal) : Onward e { e with jrnl := j } := .of_clock rfl
  unfold Dev.settle Dev.holdEntry
  exact .ite (.refl t) (.ite (((begins_onward 155 t).trans (happend _ _)).trans (hhold _ _)) (.refl t))

end Sys2Proof.Machine
end

section
/-!
PROOFS. Deferrals, hold releases, drains and DOZE (R57, R61, R67-R70).
-/

namespace Sys2Proof.Machine

/-! ### What a domain switched off leaves of the power unit -/

theorem supplyGone_held (n : Nat) (x : Domain) (p : Cmd → Bool) (d : Dev) :
    (d.supplyGone n x p).pwr.held = (d.pwr.holds.filter (fun h => h.dom != n), d.pwr.brk) := by
  rw [Dev.supplyGone]
  simp only [Dev.domainDown_held, Dev.killCmds_held]
  rfl

theorem switchDomain_held (deferred : Bool) (n : Nat) (d : Dev) :
    (d.switchDomain deferred n).pwr.held = (d.pwr.holds.filter (fun h => h.dom != n), d.pwr.brk) := by
  have hkeep (e : Dev) (h : e.pwr.held = d.pwr.held) (p : Cmd → Bool) :
      (e.supplyGone n .off p).pwr.held = (d.pwr.holds.filter (fun h => h.dom != n), d.pwr.brk) := by
    rw [supplyGone_held, show e.pwr.holds = d.pwr.holds from congrArg Prod.fst h, show e.pwr.brk = d.pwr.brk from congrArg Prod.snd h]
  rw [Dev.switchDomain]
  refine hkeep _ ?_ _
  split <;> split <;> simp

theorem applyDeferred_domains (n : Nat) (d : Dev) :
    (d.applyDeferred n).pwr.domains = (d.pwr.doms.set n .off, d.pwr.deferrals.filter (fun f => f.dom != n)) := by
  rw [Dev.applyDeferred, switchDomain_domains, Dev.note_pwr]
  rfl

theorem applyDeferred_held (n : Nat) (d : Dev) :
    (d.applyDeferred n).pwr.held = (d.pwr.holds.filter (fun h => h.dom != n), d.pwr.brk) := by
  rw [Dev.applyDeferred, switchDomain_held, Dev.note_pwr]
  rfl

theorem getD_set_off (l : List Domain) (n m : Nat) : (l.set n .off).getD m .off = if m = n then .off else l.getD m .off := by
  rw [List.getD_eq_getElem?_getD, List.getElem?_set, List.getD_eq_getElem?_getD]
  by_cases h : n = m
  · subst h
    simp only [if_true]
    split <;> rfl
  · rw [if_neg h, if_neg (Ne.symm h)]

/-- The power unit's lists as parts of what the lemmas above give. -/
theorem pwr_of_domains {d : Dev} {x : List Domain} {y : List Deferral} (h : d.pwr.domains = (x, y)) : d.pwr.doms = x ∧ d.pwr.deferrals = y :=
  ⟨congrArg Prod.fst h, congrArg Prod.snd h⟩

theorem pwr_of_held {d : Dev} {x : List Hold} {y : Bool} (h : d.pwr.held = (x, y)) : d.pwr.holds = x ∧ d.pwr.brk = y :=
  ⟨congrArg Prod.fst h, congrArg Prod.snd h⟩

/-! ### Holds that break (R69) -/

/-- What a break of the holds on domain `n` has done to the power unit of `d` by the time that `t` stands. -/
structure Broken (n : Nat) (d t : Dev) : Prop where
  onward : Onward d t
  sets : t.sets = d.sets
  brk : t.pwr.brk = true
  held : t.domHeld n = false
  off : t.dom n = .off
  others : ∀ m, m ≠ n → t.dom m = d.dom m ∨ (d.domDeferred m = true ∧ t.dom m = .off)
  deferrals : ∀ g ∈ t.pwr.deferrals, g ∈ d.pwr.deferrals ∧ g.dom ≠ n

/-- A further deferred POWER_OFF that applies. -/
theorem Broken.applies {n m : Nat} {d t : Dev} (h : Broken n d t) (hm : t.domDeferred m = true) :
    Broken n d ((t.presentOn 2).applyDeferred m) := by
  obtain ⟨hdoms, hdefs⟩ := pwr_of_domains (applyDeferred_domains m (t.presentOn 2))
  obtain ⟨hholds, hbrk⟩ := pwr_of_held (applyDeferred_held m (t.presentOn 2))
  obtain ⟨hdoms', hdefs'⟩ := pwr_of_domains (Dev.presentOn_domains 2 t)
  obtain ⟨hholds', hbrk'⟩ := pwr_of_held (Dev.presentOn_held 2 t)
  rw [hdoms'] at hdoms
  rw [hdefs'] at hdefs
  rw [hholds'] at hholds
  rw [hbrk'] at hbrk
  have hdom (k : Nat) : ((t.presentOn 2).applyDeferred m).dom k = if k = m then .off else t.dom k := by
    rw [Dev.dom, hdoms, getD_set_off]
    rfl
  obtain ⟨g, hg, hgm⟩ := List.any_eq_true.mp hm
  have hgm : g.dom = m := by simpa using hgm
  obtain ⟨hgd, hgn⟩ := h.deferrals g hg
  have hdm : d.domDeferred m = true := List.any_eq_true.mpr ⟨g, hgd, by simpa using hgm⟩
  refine ⟨(h.onward.trans (presentOn_onward 2 t)).trans (applyDeferred_onward m _), by simp [h.sets], hbrk.trans h.brk, ?_, ?_, fun k hk => ?_,
    fun f hf => h.deferrals f (List.mem_of_mem_filter (hdefs ▸ hf))⟩
  · have hn := h.held
    simp only [Dev.domHeld, hholds, List.any_eq_false, List.mem_filter] at hn ⊢
    exact fun x hx => hn x hx.1
  · rw [hdom, if_neg (by rintro rfl; exact hgn hgm)]
    exact h.off
  · rw [hdom]
    split
    · next hkm => exact .inr ⟨hkm ▸ hdm, rfl⟩
    · exact h.others k hk

/-- The holders of a domain. -/
def Dev.holders (d : Dev) (n : Nat) : List Nat := (List.range 6).filter (fun h => d.pwr.holds.any (fun x => x.dom == n && x.holder == h))

/-- The commands of some holders. -/
def Dev.cmdsOf (d : Dev) (hs : List Nat) : List Cmd := d.cmds.filter (fun c => (d.cmdHolds c).any (fun x => hs.contains x.holder))

/-- Some holders aborted: their holds gone, their work zeroised and their commands ended (R69). -/
def Dev.abortHolders (hs : List Nat) (cs : List Cmd) (d : Dev) : Dev :=
  let d := { d with
    pwr := { d.pwr with holds := d.pwr.holds.filter (fun x => !hs.contains x.holder) },
    anvil := if hs.contains 5 then { d.anvil with reseedDue := false } else d.anvil }
  let d := cs.foldl (fun d c => d.zeroiseWork c) (d.presentOn 2)
  let d := d.killCmds .holdBroken 11 (fun c => cs.any (fun b => b.tag == c.tag))
  if cs.any (fun c => c.op == 0x48) then d.recoverUpdate else d

/-- The deferral of domain `n` has ended in a break: BRK with PWR_BREAK, and the POWER record of its holders `hs` (R69). -/
def Dev.broke (n : Nat) (hs : List Nat) (d : Dev) : Dev :=
  let mask := bitsNat ((List.range 5).map (fun i => hs.contains (i + 1)))
  let old := d.dstate n
  let d := Dev.signal 12 { d with pwr := { d.pwr with brk := true } }
  (d.dropDeferral n).note oPower { powerDraft n old 0 4 with detail := hs.headD 0 + 256 * mask }

/-- A break up to the events in which domains go off for it. -/
def Dev.breakEvent (n : Nat) (d : Dev) : Dev := ((d.abortHolders (d.holders n) (d.cmdsOf (d.holders n))).broke n (d.holders n)).presentOn 2

/-- A break goes on with the domain itself and those whose deferred POWER_OFF it lets apply. -/
theorem breakHolds_eq (n : Nat) (d : Dev) : d.breakHolds n =
    (List.range 24).foldl (fun d m => if d.domDeferred m && !d.domHeld m then (d.presentOn 2).applyDeferred m else d)
      ((d.breakEvent n).switchDomain false n) := rfl

theorem abortHolders_onward (hs : List Nat) (cs : List Cmd) (d : Dev) : Onward d (d.abortHolders hs cs) := by
  have hzero (x : Dev) : Onward x (cs.foldl (fun d c => d.zeroiseWork c) (x.presentOn 2)) :=
    (presentOn_onward 2 x).trans (.foldl (fun e c => .of_clock (Dev.zeroiseWork_get (pt := .clock) c e (by decide))) _ _)
  have hkill (x : Dev) : Onward x (x.killCmds .holdBroken 11 (fun c => cs.any (fun b => b.tag == c.tag))) := killCmds_onward ..
  have hrecover (x : Dev) : Onward x (if cs.any (fun c => c.op == 0x48) then x.recoverUpdate else x) := .ite (recoverUpdate_onward x) (.refl x)
  exact (((hzero _).trans (hkill _)).trans (hrecover _)).after rfl

@[simp] theorem abortHolders_sets (hs : List Nat) (cs : List Cmd) (d : Dev) : (d.abortHolders hs cs).sets = d.sets := by
  simp [Dev.abortHolders, apply_ite Dev.sets, foldl_sets]

@[simp] theorem abortHolders_domains (hs : List Nat) (cs : List Cmd) (d : Dev) : (d.abortHolders hs cs).pwr.domains = d.pwr.domains := by
  have hzero (x : Dev) : (cs.foldl (fun d c => d.zeroiseWork c) (x.presentOn 2)).pwr.domains = x.pwr.domains :=
    (foldl_domains _ _ (fun e c => Dev.zeroiseWork_domains c e) _).trans (Dev.presentOn_domains 2 x)
  unfold Dev.abortHolders
  dsimp only
  split
  · rw [Dev.recoverUpdate_domains, Dev.killCmds_domains, hzero]
    rfl
  · rw [Dev.killCmds_domains, hzero]
    rfl

theorem broke_onward (n : Nat) (hs : List Nat) (d : Dev) : Onward d (d.broke n hs) := by
  have hnote (x : Dev) (y : Draft) : Onward x ((x.dropDeferral n).note oPower y) := (note_onward oPower y (x.dropDeferral n)).after rfl
  exact ((signal_onward 12 { d with pwr := { d.pwr with brk := true } }).trans (hnote _ _)).after rfl

@[simp] theorem broke_sets (n : Nat) (hs : List Nat) (d : Dev) : (d.broke n hs).sets = d.sets := by simp [Dev.broke]

theorem broke_pwr (n : Nat) (hs : List Nat) (d : Dev) : (d.broke n hs).pwr.brk = true ∧ (d.broke n hs).pwr.doms = d.pwr.doms ∧
    (d.broke n hs).pwr.deferrals = d.pwr.deferrals.filter (fun f => f.dom != n) := by
  have hnote : (d.broke n hs).pwr = ((Dev.signal 12 { d with pwr := { d.pwr with brk := true } }).dropDeferral n).pwr := Dev.note_pwr ..
  obtain ⟨hdoms, hdefs⟩ := pwr_of_domains (Dev.signal_domains 12 { d with pwr := { d.pwr with brk := true } })
  obtain ⟨-, hbrk⟩ := pwr_of_held (Dev.signal_held 12 { d with pwr := { d.pwr with brk := true } })
  rw [hnote]
  exact ⟨hbrk, hdoms, congrArg (List.filter _) hdefs⟩

theorem breakEvent_onward (n : Nat) (d : Dev) : Onward d (d.breakEvent n) :=
  ((abortHolders_onward ..).trans (broke_onward ..)).trans (presentOn_onward ..)

theorem breakEvent_sets (n : Nat) (d : Dev) : (d.breakEvent n).sets = d.sets := by simp [Dev.breakEvent]

theorem breakEvent_pwr (n : Nat) (d : Dev) : (d.breakEvent n).pwr.brk = true ∧ (d.breakEvent n).pwr.doms = d.pwr.doms ∧
    (d.breakEvent n).pwr.deferrals = d.pwr.deferrals.filter (fun f => f.dom != n) := by
  obtain ⟨hdoms, hdefs⟩ := pwr_of_domains (abortHolders_domains (d.holders n) (d.cmdsOf (d.holders n)) d)
  obtain ⟨hbrk, hdoms', hdefs'⟩ := broke_pwr n (d.holders n) (d.abortHolders (d.holders n) (d.cmdsOf (d.holders n)))
  rw [hdoms] at hdoms'
  rw [hdefs] at hdefs'
  unfold Dev.breakEvent
  generalize (d.abortHolders (d.holders n) (d.cmdsOf (d.holders n))).broke n (d.holders n) = e at hbrk hdoms' hdefs'
  obtain ⟨hdoms₂, hdefs₂⟩ := pwr_of_domains (Dev.presentOn_domains 2 e)
  obtain ⟨-, hbrk₂⟩ := pwr_of_held (Dev.presentOn_held 2 e)
  exact ⟨hbrk₂.trans hbrk, hdoms₂.trans hdoms', hdefs₂.trans hdefs'⟩

theorem breakHolds_broken (n : Nat) (d : Dev) : Broken n d (d.breakHolds n) := by
  obtain ⟨hbrk, hdoms, hdefs⟩ := breakEvent_pwr n d
  have hon := breakEvent_onward n d
  rw [breakHolds_eq]
  have hsets := breakEvent_sets n d
  generalize d.breakEvent n = e at hbrk hdoms hdefs hon hsets ⊢
  obtain ⟨hdoms', hdefs'⟩ := pwr_of_domains (switchDomain_domains false n e)
  obtain ⟨hholds', hbrk'⟩ := pwr_of_held (switchDomain_held false n e)
  have hdom (k : Nat) : (e.switchDomain false n).dom k = if k = n then .off else d.dom k := by
    rw [Dev.dom, hdoms', hdoms, getD_set_off]
    rfl
  have hfirst : Broken n d (e.switchDomain false n) := by
    refine ⟨hon.trans (switchDomain_onward ..), by simp [hsets], hbrk'.trans hbrk, ?_, by rw [hdom, if_pos rfl], fun m hm => .inl (by rw [hdom, if_neg hm]),
      fun g hg => ?_⟩
    · simp [Dev.domHeld, hholds']
    · rw [hdefs', hdefs, List.mem_filter] at hg
      exact ⟨hg.1, by simpa using hg.2⟩
  generalize e.switchDomain false n = t at hfirst
  induction List.range 24 generalizing t with
  | nil => exact hfirst
  | cons m ms ih =>
    rw [List.foldl_cons]
    refine ih _ ?_
    split
    · next hm => exact hfirst.applies (by simpa using (Bool.and_eq_true_iff.mp hm).1)
    · exact hfirst

/-! ### The rows (R57, R68-R70) -/

/-- The close of a window, under a running ROOT. -/
theorem closes_running {d : Dev} (port : Nat) (w : Window) (f : Dev → Dev) (hr : d.clock.rootOn = true) :
    d.closes port (some w) f = f ((d.toClose w).closeOn port) := by
  unfold Dev.closes
  simp [hr]

/-- The state in which what a window's close does begins: the close has been reached, and the power unit stands. -/
theorem closed_kept {s : Dev} (port : Nat) (w : Window) (hr : s.clock.rootOn = true) (hp : s.clock.pos < 4000) :
    s.closeAt w ≤ ((s.toClose w).closeOn port).clock.tb ∧ ((s.toClose w).closeOn port).pwr.domains = s.pwr.domains ∧
    ((s.toClose w).closeOn port).pwr.held = s.pwr.held := by
  refine ⟨?_, by simp, by simp⟩
  have hreach : s.closeAt w ≤ (s.toClose w).clock.tb := (wait_reaches hr hp).1
  exact hreach.trans (closeOn_onward port (s.toClose w)).tb

theorem domHeld_of_held {s t : Dev} (h : t.pwr.held = s.pwr.held) (n : Nat) : t.domHeld n = s.domHeld n :=
  congrArg (fun p : List Hold × Bool => p.1.any (fun h => h.dom == n)) h

theorem filter_holds {n : Nat} {d : Dev} (h : d.domHeld n = false) : d.pwr.holds.filter (fun h => h.dom != n) = d.pwr.holds := by
  rw [List.filter_eq_self]
  intro x hx
  simpa using List.any_eq_false.mp h x hx

theorem dom_of_domains {s t : Dev} (h : t.pwr.domains = s.pwr.domains) (m : Nat) : t.dom m = s.dom m :=
  congrArg (fun p : List Domain × List Deferral => p.1.getD m .off) h

/-- A deferred POWER_OFF applied with nothing holding the domain. -/
theorem applyDeferred_dom (n m : Nat) (d : Dev) : (d.applyDeferred n).dom m = if m = n then .off else d.dom m := by
  rw [Dev.dom, (pwr_of_domains (applyDeferred_domains n d)).1, getD_set_off]
  rfl

theorem deferralWindowClose_answers {n : Nat} {f : Deferral} {s : State} (h : s.hostUp = true) (hp : s.clock.pos < 4000)
    (hf : s.pwr.deferrals.find? (fun f => f.dom == n) = some f) :
    Answers (.deferralWindowClose n) s (fun t => s.closeAt f.win ≤ t.clock.tb ∧ t.dom n = .off ∧ t.sets = s.sets ∧
      (s.domHeld n = false → t.pwr.holds = s.pwr.holds ∧ t.pwr.brk = s.pwr.brk ∧ (∀ m, m ≠ n → t.dom m = s.dom m) ∧
        t.pwr.deferrals = s.pwr.deferrals.filter (fun f => f.dom != n)) ∧
      (s.domHeld n = true → (∀ h ∈ s.pwr.holds, h.holder < 6) → t.pwr.brk = true ∧ t.domHeld n = false ∧
        (∀ m, m ≠ n → t.dom m = s.dom m ∨ (s.domDeferred m = true ∧ t.dom m = .off)) ∧
        ∀ g ∈ t.pwr.deferrals, g ∈ s.pwr.deferrals ∧ g.dom ≠ n)) := by
  obtain ⟨hclose, hdoms, hheld⟩ := closed_kept 2 f.win (rootOn_of_hostUp h) hp
  have hn := domHeld_of_held hheld n
  have hsets : ((s.toClose f.win).closeOn 2).sets = s.sets := by simp
  have hrow : deferralWindowClose n s.toDev = if s.domHeld n then ((s.toClose f.win).closeOn 2).breakHolds n
      else ((s.toClose f.win).closeOn 2).applyDeferred n := by
    rw [deferralWindowClose, hf]
    dsimp only
    rw [closes_running _ _ _ (rootOn_of_hostUp h), hn]
  obtain ⟨hd1, hd2⟩ := pwr_of_domains hdoms
  obtain ⟨hh1, hh2⟩ := pwr_of_held hheld
  generalize (s.toClose f.win).closeOn 2 = e at *
  by_cases hb : s.domHeld n = true
  · rw [if_pos hb] at hrow
    have hbroken := breakHolds_broken n e
    have hset := settle_onward s.toDev (e.breakHolds n)
    refine answers_settle (f := deferralWindowClose n) rfl hrow ?_
    simp only [settle_sets, settle_pwr, settle_dom, Dev.domHeld, settle_pwr]
    refine ⟨hclose.trans (hbroken.onward.tb.trans hset.tb), hbroken.off, hbroken.sets.trans hsets, fun hf => ?_, fun _ _ => ⟨hbroken.brk, hbroken.held,
      fun m hm => ?_, fun g hg => ?_⟩⟩
    · exact absurd hb (by simpa [Dev.domHeld] using hf)
    · have := hbroken.others m hm
      rwa [Dev.domDeferred, hd2, dom_of_domains hdoms] at this
    · have := hbroken.deferrals g hg
      rwa [hd2] at this
  · rw [if_neg hb] at hrow
    have hset := settle_onward s.toDev (e.applyDeferred n)
    obtain ⟨hholds, hbrk⟩ := pwr_of_held (applyDeferred_held n e)
    obtain ⟨-, hdefs⟩ := pwr_of_domains (applyDeferred_domains n e)
    refine answers_settle (f := deferralWindowClose n) rfl hrow ?_
    simp only [settle_sets, settle_pwr, settle_dom]
    refine ⟨hclose.trans ((applyDeferred_onward n e).tb.trans hset.tb), by rw [applyDeferred_dom, if_pos rfl], by simp [hsets],
      fun hf => ⟨?_, hbrk.trans hh2, fun m hm => ?_, by rw [hdefs, hd2]⟩, fun ht => absurd ht hb⟩
    · rw [hholds, filter_holds (hn.trans hf), hh1]
    · rw [applyDeferred_dom, if_neg hm, dom_of_domains hdoms]

/-- A hold is released: its holder's port presents it, and it is gone. -/
def Dev.release (holder n : Nat) (d : Dev) : Dev :=
  { d.presentOn (holderPort holder) with
    pwr := { (d.presentOn (holderPort holder)).pwr with holds := (d.presentOn (holderPort holder)).pwr.holds.filter (· != ⟨holder, n⟩) } }

theorem release_frame {holder n : Nat} {s : Dev} (h : s.hostUp = true) : s.release holder n =
    { s.presentOn (holderPort holder) with pwr := { s.pwr with holds := s.pwr.holds.filter (· != ⟨holder, n⟩) } } := by
  rw [Dev.release, presentOn_run _ (run_of_hostUp h) (rootOn_of_hostUp h)]

theorem holdRelease_eq {holder n : Nat} {d : Dev} (hc : d.pwr.holds.contains ⟨holder, n⟩ = true) (hneed : d.holdNeeded ⟨holder, n⟩ = false)
    (hf : ∀ g ∈ d.pwr.deferrals, g.dom = n → d.reached g.win = false) :
    holdRelease holder n d = if (d.release holder n).domHeld n || !(d.release holder n).domDeferred n then d.release holder n
      else ((d.release holder n).presentOn 2).applyDeferred n := by
  have hnone : d.pwr.deferrals.find? (fun f => f.dom == n && d.reached f.win) = none := by
    refine List.find?_eq_none.mpr fun g hg hr => ?_
    obtain ⟨hdom, hreach⟩ : g.dom = n ∧ d.reached g.win = true := by simpa using hr
    exact absurd hreach (by rw [hf g hg hdom]; decide)
  rw [holdRelease, hnone]
  simp only [hc, hneed, Bool.not_true, Bool.or_self, Bool.false_eq_true, if_false]
  rfl

/-- Another holder's hold stands on the domain once this one's is released. -/
theorem any_released (holder n : Nat) (hs : List Hold) : (hs.filter (· != ⟨holder, n⟩)).any (fun h => h.dom == n) =
    hs.any (fun h => h.dom == n && h.holder != holder) := by
  rw [List.any_filter]
  congr 1
  funext h
  obtain ⟨a, b⟩ := h
  by_cases hb : b = n
  · subst hb
    by_cases ha : a = holder
    · simp [ha]
    · have hne : (⟨a, b⟩ : Hold) ≠ ⟨holder, b⟩ := fun he => ha (congrArg Hold.holder he)
      simp [ha, bne_iff_ne.mpr hne]
  · rw [show (b == n) = false by simpa using hb, Bool.and_false, Bool.false_and]

theorem holdRelease_deferred {holder n : Nat} {f : Deferral} {s : State} (h : s.hostUp = true)
    (hf : s.pwr.deferrals.find? (fun f => f.dom == n) = some f) (hc : s.pwr.holds.contains ⟨holder, n⟩ = true)
    (hneed : s.holdNeeded ⟨holder, n⟩ = false) (hopen : ∀ g ∈ s.pwr.deferrals, g.dom = n → s.reached g.win = false) :
    Answers (.holdRelease holder n) s fun t =>
      t.pwr.holds = s.pwr.holds.filter (· != ⟨holder, n⟩) ∧ (∀ m, m ≠ n → t.dom m = s.dom m) ∧ t.sets = s.sets ∧
      if s.pwr.holds.any (fun h => h.dom == n && h.holder != holder) then t.dom n = s.dom n ∧ t.pwr.deferrals = s.pwr.deferrals
      else t.dom n = .off ∧ t.pwr.deferrals = s.pwr.deferrals.filter (fun f => f.dom != n) := by
  have hpwr : (s.release holder n).pwr = { s.pwr with holds := s.pwr.holds.filter (· != ⟨holder, n⟩) } :=
    congrArg Dev.pwr (release_frame h)
  have hsets : (s.release holder n).sets = s.sets := Dev.presentOn_sets ..
  have hheld : (s.release holder n).domHeld n = s.pwr.holds.any (fun h => h.dom == n && h.holder != holder) := by
    rw [Dev.domHeld, hpwr, any_released]
  have hdef : (s.release holder n).domDeferred n = true := by
    rw [Dev.domDeferred, hpwr]
    exact List.any_eq_true.mpr ⟨f, List.mem_of_find?_eq_some hf, List.find?_some (p := fun f : Deferral => f.dom == n) hf⟩
  refine answers_settle (f := holdRelease holder n) rfl (holdRelease_eq hc hneed hopen) ?_
  rw [← hheld, hdef, Bool.not_true, Bool.or_false]
  simp only [settle_sets, settle_pwr, settle_dom]
  generalize s.release holder n = e at hpwr hsets hheld hdef
  by_cases hb : e.domHeld n = true
  · simp only [if_pos hb, hpwr, Dev.dom]
    exact ⟨trivial, fun _ _ => trivial, hsets, trivial, trivial⟩
  · rw [Bool.not_eq_true] at hb
    simp only [hb, Bool.false_eq_true, if_false]
    obtain ⟨hdoms, hdefs⟩ := pwr_of_domains (Dev.presentOn_domains 2 e)
    have hkeep := Dev.presentOn_held 2 e
    obtain ⟨hholds, -⟩ := pwr_of_held hkeep
    obtain ⟨hholds', -⟩ := pwr_of_held (applyDeferred_held n (e.presentOn 2))
    obtain ⟨-, hdefs'⟩ := pwr_of_domains (applyDeferred_domains n (e.presentOn 2))
    refine ⟨?_, fun m hm => ?_, by simp [hsets], by rw [applyDeferred_dom, if_pos rfl], ?_⟩
    · rw [hholds', filter_holds ((domHeld_of_held hkeep n).trans hb), hholds, hpwr]
    · rw [applyDeferred_dom, if_neg hm, Dev.dom, hdoms, hpwr]
      rfl
    · rw [hdefs', hdefs, hpwr]

theorem holdRelease_plain {holder n : Nat} {s : State} (h : s.hostUp = true) (hc : s.pwr.holds.contains ⟨holder, n⟩ = true)
    (hneed : s.holdNeeded ⟨holder, n⟩ = false) (hdef : s.domDeferred n = false) :
    Answers (.holdRelease holder n) s fun t =>
      t = { s.presentOn (holderPort holder) with pwr := { s.pwr with holds := s.pwr.holds.filter (· != ⟨holder, n⟩) } } := by
  have hopen (g : Deferral) (hg : g ∈ s.pwr.deferrals) (hn : g.dom = n) : s.reached g.win = false := by
    have hne := List.any_eq_false.mp hdef g hg
    exact absurd (by simpa using hn) hne
  have hrow : holdRelease holder n s.toDev = s.release holder n := by
    have hd : (s.release holder n).domDeferred n = false := by
      rw [Dev.domDeferred, release_frame h]
      exact hdef
    rw [holdRelease_eq hc hneed hopen, hd, Bool.not_false, Bool.or_true, if_pos rfl]
  refine answers_room (f := holdRelease holder n) rfl (.inr ?_) (hrow.trans (release_frame h))
  rw [hrow, release_frame h, presentOn_run _ (run_of_hostUp h) (rootOn_of_hostUp h)]
  exact Nat.lt_of_lt_of_le (hostUp_iff.mp h).2.2.2.2 (by decide)

theorem drainEnd_answers {n : Nat} {s : State} (hd : s.dom n = .drain) : Answers (.drainEnd n) s fun t =>
    t.dom n = .off ∧ (∀ m, m ≠ n → t.dom m = s.dom m) ∧
    t.pwr.holds = s.pwr.holds.filter (fun h => h.dom != n) ∧ t.pwr.deferrals = s.pwr.deferrals ∧ t.sets = s.sets := by
  have hrow : drainEnd n s.toDev = ((if n = 16 && s.nv.busy then nvPageWriteEnd s.toDev else s.toDev).presentOn 2).switchDomain false n := by
    rw [drainEnd, hd]
    rfl
  obtain ⟨e, he, hdoms, hheld⟩ : ∃ e, e = (if n = 16 && s.nv.busy then nvPageWriteEnd s.toDev else s.toDev).presentOn 2 ∧
      e.pwr.domains = s.pwr.domains ∧ e.pwr.held = s.pwr.held := by
    refine ⟨_, rfl, ?_, ?_⟩
    · rw [Dev.presentOn_domains]
      split <;> simp
    · rw [Dev.presentOn_held]
      split <;> simp
  rw [← he] at hrow
  obtain ⟨hdoms', hdefs'⟩ := pwr_of_domains (switchDomain_domains false n e)
  obtain ⟨hholds', -⟩ := pwr_of_held (switchDomain_held false n e)
  have hdom (m : Nat) : (e.switchDomain false n).dom m = if m = n then .off else s.dom m := by
    rw [Dev.dom, hdoms', getD_set_off, ← dom_of_domains hdoms]
    rfl
  refine answers_settle (f := drainEnd n) rfl rfl ?_
  simp only [settle_sets, settle_pwr, settle_dom, drainEnd_sets]
  rw [hrow]
  exact ⟨by rw [hdom, if_pos rfl], fun m hm => by rw [hdom, if_neg hm], by rw [hholds', (pwr_of_held hheld).1],
    hdefs'.trans (pwr_of_domains hdoms).2, trivial⟩

/-! ### DOZE (R61) -/

section
variable {d : Dev} (x : DevState) (hr : d.clock.rootOn = true) (hb : d.jrnl.buf.length < 1023)

/-- A device whose power state is another. -/
def Dev.inState (x : DevState) (d : Dev) : Dev := { d with pwr := { d.pwr with dev := x, runTicks := d.runTime, runFrom := d.now } }

include hr in
theorem stateChange_running : d.stateChange x = ((d.inState x).event 10).note oPower (draft 0x41 0x01 0xFF (devCode d.pwr.dev) (devCode x) 0) :=
  if_pos (event_rootOn (d := d.inState x) 10 hr)

/-- STATE_CHANGE and its POWER record (R61, R578). -/
theorem stateChange_says (hr : d.clock.rootOn = true) (hb : d.jrnl.buf.length < 1023) : Raised 10 d (d.stateChange x) ∧
    (d.stateChange x).pwr = { d.pwr with dev := x, runTicks := d.runTime, runFrom := d.now } ∧
    (d.stateChange x).lastRecord = some (0x41, 0xFF, devCode d.pwr.dev, devCode x, 0) ∧
    (d.stateChange x).jrnl.buf.length = d.jrnl.buf.length + 1 ∧ EventsOnly d (d.stateChange x) := by
  have hj : ((d.inState x).event 10).jrnl = d.jrnl := Dev.event_get (pt := .jrnl) 10 (d.inState x) (by decide)
  have hlen : ((d.inState x).event 10).jrnl.buf.length < 1024 := by
    rw [hj]
    omega
  rw [stateChange_running x hr]
  refine ⟨?_, ?_, note_lastRecord hlen .., ?_, eventsOnly_of_get fun pt hpt => ?_⟩
  · obtain ⟨he, hesn, hevc⟩ := raised_of_eq (s := d) (event_raised (d := d.inState x) 10 hr) rfl rfl
    rw [Raised, Dev.note_clock, Dev.note_evc]
    exact ⟨he, hesn, hevc⟩
  · rw [Dev.note_pwr]
    exact Dev.event_get (pt := .pwr) 10 (d.inState x) (by decide)
  · rw [note_buf_length hlen, hj]
  · refine (Dev.note_get _ _ _ ?_).trans ((Dev.event_get _ _ ?_).trans ?_)
    all_goals cases pt <;> simp_all [eventParts, Dev.inState, Dev.get]
end

theorem dozeEntry_answers {s : State} (hp : s.clock.pos < 4000) (h : s.hostUp = true) (hcmds : s.cmds = []) (hstore : s.store = [])
    (hdue : s.bg.due = []) (hidle : s.setting 0x010001 ≠ 0) : Answers .dozeEntry s fun t =>
      t.pwr = { s.pwr with dev := .doze, runTicks := t.pwr.runTicks, runFrom := t.pwr.runFrom } ∧
      s.pwr.busyAt + ceilDiv (s.setting 0x010001 * 1248) 10 ≤ t.clock.tb ∧
      Raised 10 s.toDev t ∧ t.lastRecord = some (0x41, 0xFF, 5, 1, 0) ∧ EventsOnly s.toDev t := by
  have hr := rootOn_of_hostUp h
  have hlen : s.jrnl.buf.length < 900 := (hostUp_iff.mp h).2.2.2.2
  obtain ⟨u, hu⟩ : ∃ u, s.wait (s.pwr.busyAt + ceilDiv (s.setting 0x010001 * 1248) 10) = u := ⟨_, rfl⟩
  have hrow : dozeEntry s.toDev = u.stateChange .doze := by
    simp [dozeEntry, run_of_hostUp h, hcmds, hstore, hdue, hidle, hu]
  have hur : u.clock.rootOn = true := by rw [← hu, wait_rootOn, hr]
  have huframe : u = { s.toDev with clock := u.clock } := hu ▸ rfl
  have hudev : u.pwr.dev = .run := by
    rw [huframe]
    exact (run_of_hostUp h : s.pwr.dev = .run)
  obtain ⟨hraised, hpwr, hlast, hbuf, honly⟩ := stateChange_says .doze hur (by rw [huframe]; exact Nat.lt_of_lt_of_le hlen (by decide))
  have hreach : s.pwr.busyAt + ceilDiv (s.setting 0x010001 * 1248) 10 ≤ u.clock.tb := hu ▸ (wait_reaches hr hp).1
  have hon : Onward u (u.stateChange .doze) := by
    rw [stateChange_running .doze hur]
    exact ((event_onward 10 (u.inState .doze)).trans (note_onward ..)).after rfl
  refine answers_room (f := dozeEntry) rfl (.inr ?_) ?_
  · rw [hrow, hbuf, huframe]
    show s.jrnl.buf.length + 1 < 960
    omega
  · rw [hrow]
    refine ⟨?_, hreach.trans hon.tb, raised_of_eq hraised ?_ (by rw [huframe]), ?_, ?_⟩
    · rw [hpwr, huframe]
    · rw [← hu, wait_esn]
    · rw [hlast, hudev]
      rfl
    · rw [EventsOnly] at honly ⊢
      rw [honly, huframe]

theorem dozeExit_answers {s : State} (hdev : s.pwr.dev = .doze) (hr : s.clock.rootOn = true) (hlen : s.jrnl.buf.length < 900) :
    Answers .dozeExit s fun t =>
      t.pwr = { s.pwr with dev := .run, prev := 1, runTicks := t.pwr.runTicks, runFrom := t.pwr.runFrom } ∧ s.clock.tb ≤ t.clock.tb ∧
      Raised 10 s.toDev t ∧ t.lastRecord = some (0x41, 0xFF, 1, 5, 0) ∧ EventsOnly s.toDev t := by
  obtain ⟨u, hu⟩ : ∃ u : Dev, { s.toDev with pwr := { s.pwr with prev := 1 } } = u := ⟨_, rfl⟩
  have hrow : dozeExit s.toDev = u.stateChange .run := by
    rw [dozeExit, Dev.undoze, hdev, ← hu]
    rfl
  have hur : u.clock.rootOn = true := by rw [← hu]; exact hr
  obtain ⟨hraised, hpwr, hlast, hbuf, honly⟩ := stateChange_says .run hur (by rw [← hu]; exact Nat.lt_of_lt_of_le hlen (by decide))
  have hon : Onward u (u.stateChange .run) := by
    rw [stateChange_running .run hur]
    exact ((event_onward 10 (u.inState .run)).trans (note_onward ..)).after rfl
  refine answers_room (f := dozeExit) rfl (.inr ?_) ?_
  · rw [hrow, hbuf, ← hu]
    show s.jrnl.buf.length + 1 < 960
    omega
  · rw [hrow]
    have htb : s.clock.tb ≤ (u.stateChange .run).clock.tb := by
      refine le_trans ?_ hon.tb
      rw [← hu]
    refine ⟨?_, htb, raised_of_eq hraised (by rw [← hu]) (by rw [← hu]), ?_, ?_⟩
    · rw [hpwr, ← hu]
    · rw [hlast, show u.pwr.dev = .doze by rw [← hu]; exact hdev]
      rfl
    · rw [EventsOnly] at honly ⊢
      rw [honly, ← hu]

/-- Settles O52: a break of holds keeps what `Broken` says through every further POWER_OFF that it lets apply; the other rows are one
event each. -/
theorem deferralsAndDoze : Obligations.DeferralsAndDoze := by
  unfold Obligations.DeferralsAndDoze
  refine ⟨fun n holder s h hn hlen hp => ⟨fun f hf => ⟨deferralWindowClose_answers h hp hf, fun hc hneed hopen => holdRelease_deferred h hf hc hneed hopen⟩,
    fun hc hneed hdef => holdRelease_plain h hc hneed hdef, drainEnd_answers⟩, fun s hp => ⟨fun h => dozeEntry_answers hp h,
    fun hdev hr _ hlen => dozeExit_answers hdev hr hlen⟩⟩

end Sys2Proof.Machine
end

section
/-!
PROOFS. What further functions of the model leave of the device, part by part.
-/

namespace Sys2Proof.Machine

@[simp] theorem Dev.toClose_get {pt : Part} (w : Window) (d : Dev) (h : pt ≠ .clock) : (Dev.toClose w d).get pt = d.get pt := by
  simp [Dev.toClose, h, apply_ite (Dev.get · pt), foldl_get, apply_ite Prod.fst, apply_ite Prod.snd]

@[simp] theorem Dev.freeNat_get {pt : Part} (d : Dev) (h : pt ≠ .free) : (Dev.freeNat d).2.get pt = d.get pt := by
  simp [Dev.freeNat, h, apply_ite (Dev.get · pt), foldl_get, apply_ite Prod.fst, apply_ite Prod.snd]

@[simp] theorem Dev.freeBool_get {pt : Part} (d : Dev) (h : pt ≠ .free) : (Dev.freeBool d).2.get pt = d.get pt := by
  simp [Dev.freeBool, h, apply_ite (Dev.get · pt), foldl_get, apply_ite Prod.fst, apply_ite Prod.snd]

@[simp] theorem Dev.logs_get {pt : Part} (origin : ℕ) (tag : ℕ) (op : ℕ) (xs : List Draft) (d : Dev) (h : pt ∉ [.jrnl, .nv]) : (Dev.logs origin tag op xs d).get pt = d.get pt := by
  simp at h
  simp [Dev.logs, h, apply_ite (Dev.get · pt), foldl_get, apply_ite Prod.fst, apply_ite Prod.snd]

@[simp] theorem Dev.present_get {pt : Part} (d : Dev) (h : pt ∉ [.clock, .pwr, .jrnl, .evc, .nv]) : (Dev.present d).get pt = d.get pt := by
  simp at h
  simp [Dev.present, h, apply_ite (Dev.get · pt), foldl_get, apply_ite Prod.fst, apply_ite Prod.snd]

@[simp] theorem Dev.closeOn_get {pt : Part} (port : ℕ) (d : Dev) (h : pt ∉ [.clock, .pwr, .jrnl, .evc, .nv]) : (Dev.closeOn port d).get pt = d.get pt := by
  simp at h
  simp [Dev.closeOn, h, apply_ite (Dev.get · pt), foldl_get, apply_ite Prod.fst, apply_ite Prod.snd]

@[simp] theorem Dev.putEvidence_get {pt : Part} (e : Evidence) (d : Dev) (h : pt ≠ .rel) : (Dev.putEvidence e d).get pt = d.get pt := by
  simp [Dev.putEvidence, h, apply_ite (Dev.get · pt), foldl_get, apply_ite Prod.fst, apply_ite Prod.snd]

@[simp] theorem Dev.putDecision_get {pt : Part} (x0 : Decision) (d : Dev) (h : pt ≠ .rel) : (Dev.putDecision x0 d).get pt = d.get pt := by
  simp [Dev.putDecision, h, apply_ite (Dev.get · pt), foldl_get, apply_ite Prod.fst, apply_ite Prod.snd]

@[simp] theorem Dev.freeSlotRecords_get {pt : Part} (s : ℕ) (d : Dev) (h : pt ≠ .rel) : (Dev.freeSlotRecords s d).get pt = d.get pt := by
  simp [Dev.freeSlotRecords, h, apply_ite (Dev.get · pt), foldl_get, apply_ite Prod.fst, apply_ite Prod.snd]

@[simp] theorem Dev.expire_get {pt : Part} (c : Cmd) (d : Dev) (h : pt ∉ [.clock, .pwr, .cmds, .store, .jrnl, .evc, .lf, .uhf, .uwb, .ham, .kw, .nv]) : (Dev.expire c d).get pt = d.get pt := by
  simp at h
  unfold Dev.expire
  split <;> simp [h, apply_ite (Dev.get · pt), foldl_get, apply_ite Prod.fst, apply_ite Prod.snd]

@[simp] theorem Dev.noteMedia_get {pt : Part} (die : ℕ) (old : ℕ) (d : Dev) (h : pt ∉ [.jrnl, .nv]) : (Dev.noteMedia die old d).get pt = d.get pt := by
  simp at h
  simp [Dev.noteMedia, h, apply_ite (Dev.get · pt), foldl_get, apply_ite Prod.fst, apply_ite Prod.snd]

@[simp] theorem Dev.dieGone_get {pt : Part} (k : ℕ) (d : Dev) (h : pt ≠ .med) : (Dev.dieGone k d).get pt = d.get pt := by
  unfold Dev.dieGone
  split <;> simp [h, apply_ite (Dev.get · pt), foldl_get, apply_ite Prod.fst, apply_ite Prod.snd]

@[simp] theorem Dev.dieNoted_get {pt : Part} (k : ℕ) (old : ℕ) (d : Dev) (h : pt ∉ [.jrnl, .evc, .nv]) : (Dev.dieNoted k old d).get pt = d.get pt := by
  simp at h
  simp [Dev.dieNoted, h, apply_ite (Dev.get · pt), foldl_get, apply_ite Prod.fst, apply_ite Prod.snd]

@[simp] theorem Dev.unpinLoop_get {pt : Part} (n : ℕ) (v : ℕ) (d : Dev) (h : pt ∉ [.clock, .pwr, .jrnl, .evc, .nv, .bg]) : (Dev.unpinLoop n v d).get pt = d.get pt := by
  simp at h
  simp [Dev.unpinLoop, h, apply_ite (Dev.get · pt), foldl_get, apply_ite Prod.fst, apply_ite Prod.snd]

theorem Dev.atom_get {pt : Part} {unit : Nat} {body : Dev → Dev} (h : pt ∉ [.pwr, .bg]) (hb : ∀ e, (body e).get pt = e.get pt) (d : Dev) :
    (Dev.atom unit body d).get pt = d.get pt := by
  simp at h
  unfold Dev.atom
  repeat' split
  all_goals simp [h, hb]

@[simp] theorem Dev.emitOn_get {pt : Part} (e : Emission) (mask : ℕ) (gap : ℕ) (n : ℕ) (wish : List ℕ) (d : Dev) (h : pt ∉ [.clock, .pwr, .jrnl, .evc, .lf, .nv, .bg]) : (Dev.emitOn e mask gap n wish d).get pt = d.get pt := by
  cases pt <;> simp at h <;> simp [Dev.emitOn, Dev.get_mk, Dev.parts]

@[simp] theorem Dev.locatePhase_get {pt : Part} (e : Emission) (mask : ℕ) (s : ℕ) (d : Dev) (h : pt ∉ [.clock, .pwr, .jrnl, .evc, .lf, .nv, .bg]) : (Dev.locatePhase e mask s d).get pt = d.get pt := by
  cases pt <;> simp at h <;> simp [Dev.locatePhase, Dev.get_mk, Dev.parts]

@[simp] theorem Dev.pollFrom_get {pt : Part} (d : Dev) (h : pt ∉ [.clock, .pwr, .jrnl, .evc, .lf, .nv, .bg]) : (Dev.pollFrom d).get pt = d.get pt := by
  cases pt <;> simp at h <;> simp [Dev.pollFrom, Dev.get_mk, Dev.parts]

@[simp] theorem Dev.burstOff_get {pt : Part} (d : Dev) (h : pt ∉ [.clock, .pwr]) : (Dev.burstOff d).get pt = d.get pt := by
  simp at h
  simp [Dev.burstOff, h, apply_ite (Dev.get · pt), foldl_get, apply_ite Prod.fst, apply_ite Prod.snd]

@[simp] theorem Dev.parkToDeep_get {pt : Part} (d : Dev) (h : pt ∉ [.clock, .pwr, .jrnl, .evc, .lf, .uhf, .nv]) : (Dev.parkToDeep d).get pt = d.get pt := by
  cases pt <;> simp at h <;> simp [Dev.parkToDeep, Dev.get_mk, Dev.parts]

@[simp] theorem Dev.coilLost_get {pt : Part} (d : Dev) (h : pt ∉ [.cmds, .lf, .uhf, .uwb, .ham, .kw]) : (Dev.coilLost d).get pt = d.get pt := by
  simp at h
  unfold Dev.coilLost
  repeat' split
  all_goals simp [h, apply_ite (Dev.get · pt), foldl_get, apply_ite Prod.fst, apply_ite Prod.snd]

@[simp] theorem Dev.pollLost_get {pt : Part} (d : Dev) (h : pt ∉ [.clock, .pwr, .jrnl, .evc, .lf, .uhf, .nv]) : (Dev.pollLost d).get pt = d.get pt := by
  simp at h
  simp [Dev.pollLost, h, apply_ite (Dev.get · pt), foldl_get, apply_ite Prod.fst, apply_ite Prod.snd]

@[simp] theorem Dev.entropyHold_get {pt : Part} (d : Dev) (h : pt ≠ .pwr) : (Dev.entropyHold d).get pt = d.get pt := by
  simp [Dev.entropyHold, h, apply_ite (Dev.get · pt), foldl_get, apply_ite Prod.fst, apply_ite Prod.snd]

@[simp] theorem Dev.expireSlots_get {pt : Part} (d : Dev) (h : pt ∉ [.cru, .nv]) : (Dev.expireSlots d).get pt = d.get pt := by
  simp at h
  simp [Dev.expireSlots, h, apply_ite (Dev.get · pt), foldl_get, apply_ite Prod.fst, apply_ite Prod.snd]

@[simp] theorem Dev.endToken_get {pt : Part} (d : Dev) (h : pt ∉ [.cru, .tok]) : (Dev.endToken d).get pt = d.get pt := by
  cases pt <;> simp at h
  all_goals
    unfold Dev.endToken
    repeat' split
    all_goals simp [Dev.get_mk, Dev.parts]

@[simp] theorem Dev.dropSlots_get {pt : Part} (tag : ℕ) (op : ℕ) (ss : List ℕ) (d : Dev) (h : pt ∉ [.clock, .cmds, .jrnl, .evc, .rel, .cru, .tok, .kw, .nv]) : (Dev.dropSlots tag op ss d).get pt = d.get pt := by
  simp at h
  simp [Dev.dropSlots, h, apply_ite (Dev.get · pt), foldl_get, apply_ite Prod.fst, apply_ite Prod.snd]

@[simp] theorem Dev.rootCheck_get {pt : Part} (d : Dev) (h : pt ≠ .cru) : (Dev.rootCheck d).get pt = d.get pt := by
  unfold Dev.rootCheck
  split <;> simp [h, apply_ite (Dev.get · pt), foldl_get, apply_ite Prod.fst, apply_ite Prod.snd]

@[simp] theorem Dev.saveAdm_get {pt : Part} (owner : Option ℕ) (a : Admission) (d : Dev) (h : pt ∉ [.tok, .nv]) : (Dev.saveAdm owner a d).get pt = d.get pt := by
  simp at h
  simp [Dev.saveAdm, h, apply_ite (Dev.get · pt), foldl_get, apply_ite Prod.fst, apply_ite Prod.snd]

@[simp] theorem Dev.applyAuth_get {pt : Part} (x0 : TokenSession) (key : Bytes) (d : Dev) (h : pt ∉ [.uwb, .rel, .cru, .tok]) : (Dev.applyAuth x0 key d).get pt = d.get pt := by
  cases pt <;> simp at h <;> simp [Dev.applyAuth, Dev.get_mk, Dev.parts]

@[simp] theorem Dev.saveRevoked_get {pt : Part} (ids : List ℕ) (d : Dev) (h : pt ∉ [.tok, .nv]) : (Dev.saveRevoked ids d).get pt = d.get pt := by
  simp at h
  simp [Dev.saveRevoked, h, apply_ite (Dev.get · pt), foldl_get, apply_ite Prod.fst, apply_ite Prod.snd]

@[simp] theorem Dev.listRevoked_get {pt : Part} (origin : ℕ) (tag : ℕ) (op : ℕ) (id : ℕ) (d : Dev) (h : pt ∉ [.jrnl, .tok, .nv]) : (Dev.listRevoked origin tag op id d).get pt = d.get pt := by
  simp at h
  simp [Dev.listRevoked, h, apply_ite (Dev.get · pt), foldl_get, apply_ite Prod.fst, apply_ite Prod.snd]

@[simp] theorem Dev.applyRevoke_get {pt : Part} (tag : ℕ) (op : ℕ) (slot : Option ℕ) (ids : List ℕ) (d : Dev) (h : pt ∉ [.clock, .cmds, .jrnl, .evc, .rel, .cru, .tok, .kw, .nv]) : (Dev.applyRevoke tag op slot ids d).get pt = d.get pt := by
  simp at h
  simp [Dev.applyRevoke, h, apply_ite (Dev.get · pt), foldl_get, apply_ite Prod.fst, apply_ite Prod.snd]

@[simp] theorem Dev.eraseTokens_get {pt : Part} (tag : ℕ) (op : ℕ) (d : Dev) (h : pt ∉ [.clock, .cmds, .jrnl, .evc, .uhf, .rel, .cru, .tok, .kw, .nv]) : (Dev.eraseTokens tag op d).get pt = d.get pt := by
  simp at h
  simp [Dev.eraseTokens, h, apply_ite (Dev.get · pt), foldl_get, apply_ite Prod.fst, apply_ite Prod.snd]

@[simp] theorem Dev.applyAdmit_get {pt : Part} (tag : ℕ) (op : ℕ) (a : Admission) (erase : Bool) (lift : List ℕ) (d : Dev) (h : pt ∉ [.clock, .cmds, .jrnl, .evc, .uhf, .rel, .cru, .tok, .kw, .nv]) : (Dev.applyAdmit tag op a erase lift d).get pt = d.get pt := by
  simp at h
  simp [Dev.applyAdmit, h, apply_ite (Dev.get · pt), foldl_get, apply_ite Prod.fst, apply_ite Prod.snd]

@[simp] theorem Dev.closeAdm_get {pt : Part} (origin : ℕ) (tag : ℕ) (op : ℕ) (cause : ℕ) (d : Dev) (h : pt ∉ [.clock, .jrnl, .evc, .tok, .nv]) : (Dev.closeAdm origin tag op cause d).get pt = d.get pt := by
  simp at h
  simp [Dev.closeAdm, h, apply_ite (Dev.get · pt), foldl_get, apply_ite Prod.fst, apply_ite Prod.snd]

@[simp] theorem Dev.kwSample_get {pt : Part} (d : Dev) (h : pt ≠ .kw) : (Dev.kwSample d).get pt = d.get pt := by
  simp [Dev.kwSample, h, apply_ite (Dev.get · pt), foldl_get, apply_ite Prod.fst, apply_ite Prod.snd]

@[simp] theorem Dev.applyGrant_get {pt : Part} (tag : ℕ) (op : ℕ) (a : ℕ) (g : Grant) (num : ℕ) (ended : Option ℕ) (d : Dev) (h : pt ∉ [.clock, .jrnl, .evc, .kw, .nv]) : (Dev.applyGrant tag op a g num ended d).get pt = d.get pt := by
  simp at h
  unfold Dev.applyGrant
  split <;> simp [h, apply_ite (Dev.get · pt), foldl_get, apply_ite Prod.fst, apply_ite Prod.snd]

@[simp] theorem Dev.closeReply_get {pt : Part} (t : ℕ) (d : Dev) (h : pt ≠ .kw) : (Dev.closeReply t d).get pt = d.get pt := by
  simp [Dev.closeReply, h, apply_ite (Dev.get · pt), foldl_get, apply_ite Prod.fst, apply_ite Prod.snd]

@[simp] theorem Dev.rangeDone_get {pt : Part} (x0 : ℕ) (d : Dev) (h : pt ≠ .uwb) : (Dev.rangeDone x0 d).get pt = d.get pt := by
  simp [Dev.rangeDone, h, apply_ite (Dev.get · pt), foldl_get, apply_ite Prod.fst, apply_ite Prod.snd]

@[simp] theorem Dev.rangeFault_get {pt : Part} (d : Dev) (h : pt ∉ [.cmds, .lf, .uhf, .uwb, .ham, .kw]) : (Dev.rangeFault d).get pt = d.get pt := by
  simp at h
  unfold Dev.rangeFault
  split <;> simp [h, apply_ite (Dev.get · pt), foldl_get, apply_ite Prod.fst, apply_ite Prod.snd]

@[simp] theorem Dev.setTp_get {pt : Part} (tag : ℕ) (x1 : TpRun) (d : Dev) (h : pt ≠ .cmds) : (Dev.setTp tag x1 d).get pt = d.get pt := by
  simp [Dev.setTp, h, apply_ite (Dev.get · pt), foldl_get, apply_ite Prod.fst, apply_ite Prod.snd]

@[simp] theorem Dev.tpFrame_get {pt : Part} (tag : ℕ) (gap : ℕ) (x2 : TpRun) (m : Bytes) (d : Dev) (h : pt ∉ [.clock, .pwr, .jrnl, .evc, .lf, .nv, .bg]) : (Dev.tpFrame tag gap x2 m d).get pt = d.get pt := by
  cases pt <;> simp at h <;> simp [Dev.tpFrame, Dev.get_mk, Dev.parts]

@[simp] theorem Dev.entropyClosed_get {pt : Part} (d : Dev) (h : pt ∉ [.clock, .pwr, .cmds, .store, .jrnl, .evc, .lf, .uhf, .uwb, .anvil, .ham, .kw, .nv]) : (Dev.entropyClosed d).get pt = d.get pt := by
  simp at h
  simp [Dev.entropyClosed, h, apply_ite (Dev.get · pt), foldl_get, apply_ite Prod.fst, apply_ite Prod.snd]

@[simp] theorem Dev.applyPolicy_get {pt : Part} (ws : List Word) (d : Dev) (h : pt ∉ [.rel, .nv]) : (Dev.applyPolicy ws d).get pt = d.get pt := by
  cases pt <;> simp at h <;> rfl

@[simp] theorem Dev.applyRelay_get {pt : Part} (hold : ℕ) (d : Dev) (h : pt ≠ .rel) : (Dev.applyRelay hold d).get pt = d.get pt := by
  simp [Dev.applyRelay, h, apply_ite (Dev.get · pt), foldl_get, apply_ite Prod.fst, apply_ite Prod.snd]

@[simp] theorem Dev.applySession_get {pt : Part} (tag : ℕ) (op : ℕ) (x2 : Session) (d : Dev) (h : pt ∉ [.jrnl, .rel, .nv]) : (Dev.applySession tag op x2 d).get pt = d.get pt := by
  simp at h
  unfold Dev.applySession
  split <;> simp [h, apply_ite (Dev.get · pt), foldl_get, apply_ite Prod.fst, apply_ite Prod.snd]

@[simp] theorem Dev.snapChan_get {pt : Part} (n : ℕ) (d : Dev) (h : pt ≠ .tmr) : (Dev.snapChan n d).get pt = d.get pt := by
  simp [Dev.snapChan, h, apply_ite (Dev.get · pt), foldl_get, apply_ite Prod.fst, apply_ite Prod.snd]

@[simp] theorem Dev.stopChan_get {pt : Part} (n : ℕ) (d : Dev) (h : pt ≠ .tmr) : (Dev.stopChan n d).get pt = d.get pt := by
  simp [Dev.stopChan, h, apply_ite (Dev.get · pt), foldl_get, apply_ite Prod.fst, apply_ite Prod.snd]

@[simp] theorem Dev.armAt_get {pt : Part} (n : ℕ) (w : ℕ) (d : Dev) (h : pt ≠ .tmr) : (Dev.armAt n w d).get pt = d.get pt := by
  simp [Dev.armAt, h, apply_ite (Dev.get · pt), foldl_get, apply_ite Prod.fst, apply_ite Prod.snd]

@[simp] theorem Dev.clearAt_get {pt : Part} (n : ℕ) (w : ℕ) (d : Dev) (h : pt ≠ .tmr) : (Dev.clearAt n w d).get pt = d.get pt := by
  simp [Dev.clearAt, h, apply_ite (Dev.get · pt), foldl_get, apply_ite Prod.fst, apply_ite Prod.snd]

@[simp] theorem Dev.driveBall_get {pt : Part} (n : ℕ) (d : Dev) (h : pt ≠ .evc) : (Dev.driveBall n d).get pt = d.get pt := by
  simp [Dev.driveBall, h, apply_ite (Dev.get · pt), foldl_get, apply_ite Prod.fst, apply_ite Prod.snd]

@[simp] theorem Dev.setOut_get {pt : Part} (n : ℕ) (o : Bool) (d : Dev) (h : pt ∉ [.evc, .tmr]) : (Dev.setOut n o d).get pt = d.get pt := by
  simp at h
  simp [Dev.setOut, h, apply_ite (Dev.get · pt), foldl_get, apply_ite Prod.fst, apply_ite Prod.snd]

@[simp] theorem Dev.outAct_get {pt : Part} (n : ℕ) (d : Dev) (h : pt ∉ [.evc, .tmr]) : (Dev.outAct n d).get pt = d.get pt := by
  simp at h
  simp [Dev.outAct, h, apply_ite (Dev.get · pt), foldl_get, apply_ite Prod.fst, apply_ite Prod.snd]

@[simp] theorem Dev.afterMatch_get {pt : Part} (n : ℕ) (next : ℕ) (d : Dev) (h : pt ≠ .tmr) : (Dev.afterMatch n next d).get pt = d.get pt := by
  unfold Dev.afterMatch
  dsimp only
  repeat' split
  all_goals simp [h, apply_ite (Dev.get · pt), foldl_get, apply_ite Prod.fst, apply_ite Prod.snd]

@[simp] theorem gptCompareMatch_get {pt : Part} (n : ℕ) (d : Dev) (h : pt ∉ [.clock, .pwr, .jrnl, .evc, .tmr, .nv]) : (gptCompareMatch n d).get pt = d.get pt := by
  simp at h
  unfold gptCompareMatch
  dsimp only
  repeat' split
  all_goals simp [h, apply_ite (Dev.get · pt), foldl_get, apply_ite Prod.fst, apply_ite Prod.snd]

@[simp] theorem Dev.tmrLateMatch_get {pt : Part} (n : ℕ) (d : Dev) (h : pt ∉ [.evc, .tmr]) : (Dev.tmrLateMatch n d).get pt = d.get pt := by
  simp at h
  simp [Dev.tmrLateMatch, h, apply_ite (Dev.get · pt), foldl_get, apply_ite Prod.fst, apply_ite Prod.snd]

@[simp] theorem Dev.tmrReanchor_get {pt : Part} (d : Dev) (h : pt ≠ .tmr) : (Dev.tmrReanchor d).get pt = d.get pt := by
  simp [Dev.tmrReanchor, h, apply_ite (Dev.get · pt), foldl_get, apply_ite Prod.fst, apply_ite Prod.snd]

@[simp] theorem Dev.dueMatches_get {pt : Part} (d : Dev) (h : pt ∉ [.clock, .pwr, .jrnl, .evc, .tmr, .nv]) : (Dev.dueMatches d).get pt = d.get pt := by
  simp at h
  simp [Dev.dueMatches, h, apply_ite (Dev.get · pt), foldl_get, apply_ite Prod.fst, apply_ite Prod.snd]

@[simp] theorem Dev.width_get {pt : Part} (d : Dev) (u : ℕ) (v : ℕ) (h : pt ≠ .free) : (Dev.width d u v).2.get pt = d.get pt := by
  simp [Dev.width, h, apply_ite (Dev.get · pt), foldl_get, apply_ite Prod.fst, apply_ite Prod.snd]

@[simp] theorem Dev.captured_get {pt : Part} (n : ℕ) (d : Dev) (h : pt ∉ [.clock, .pwr, .jrnl, .evc, .tmr, .nv]) : (Dev.captured n d).get pt = d.get pt := by
  simp at h
  simp [Dev.captured, h, apply_ite (Dev.get · pt), foldl_get, apply_ite Prod.fst, apply_ite Prod.snd]

@[simp] theorem Dev.tmrEdge_get {pt : Part} (n : ℕ) (rise : Bool) (s : ℕ) (d : Dev) (h : pt ∉ [.clock, .pwr, .jrnl, .evc, .tmr, .nv, .free]) : (Dev.tmrEdge n rise s d).get pt = d.get pt := by
  simp at h
  unfold Dev.tmrEdge
  dsimp only
  repeat' split
  all_goals simp [h, apply_ite (Dev.get · pt), foldl_get, apply_ite Prod.fst, apply_ite Prod.snd]

@[simp] theorem Dev.tmrStandby_get {pt : Part} (d : Dev) (h : pt ≠ .tmr) : (Dev.tmrStandby d).get pt = d.get pt := by
  simp [Dev.tmrStandby, h, apply_ite (Dev.get · pt), foldl_get, apply_ite Prod.fst, apply_ite Prod.snd]

@[simp] theorem Dev.tmrReset_get {pt : Part} (d : Dev) (h : pt ∉ [.evc, .tmr]) : (Dev.tmrReset d).get pt = d.get pt := by
  simp at h
  simp [Dev.tmrReset, h, apply_ite (Dev.get · pt), foldl_get, apply_ite Prod.fst, apply_ite Prod.snd]

@[simp] theorem Dev.tmrUp_get {pt : Part} (d : Dev) (h : pt ∉ [.evc, .tmr]) : (Dev.tmrUp d).get pt = d.get pt := by
  simp at h
  simp [Dev.tmrUp, h, apply_ite (Dev.get · pt), foldl_get, apply_ite Prod.fst, apply_ite Prod.snd]

@[simp] theorem Dev.rewritePage_get {pt : Part} (p : ℕ) (d : Dev) (h : pt ≠ .nv) : (Dev.rewritePage p d).get pt = d.get pt := by
  simp [Dev.rewritePage, h, apply_ite (Dev.get · pt), foldl_get, apply_ite Prod.fst, apply_ite Prod.snd]

@[simp] theorem Dev.nvMet_get {pt : Part} (e : NvError) (d : Dev) (h : pt ∉ [.clock, .pwr, .jrnl, .evc, .cru, .nv]) : (Dev.nvMet e d).get pt = d.get pt := by
  simp at h
  simp [Dev.nvMet, h, apply_ite (Dev.get · pt), foldl_get, apply_ite Prod.fst, apply_ite Prod.snd]

@[simp] theorem Dev.nvMetIn_get {pt : Part} (errors : List NvError) (a : ℕ) (n : ℕ) (d : Dev) (h : pt ∉ [.clock, .pwr, .jrnl, .evc, .cru, .nv]) : (Dev.nvMetIn errors a n d).get pt = d.get pt := by
  simp at h
  simp [Dev.nvMetIn, h, apply_ite (Dev.get · pt), foldl_get, apply_ite Prod.fst, apply_ite Prod.snd]

@[simp] theorem Dev.compare_get {pt : Part} (n : ℕ) (c : Option (ℕ × ℕ)) (d : Dev) (h : pt ∉ [.clock, .pwr, .jrnl, .evc, .nv]) : (Dev.compare n c d).get pt = d.get pt := by
  simp at h
  unfold Dev.compare
  split <;> simp [h, apply_ite (Dev.get · pt), foldl_get, apply_ite Prod.fst, apply_ite Prod.snd]

@[simp] theorem Dev.counterStart_get {pt : Part} (a : ℕ) (d : Dev) (h : pt ≠ .nv) : (Dev.counterStart a d).get pt = d.get pt := by
  unfold Dev.counterStart
  split <;> simp [h, apply_ite (Dev.get · pt), foldl_get, apply_ite Prod.fst, apply_ite Prod.snd]

@[simp] theorem Dev.recordSeq_get {pt : Part} (d : Dev) (a : ℕ) (h : pt ≠ .free) : (Dev.recordSeq d a).2.get pt = d.get pt := by
  simp [Dev.recordSeq, h, apply_ite (Dev.get · pt), foldl_get, apply_ite Prod.fst, apply_ite Prod.snd]

@[simp] theorem Dev.mismatched_get {pt : Part} (y : ℕ) (n : ℕ) (old : ℕ) (new : ℕ) (d : Dev) (h : pt ∉ [.clock, .pwr, .jrnl, .evc, .nv]) : (Dev.mismatched y n old new d).get pt = d.get pt := by
  simp at h
  simp [Dev.mismatched, h, apply_ite (Dev.get · pt), foldl_get, apply_ite Prod.fst, apply_ite Prod.snd]

@[simp] theorem Dev.nvCut_get {pt : Part} (d : Dev) (h : pt ∉ [.cru, .nv, .free]) : (Dev.nvCut d).get pt = d.get pt := by
  simp at h
  unfold Dev.nvCut
  split <;> simp [h, apply_ite (Dev.get · pt), foldl_get, apply_ite Prod.fst, apply_ite Prod.snd]

@[simp] theorem Dev.nvReset_get {pt : Part} (d : Dev) (h : pt ≠ .nv) : (Dev.nvReset d).get pt = d.get pt := by
  simp [Dev.nvReset, h, apply_ite (Dev.get · pt), foldl_get, apply_ite Prod.fst, apply_ite Prod.snd]

@[simp] theorem Dev.jrnlWarn_get {pt : Part} (d : Dev) (h : pt ∉ [.clock, .pwr, .jrnl, .evc, .nv]) : (Dev.jrnlWarn d).get pt = d.get pt := by
  simp at h
  simp [Dev.jrnlWarn, h, apply_ite (Dev.get · pt), foldl_get, apply_ite Prod.fst, apply_ite Prod.snd]

@[simp] theorem Dev.writeHead_get {pt : Part} (flushed : Bool) (d : Dev) (h : pt ∉ [.jrnl, .nv]) : (Dev.writeHead flushed d).get pt = d.get pt := by
  simp at h
  simp [Dev.writeHead, h, apply_ite (Dev.get · pt), foldl_get, apply_ite Prod.fst, apply_ite Prod.snd]

@[simp] theorem Dev.v2Room_get {pt : Part} (d : Dev) (h : pt ∉ [.clock, .pwr, .jrnl, .evc, .nv]) : (Dev.v2Room d).get pt = d.get pt := by
  cases pt <;> simp at h
  all_goals
    unfold Dev.v2Room
    repeat' split
    all_goals simp [Dev.get_mk, Dev.parts]

@[simp] theorem Dev.enterThrough_get {pt : Part} (d : Dev) (h : pt ∉ [.clock, .pwr, .jrnl, .evc, .nv, .med]) : (Dev.enterThrough d).get pt = d.get pt := by
  cases pt <;> simp at h
  all_goals
    unfold Dev.enterThrough
    repeat' split
    all_goals simp [Dev.get_mk, Dev.parts]

@[simp] theorem Dev.enterBack_get {pt : Part} (d : Dev) (h : pt ∉ [.clock, .pwr, .jrnl, .evc, .nv, .med]) : (Dev.enterBack d).get pt = d.get pt := by
  cases pt <;> simp at h
  all_goals
    unfold Dev.enterBack
    repeat' split
    all_goals simp [Dev.get_mk, Dev.parts]

@[simp] theorem Dev.mapRead_get {pt : Part} (d : Dev) (h : pt ∉ [.med, .free]) : (Dev.mapRead d).get pt = d.get pt := by
  cases pt <;> simp at h <;> rfl

@[simp] theorem Dev.mediaWake_get {pt : Part} (d : Dev) (h : pt ∉ [.med, .free]) : (Dev.mediaWake d).get pt = d.get pt := by
  cases pt <;> simp at h
  all_goals
    unfold Dev.mediaWake
    repeat' split
    all_goals simp [Dev.get_mk, Dev.parts]

@[simp] theorem Dev.acted_get {pt : Part} (n : ℕ) (on : Bool) (d : Dev) (h : pt ∉ [.clock, .cmds, .jrnl, .evc, .rel, .kw, .nv]) : (Dev.acted n on d).get pt = d.get pt := by
  simp at h
  unfold Dev.acted
  repeat' split
  all_goals simp [h, apply_ite (Dev.get · pt), foldl_get, apply_ite Prod.fst, apply_ite Prod.snd]

@[simp] theorem Dev.inputEvent_get {pt : Part} (n : ℕ) (on : Bool) (d : Dev) (h : pt ∉ [.clock, .cmds, .jrnl, .evc, .rel, .kw, .nv]) : (Dev.inputEvent n on d).get pt = d.get pt := by
  simp at h
  simp [Dev.inputEvent, h, apply_ite (Dev.get · pt), foldl_get, apply_ite Prod.fst, apply_ite Prod.snd]

@[simp] theorem Dev.setLevel_get {pt : Part} (n : ℕ) (high : Bool) (d : Dev) (h : pt ≠ .evc) : (Dev.setLevel n high d).get pt = d.get pt := by
  simp [Dev.setLevel, h, apply_ite (Dev.get · pt), foldl_get, apply_ite Prod.fst, apply_ite Prod.snd]

@[simp] theorem Dev.resample_get {pt : Part} (p : ℕ → Bool) (d : Dev) (h : pt ≠ .evc) : (Dev.resample p d).get pt = d.get pt := by
  simp [Dev.resample, h, apply_ite (Dev.get · pt), foldl_get, apply_ite Prod.fst, apply_ite Prod.snd]

@[simp] theorem Dev.tamperEffects_get {pt : Part} (standby : Bool) (d : Dev) (h : pt ∉ [.clock, .cmds, .jrnl, .evc, .rel, .cru, .kw, .nv]) : (Dev.tamperEffects standby d).get pt = d.get pt := by
  cases pt <;> simp at h <;> simp [Dev.tamperEffects, Dev.get_mk, Dev.parts]

@[simp] theorem Dev.tamperEvent_get {pt : Part} (d : Dev) (h : pt ∉ [.clock, .host, .cmds, .store, .jrnl, .evc, .tmr, .lf, .uhf, .uwb, .atlas, .rel, .cru, .tok, .ham, .kw, .nv, .free]) : (Dev.tamperEvent d).get pt = d.get pt := by
  simp at h
  simp [Dev.tamperEvent, h, apply_ite (Dev.get · pt), foldl_get, apply_ite Prod.fst, apply_ite Prod.snd]

@[simp] theorem Dev.allDown_get {pt : Part} (reset : Bool) (d : Dev) (h : pt ∉ [.pwr, .host, .cmds, .tmr, .lf, .uhf, .atlas, .cru, .anvil, .tok, .ham, .kw, .nv]) : (Dev.allDown reset d).get pt = d.get pt := by
  simp at h
  simp [Dev.allDown, h, apply_ite (Dev.get · pt), foldl_get, apply_ite Prod.fst, apply_ite Prod.snd]

@[simp] theorem Dev.clearForStandby_get {pt : Part} (d : Dev) (h : pt ∉ [.host, .evc, .lf, .uhf, .rel, .bg]) : (Dev.clearForStandby d).get pt = d.get pt := by
  cases pt <;> simp at h <;> rfl

@[simp] theorem Dev.acceptAt_get {pt : Part} (t : ℕ) (d : Dev) (h : pt ≠ .clock) : (Dev.acceptAt t d).get pt = d.get pt := by
  simp [Dev.acceptAt, h, apply_ite (Dev.get · pt), foldl_get, apply_ite Prod.fst, apply_ite Prod.snd]

@[simp] theorem Dev.wokenAt_get {pt : Part} (t : ℕ) (x1 : Woken) (d : Dev) (h : pt ∉ [.clock, .pwr, .cmds, .store, .jrnl, .evc, .tmr, .lf, .uhf, .uwb, .rel, .cru, .anvil, .tok, .ham, .kw, .nv, .bg]) : (Dev.wokenAt t x1 d).get pt = d.get pt := by
  simp at h
  unfold Dev.wokenAt
  split <;> simp [h, apply_ite (Dev.get · pt), foldl_get, apply_ite Prod.fst, apply_ite Prod.snd]

@[simp] theorem Dev.conditionsAgain_get {pt : Part} (d : Dev) (h : pt ∉ [.clock, .evc]) : (Dev.conditionsAgain d).get pt = d.get pt := by
  simp at h
  simp [Dev.conditionsAgain, h, apply_ite (Dev.get · pt), foldl_get, apply_ite Prod.fst, apply_ite Prod.snd]

@[simp] theorem Dev.wdtRestart_get {pt : Part} (d : Dev) (h : pt ≠ .host) : (Dev.wdtRestart d).get pt = d.get pt := by
  simp [Dev.wdtRestart, h, apply_ite (Dev.get · pt), foldl_get, apply_ite Prod.fst, apply_ite Prod.snd]

@[simp] theorem Dev.anchored_get {pt : Part} (d : Dev) (h : pt ≠ .clock) : (Dev.anchored d).get pt = d.get pt := by
  simp [Dev.anchored, h, apply_ite (Dev.get · pt), foldl_get, apply_ite Prod.fst, apply_ite Prod.snd]

@[simp] theorem Dev.presentAll_get {pt : Part} (ws : List (List ℕ × Woken)) (e : Dev) (h : pt ∉ [.clock, .pwr, .cmds, .store, .jrnl, .evc, .tmr, .lf, .uhf, .uwb, .rel, .cru, .anvil, .tok, .ham, .kw, .nv, .bg]) : (Dev.presentAll ws e).get pt = e.get pt := by
  simp at h
  simp [Dev.presentAll, h, apply_ite (Dev.get · pt), foldl_get, apply_ite Prod.fst, apply_ite Prod.snd]

@[simp] theorem Dev.unlatch_get {pt : Part} (d : Dev) (h : pt ≠ .evc) : (Dev.unlatch d).get pt = d.get pt := by
  simp [Dev.unlatch, h, apply_ite (Dev.get · pt), foldl_get, apply_ite Prod.fst, apply_ite Prod.snd]

@[simp] theorem Dev.fnQuell_get {pt : Part} (rel : Bool) (kw : Bool) (d : Dev) (h : pt ∉ [.clock, .cmds, .jrnl, .evc, .rel, .kw, .nv]) : (Dev.fnQuell rel kw d).get pt = d.get pt := by
  simp at h
  simp [Dev.fnQuell, h, apply_ite (Dev.get · pt), foldl_get, apply_ite Prod.fst, apply_ite Prod.snd]

@[simp] theorem Dev.judgeFeed_get {pt : Part} (mv : ℕ) (d : Dev) (h : pt ∉ [.clock, .pwr, .jrnl, .evc, .nv]) : (Dev.judgeFeed mv d).get pt = d.get pt := by
  simp at h
  simp [Dev.judgeFeed, h, apply_ite (Dev.get · pt), foldl_get, apply_ite Prod.fst, apply_ite Prod.snd]

@[simp] theorem Dev.lossEffects_get {pt : Part} (n : ℕ) (d : Dev) (h : pt ∉ [.clock, .cmds, .jrnl, .evc, .rel, .cru, .kw, .nv, .med, .free]) : (Dev.lossEffects n d).get pt = d.get pt := by
  simp at h
  unfold Dev.lossEffects
  split <;> simp [h, apply_ite (Dev.get · pt), foldl_get, apply_ite Prod.fst, apply_ite Prod.snd]

@[simp] theorem Dev.ownRecords_get {pt : Part} (c : Cmd) (r : Result) (d : Dev) (h : pt ∉ [.jrnl, .nv]) : (Dev.ownRecords c r d).get pt = d.get pt := by
  simp at h
  unfold Dev.ownRecords
  repeat' split
  all_goals simp [h, apply_ite (Dev.get · pt), foldl_get, apply_ite Prod.fst, apply_ite Prod.snd]

@[simp] theorem Dev.nodeTaken_get {pt : Part} (rx : NodeRx) (r : Reply) (full : ℕ) (d : Dev) (h : pt ∉ [.clock, .pwr, .jrnl, .evc, .kw, .nv]) : (Dev.nodeTaken rx r full d).get pt = d.get pt := by
  simp at h
  simp [Dev.nodeTaken, h, apply_ite (Dev.get · pt), foldl_get, apply_ite Prod.fst, apply_ite Prod.snd]

end Sys2Proof.Machine
end

section
/-!
PROOFS. `LAST_ESN` of a source (R155): the events of other sources leave it, and its own event writes it.
-/

namespace Sys2Proof.Machine

/-- `LAST_ESN` of a source. -/
def Dev.lastOf (n : Nat) (d : Dev) : Esn := d.evc.lastEsn.getD n 0

section
variable {n : Nat}

theorem lastOf_of_evc {s t : Dev} (h : t.evc = s.evc) : t.lastOf n = s.lastOf n := by rw [Dev.lastOf, h, Dev.lastOf]

theorem setPending_lastOf {m : Nat} (h : m ≠ n) (d : Dev) : (d.setPending m).lastOf n = d.lastOf n := by
  simp [Dev.lastOf, Dev.setPending, List.getD_eq_getElem?_getD, List.getElem?_set_ne h]

theorem reach_lastOf {m : Nat} (h : m ≠ n) (d : Dev) : (d.reach m).lastOf n = d.lastOf n := by
  unfold Dev.reach
  split
  · exact setPending_lastOf h d
  · split
    · unfold Dev.latch Dev.latchAt
      dsimp only
      split <;> rfl
    · split <;> rfl

@[simp] theorem acceptOn_lastOf (port : Nat) (close : Bool) (d : Dev) : (d.acceptOn port close).lastOf n = d.lastOf n :=
  lastOf_of_evc (Dev.acceptOn_get (pt := .evc) _ _ d (by decide))

theorem event_lastOf {m : Nat} (h : m ≠ n) (d : Dev) : (d.event m).lastOf n = d.lastOf n := (reach_lastOf h _).trans (acceptOn_lastOf ..)

theorem aside_lastOf {f : Dev → Dev} (port : Nat) (d : Dev) (hf : ∀ e, (f e).lastOf n = e.lastOf n) : (d.aside port f).lastOf n = d.lastOf n := by
  unfold Dev.aside
  split
  · exact hf { d with clock := d.clock.follow d.wantDepth port }
  · exact hf { d with clock := { d.clock with evTb := d.now } }

theorem raise_lastOf {m : Nat} (h : m ≠ n) (d : Dev) : (d.raise m).lastOf n = d.lastOf n := aside_lastOf _ d (reach_lastOf h)

@[simp] theorem log_lastOf (origin tag op : Nat) (x : Draft) (d : Dev) : (d.log origin tag op x).lastOf n = d.lastOf n :=
  lastOf_of_evc (Dev.log_get (pt := .evc) _ _ _ _ d (by decide))

@[simp] theorem note_lastOf (origin : Nat) (x : Draft) (d : Dev) : (d.note origin x).lastOf n = d.lastOf n := log_lastOf ..

theorem begins_lastOf {m : Nat} (h : m ≠ n) (d : Dev) : (d.begins m).lastOf n = d.lastOf n := by
  unfold Dev.begins
  split
  · rfl
  · exact event_lastOf h _

theorem settle_lastOf (h : n ≠ 155) (s t : Dev) : (Dev.settle s t).lastOf n = t.lastOf n := by
  have happend (r : Record) (e : Dev) :
      ({ e.append r with jrnl := { (e.append r).jrnl with hold := true } } : Dev).lastOf n = e.lastOf n :=
    lastOf_of_evc (Dev.append_get (pt := .evc) r e (by decide))
  unfold Dev.settle Dev.holdEntry
  split
  · rfl
  · split
    · exact (happend _ (t.begins 155)).trans (begins_lastOf h.symm t)
    · rfl

theorem endGrant_lastOf (h : n ≠ 44) (origin tag op cause a : Nat) (d : Dev) : (d.endGrant origin tag op cause a).lastOf n = d.lastOf n := by
  unfold Dev.endGrant
  dsimp only
  split
  · rfl
  · exact (log_lastOf ..).trans ((raise_lastOf h.symm _).trans (lastOf_of_evc rfl))

theorem foldl_lastOf {α : Type} {f : Dev → α → Dev} (h : ∀ d x, (f d x).lastOf n = d.lastOf n) (xs : List α) (d : Dev) :
    (xs.foldl f d).lastOf n = d.lastOf n := by
  induction xs generalizing d with
  | nil => rfl
  | cons x xs ih => exact (ih _).trans (h d x)

theorem endGrants_lastOf (h : n ≠ 44) (origin tag op cause : Nat) (as : List Nat) (d : Dev) :
    (d.endGrants origin tag op cause as).lastOf n = d.lastOf n := foldl_lastOf (fun e a => endGrant_lastOf h origin tag op cause a e) as d

theorem switchOff_lastOf (h : n ≠ 33) (origin tag op cause : Nat) (d : Dev) : (d.switchOff origin tag op cause).lastOf n = d.lastOf n :=
  (log_lastOf ..).trans ((raise_lastOf h.symm _).trans (lastOf_of_evc rfl))

theorem lockRelay_lastOf (h : n ≠ 33) (h' : n ≠ 44) (origin tag op cause gcause : Nat) (d : Dev) :
    (d.lockRelay origin tag op cause gcause).lastOf n = d.lastOf n :=
  (endGrants_lastOf h' ..).trans (switchOff_lastOf h ..)

theorem nvDrop_lastOf (p : Option Nat → Bool) (d : Dev) : (d.nvDrop p).lastOf n = d.lastOf n :=
  lastOf_of_evc (Dev.nvDrop_get (pt := .evc) p d (by decide))

theorem breakOff_lastOf (cause : Nat) (c : Cmd) (d : Dev) : (d.breakOff cause c).lastOf n = d.lastOf n := by
  have hseq (q : Nat) (f : Seqr → Seqr) (e : Dev) : ((e.zeroiseSeq q).onSeq q f).lastOf n = e.lastOf n := by
    have hact (x : Dev) : ({ x with evc := if q = 0 then { x.evc with actA := [] } else { x.evc with actB := [] } } : Dev).lastOf n = x.lastOf n := by
      unfold Dev.lastOf
      dsimp only
      split <;> rfl
    have hon (g : Seqr → Seqr) (x : Dev) : (x.onSeq q g).lastOf n = x.lastOf n := lastOf_of_evc (Dev.onSeq_get (pt := .evc) q g x (by decide))
    exact (hon ..).trans ((hact _).trans ((hon ..).trans (lastOf_of_evc rfl)))
  unfold Dev.breakOff
  refine (nvDrop_lastOf ..).trans ?_
  split
  · exact hseq ..
  · rfl

theorem killCmds_lastOf (st : Status) (cause : Nat) (p : Cmd → Bool) (d : Dev) : (d.killCmds st cause p).lastOf n = d.lastOf n := by
  refine foldl_lastOf (fun e c => ?_) _ d
  refine Eq.trans (b := (e.breakOff cause c).lastOf n) ?_ (breakOff_lastOf cause c e)
  refine (lastOf_of_evc (Dev.endCmd_get (pt := .evc) st c _ (by decide))).trans ?_
  split
  · exact lastOf_of_evc rfl
  · rfl

theorem supplyGone_lastOf (m : Nat) (x : Domain) (p : Cmd → Bool) (d : Dev) : (d.supplyGone m x p).lastOf n = d.lastOf n :=
  (lastOf_of_evc (Dev.domainDown_get (pt := .evc) m _ (by decide))).trans ((killCmds_lastOf ..).trans (lastOf_of_evc rfl))

/-- A source's own event writes its `LAST_ESN`. -/
theorem event_lastOf_self {d : Dev} (hr : d.clock.rootOn = true) (hn : n < d.evc.lastEsn.length) : (d.event n).lastOf n = d.clock.esn := by
  obtain ⟨-, -, hevc⟩ := event_raised n hr
  rw [Dev.lastOf, hevc]
  simp [List.getD_eq_getElem?_getD, hn]

end

end Sys2Proof.Machine
end

section
/-!
PROOFS. HARD_LOSS, the hold-up trip, the supply monitors and derating (R73, R472, R516-R519, R534, R558, R559).
-/

namespace Sys2Proof.Machine

/-! ### Hard losses (R73) -/

theorem supplyGone_pwr (n : Nat) (x : Domain) (p : Cmd → Bool) (d : Dev) : (d.supplyGone n x p).pwr =
    { d.pwr with doms := d.pwr.doms.set n x, holds := d.pwr.holds.filter (fun h => h.dom != n) } := by
  rw [Dev.supplyGone]
  exact (Dev.domainDown_get (pt := .pwr) n _ (by decide)).trans (Dev.killCmds_get (pt := .pwr) _ _ _ _ (by decide))

theorem lossEffects_pwr (n : Nat) (d : Dev) : (d.lossEffects n).pwr = d.pwr := Dev.lossEffects_get (pt := .pwr) n d (by decide)

theorem lossEffects_lastOf (n : Nat) (d : Dev) : (d.lossEffects n).lastOf 13 = d.lastOf 13 := by
  unfold Dev.lossEffects
  split
  · exact lastOf_of_evc rfl
  · exact lastOf_of_evc (Dev.nvCut_get (pt := .evc) d (by decide))
  · exact endGrants_lastOf (by decide) ..
  · exact lockRelay_lastOf (by decide) (by decide) ..
  · rfl

/-- LOSS is presented for a domain, with its POWER record, and its deferral is gone (R73). -/
def Dev.lossNoted (n : Nat) (d : Dev) : Dev := ((d.event 13).dropDeferral n).note oPower (powerDraft n (d.dstate n) 7 5)

theorem hardLoss_eq {n : Nat} {s : Dev} (h : s.hostUp = true) (hn : n < 24) (hfix : domFixed n = false) (hon : s.domOn n = true) :
    hardLoss n s = Dev.supplyGone n .lost (((s.lossNoted n).lossEffects n).cmdIn n)
      { (s.lossNoted n).lossEffects n with pwr := { ((s.lossNoted n).lossEffects n).pwr with loss := true } } := by
  have hn0 : n ≠ 0 := by rintro rfl; exact absurd hfix (by decide)
  have hn1 : n ≠ 1 := by rintro rfl; exact absurd hfix (by decide)
  have halive : s.alive = true := by rw [Dev.alive, run_of_hostUp h]
  rw [hardLoss, if_neg hn0, halive, if_neg (by simp; omega), if_neg hn1, (hostUp_iff.mp h).2.1, hfix, hon,
    signal_awake 13 (not_doze_of_run (run_of_hostUp h))]
  rfl

theorem lossNoted_pwr (n : Nat) (d : Dev) : (d.lossNoted n).pwr = { d.pwr with deferrals := d.pwr.deferrals.filter (fun f => f.dom != n) } := by
  have hev : (d.event 13).pwr = d.pwr := Dev.event_get (pt := .pwr) 13 d (by decide)
  rw [Dev.lossNoted, Dev.note_pwr, Dev.dropDeferral, hev]

theorem lossNoted_lastOf {n : Nat} {s : Dev} (hr : s.clock.rootOn = true) (hl : s.evc.lastEsn.length = 160) :
    (s.lossNoted n).lastOf 13 = s.clock.esn :=
  (note_lastOf ..).trans ((lastOf_of_evc rfl).trans (event_lastOf_self hr (by rw [hl]; decide)))

theorem hardLoss_answers {n : Nat} {s : State} (h : s.hostUp = true) (hn : n < 24) (hfix : domFixed n = false) (hon : s.domOn n = true)
    (hd : s.pwr.doms.length = 24) (hl : s.evc.lastEsn.length = 160) : Answers (.hardLoss n) s fun t =>
      t.dom n = .lost ∧ (∀ m, m ≠ n → t.dom m = s.dom m) ∧ t.pwr.loss = true ∧ t.evc.lastEsn.getD 13 0 = s.clock.esn ∧
      t.pwr.deferrals = s.pwr.deferrals.filter (fun f => f.dom != n) ∧ t.pwr.holds = s.pwr.holds.filter (fun h => h.dom != n) ∧
      t.sets = s.sets ∧ (n = 19 → t.rel.relay = .locked ∧ t.rel.cause = 5) := by
  refine answers_settle (f := hardLoss n) rfl rfl ?_
  obtain ⟨t, ht⟩ : ∃ t, hardLoss n s.toDev = t := ⟨_, rfl⟩
  have hsets : t.sets = s.sets := ht ▸ hardLoss_sets n s.toDev
  rw [ht]
  rw [hardLoss_eq h hn hfix hon] at ht
  have hpwr : t.pwr = { s.pwr with
      deferrals := s.pwr.deferrals.filter (fun f => f.dom != n), loss := true, doms := s.pwr.doms.set n .lost,
      holds := s.pwr.holds.filter (fun h => h.dom != n) } := by
    rw [← ht, supplyGone_pwr]
    dsimp only
    rw [lossEffects_pwr, lossNoted_pwr]
  have hlast : t.lastOf 13 = s.clock.esn := by
    rw [← ht, supplyGone_lastOf]
    exact (lossEffects_lastOf n _).trans (lossNoted_lastOf (rootOn_of_hostUp h) hl)
  have hrel : t.rel = ((s.lossNoted n).lossEffects n).rel := ht ▸ Dev.supplyGone_get (pt := .rel) n _ _ _ (by decide)
  simp only [settle_dom, settle_pwr, settle_sets, settle_rel]
  refine ⟨?_, fun m hm => ?_, ?_, (settle_lastOf (by decide) s.toDev t).trans hlast, ?_, ?_, hsets, fun h19 => ?_⟩
  · rw [Dev.dom, hpwr, getD_set_dom _ _ _ _ (by rw [hd]; exact hn), if_pos rfl]
  · rw [Dev.dom, hpwr, getD_set_dom _ _ _ _ (by rw [hd]; exact hn), if_neg hm]
    rfl
  · rw [hpwr]
  · rw [hpwr]
  · rw [hpwr]
  · subst h19
    rw [hrel, Dev.lossEffects, lockRelay_rel]
    exact ⟨rfl, rfl⟩

/-! ### The hold-up trip and the collapse of VHOLD (R516, R517, R519) -/

theorem starts_of_dev {d : Dev} (n : Nat) (h : d.pwr.dev ≠ .doze) : d.starts n = d.begins n := by
  unfold Dev.starts
  rw [undoze_awake h]
  split
  · next hc => exact (if_pos hc).symm
  · rfl

theorem starts_lastOf {n m : Nat} {d : Dev} (h : d.pwr.dev ≠ .doze) (hm : m ≠ n) : (d.starts m).lastOf n = d.lastOf n := by
  rw [starts_of_dev m h, begins_lastOf hm]

theorem monitor_pwr {d : Dev} (n : Nat) (low : Bool) (h : d.pwr.dev ≠ .doze) : (d.monitor n low).pwr = d.pwr := by
  unfold Dev.monitor
  split
  · rw [starts_of_dev n h]
    exact Dev.begins_get (pt := .pwr) n d (by decide)
  · rfl

theorem monitor_lastOf {n m : Nat} {d : Dev} (low : Bool) (h : d.pwr.dev ≠ .doze) (hm : m ≠ n) : (d.monitor m low).lastOf n = d.lastOf n := by
  unfold Dev.monitor
  split
  · exact starts_lastOf h hm
  · rfl

/-- VSUP_LOW at a reading of the feed (R558). -/
def Dev.feedLow (d : Dev) (mv : Nat) : Bool := lowAt d.pwr.vsupLow (d.setting 0x0B0020) (d.setting 0x0B0020 + 300) mv

/-- The feed judged: the monitor's condition, and then the page writes that waited for its end. -/
theorem judgeFeed_eq (mv : Nat) (d : Dev) : d.judgeFeed mv =
    Dev.nvKick { d.monitor 15 (d.feedLow mv) with pwr := { (d.monitor 15 (d.feedLow mv)).pwr with vsupLow := d.feedLow mv } } := rfl

theorem judgeFeed_pwr {d : Dev} (mv : Nat) (h : d.pwr.dev ≠ .doze) : (d.judgeFeed mv).pwr = { d.pwr with vsupLow := d.feedLow mv } := by
  have hm := monitor_pwr 15 (d.feedLow mv) h
  rw [judgeFeed_eq]
  show ({ (d.monitor 15 (d.feedLow mv)).pwr with vsupLow := d.feedLow mv } : Power) = _
  rw [hm]

theorem judgeFeed_lastOf {n : Nat} {d : Dev} (mv : Nat) (h : d.pwr.dev ≠ .doze) (hn : 15 ≠ n) : (d.judgeFeed mv).lastOf n = d.lastOf n :=
  (lastOf_of_evc rfl).trans (monitor_lastOf (d.feedLow mv) h hn)

/-- The change to SHELF, with the relay locked and no command in flight. -/
def Dev.shelved (d : Dev) : Dev :=
  { (d.stateChange .shelf).lockRelay oPower 0xFFFF 0xFF 5 5 with
    cmds := [], start := { ((d.stateChange .shelf).lockRelay oPower 0xFFFF 0xFF 5 5).start with entropy := false, waitHrst := false, due := none } }

theorem shelved_frame {s : Dev} (h : s.hostUp = true) : s.shelved.pwr = { s.pwr with dev := .shelf, runTicks := s.runTime, runFrom := s.now } ∧
    s.shelved.med = s.med ∧ s.shelved.rel.relay = .locked ∧ s.shelved.rel.cause = 5 ∧ s.shelved.sets = s.sets := by
  have hb : s.jrnl.buf.length < 1023 := Nat.lt_of_lt_of_le (hostUp_iff.mp h).2.2.2.2 (by decide)
  obtain ⟨-, hpwr, -, -, honly⟩ := stateChange_says .shelf (rootOn_of_hostUp h) hb
  rw [EventsOnly] at honly
  refine ⟨(Dev.lockRelay_get (pt := .pwr) _ _ _ _ _ _ (by decide)).trans hpwr,
    (Dev.lockRelay_get (pt := .med) _ _ _ _ _ _ (by decide)).trans ?_, ?_, ?_, (Dev.lockRelay_get (pt := .sets) _ _ _ _ _ _ (by decide)).trans ?_⟩
  · rw [honly]
    rfl
  · exact congrArg Release.relay (lockRelay_rel ..)
  · exact congrArg Release.cause (lockRelay_rel ..)
  · rw [honly]
    rfl

theorem shelved_lastOf {s : Dev} (h : s.hostUp = true) (hl : s.evc.lastEsn.length = 160) : s.shelved.lastOf 10 = s.clock.esn := by
  have hr := rootOn_of_hostUp h
  refine (lockRelay_lastOf (by decide) (by decide) ..).trans ?_
  rw [stateChange_running .shelf hr, note_lastOf]
  exact event_lastOf_self (d := s.inState .shelf) hr (by rw [Dev.inState, hl]; decide)

theorem holdupTrip_answers {vhold : Nat} {s : State} (h : s.hostUp = true) (hm : s.med.state = .writeBack) (hl : s.evc.lastEsn.length = 160) :
    Answers (.holdupTrip vhold) s fun t =>
      t.pwr.dev = .shelf ∧ t.med = { s.med with state := .flushing, flush := true } ∧ t.rel.relay = .locked ∧ t.rel.cause = 5 ∧
      t.cmds = [] ∧ t.evc.lastEsn.getD 10 0 = s.clock.esn ∧ t.sets = s.sets ∧
      t.pwr.vsupLow = lowAt s.pwr.vsupLow (s.setting 0x0B0020) (s.setting 0x0B0020 + 300) vhold := by
  obtain ⟨hpwr, hmed, hrelay, hcause, hsets⟩ := shelved_frame h
  have hlast := shelved_lastOf h hl
  obtain ⟨u, hu⟩ : ∃ u, { s.shelved with med := { s.shelved.med with state := .flushing, flush := true } } = u := ⟨_, rfl⟩
  have hrow : holdupTrip vhold s.toDev = u.judgeFeed vhold := by
    have halive : s.alive = true := by rw [Dev.alive, run_of_hostUp h]
    have hsurf : s.surfaced = s.toDev := if_pos (rootOn_of_hostUp h)
    rw [holdupTrip, halive, hsurf, undoze_awake (not_doze_of_run (run_of_hostUp h)), if_neg (by simp [hm])]
    dsimp only
    rw [show ((s.stateChange .shelf).lockRelay oPower 0xFFFF 0xFF 5 5).med.state = .writeBack from (congrArg Media.state hmed).trans hm, ← hu]
    rfl
  have hdev : u.pwr.dev ≠ .doze := by
    rw [← hu]
    show s.shelved.pwr.dev ≠ .doze
    rw [hpwr]
    exact (by decide : DevState.shelf ≠ .doze)
  have hset : u.feedLow vhold = lowAt s.pwr.vsupLow (s.setting 0x0B0020) (s.setting 0x0B0020 + 300) vhold := by
    rw [← hu, Dev.feedLow, Dev.setting, hpwr, hsets]
    rfl
  have hget (pt : Part) (hpt : pt ∉ [.clock, .pwr, .jrnl, .evc, .nv]) : (u.judgeFeed vhold).get pt = u.get pt := Dev.judgeFeed_get vhold u hpt
  refine answers_settle (f := holdupTrip vhold) rfl hrow ?_
  simp only [settle_pwr, settle_med, settle_rel, settle_cmds, settle_sets, judgeFeed_pwr vhold hdev]
  rw [show (u.judgeFeed vhold).med = u.med from hget .med (by decide), show (u.judgeFeed vhold).rel = u.rel from hget .rel (by decide),
    show (u.judgeFeed vhold).cmds = u.cmds from hget .cmds (by decide), show (u.judgeFeed vhold).sets = u.sets from hget .sets (by decide)]
  have hl10 : (Dev.settle s.toDev (u.judgeFeed vhold)).lastOf 10 = s.clock.esn := by
    rw [settle_lastOf (by decide), judgeFeed_lastOf vhold hdev (by decide), ← hu]
    exact hlast
  refine ⟨?_, ?_, ?_, ?_, ?_, hl10, ?_, hset⟩
  · rw [← hu]
    exact congrArg Power.dev hpwr
  · rw [← hu, hmed]
  · rw [← hu]
    exact hrelay
  · rw [← hu]
    exact hcause
  · rw [← hu]
    rfl
  · rw [← hu]
    exact hsets

theorem vholdCollapse_answers {s : State} (h : s.med.state = .flushing) : Answers .vholdCollapse s fun t =>
    t.pwr.dev = .shelf ∧ t.med = { s.med with flush := false, buf := [], state := .down, ready := false } ∧ t.jrnl = s.jrnl ∧
    (∀ m, m < 24 → t.dom m = if m = 0 then .on else .off) := by
  have hrow : vholdCollapse s.toDev = Dev.shelve false { s.toDev with med := { s.med with flush := false } } := by
    rw [vholdCollapse, h]
    rfl
  refine answers_still (f := vholdCollapse) rfl hrow rfl ⟨rfl, rfl, rfl, fun m hm => ?_⟩
  simp [Dev.dom, Dev.shelve, List.getD_eq_getElem?_getD, hm]

/-! ### The supply monitors (R472, R519, R558) -/

/-- The beginning of a condition that was not readable: one event, and the condition (R148). -/
theorem begins_says {n : Nat} {d : Dev} (hr : d.clock.rootOn = true) (hc : d.evc.cond.getD n false = false) :
    Raised n d (d.begins n) ∧ (d.begins n).evc.cond = d.evc.cond.set n true := by
  have hrow : d.begins n = Dev.event n { d with evc := { d.evc with cond := d.evc.cond.set n true } } := if_neg (by rw [hc]; decide)
  rw [hrow]
  obtain ⟨he, hesn, hevc⟩ := event_raised (d := { d with evc := { d.evc with cond := d.evc.cond.set n true } }) n hr
  refine ⟨⟨he, hesn, ?_⟩, event_cond (d := { d with evc := { d.evc with cond := d.evc.cond.set n true } }) n hr⟩
  rw [hevc]
  rfl

theorem raised_of_clock_evc {n : Nat} {s t u : Dev} (h : Raised n s t) (hc : u.clock = t.clock) (he : u.evc = t.evc) : Raised n s u := by
  rw [Raised, hc, he]
  exact h

/-- WRITE_BACK becomes WRITE_THROUGH: the buffered writes are durable, source 137 is presented where it is a change, and the MEDIA record
stands (R519). -/
theorem enterThrough_says {d : Dev} (hd : d.pwr.dev ≠ .doze) (hm : d.med.state = .writeBack) (hb : d.jrnl.buf.length < 1024) :
    d.enterThrough.med = { d.durable.med with state := .writeThrough } ∧ d.enterThrough.pwr = d.pwr ∧
    (∃ new, d.enterThrough.lastRecord = some (0x60, 0xFF, d.medstat, new, 0)) ∧
    d.enterThrough.jrnl.buf.length = d.jrnl.buf.length + 1 ∧ (∀ n, n ≠ 137 → d.enterThrough.lastOf n = d.lastOf n) := by
  obtain ⟨u, hu⟩ : ∃ u, { d.durable with med := { d.durable.med with state := .writeThrough } } = u := ⟨_, rfl⟩
  have hpwr : u.pwr = d.pwr := by rw [← hu]; rfl
  have hrow : d.enterThrough = (Dev.begins 137 u).noteMedia 0xFF d.medstat := by
    rw [Dev.enterThrough, if_pos (by rw [hm]; rfl), ← starts_of_dev 137 (by rw [hpwr]; exact hd), ← hu]
  have hget (pt : Part) (hpt : pt ∉ [.clock, .evc]) : (u.begins 137).get pt = u.get pt := Dev.begins_get 137 u hpt
  have hjrnl : (u.begins 137).jrnl = d.jrnl := (hget .jrnl (by decide)).trans (by rw [← hu]; rfl)
  have hroom : (u.begins 137).jrnl.buf.length < 1024 := by rw [hjrnl]; exact hb
  rw [hrow, Dev.noteMedia]
  refine ⟨(Dev.note_get (pt := .med) _ _ _ (by decide)).trans ((hget .med (by decide)).trans (by rw [← hu]; rfl)),
    (Dev.note_pwr ..).trans ((hget .pwr (by decide)).trans hpwr), ⟨_, note_lastRecord hroom _ _⟩, ?_, fun n hn => ?_⟩
  · rw [note_buf_length hroom, hjrnl]
  · rw [note_lastOf, begins_lastOf hn.symm, ← hu]
    rfl

/-- What an event with a part besides leaves alone. -/
theorem eventsOnly_but (pts : List Part) {s r t : Dev} (hin : ∀ pt ∈ pts, r.get pt = t.get pt) (hout : ∀ pt, pt ∉ pts → r.get pt = s.get pt)
    (h : ∀ pt, pt ∉ pts ++ eventParts → t.get pt = s.get pt) : EventsOnly r t :=
  eventsOnly_of_get fun pt hpt => by
    by_cases hm : pt ∈ pts
    · exact (hin pt hm).symm
    · exact (h pt fun ha => (List.mem_append.mp ha).elim hm hpt).trans (hout pt hm).symm

theorem eventsOnly_med {s t : Dev} (h : ∀ pt, pt ∉ [.med] ++ eventParts → t.get pt = s.get pt) : EventsOnly { s with med := t.med } t := by
  refine eventsOnly_but [.med] (fun pt hpt => ?_) (fun pt hpt => ?_) h
  · rw [List.mem_singleton.mp hpt]
    rfl
  · exact Dev.get_with_med _ s fun hm => hpt (List.mem_singleton.mpr hm)

section
variable {s : State} (h : s.hostUp = true)
include h

theorem alive_of_hostUp : s.alive = true := by rw [Dev.alive, run_of_hostUp h]

theorem vsupLow_begins {mv : Nat} (hlow : s.feedLow mv = true) (hc : s.evc.cond.getD 15 false = false) : Answers (.vsupLow mv) s fun t =>
    Raised 15 s.toDev t ∧ t.evc.cond = s.evc.cond.set 15 true ∧ t.pwr = { s.pwr with vsupLow := true } ∧ EventsOnly s.toDev t := by
  have hd := not_doze_of_run (run_of_hostUp h)
  have hmon : s.monitor 15 (s.feedLow mv) = s.begins 15 := by
    rw [hlow]
    exact starts_of_dev 15 hd
  have hrow : vsupLow mv s.toDev = s.judgeFeed mv := by
    rw [vsupLow, alive_of_hostUp h]
    rfl
  obtain ⟨hraised, hcond⟩ := begins_says (rootOn_of_hostUp h) hc
  have hget (pt : Part) (hpt : pt ∉ [.clock, .pwr, .jrnl, .evc, .nv]) : (s.judgeFeed mv).get pt = s.get pt := Dev.judgeFeed_get mv s.toDev hpt
  have hj : (s.judgeFeed mv).jrnl = s.jrnl := by
    rw [judgeFeed_eq, hmon]
    exact Dev.begins_get (pt := .jrnl) 15 s.toDev (by decide)
  refine answers_still (f := vsupLow mv) rfl hrow (by rw [hj]) ⟨raised_of_clock_evc hraised ?_ ?_, ?_, ?_, eventsOnly_of_get fun pt hpt => hget pt ?_⟩
  · rw [judgeFeed_eq, hmon]
    rfl
  · rw [judgeFeed_eq, hmon]
    rfl
  · rw [judgeFeed_eq, hmon]
    exact hcond
  · rw [judgeFeed_pwr mv hd, hlow]
  · cases pt <;> simp_all [eventParts]

/-- A monitor other than VSUP_LOW begins, its reading's state in the power unit (R558). -/
theorem monitor_begins {i : Instr} {n : Nat} {p : Power} {f : Dev → Dev} (he : exec i s = run f s)
    (hf : f s.toDev = Dev.starts n { s.toDev with pwr := p }) (hp : p.dev = .run) (hc : s.evc.cond.getD n false = false) :
    Answers i s fun t => Raised n s.toDev t ∧ t.evc.cond = s.evc.cond.set n true ∧ t.pwr = p ∧ EventsOnly s.toDev t := by
  have hr : s.clock.rootOn = true := rootOn_of_hostUp h
  obtain ⟨u, hu⟩ : ∃ u, { s.toDev with pwr := p } = u := ⟨_, rfl⟩
  have hclock : u.clock = s.clock := by rw [← hu]
  have hevc : u.evc = s.evc := by rw [← hu]
  have hpwr : u.pwr = p := by rw [← hu]
  have hothers (pt : Part) (hpt : pt ≠ .pwr) : u.get pt = s.get pt := by
    rw [← hu]
    exact Dev.get_with_pwr p s.toDev hpt
  rw [hu] at hf
  have hstart : f s.toDev = u.begins n := hf.trans (starts_of_dev n (by rw [hpwr, hp]; decide))
  obtain ⟨hraised, hcond⟩ := begins_says (d := u) (n := n) (by rw [hclock]; exact hr) (by rw [hevc]; exact hc)
  have hget (pt : Part) (hpt : pt ∉ [.clock, .evc]) := Dev.begins_get n u hpt
  refine answers_still he hstart ?_ ⟨raised_of_eq hraised (congrArg Clock.esn hclock) hevc, by rw [hcond, hevc],
    (hget .pwr (by decide)).trans hpwr, eventsOnly_of_get fun pt hpt => (hget pt ?_).trans (hothers pt ?_)⟩
  · exact (congrArg Journal.nextNumber (hget .jrnl (by decide))).trans (congrArg Journal.nextNumber (hothers .jrnl (by decide)))
  all_goals rintro hm
  · exact hpt (by revert hm; cases pt <;> decide)
  · exact hpt (by rw [hm]; decide)

theorem monitor_ends {i : Instr} {n : Nat} {p : Power} {f : Dev → Dev} (he : exec i s = run f s)
    (hf : f s.toDev = Dev.ends n { s.toDev with pwr := p }) :
    Answers i s fun t => t = { s.toDev with pwr := p, evc := { s.evc with cond := s.evc.cond.set n false } } :=
  answers_still he hf rfl rfl

theorem vlfLow_eq (mv : Nat) : vlfLow mv s.toDev = Dev.monitor 16 (lowAt s.pwr.vlfLow 5000 5300 mv)
    { s.toDev with pwr := { s.pwr with vlfLow := lowAt s.pwr.vlfLow 5000 5300 mv } } := if_pos (alive_of_hostUp h)

theorem vbatKsLow_eq (mv : Nat) : vbatKsLow mv s.toDev = Dev.monitor 17 (lowAt s.pwr.vbatLow 2300 2400 mv)
    { s.toDev with pwr := { s.pwr with vbatLow := lowAt s.pwr.vbatLow 2300 2400 mv } } := if_pos (alive_of_hostUp h)

/-- VHOLD_LOW at a reading (R519). -/
theorem vholdLow_eq (mv : Nat) {low : Bool} (hlow : lowAt s.pwr.vholdLow (s.setting 0x0B0020 + 3000) (s.setting 0x0B0020 + 3300) mv = low) :
    vholdLow mv s.toDev = if low then (Dev.starts 18 { s.toDev with pwr := { s.pwr with vholdLow := true } }).enterThrough
      else Dev.ends 18 { s.toDev with pwr := { s.pwr with vholdLow := false } } := by
  have hsum : s.setting 0x0B0020 + 3000 + 300 = s.setting 0x0B0020 + 3300 := by omega
  subst hlow
  rw [vholdLow, alive_of_hostUp h, if_pos rfl]
  dsimp only
  rw [hsum]
  split
  · next hl =>
    rw [hl]
    rfl
  · next hl =>
    rw [Bool.not_eq_true] at hl
    rw [hl]
    rfl

theorem vholdLow_begins {mv : Nat} (hlow : lowAt s.pwr.vholdLow (s.setting 0x0B0020 + 3000) (s.setting 0x0B0020 + 3300) mv = true)
    (hc : s.evc.cond.getD 18 false = false) (hm : s.med.state = .writeBack) (hl : s.evc.lastEsn.length = 160) : Answers (.vholdLow mv) s fun t =>
      t.evc.lastEsn.getD 18 0 = s.clock.esn ∧ t.pwr = { s.pwr with vholdLow := true } ∧ t.med.state = .writeThrough ∧ t.med.buf = [] ∧
      (∃ old new, t.lastRecord = some (0x60, 0xFF, old, new, 0)) ∧ EventsOnly { s.toDev with med := t.med } t := by
  have hrun := run_of_hostUp h
  have hbuf : s.jrnl.buf.length < 1023 := Nat.lt_of_lt_of_le (hostUp_iff.mp h).2.2.2.2 (by decide)
  obtain ⟨u, hu⟩ : ∃ u, { s.toDev with pwr := { s.pwr with vholdLow := true } } = u := ⟨_, rfl⟩
  have hpwr : u.pwr = { s.pwr with vholdLow := true } := by rw [← hu]
  have hdev : u.pwr.dev ≠ .doze := by
    rw [hpwr]
    exact not_doze_of_run hrun
  have hothers (pt : Part) (hpt : pt ≠ .pwr) : u.get pt = s.get pt := by
    rw [← hu]
    exact Dev.get_with_pwr _ s.toDev hpt
  have hlast : (u.begins 18).lastOf 18 = s.clock.esn := by
    have hcond : u.evc.cond.getD 18 false = false := by
      rw [← hu]
      exact hc
    rw [show u.begins 18 = Dev.event 18 { u with evc := { u.evc with cond := u.evc.cond.set 18 true } } from if_neg (by rw [hcond]; decide), ← hu]
    exact event_lastOf_self (d := { s.toDev with pwr := { s.pwr with vholdLow := true }, evc := { s.evc with cond := s.evc.cond.set 18 true } })
      (rootOn_of_hostUp h) (by show 18 < s.evc.lastEsn.length; rw [hl]; decide)
  have hget (pt : Part) (hpt : pt ∉ [.clock, .evc]) : (u.begins 18).get pt = u.get pt := Dev.begins_get 18 u hpt
  obtain ⟨v, hv⟩ : ∃ v, u.begins 18 = v := ⟨_, rfl⟩
  rw [hv] at hlast hget
  have hvmed : v.med = s.med := (hget .med (by decide)).trans (hothers .med (by decide))
  have hvpwr : v.pwr = { s.pwr with vholdLow := true } := (hget .pwr (by decide)).trans hpwr
  have hvjrnl : v.jrnl = s.jrnl := (hget .jrnl (by decide)).trans (hothers .jrnl (by decide))
  have hrow : vholdLow mv s.toDev = v.enterThrough := by
    rw [vholdLow_eq h mv hlow, if_pos rfl, hu, starts_of_dev 18 hdev, hv]
  obtain ⟨hmed, hpw, ⟨new, hrec⟩, hlen, hlasts⟩ :=
    enterThrough_says (d := v) (by rw [hvpwr]; exact not_doze_of_run hrun) (by rw [hvmed]; exact hm) (by rw [hvjrnl]; omega)
  have hframe (pt : Part) (hpt : pt ∉ [.clock, .pwr, .jrnl, .evc, .nv, .med]) := Dev.enterThrough_get v hpt
  obtain ⟨t, ht⟩ : ∃ t, v.enterThrough = t := ⟨_, rfl⟩
  rw [ht] at hrow hmed hpw hrec hlen hlasts hframe
  have h900 := (hostUp_iff.mp h).2.2.2.2
  refine answers_room (f := vholdLow mv) rfl (.inr ?_) ?_
  · show (vholdLow mv s.toDev).jrnl.buf.length < 960
    rw [hrow, hlen, hvjrnl]
    omega
  · show _ ∧ _
    rw [hrow]
    refine ⟨(hlasts 18 (by decide)).trans hlast, hpw.trans hvpwr, by rw [hmed], by rw [hmed]; rfl, ⟨_, _, hrec⟩,
      eventsOnly_med fun pt hpt => (hframe pt fun hm => hpt ?_).trans ((hget pt fun hm => hpt ?_).trans (hothers pt fun hm => hpt ?_))⟩
    · revert hm; cases pt <;> decide
    · revert hm; cases pt <;> decide
    · rw [hm]; decide

theorem vsupLow_ends {mv : Nat} (hlow : s.feedLow mv = false) : Answers (.vsupLow mv) s fun t => t = { s.toDev with
    pwr := { s.pwr with vsupLow := false }, evc := { s.evc with cond := s.evc.cond.set 15 false },
    nv := { s.nv with busy := s.nv.busy || (!s.nv.queue.isEmpty && s.dom 16 == .on && !false) } } := by
  have hrow : vsupLow mv s.toDev = s.judgeFeed mv := by
    rw [vsupLow, alive_of_hostUp h]
    rfl
  refine answers_still (f := vsupLow mv) rfl hrow ?_ ?_
  all_goals rw [judgeFeed_eq, hlow]
  all_goals rfl

theorem vsupLowClear_ends {mv : Nat} (hv : s.pwr.vsupLow = true) (hmv : s.setting 0x0B0020 + 300 ≤ mv) :
    Answers (.vsupLowClear mv) s fun t => t = { s.toDev with
      pwr := { s.pwr with vsupLow := false }, evc := { s.evc with cond := s.evc.cond.set 15 false },
      nv := { s.nv with busy := s.nv.busy || (!s.nv.queue.isEmpty && s.dom 16 == .on && !false) } } := by
  have hlow : s.feedLow mv = false := by
    rw [Dev.feedLow, hv, lowAt]
    simpa using hmv
  have hsame : vsupLowClear mv s.toDev = vsupLow mv s.toDev := if_pos hv
  have hrow : vsupLow mv s.toDev = s.judgeFeed mv := by
    rw [vsupLow, alive_of_hostUp h]
    rfl
  refine answers_still (f := vsupLowClear mv) rfl (hsame.trans hrow) ?_ ?_
  all_goals rw [judgeFeed_eq, hlow]
  all_goals rfl

theorem vsupLowClear_stays {mv : Nat} (hv : s.pwr.vsupLow = true) (hc : s.evc.cond.getD 15 false = true) (hmv : mv < s.setting 0x0B0020 + 300) :
    Answers (.vsupLowClear mv) s fun t => t = s.toDev := by
  have hlow : s.feedLow mv = true := by
    rw [Dev.feedLow, hv, lowAt]
    simpa using hmv
  have hrow : vsupLowClear mv s.toDev = s.judgeFeed mv := by
    rw [vsupLowClear, if_pos hv, vsupLow, alive_of_hostUp h]
    rfl
  have hstay : s.judgeFeed mv = s.toDev := by
    have hstarts : s.starts 15 = s.toDev := if_pos hc
    have hpwr : { s.pwr with vsupLow := true } = s.pwr := by rw [← hv]
    rw [judgeFeed_eq, hlow, Dev.monitor, if_pos rfl, hstarts, hpwr, Dev.nvKick, hv, Bool.not_true, Bool.and_false, Bool.or_false]
  refine answers_still (f := vsupLowClear mv) rfl (hrow.trans hstay) rfl rfl

end

/-! ### Temperature derating (R534) -/

theorem overrideCheck_unpinned {n : Nat} {d : Dev} (h : ((d.loop n).pinned && d.loopProtected n) = false) :
    d.overrideCheck n = d.putLoop n { d.loop n with overrode := false } := by
  rw [Dev.overrideCheck, h]
  rfl

theorem putLoop_pinned {n m : Nat} {d : Dev} {l : Loop} (hl : l.pinned = (d.loop m).pinned) : ((d.putLoop m l).loop n).pinned = (d.loop n).pinned := by
  show ((d.bg.loops.set m l).getD n ⟨0, false, false, none, false⟩).pinned = _
  by_cases hm : m = n
  · subst hm
    by_cases hlen : m < d.bg.loops.length
    · rw [List.getD_eq_getElem?_getD, List.getElem?_set_self hlen]
      exact hl
    · rw [List.set_eq_of_length_le (by omega)]
      rfl
  · rw [List.getD_eq_getElem?_getD, List.getElem?_set_ne hm, ← List.getD_eq_getElem?_getD]
    rfl

/-- Both loops under the derating are checked, and neither is pinned: their overrides are off (R534). -/
theorem overrideChecks_unpinned {d : Dev} (h11 : ((d.loop 11).pinned && d.bg.derate) = false) (h12 : ((d.loop 12).pinned && d.bg.derate) = false) :
    (d.overrideCheck 11).overrideCheck 12 = (d.putLoop 11 { d.loop 11 with overrode := false }).putLoop 12
      { (d.putLoop 11 { d.loop 11 with overrode := false }).loop 12 with overrode := false } := by
  rw [overrideCheck_unpinned h11]
  refine overrideCheck_unpinned ?_
  rw [putLoop_pinned (m := 11) (l := { d.loop 11 with overrode := false }) rfl]
  exact h12

theorem loopApplied_derated {n : Nat} {d : Dev} (hn : n = 11 ∨ n = 12) (hd : d.bg.derate = true) : d.loopApplied n = d.loopFloor n := by
  have hp : d.loopProtected n = true := by
    rcases hn with rfl | rfl <;> exact hd
  rw [Dev.loopApplied]
  rcases hn with rfl | rfl <;> exact if_pos hp

theorem tempDerate_answers {sensor : Nat} {reading : Word} {s : State} (h : s.hostUp = true) (h22 : s.domOn 22 = true) (hs : sensor < 4)
    (hd : s.bg.derate = false) (hread : s.celsius 0x0D0000 ≤ signed 16 reading.toNat) (h11 : (s.loop 11).pinned = false)
    (h12 : (s.loop 12).pinned = false) (hc : s.evc.cond.getD 19 false = false) : Answers (.tempDerate sensor reading) s fun t =>
      Raised 19 s.toDev t ∧ t.bg.derate = true ∧ t.loopApplied 11 = s.loopFloor 11 ∧ t.loopApplied 12 = s.loopFloor 12 ∧ EventsOnly s.toDev t := by
  have hr : s.clock.rootOn = true := rootOn_of_hostUp h
  obtain ⟨u, hu⟩ : ∃ u, { s.toDev with bg := { s.bg with items := s.bg.items.set sensor reading, derate := true } } = u := ⟨_, rfl⟩
  have hclock : u.clock = s.clock := by rw [← hu]
  have hevc : u.evc = s.evc := by rw [← hu]
  have hothers (pt : Part) (hpt : pt ≠ .bg) : u.get pt = s.get pt := by
    rw [← hu]
    exact Dev.get_with_bg _ s.toDev hpt
  obtain ⟨hraised, -⟩ := begins_says (d := u) (n := 19) (by rw [hclock]; exact hr) (by rw [hevc]; exact hc)
  have hget (pt : Part) (hpt : pt ∉ [.clock, .evc]) : (u.begins 19).get pt = u.get pt := Dev.begins_get 19 u hpt
  have hloop (n : Nat) : (u.begins 19).loop n = s.loop n := by
    rw [Dev.loop, show (u.begins 19).bg = u.bg from hget .bg (by decide), ← hu]
    rfl
  have hrow : tempDerate sensor reading s.toDev = ((u.begins 19).overrideCheck 11).overrideCheck 12 := by
    rw [tempDerate, if_neg (by simp [awake_of_hostUp h, h22, hd]; omega), ← starts_of_dev 19 (by rw [← hu]; exact not_doze_of_run (run_of_hostUp h)), ← hu]
  rw [overrideChecks_unpinned (by rw [hloop, h11]; rfl) (by rw [hloop, h12]; rfl)] at hrow
  obtain ⟨t, ht⟩ : ∃ t, tempDerate sensor reading s.toDev = t := ⟨_, rfl⟩
  rw [ht] at hrow
  have hframe (pt : Part) (hpt : pt ∉ [.clock, .evc, .bg]) : t.get pt = s.get pt := by
    have hb : pt ≠ .bg := fun hm => hpt (by rw [hm]; decide)
    rw [hrow]
    refine (Dev.get_with_bg _ _ hb).trans ((Dev.get_with_bg _ _ hb).trans ((hget pt fun hm => hpt ?_).trans (hothers pt hb)))
    revert hm; cases pt <;> decide
  have hderate : t.bg.derate = true := by
    rw [hrow]
    show (u.begins 19).bg.derate = true
    rw [show (u.begins 19).bg = u.bg from hget .bg (by decide), ← hu]
  have hsets : t.sets = s.sets := hframe .sets (by decide)
  have hfloor (n : Nat) : t.loopFloor n = s.loopFloor n := by
    rw [Dev.loopFloor, Dev.loopFloor, Dev.setting, hsets]
    rfl
  refine answers_still (f := tempDerate sensor reading) rfl ht (congrArg Journal.nextNumber (hframe .jrnl (by decide))) ⟨?_, hderate, ?_, ?_, ?_⟩
  · rw [hrow]
    exact raised_of_clock_evc (raised_of_eq hraised (congrArg Clock.esn hclock) hevc) rfl rfl
  · rw [loopApplied_derated (.inl rfl) hderate, hfloor]
  · rw [loopApplied_derated (.inr rfl) hderate, hfloor]
  · exact eventsOnly_of_get fun pt hpt => hframe pt fun hm => hpt (by revert hm; cases pt <;> decide)

theorem tempDerateClear_answers {s : State} (hd : s.bg.derate = true) : Answers .tempDerateClear s fun t => t.bg.derate = false ∧
    t = { s.toDev with bg := t.bg, evc := { s.evc with cond := s.evc.cond.set 19 false } } := by
  have hrow : tempDerateClear s.toDev =
      ((Dev.ends 19 { s.toDev with bg := { s.bg with derate := false } }).overrideCheck 11).overrideCheck 12 := if_pos hd
  rw [overrideChecks_unpinned (Bool.and_false _) (Bool.and_false _)] at hrow
  exact answers_still (f := tempDerateClear) rfl hrow rfl ⟨rfl, rfl⟩

/-- Settles O55: each loss, monitor and derating by its own row. -/
theorem lossesAndMonitors : Obligations.LossesAndMonitors := by
  unfold Obligations.LossesAndMonitors
  refine ⟨fun n vhold s => ⟨fun h hn hfix hon hd hl => hardLoss_answers h hn hfix hon hd hl, fun h hm hl => holdupTrip_answers h hm hl,
    vholdCollapse_answers⟩, fun sensor mv reading s h hl => ?_⟩
  have hrun := run_of_hostUp h
  refine ⟨?_, ?_, vsupLow_ends h, vsupLowClear_ends h, vsupLowClear_stays h, fun hlow hc hm => vholdLow_begins h hlow hc hm hl,
    tempDerate_answers h, tempDerateClear_answers⟩
  · simp only [List.forall_mem_cons, List.not_mem_nil, false_implies, implies_true, and_true]
    refine ⟨vsupLow_begins h, fun hlow hc => ?_, fun hlow hc => ?_⟩
    · refine monitor_begins h (f := vlfLow mv) rfl ?_ hrun hc
      rw [vlfLow_eq h, hlow]
      rfl
    · refine monitor_begins h (f := vbatKsLow mv) rfl ?_ hrun hc
      rw [vbatKsLow_eq h, hlow]
      rfl
  · simp only [List.forall_mem_cons, List.not_mem_nil, false_implies, implies_true, and_true]
    refine ⟨fun hlow => ?_, fun hlow => ?_, fun hlow => ?_⟩
    · refine monitor_ends h (f := vlfLow mv) rfl ?_
      rw [vlfLow_eq h, hlow]
      rfl
    · refine monitor_ends h (f := vbatKsLow mv) rfl ?_
      rw [vbatKsLow_eq h, hlow]
      rfl
    · exact monitor_ends h (f := vholdLow mv) rfl ((vholdLow_eq h mv hlow).trans (if_neg (by decide)))

end Sys2Proof.Machine
end

section
/-!
PROOFS. What a ranging exchange comes to, and the UWB unit's events (R244, R246, R250, R256).
-/

namespace Sys2Proof.Machine

/-! ### An event on a device that differs from a state in other parts -/

/-- A source signalled in RUN: the event, and every part but the clock and the event controller stays (R148). -/
theorem signal_says {d : Dev} (n : Nat) (hd : d.pwr.dev ≠ .doze) (hr : d.clock.rootOn = true) :
    Raised n d (d.signal n) ∧ ∀ pt, pt ∉ [.clock, .evc] → (d.signal n).get pt = d.get pt := by
  rw [signal_awake n hd]
  exact ⟨event_raised n hr, fun pt hpt => Dev.event_get n d hpt⟩

/-- A part outside a list is outside a shorter one. -/
theorem not_mem_of_subset {pt : Part} {as bs : List Part} (hs : as ⊆ bs) (h : pt ∉ bs) : pt ∉ as := fun hm => h (hs hm)

/-! ### A background atom whose unit is free (R521) -/

/-- The device with no atom of a unit owed any more. -/
def Dev.dueless (unit : Nat) (d : Dev) : Dev := { d with bg := { d.bg with due := d.bg.due.filter (fun a => a.unit != unit) } }

/-- The device at whose stamp a background atom has ended: its idle time begins again. -/
def Dev.atomEnded (d : Dev) : Dev := { d with pwr := { d.pwr with busyAt := d.now } }

theorem dueless_get {pt : Part} (unit : Nat) (d : Dev) (h : pt ≠ .bg) : (d.dueless unit).get pt = d.get pt := Dev.get_with_bg _ d h

theorem atomEnded_get {pt : Part} (d : Dev) (h : pt ≠ .pwr) : d.atomEnded.get pt = d.get pt := Dev.get_with_pwr _ d h

theorem atom_runs {unit : Nat} {body : Dev → Dev} {d : Dev} (hr : d.pwr.dev = .run) (hdom : ∀ n ∈ fnDomains (unitFn unit), d.domOn n = true)
    (hfree : bit (unitFn unit) d.host.fnBusy = false) (hbusy : d.atomBusy unit = false) :
    Dev.atom unit body d = (body (d.dueless unit)).atomEnded := by
  have hon : (fnDomains (unitFn unit)).any (fun n => !d.domOn n) = false := by
    rw [List.any_eq_false]
    intro n hn
    rw [hdom n hn]
    decide
  rw [Dev.atom, hr, hon, hfree, hbusy]
  rfl

/-! ### Packets (R244, R246, R250) -/

section
variable {rx : UwbRx} {s : State} {c : Cmd} {x : RangeRun} (hrun : s.rangeRun = some (c, x)) (hcmd : s.cmd c.tag = some c)
include hrun hcmd

omit hrun hcmd in
theorem toStamp_frame (x : RangeRun) (t : Nat) (d : Dev) : ∃ k, d.toStamp x t = { d with clock := k } := ⟨_, rfl⟩

omit hrun hcmd in
theorem takeResponse_fields {y : RangeRun} (hy : takeResponse rx x = some y) : y.stage = 3 ∧ y.fin = stamp40 (y.resp + usRu x.db) ∧ y.poll = x.poll := by
  obtain ⟨-, hsome⟩ := Option.ite_none_right_eq_some.mp hy
  obtain rfl := Option.some.inj hsome
  exact ⟨rfl, rfl, rfl⟩

theorem response_answers {y : RangeRun} (hst : x.stage = 2) (hy : takeResponse rx x = some y)
    (hcl : (s.toStamp x y.resp).closedBy c.tag (x.clean y.fin / 512) = false) :
    Answers (.response rx) s fun t => t.working c.tag = some (.range y) ∧
      y.stage = 3 ∧ y.fin = stamp40 (y.resp + usRu x.db) ∧ y.poll = x.poll ∧ t.uwb.x = (s.toStamp x y.resp).nextX ∧
      t = { s.toDev with clock := t.clock, cmds := t.cmds, uwb := t.uwb } := by
  obtain ⟨hstage, hfin, hpoll⟩ := takeResponse_fields hy
  obtain ⟨k, hk⟩ := toStamp_frame x y.resp s.toDev
  have hrow : response rx s.toDev = ((s.toStamp x y.resp).sendFinal y).setRange c.tag y := by
    rw [response, hrun]
    dsimp only
    rw [if_pos hst, hy]
    exact if_neg (by rw [hcl]; decide)
  rw [hk] at hrow ⊢
  obtain ⟨v, hv⟩ : ∃ v, Dev.sendFinal y { s.toDev with clock := k } = v := ⟨_, rfl⟩
  have hx : v.uwb.x = Dev.nextX { s.toDev with clock := k } := by
    rw [← hv, Dev.sendFinal]
    rfl
  have hframe : v = { s.toDev with clock := v.clock, uwb := v.uwb } := by
    rw [← hv, Dev.sendFinal, Dev.launch]
  rw [hv] at hrow
  refine answers_still (f := response rx) rfl hrow ?_ ⟨working_setPhase ?_, hstage, hfin, hpoll, hx, ?_⟩
  · show v.jrnl.nextNumber = _
    rw [hframe]
  · show (v.cmd c.tag).isSome = true
    rw [hframe]
    show (s.cmd c.tag).isSome = true
    rw [hcmd]
    rfl
  · show ({ v with cmds := _ } : Dev) = _
    rw [hframe]
    rfl

theorem report_answers {m : Bytes} (hst : x.stage = 3) (hm : s.openReport rx x = some m) :
    Answers (.report rx) s fun t =>
      t = { s.toDev with clock := t.clock, cmds := t.cmds, uwb := t.uwb } ∧ t.uwb.lastCause = x.cause m ∧ t.uwb.x = s.uwb.x ∧
      t.ended c.tag = some (
        if x.cause m = 0 then ⟨.done, rangeWords x m (x.elevation rx), .evidence (rangeEvidence x m (x.elevation rx)), some 22, []⟩
        else .gives (if x.cause m = 8 then .boundExceeded else .stsReject) []) := by
  obtain ⟨k, hk⟩ := toStamp_frame x (x.corrected rx.rmarker) s.toDev
  obtain ⟨u, hu⟩ : ∃ u, (Dev.rangeNoted x m { s.toDev with clock := k }).anchorsNoted x m = u := ⟨_, rfl⟩
  have hframe : u = { s.toDev with clock := u.clock, uwb := u.uwb } ∧ u.uwb.lastCause = x.cause m ∧ u.uwb.x = s.uwb.x := by
    rw [← hu, Dev.rangeNoted, Dev.anchorsNoted]
    exact ⟨rfl, rfl, rfl⟩
  obtain ⟨hu1, hcause, hx⟩ := hframe
  have hsome : (u.cmd c.tag).isSome = true := by
    rw [hu1]
    show (s.cmd c.tag).isSome = true
    rw [hcmd]
    rfl
  have hrow : report rx s.toDev = if x.cause m = 0 then
      u.finish c.tag ⟨.done, rangeWords x m (x.elevation rx), .evidence (rangeEvidence x m (x.elevation rx)), some 22, []⟩
      else u.fail c.tag (if x.cause m = 8 then .boundExceeded else .stsReject) := by
    rw [report, hrun]
    dsimp only
    rw [if_pos hst, hm, ← hu, ← hk]
    rfl
  have hkept (l : List Cmd) : ({ u with cmds := l } : Dev).jrnl = s.jrnl ∧
      ({ u with cmds := l } : Dev) = { s.toDev with clock := u.clock, cmds := l, uwb := u.uwb } := by
    rw [hu1]
    exact ⟨rfl, rfl⟩
  split at hrow
  · next h0 =>
    refine answers_still (f := report rx) rfl hrow (congrArg Journal.nextNumber (hkept _).1) ⟨(hkept _).2, hcause, hx, ?_⟩
    rw [ended_finish hsome, if_pos h0]
  · next h0 =>
    refine answers_still (f := report rx) rfl hrow (congrArg Journal.nextNumber (hkept _).1) ⟨(hkept _).2, hcause, hx, ?_⟩
    rw [ended_fail hsome, if_neg h0]

omit hcmd in
theorem uwbWindow_open (hst : x.stage = 2 ∨ x.stage = 3) : ∃ t, s.uwbWindow = some (c, t) := by
  rw [Dev.uwbWindow, hrun]
  dsimp only
  rcases hst with h | h
  · exact ⟨_, if_pos h⟩
  · rw [if_neg (by omega), if_pos h]
    exact ⟨_, rfl⟩

theorem uwbWindowClose_answers (hst : x.stage = 2 ∨ x.stage = 3) : Answers .uwbWindowClose s fun t =>
    t.ended c.tag = some (.gives .noResponse []) ∧ t = { s.toDev with clock := t.clock, cmds := t.cmds, uwb := t.uwb } := by
  obtain ⟨tb, htb⟩ := uwbWindow_open hrun hst
  have hrow : uwbWindowClose s.toDev = ((s.wait tb).endExchange c.tag).fail c.tag .noResponse := by rw [uwbWindowClose, htb]
  have hex : (s.wait tb).endExchange c.tag = { s.wait tb with uwb := ((s.wait tb).endExchange c.tag).uwb } := by
    rw [Dev.endExchange]
    split <;> rfl
  obtain ⟨u, hu⟩ : ∃ u, (s.wait tb).endExchange c.tag = u := ⟨_, rfl⟩
  rw [hu] at hrow hex
  have hsome : (u.cmd c.tag).isSome = true := by
    rw [hex]
    show (s.cmd c.tag).isSome = true
    rw [hcmd]
    rfl
  refine answers_still (f := uwbWindowClose) rfl hrow ?_ ⟨ended_fail hsome, ?_⟩
  · show u.jrnl.nextNumber = _
    rw [hex]
    rfl
  · show ({ u with cmds := _ } : Dev) = _
    rw [hex]
    rfl

omit hcmd in
theorem uwbJam_answers (hst : x.stage = 2 ∨ x.stage = 3) (h : s.hostUp = true) (h7 : s.domOn 7 = true) (h8 : s.domOn 8 = true) :
    Answers .uwbJam s fun t => Raised 65 s.toDev t ∧ EventsOnly s.toDev t ∧ t.cmds = s.cmds := by
  obtain ⟨tb, htb⟩ := uwbWindow_open hrun hst
  have hon : s.uwbOn = true := by rw [Dev.uwbOn, awake_of_hostUp h, h7, h8]; rfl
  have hrow : uwbJam s.toDev = (s.wait tb).signal 65 := by
    rw [uwbJam, htb]
    exact if_pos hon
  obtain ⟨hraised, hget⟩ := signal_says (d := s.wait tb) 65 (not_doze_of_run (run_of_hostUp h : s.pwr.dev = .run)) (by rw [wait_rootOn]; exact rootOn_of_hostUp h)
  have hwait (pt : Part) (hpt : pt ≠ .clock) : (s.wait tb).get pt = s.get pt := Dev.get_with_clock _ _ hpt
  refine answers_still (f := uwbJam) rfl hrow (congrArg Journal.nextNumber (hget .jrnl (by decide)))
    ⟨raised_of_eq hraised (wait_esn ..) rfl, eventsOnly_of_get fun pt hpt => ?_, hget .cmds (by decide)⟩
  exact (hget pt (not_mem_of_subset (by decide) hpt)).trans (hwait pt fun hm => hpt (by rw [hm]; decide))

end

/-! ### The unit's events (R256) -/

theorem uwbOn_of_hostUp {s : State} (h : s.hostUp = true) (h7 : s.domOn 7 = true) (h8 : s.domOn 8 = true) : s.uwbOn = true := by
  rw [Dev.uwbOn, awake_of_hostUp h, h7, h8]
  rfl

/-- A part replaced before a source is signalled in RUN: the event on the state itself, and the other parts stay. -/
theorem signal_over {s u : Dev} {p : Part} (n : Nat) (h : s.hostUp = true) (hp : p ∉ [.clock, .evc, .pwr])
    (hu : ∀ pt, pt ≠ p → u.get pt = s.get pt) :
    Raised n s (u.signal n) ∧ (u.signal n).get p = u.get p ∧ ∀ pt, pt ∉ [p, .clock, .evc] → (u.signal n).get pt = s.get pt := by
  have hclock : u.clock = s.clock := hu .clock fun hm => hp (by rw [← hm]; decide)
  have hevc : u.evc = s.evc := hu .evc fun hm => hp (by rw [← hm]; decide)
  have hpwr : u.pwr = s.pwr := hu .pwr fun hm => hp (by rw [← hm]; decide)
  obtain ⟨hraised, hget⟩ := signal_says (d := u) n (by rw [hpwr]; exact not_doze_of_run (run_of_hostUp h)) (by rw [hclock]; exact rootOn_of_hostUp h)
  refine ⟨raised_of_eq hraised (by rw [hclock]) hevc, hget p (not_mem_of_subset (by decide) hp), fun pt hpt => ?_⟩
  rw [List.mem_cons, not_or] at hpt
  exact (hget pt hpt.2).trans (hu pt hpt.1)

theorem rangeRun_of_cmds {s t : Dev} (h : t.cmds = s.cmds) : t.rangeRun = s.rangeRun := by rw [Dev.rangeRun, h, Dev.rangeRun]

theorem dropWork_uwb (tag : Nat) (d : Dev) : (d.dropWork tag).uwb = (d.endExchange tag).uwb := by
  have hend (e : Dev) (he : e.uwb = d.uwb) (hn : e.now = d.now) : (e.endExchange tag).uwb = (d.endExchange tag).uwb := by
    rw [Dev.endExchange, Dev.endExchange, Dev.nextX, Dev.nextX, he, hn]
    split
    · rfl
    · exact he
  rw [Dev.dropWork]
  dsimp only
  split
  · exact hend d.stopAir (Dev.stopAir_get (pt := .uwb) d (by decide)) rfl
  · rfl

theorem rangeFault_unlocked (d : Dev) : d.rangeFault.uwb.unlocked = d.uwb.unlocked := by
  unfold Dev.rangeFault
  split
  · next c _ _ =>
    show (d.dropWork c.tag).uwb.unlocked = _
    rw [dropWork_uwb, Dev.endExchange]
    split <;> rfl
  · rfl

theorem rangeFault_faulted (d : Dev) : d.rangeFault.uwb.faulted = d.uwb.faulted := by
  unfold Dev.rangeFault
  split
  · next c _ _ =>
    show (d.dropWork c.tag).uwb.faulted = _
    rw [dropWork_uwb, Dev.endExchange]
    split <;> rfl
  · rfl

section
variable {s : State} (h : s.hostUp = true) (h7 : s.domOn 7 = true) (h8 : s.domOn 8 = true)
include h h7 h8

theorem uwbRetune_answers (hfree : bit 2 s.host.fnBusy = false) (hbusy : s.atomBusy 0x04 = false)
    (htemp : 80 ≤ (s.uwbTemp - s.uwb.tuneTemp).natAbs) : Answers .uwbRetune s fun t => Raised 66 s.toDev t ∧ t.cmds = s.cmds ∧
      EventsOnly { s.toDev with uwb := { s.uwb with tuneTemp := s.uwbTemp } } t := by
  obtain ⟨u, hu⟩ : ∃ u, ({ s.dueless 0x04 with uwb := { s.uwb with tuneTemp := s.uwbTemp } } : Dev) = u := ⟨_, rfl⟩
  have hrow : uwbRetune s.toDev = (u.signal 66).atomEnded := by
    have hdom (n : Nat) (hn : n ∈ fnDomains (unitFn 0x04)) : s.domOn n = true := by
      have h78 : n = 7 ∨ n = 8 := by simpa [unitFn, fnDomains] using hn
      rcases h78 with rfl | rfl
      · exact h7
      · exact h8
    refine (atom_runs (run_of_hostUp h) hdom hfree hbusy).trans ?_
    rw [if_pos (by exact htemp), ← hu]
    rfl
  have hothers (pt : Part) (hpt : pt ∉ [.uwb, .bg]) : u.get pt = s.get pt := by
    simp only [List.mem_cons, List.not_mem_nil, or_false, not_or] at hpt
    rw [← hu]
    exact (Dev.get_with_uwb _ (s.dueless 0x04) hpt.1).trans (dueless_get 0x04 s.toDev hpt.2)
  have hclock : u.clock = s.clock := hothers .clock (by decide)
  have hpwr : u.pwr = s.pwr := hothers .pwr (by decide)
  obtain ⟨hraised, hget⟩ := signal_says (d := u) 66 (by rw [hpwr]; exact not_doze_of_run (run_of_hostUp h)) (by rw [hclock]; exact rootOn_of_hostUp h)
  refine answers_still (f := uwbRetune) rfl hrow ?_ ⟨raised_of_clock_evc (raised_of_eq hraised (by rw [hclock]) (hothers .evc (by decide))) rfl rfl,
    (hget .cmds (by decide)).trans (hothers .cmds (by decide)), eventsOnly_of_get fun pt hpt => ?_⟩
  · exact congrArg Journal.nextNumber ((hget .jrnl (by decide)).trans (hothers .jrnl (by decide)))
  · refine (atomEnded_get _ fun hm => hpt (by rw [hm]; decide)).trans ((hget pt (not_mem_of_subset (by decide) hpt)).trans ?_)
    by_cases hm : pt = .uwb
    · subst hm
      rw [← hu]
      rfl
    · exact (hothers pt fun h2 => hpt (by revert h2; revert hm; cases pt <;> decide)).trans (Dev.get_with_uwb _ _ hm).symm

/-- UWB_UNLOCK and UWB_RF_FAULT: the source, and an exchange in progress ends HW_FAULT (R250, R256). -/
theorem uwbFault_answers {i : Instr} {f : Dev → Dev} {n : Nat} {w : Uwb} (he : exec i s = run f s)
    (hf : f s.toDev = if s.uwbOn then (Dev.signal n { s.toDev with uwb := w }).rangeFault else s.toDev) :
    Answers i s fun t => Raised n s.toDev t ∧ t.uwb.unlocked = w.unlocked ∧ t.uwb.faulted = w.faulted ∧ t.rel = s.rel ∧ t.sets = s.sets ∧
      (s.rangeRun = none → EventsOnly { s.toDev with uwb := w } t ∧ t.cmds = s.cmds) ∧
      (∀ c x, s.rangeRun = some (c, x) → s.cmd c.tag = some c → t.ended c.tag = some (.gives .hwFault [])) := by
  rw [if_pos (uwbOn_of_hostUp h h7 h8)] at hf
  obtain ⟨hraised, hw, hothers⟩ := signal_over (p := .uwb) (u := { s.toDev with uwb := w }) n h (by decide) (fun pt hpt => Dev.get_with_uwb w s.toDev hpt)
  obtain ⟨u, hu⟩ : ∃ u, Dev.signal n { s.toDev with uwb := w } = u := ⟨_, rfl⟩
  rw [hu] at hf hraised hw hothers
  have huwb : u.uwb = w := hw
  have hcmds : u.cmds = s.cmds := hothers .cmds (by decide)
  have hfault (pt : Part) (hpt : pt ∉ [.cmds, .lf, .uhf, .uwb, .ham, .kw]) : u.rangeFault.get pt = u.get pt := Dev.rangeFault_get u hpt
  refine answers_still he hf ?_ ⟨raised_of_clock_evc hraised (hfault .clock (by decide)) (hfault .evc (by decide)), ?_, ?_,
    (hfault .rel (by decide)).trans (hothers .rel (by decide)), (hfault .sets (by decide)).trans (hothers .sets (by decide)), fun hnone => ?_,
    fun c x hrun hcmd => ?_⟩
  · exact congrArg Journal.nextNumber ((hfault .jrnl (by decide)).trans (hothers .jrnl (by decide)))
  · rw [rangeFault_unlocked, huwb]
  · rw [rangeFault_faulted, huwb]
  · have hrun : u.rangeRun = none := (rangeRun_of_cmds hcmds).trans hnone
    have hstay : u.rangeFault = u := by rw [Dev.rangeFault, hrun]
    rw [hstay]
    refine ⟨eventsOnly_of_get fun pt hpt => ?_, hcmds⟩
    by_cases hm : pt = .uwb
    · rw [hm]
      exact hw
    · exact (hothers pt fun h2 => hpt (by revert h2; revert hm; cases pt <;> decide)).trans (Dev.get_with_uwb _ _ hm).symm
  · have hrun' : u.rangeRun = some (c, x) := (rangeRun_of_cmds hcmds).trans hrun
    have hend : u.rangeFault = (u.dropWork c.tag).fail c.tag .hwFault := by rw [Dev.rangeFault, hrun']
    rw [hend]
    refine ended_fail ?_
    rw [cmd_of_cmds ((Dev.dropWork_get (pt := .cmds) c.tag u (by decide)).trans hcmds), hcmd]
    rfl

end

/-- Settles O12: each packet, window and event of the unit by its own row. -/
theorem uwbEvents : Obligations.UwbEvents := by
  unfold Obligations.UwbEvents
  refine fun rx s => ⟨fun c x hrun hcmd => ⟨fun y => response_answers hrun hcmd, fun m => report_answers hrun hcmd,
    uwbWindowClose_answers hrun hcmd, uwbJam_answers hrun⟩, fun h h7 h8 => ⟨uwbRetune_answers h h7 h8, ?_⟩⟩
  simp only [List.forall_mem_cons, List.not_mem_nil, false_implies, implies_true, and_true]
  exact ⟨uwbFault_answers h h7 h8 (f := uwbUnlock) rfl rfl, uwbFault_answers h h7 h8 (f := uwbRfFault) rfl rfl⟩

end Sys2Proof.Machine
end

section
/-!
PROOFS. Listen windows and the UHF paths (R226-R228, R533).
-/

namespace Sys2Proof.Machine

/-! ### The window that closes first (R226, R227) -/

theorem cmd_tag {d : Dev} {tag : Nat} {c : Cmd} (h : d.cmd tag = some c) : c.tag = tag := by
  simpa using List.find?_some h

/-- A LOCATE whose window closes has ended NO_RESPONSE where none is left, whatever settings it samples. -/
theorem sampled_missed {d : Dev} {tag st mask slot target : Nat} {peaks : List Nat} {c : Cmd} (hc : d.cmd tag = some c)
    (hp : c.phase = .running (.locate st mask slot target peaks)) : d.sampled tag (fun e => e.commandMissed c) =
      if d.uhf.windows.any (fun v => v.tag == some tag) then d else d.fail tag .noResponse := by
  have hmissed (e : Dev) : e.commandMissed c = if e.uhf.windows.any (fun v => v.tag == some tag) then e else e.fail tag .noResponse := by
    rw [Dev.commandMissed, hp, cmd_tag hc]
  rw [Dev.sampled, hc]
  dsimp only
  rw [hmissed, hmissed]
  split
  · rfl
  · dsimp only
    split <;> rfl

theorem listenWindowClose_answers {i close tag st mask slot target : Nat} {peaks : List Nat} {w : Listen} {c : Cmd} {s : State}
    (h : s.hostUp = true) (hleast : leastBy Listen.close 0 s.uhf.windows = some (i, close)) (hp : s.clock.pos < 4000)
    (hw : s.uhf.windows[i]? = some w) (htag : w.tag = some tag) (hc : s.cmd tag = some c)
    (hphase : c.phase = .running (.locate st mask slot target peaks)) : Answers .listenWindowClose s fun t =>
      close ≤ t.clock.tb ∧ t.uhf.windows = s.uhf.windows.eraseIdx i ∧
      t = { s.toDev with clock := t.clock, uhf := t.uhf, cmds := t.cmds } ∧
      if (s.uhf.windows.eraseIdx i).any (fun v => v.tag == some tag) then t.cmds = s.cmds else t.ended tag = some (.gives .noResponse []) := by
  obtain ⟨k, hk⟩ : ∃ k, s.clock.advance s.wantDepth close = k := ⟨_, rfl⟩
  have hle : close ≤ k.tb := by
    rw [← hk]
    exact (wait_reaches (d := s.toDev) (rootOn_of_hostUp h) hp).1
  obtain ⟨u, hu⟩ : ∃ u, ({ s.toDev with
    clock := k
    uhf := { s.uhf with windows := s.uhf.windows.eraseIdx i } } : Dev) = u := ⟨_, rfl⟩
  have hcu : u.cmd tag = some c := by
    rw [← hu]
    exact hc
  have hrow : listenWindowClose s.toDev = if u.uhf.windows.any (fun v => v.tag == some tag) then u else u.fail tag .noResponse := by
    rw [← sampled_missed hcu hphase, listenWindowClose, hleast]
    dsimp only
    rw [List.getD_eq_getElem?_getD, hw, Option.getD_some, htag]
    dsimp only
    rw [Dev.wait, hk, hu, hcu]
  have hwin : u.uhf.windows = s.uhf.windows.eraseIdx i := by rw [← hu]
  rw [hwin] at hrow
  split at hrow
  · next hany =>
    refine answers_still (f := listenWindowClose) rfl hrow (by rw [← hu]) ⟨by rw [← hu]; exact hle, hwin, by rw [← hu], ?_⟩
    rw [if_pos hany, ← hu]
  · next hany =>
    refine answers_still (f := listenWindowClose) rfl hrow ?_ ⟨?_, hwin, ?_, ?_⟩
    · rw [← hu]
      rfl
    · rw [← hu]
      exact hle
    · rw [← hu]
      rfl
    · rw [if_neg hany]
      exact ended_fail (by rw [hcu]; rfl)

/-! ### Jams (R204, R228) -/

theorem get_with_lf_uhf {pt : Part} (l : Lf) (w : Uhf) (d : Dev) (h : pt ∉ [.lf, .uhf]) : ({ d with lf := l, uhf := w } : Dev).get pt = d.get pt := by
  simp only [List.mem_cons, List.not_mem_nil, or_false, not_or] at h
  exact (Dev.get_with_uhf w { d with lf := l } h.2).trans (Dev.get_with_lf l d h.1)

section
variable {path code held : Nat} {s : State} (h : s.hostUp = true) (hpath : path < 2)
include h hpath

theorem uhfJam_begins (hcode : s.setting 0x030004 ≤ code) (hheld : s.setting 0x030005 * 124800 ≤ held)
    (hwas : s.uhf.jammed.getD path false = false) : Answers (.uhfJam path code held) s fun t => Raised 69 s.toDev t ∧
      t.uhf = { s.uhf with jammed := s.uhf.jammed.set path true } ∧
      EventsOnly { s.toDev with uhf := t.uhf, lf := { s.lf with noisy := t.lf.noisy } } t := by
  obtain ⟨b, hb⟩ : ∃ b, (s.lf.noisy || s.uhf.windows.any (fun w => w.tag.isNone)) = b := ⟨_, rfl⟩
  obtain ⟨u, hu⟩ : ∃ u, ({ s.toDev with
    lf := { s.lf with noisy := b }
    uhf := { s.uhf with jammed := s.uhf.jammed.set path true } } : Dev) = u := ⟨_, rfl⟩
  have hrow : uhfJam path code held s.toDev = u.signal 69 := by
    rw [uhfJam, if_neg (by omega), ← hu, ← hb]
    dsimp only
    rw [if_pos (awake_of_hostUp h), hwas, decide_eq_true (p := _ ≤ code) hcode, decide_eq_true (p := _ ≤ held) hheld]
    rfl
  have hothers (pt : Part) (hpt : pt ∉ [.lf, .uhf]) : u.get pt = s.get pt := by
    rw [← hu]
    exact get_with_lf_uhf _ _ s.toDev hpt
  have hclock : u.clock = s.clock := hothers .clock (by decide)
  have hpwr : u.pwr = s.pwr := hothers .pwr (by decide)
  obtain ⟨hraised, hget⟩ := signal_says (d := u) 69 (by rw [hpwr]; exact not_doze_of_run (run_of_hostUp h)) (by rw [hclock]; exact rootOn_of_hostUp h)
  obtain ⟨t, ht⟩ : ∃ t, u.signal 69 = t := ⟨_, rfl⟩
  rw [ht] at hrow hraised hget
  have huhf : t.uhf = u.uhf := hget .uhf (by decide)
  have hlf : t.lf = u.lf := hget .lf (by decide)
  refine answers_still (f := uhfJam path code held) rfl hrow ?_ ⟨raised_of_eq hraised (by rw [hclock]) (hothers .evc (by decide)), ?_,
    eventsOnly_but (s := s.toDev) [.lf, .uhf] ?_ ?_ fun pt hpt => ?_⟩
  · exact congrArg Journal.nextNumber ((hget .jrnl (by decide)).trans (hothers .jrnl (by decide)))
  · rw [huhf, ← hu]
  · simp only [List.forall_mem_cons, List.not_mem_nil, false_implies, implies_true, and_true]
    refine ⟨?_, rfl⟩
    show ({ s.lf with noisy := t.lf.noisy } : Lf) = t.lf
    rw [hlf, ← hu]
  · exact fun pt hpt => get_with_lf_uhf _ _ s.toDev hpt
  · exact (hget pt (not_mem_of_subset (by decide) hpt)).trans (hothers pt (not_mem_of_subset (by decide) hpt))

theorem uhfJam_quiet (hno : code < s.setting 0x030004 ∨ (held < s.setting 0x030005 * 124800 ∧ s.uhf.jammed.getD path false = false)) :
    Answers (.uhfJam path code held) s fun t => t = { s.toDev with uhf := { s.uhf with jammed := s.uhf.jammed.set path false } } := by
  have hjam : (decide (s.setting 0x030004 ≤ code) && (s.uhf.jammed.getD path false || decide (s.setting 0x030005 * 124800 ≤ held))) = false := by
    rcases hno with hlow | ⟨hheld, hwas⟩
    · rw [decide_eq_false (by omega)]
      rfl
    · rw [hwas, decide_eq_false (p := _ ≤ held) (by omega), Bool.or_false, Bool.and_false]
  have hrow : uhfJam path code held s.toDev = { s.toDev with uhf := { s.uhf with jammed := s.uhf.jammed.set path false } } := by
    rw [uhfJam, if_neg (by omega)]
    dsimp only
    rw [if_pos (awake_of_hostUp h), hjam]
    simp only [Bool.false_and, Bool.or_false, Bool.false_eq_true, if_false]
  exact answers_still (f := uhfJam path code held) rfl hrow rfl rfl

end

theorem synthesiserRelock_answers (unit : Nat) (s : State) : Answers (.synthesiserRelock unit) s (fun t => t =
    if unit = 2 then { s.toDev with uwb := { s.uwb with unlocked := false } }
    else { s.toDev with uhf := { s.uhf with unlocked := s.uhf.unlocked.set unit false } }) := by
  refine answers_still (f := synthesiserRelock unit) rfl rfl ?_ rfl
  unfold synthesiserRelock
  split <;> rfl

/-! ### Path faults (R228) -/

/-- What one command that listens on no path comes to: it ends HW_FAULT, and its windows go. -/
def Dev.unheard (d : Dev) (c : Cmd) : Dev := (d.closeWindows (some c.tag)).fail c.tag .hwFault

theorem unheard_frame (cs : List Cmd) (d : Dev) : ∃ l ws, cs.foldl Dev.unheard d = { d with cmds := l, uhf := { d.uhf with windows := ws } } := by
  induction cs generalizing d with
  | nil => exact ⟨_, _, rfl⟩
  | cons c cs ih =>
    obtain ⟨l, ws, hl⟩ := ih (d.unheard c)
    exact ⟨l, ws, hl⟩

theorem unheard_isSome (c : Cmd) (tag : Nat) (d : Dev) : ((d.unheard c).cmd tag).isSome = (d.cmd tag).isSome := by
  have hset : (d.unheard c).cmd tag = ((d.closeWindows (some c.tag)).setPhase c.tag (.done (Result.plain .hwFault))).cmd tag := rfl
  have hkeep : (d.closeWindows (some c.tag)).cmd tag = d.cmd tag := rfl
  rw [hset, Dev.setPhase, Dev.cmd, find_map_tag (by intro b; split <;> rfl), Option.isSome_map]
  exact congrArg Option.isSome hkeep

theorem unheard_ended (c : Cmd) {tag : Nat} {d : Dev} (h : (d.cmd tag).isSome = true) (hk : c.tag = tag ∨ d.ended tag = some (.gives .hwFault [])) :
    (d.unheard c).ended tag = some (.gives .hwFault []) := by
  by_cases hct : c.tag = tag
  · subst hct
    exact ended_fail (d := d.closeWindows (some c.tag)) h
  · have hold := hk.resolve_left hct
    obtain ⟨b, hb⟩ := Option.isSome_iff_exists.mp h
    have htag : b.tag ≠ c.tag := by
      rw [cmd_tag hb]
      exact Ne.symm hct
    have hcmd : (d.unheard c).cmd tag = some b := by
      have hset : (d.unheard c).cmd tag = ((d.closeWindows (some c.tag)).setPhase c.tag (.done (Result.plain .hwFault))).cmd tag := rfl
      have hkeep : (d.closeWindows (some c.tag)).cmds.find? (fun c => c.tag == tag) = some b := hb
      rw [hset, Dev.setPhase, Dev.cmd, find_map_tag (by intro b; split <;> rfl), hkeep, Option.map_some, if_neg htag]
    rw [Dev.ended, hcmd]
    rw [Dev.ended, hb] at hold
    exact hold

theorem unheards_ended (cs : List Cmd) {tag : Nat} {d : Dev} (h : (d.cmd tag).isSome = true)
    (hk : (∃ c ∈ cs, c.tag = tag) ∨ d.ended tag = some (.gives .hwFault [])) :
    (cs.foldl Dev.unheard d).ended tag = some (.gives .hwFault []) := by
  induction cs generalizing d with
  | nil =>
    rcases hk with ⟨c, hc, -⟩ | hk
    · cases hc
    · exact hk
  | cons c cs ih =>
    refine ih (by rw [unheard_isSome]; exact h) ?_
    by_cases hct : c.tag = tag
    · exact .inr (unheard_ended c h (.inl hct))
    · rcases hk with ⟨b, hb, htag⟩ | hk
      · rcases List.mem_cons.mp hb with rfl | hb
        · exact absurd htag hct
        · exact .inl ⟨b, hb, htag⟩
      · exact .inr (unheard_ended c h (.inr hk))

theorem pathLost_eq (d : Dev) : d.pathLost =
    if d.anyPath then d else (d.cmds.filter (fun c => d.uhf.windows.any (fun w => w.tag == some c.tag))).foldl Dev.unheard d := rfl

theorem pathLost_frame (d : Dev) : ∃ l ws, d.pathLost = { d with cmds := l, uhf := { d.uhf with windows := ws } } := by
  rw [pathLost_eq]
  split
  · exact ⟨_, _, rfl⟩
  · exact unheard_frame _ d

theorem pathLost_anyPath (d : Dev) : d.pathLost.anyPath = d.anyPath := by
  obtain ⟨l, ws, h⟩ := pathLost_frame d
  rw [h]
  rfl

/-- UHF_UNLOCK and UHF_RF_FAULT: the source, and with no path left every command that listens has ended HW_FAULT (R228). -/
theorem pathFault_answers {i : Instr} {f : Dev → Dev} {n : Nat} {a b : List Bool} {s : State} {path : Nat} (h : s.hostUp = true) (hpath : path < 2)
    (he : exec i s = run f s)
    (hf : f s.toDev = if !s.pathMeets path then s.toDev else (Dev.signal n { s.toDev with uhf := { s.uhf with unlocked := a, faulted := b } }).pathLost) :
    Answers i s fun t => Raised n s.toDev t ∧ t.uhf.unlocked = a ∧ t.uhf.faulted = b ∧ t.uhf.seqs = s.uhf.seqs ∧
      EventsOnly { s.toDev with uhf := t.uhf } t ∧ (t.anyPath = true → t.cmds = s.cmds ∧ t.uhf.windows = s.uhf.windows) ∧
      (t.anyPath = false → ∀ c ∈ s.cmds, s.uhf.windows.any (fun w => w.tag == some c.tag) = true → t.ended c.tag = some (.gives .hwFault [])) := by
  have hmeets : s.pathMeets path = true := by
    rw [Dev.pathMeets, awake_of_hostUp h, decide_eq_true hpath]
    rfl
  rw [hmeets, if_neg (by decide)] at hf
  obtain ⟨w, hw⟩ : ∃ w : Uhf, { s.uhf with unlocked := a, faulted := b } = w := ⟨_, rfl⟩
  rw [hw] at hf
  obtain ⟨hraised, huhf, hothers⟩ := signal_over (p := .uhf) (u := { s.toDev with uhf := w }) n h (by decide) (fun pt hpt => Dev.get_with_uhf w s.toDev hpt)
  obtain ⟨u, hu⟩ : ∃ u, Dev.signal n { s.toDev with uhf := w } = u := ⟨_, rfl⟩
  rw [hu] at hf hraised huhf hothers
  have huw : u.uhf = w := huhf
  have hcmds : u.cmds = s.cmds := hothers .cmds (by decide)
  obtain ⟨l, ws, hlost⟩ := pathLost_frame u
  have hget (pt : Part) (hpt : pt ∉ [.cmds, .uhf]) : u.pathLost.get pt = u.get pt := by
    simp only [List.mem_cons, List.not_mem_nil, or_false, not_or] at hpt
    rw [hlost]
    exact (Dev.get_with_uhf _ { u with cmds := l } hpt.2).trans (Dev.get_with_cmds l u hpt.1)
  have huf : u.pathLost.uhf = { w with windows := ws } := by rw [hlost, huw]
  refine answers_still he hf ?_ ⟨raised_of_clock_evc hraised (hget .clock (by decide)) (hget .evc (by decide)), ?_, ?_, ?_, ?_, fun hany => ?_,
    fun hany c hc hwin => ?_⟩
  · exact congrArg Journal.nextNumber ((hget .jrnl (by decide)).trans (hothers .jrnl (by decide)))
  · rw [huf, ← hw]
  · rw [huf, ← hw]
  · rw [huf, ← hw]
  · exact eventsOnly_uhf fun pt hpt => (hget pt (not_mem_of_subset (by decide) hpt)).trans (hothers pt (not_mem_of_subset (by decide) hpt))
  · rw [pathLost_anyPath] at hany
    rw [pathLost_eq, if_pos hany, huw, ← hw]
    exact ⟨hcmds, rfl⟩
  · rw [pathLost_anyPath] at hany
    rw [pathLost_eq, if_neg (by rw [hany]; decide), hcmds, huw, ← hw]
    refine unheards_ended _ ?_ (.inl ⟨c, List.mem_filter.mpr ⟨hc, hwin⟩, rfl⟩)
    rw [cmd_of_cmds hcmds, Dev.cmd, List.find?_isSome]
    exact ⟨c, hc, beq_self_eq_true _⟩

/-! ### The squelch's estimate (R533) -/

/-- The saturation check in RUN leaves all but the clock and the event controller. -/
theorem satCheck_awake {d : Dev} (h : d.pwr.dev ≠ .doze) {pt : Part} (hpt : pt ∉ [.clock, .evc]) : d.satCheck.get pt = d.get pt := by
  unfold Dev.satCheck
  split
  · exact Dev.ends_get 157 d fun hm => hpt (by rw [hm]; decide)
  · unfold Dev.alsoStarts
    split
    · rfl
    · rw [undoze_awake h]
      exact Dev.arises_get 157 d hpt

theorem putLoop_same {n : Nat} {d : Dev} {l : Loop} (h : n < d.bg.loops.length) : (d.putLoop n l).loop n = l := by
  show (d.bg.loops.set n l).getD n ⟨0, false, false, none, false⟩ = l
  rw [List.getD_eq_getElem?_getD, List.getElem?_set_self h]
  rfl

theorem putLoop_other {n m : Nat} {d : Dev} {l : Loop} (h : m ≠ n) : (d.putLoop n l).loop m = d.loop m := by
  show (d.bg.loops.set n l).getD m ⟨0, false, false, none, false⟩ = _
  rw [List.getD_eq_getElem?_getD, List.getElem?_set_ne h.symm, ← List.getD_eq_getElem?_getD]
  rfl

theorem loop_of_bg {s t : Dev} (h : t.bg = s.bg) (n : Nat) : t.loop n = s.loop n := by rw [Dev.loop, h, Dev.loop]

/-- A loop that is not pinned takes a new estimate in RUN, and no other loop changes (R524). -/
theorem setEst_says {n v : Nat} {d : Dev} (hd : d.pwr.dev ≠ .doze) (hn : n < d.bg.loops.length) (hp : (d.loop n).pinned = false) :
    (d.setEst n v).loop n = { d.loop n with est := v, below := false } ∧ (∀ m, m ≠ n → (d.setEst n v).loop m = d.loop m) ∧
    (∀ pt, pt ∉ [.clock, .evc, .bg] → (d.setEst n v).get pt = d.get pt) := by
  have hrow : d.setEst n v = (d.putLoop n { d.loop n with est := v, below := false }).satCheck := if_neg (by rw [hp]; decide)
  have hget (pt : Part) (hpt : pt ∉ [.clock, .evc]) := satCheck_awake (d := d.putLoop n { d.loop n with est := v, below := false }) hd hpt
  have hbg : (d.setEst n v).bg = (d.putLoop n { d.loop n with est := v, below := false }).bg := by
    rw [hrow]
    exact hget .bg (by decide)
  refine ⟨(loop_of_bg hbg n).trans (putLoop_same hn), fun m hm => (loop_of_bg hbg m).trans (putLoop_other hm), fun pt hpt => ?_⟩
  rw [hrow]
  exact (hget pt (not_mem_of_subset (by decide) hpt)).trans (Dev.get_with_bg _ d fun hm => hpt (by rw [hm]; decide))

theorem squelchMeasure_answers {path code : Nat} {s : State} (h : s.hostUp = true) (hpath : path < 2) (hlen : s.bg.loops.length = 13)
    (hon : s.domOn (5 + path) = true) (hpin : (s.loop (9 + path)).pinned = false) : Answers (.squelchMeasure path code) s fun t =>
      (t.loop (9 + path)).est = (if (s.loop (9 + path)).est < code + 12 then min (code + 12) ((s.loop (9 + path)).est + 4)
        else max (code + 12) ((s.loop (9 + path)).est - 4)) ∧
      (∀ m, m ≠ 9 + path → t.loop m = s.loop m) ∧ EventsOnly s.toDev t := by
  obtain ⟨v, hv⟩ : ∃ v, (if (s.loop (9 + path)).est < code + 12 then min (code + 12) ((s.loop (9 + path)).est + 4)
        else max (code + 12) ((s.loop (9 + path)).est - 4)) = v := ⟨_, rfl⟩
  have hrow : squelchMeasure path code s.toDev = s.setEst (9 + path) v := by
    rw [squelchMeasure, awake_of_hostUp h, hon, if_neg (by simp; omega), ← hv]
  obtain ⟨hsame, hother, hget⟩ := setEst_says (v := v) (not_doze_of_run (run_of_hostUp h)) (by rw [hlen]; omega) hpin
  rw [hv]
  refine answers_still (f := squelchMeasure path code) rfl hrow (congrArg Journal.nextNumber (hget .jrnl (by decide))) ⟨by rw [hsame], hother,
    eventsOnly_of_get fun pt hpt => hget pt (not_mem_of_subset (by decide) hpt)⟩

/-- Settles O14: each window, fault and measurement by its own row. -/
theorem uhfEvents : Obligations.UhfEvents := by
  unfold Obligations.UhfEvents
  refine fun path code held unit s h hpath hlen => ⟨fun i close hleast hp w tag c st mask slot target peaks hw htag hc hphase =>
    listenWindowClose_answers h hleast hp hw htag hc hphase, uhfJam_begins h hpath, uhfJam_quiet h hpath, ?_, synthesiserRelock_answers unit s,
    squelchMeasure_answers h hpath hlen⟩
  simp only [List.forall_mem_cons, List.not_mem_nil, false_implies, implies_true, and_true]
  exact ⟨pathFault_answers h hpath (f := uhfUnlock path) rfl rfl, pathFault_answers h hpath (f := uhfRfFault path) rfl rfl⟩

end Sys2Proof.Machine
end

section
/-!
PROOFS. Aerial faults, the supply limit and the trim atom (R190, R209, R210).
-/

namespace Sys2Proof.Machine

/-! ### Faults latched (R190) -/

theorem putAerial_same {n : Nat} (a : Aerial) {d : Dev} (h : n < d.lf.aerials.length) : (d.putAerial n a).aerial n = a := by
  simp [Dev.putAerial, Dev.aerial, List.getD_eq_getElem?_getD, h]

/-- What latching faults in RUN leaves: only the aerials, the clock and the event controller differ. -/
structure Latched (d t : Dev) : Prop where
  others : ∀ pt, pt ∉ [.lf, .clock, .evc] → t.get pt = d.get pt
  lf : t.lf = { d.lf with aerials := t.lf.aerials }
  length : t.lf.aerials.length = d.lf.aerials.length

namespace Latched

variable {d t u : Dev}

theorem refl (d : Dev) : Latched d d := ⟨fun _ _ => rfl, rfl, rfl⟩

theorem trans (h : Latched d t) (k : Latched t u) : Latched d u :=
  ⟨fun pt hpt => (k.others pt hpt).trans (h.others pt hpt), by rw [k.lf, h.lf], k.length.trans h.length⟩

theorem dev (h : Latched d t) : t.pwr.dev = d.pwr.dev := congrArg Power.dev (h.others .pwr (by decide))

theorem only {s t : Dev} (h : Latched s t) : EventsOnly { s with lf := { s.lf with aerials := t.lf.aerials } } t := by
  rw [← h.lf]
  exact eventsOnly_lf fun pt hpt => h.others pt (not_mem_of_subset (by decide) hpt)

end Latched

theorem latchFault_latched {b n : Nat} {d : Dev} (hd : d.pwr.dev ≠ .doze) : Latched d (d.latchFault b n) := by
  unfold Dev.latchFault
  dsimp only
  split
  · exact .refl d
  · obtain ⟨a, ha⟩ : ∃ a, ({ d.aerial n with diag := (d.aerial n).diag ||| 2 ^ b ||| (if b = 0 then 0 else 16) } : Aerial) = a := ⟨_, rfl⟩
    rw [ha, signal_awake _ (by exact hd)]
    have hget (pt : Part) (hpt : pt ∉ [.clock, .evc]) := Dev.event_get (48 + n) (d.putAerial n a) hpt
    have hlf : ((d.putAerial n a).event (48 + n)).lf = (d.putAerial n a).lf := hget .lf (by decide)
    refine ⟨fun pt hpt => (hget pt (not_mem_of_subset (by decide) hpt)).trans (Dev.get_with_lf _ d fun hm => hpt (by rw [hm]; decide)), ?_, ?_⟩
    · rw [hlf]
      rfl
    · rw [hlf]
      exact List.length_set

theorem latchFault_same {b n : Nat} {d : Dev} (hb : b ≠ 0) (h : n < d.lf.aerials.length) : (d.latchFault b n).aerial n =
    if bit b (d.aerial n).diag then d.aerial n else { d.aerial n with diag := (d.aerial n).diag ||| 2 ^ b ||| 16 } := by
  unfold Dev.latchFault
  dsimp only
  split
  · rfl
  · rw [signal_aerial, putAerial_same _ h]

theorem mod_or_two (x b : Nat) (hb : 3 ≤ b) : (x ||| 2 ^ b) % 8 = x % 8 := by
  refine Nat.eq_of_testBit_eq fun i => ?_
  rw [show 8 = 2 ^ 3 from rfl, Nat.testBit_mod_two_pow, Nat.testBit_mod_two_pow, Nat.testBit_or, Nat.testBit_two_pow]
  by_cases hi : i < 3
  · simp [hi, show b ≠ i by omega]
  · simp [hi]

/-- OVERTEMP shuts no aerial: it is not among the faults that drop one (R197). -/
theorem latchFault_shut {n m : Nat} {d : Dev} (h : n < d.lf.aerials.length) : (d.latchFault 3 n).aerialShut m = d.aerialShut m := by
  unfold Dev.aerialShut
  by_cases hm : n = m
  · subst hm
    rw [latchFault_same (by decide) h]
    split
    · rfl
    · dsimp only
      rw [show 16 = 2 ^ 4 from rfl, mod_or_two _ 4 (by decide), mod_or_two _ 3 (by decide)]
  · rw [latchFault_aerial 3 d hm]

theorem bit_latched (b : Nat) (x : Nat) : bit b (x ||| 2 ^ b ||| 16) = true := by
  rw [bit, Nat.testBit_or, Nat.testBit_or, Nat.testBit_two_pow]
  simp

/-- A bank of aerials latched one by one with OVERTEMP (R190). -/
def Dev.overtemps (k : Nat) (is : List Nat) (d : Dev) : Dev := is.foldl (fun d i => d.latchFault 3 (k + i)) d

theorem overtemps_says {k : Nat} (is : List Nat) {d : Dev} (hd : d.pwr.dev ≠ .doze) (hlen : ∀ i ∈ is, k + i < d.lf.aerials.length) :
    Latched d (d.overtemps k is) ∧ (∀ m, (d.overtemps k is).aerialShut m = d.aerialShut m) ∧
    (∀ m, (∀ i ∈ is, k + i ≠ m) → (d.overtemps k is).aerial m = d.aerial m) ∧
    (∀ m, (bit 3 (d.aerial m).diag = true ∨ ∃ i ∈ is, k + i = m) → bit 3 ((d.overtemps k is).aerial m).diag = true) := by
  induction is generalizing d with
  | nil =>
    refine ⟨.refl d, fun _ => rfl, fun _ _ => rfl, fun m hm => hm.resolve_right ?_⟩
    rintro ⟨i, hi, -⟩
    cases hi
  | cons i is ih =>
    have hfirst := latchFault_latched (b := 3) (n := k + i) hd
    have hi : k + i < d.lf.aerials.length := hlen i List.mem_cons_self
    obtain ⟨hlat, hshut, hkeep, hset⟩ := ih (d := d.latchFault 3 (k + i)) (by rw [hfirst.dev]; exact hd)
      (fun j hj => by rw [hfirst.length]; exact hlen j (List.mem_cons_of_mem i hj))
    refine ⟨hfirst.trans hlat, fun m => (hshut m).trans (latchFault_shut hi), fun m hm => ?_, fun m hm => hset m ?_⟩
    · exact (hkeep m fun j hj => hm j (List.mem_cons_of_mem i hj)).trans (latchFault_aerial 3 d (hm i List.mem_cons_self))
    · by_cases hki : k + i = m
      · left
        subst hki
        rw [latchFault_same (by decide) hi]
        split
        · assumption
        · exact bit_latched 3 _
      · rcases hm with hm | ⟨j, hj, hkj⟩
        · left
          rw [latchFault_aerial 3 d hki]
          exact hm
        · rcases List.mem_cons.mp hj with rfl | hj
          · exact absurd hkj hki
          · exact .inr ⟨j, hj, hkj⟩

theorem coilLost_up {d : Dev} (h : d.aerialShut 7 = false) : d.coilLost = d := if_neg (by rw [h]; decide)

theorem pollLost_up {d : Dev} (h : d.pwr.dev = .run) : d.pollLost = d := if_neg (by rw [h]; simp)

theorem aerialFault_eq {n b : Nat} {d : Dev} (hn : n < 8) (hb : b < 4) (h0 : b ≠ 0) : aerialFault n b d = (d.faultOn b n).coilLost.pollLost := by
  rw [aerialFault, if_neg (by simp; omega)]

section
variable {s : State} (h : s.hostUp = true) (hlen : s.lf.aerials.length = 8)
include h hlen

theorem aerialFault_short {n b : Nat} (hn : n < 7) (hb : b = 1 ∨ b = 2) (hbit : bit b (s.aerial n).diag = false) (h7 : s.aerialShut 7 = false) :
    Answers (.aerialFault n b) s fun t =>
      t.aerial n = { s.aerial n with diag := (s.aerial n).diag ||| 2 ^ b ||| 16 } ∧ (∀ m, m ≠ n → t.aerial m = s.aerial m) ∧
      Raised (48 + n) s.toDev t ∧ EventsOnly { s.toDev with lf := { s.lf with aerials := t.lf.aerials } } t := by
  have hrun := run_of_hostUp h
  have hb0 : b ≠ 0 := by omega
  have hlat := latchFault_latched (b := b) (n := n) (not_doze_of_run hrun)
  have hshut : (s.latchFault b n).aerialShut 7 = false := by
    rw [Dev.aerialShut, latchFault_aerial b s.toDev (by omega)]
    exact h7
  have hrow : aerialFault n b s.toDev = s.latchFault b n := by
    have hfault : s.faultOn b n = s.latchFault b n := if_neg (by omega)
    rw [aerialFault_eq (by omega) (by omega) hb0, hfault, coilLost_up hshut, pollLost_up (by rw [hlat.dev]; exact hrun)]
  obtain ⟨a, ha⟩ : ∃ a, ({ s.aerial n with diag := (s.aerial n).diag ||| 2 ^ b ||| 16 } : Aerial) = a := ⟨_, rfl⟩
  have hsig : s.latchFault b n = (s.putAerial n a).signal (48 + n) := by
    rw [Dev.latchFault, hbit, if_neg hb0, ← ha]
    rfl
  obtain ⟨hraised, -⟩ := signal_over (u := s.putAerial n a) (p := .lf) (48 + n) h (by decide) (fun pt hpt => Dev.get_with_lf _ s.toDev hpt)
  rw [← hsig] at hraised
  refine answers_still (f := aerialFault n b) rfl hrow (congrArg Journal.nextNumber (hlat.others .jrnl (by decide))) ⟨?_, fun m hm =>
    latchFault_aerial b s.toDev hm.symm, hraised, hlat.only⟩
  rw [latchFault_same hb0 (by rw [hlen]; omega), hbit]
  rfl

theorem aerialFault_overtemp {n : Nat} (hn : n < 8) (h7 : s.aerialShut 7 = false) : Answers (.aerialFault n 3) s fun t =>
    (∀ i, i < 4 → bit 3 (t.aerial (n / 4 * 4 + i)).diag = true) ∧ (∀ m, m / 4 ≠ n / 4 → t.aerial m = s.aerial m) ∧
    EventsOnly { s.toDev with lf := { s.lf with aerials := t.lf.aerials } } t := by
  have hrun := run_of_hostUp h
  obtain ⟨hlat, hshut, hkeep, hset⟩ := overtemps_says (k := n / 4 * 4) (List.range 4) (not_doze_of_run hrun) (d := s.toDev)
    (fun i hi => by have := List.mem_range.mp hi; rw [hlen]; omega)
  have hrow : aerialFault n 3 s.toDev = s.overtemps (n / 4 * 4) (List.range 4) := by
    have hfault : s.faultOn 3 n = s.overtemps (n / 4 * 4) (List.range 4) := if_pos rfl
    rw [aerialFault_eq hn (by decide) (by decide), hfault, coilLost_up (by rw [hshut]; exact h7), pollLost_up (by rw [hlat.dev]; exact hrun)]
  refine answers_still (f := aerialFault n 3) rfl hrow (congrArg Journal.nextNumber (hlat.others .jrnl (by decide))) ⟨fun i hi =>
    hset _ (.inr ⟨i, List.mem_range.mpr hi, rfl⟩), fun m hm => hkeep m fun i hi hm' => ?_, hlat.only⟩
  have := List.mem_range.mp hi
  omega

/-- A short of aerial 7 ends a TRANSPONDER_READ on it (R232). -/
theorem aerialFault_coil {b : Nat} {c : Cmd} {w : Work} (hb : b = 1 ∨ b = 2) (hfind : s.cmds.find? (fun c => c.op == 0x16 && c.executing) = some c)
    (hcmd : s.cmd c.tag = some c) (hphase : c.phase = .running w) : Answers (.aerialFault 7 b) s fun t =>
      t.ended c.tag = some (.gives .hwFault []) ∧ t.rel = s.rel ∧ t.sets = s.sets := by
  have hrun := run_of_hostUp h
  have hb0 : b ≠ 0 := by omega
  have hlat := latchFault_latched (b := b) (n := 7) (not_doze_of_run hrun)
  obtain ⟨u, hu⟩ : ∃ u, s.latchFault b 7 = u := ⟨_, rfl⟩
  have hshut : u.aerialShut 7 = true := by
    have hlow (x : Nat) (hx : bit b x = true) : (x % 8 != 0) = true := by
      rw [bne_iff_ne]
      intro h0
      have hbit : (x % 2 ^ 3).testBit b = true := by
        rw [Nat.testBit_mod_two_pow, decide_eq_true (by omega), Bool.true_and]
        exact hx
      rw [show 2 ^ 3 = 8 from rfl, h0, Nat.zero_testBit] at hbit
      cases hbit
    rw [← hu]
    refine hlow _ ?_
    rw [latchFault_same hb0 (by rw [hlen]; decide)]
    split
    · assumption
    · exact bit_latched b _
  rw [hu] at hlat
  have hcmds : u.cmds = s.cmds := hlat.others .cmds (by decide)
  have hlost : u.coilLost = (u.dropWork c.tag).fail c.tag .hwFault := by
    rw [Dev.coilLost, if_pos hshut, hcmds, hfind]
    dsimp only
    rw [hphase]
  obtain ⟨t, ht⟩ : ∃ t, (u.dropWork c.tag).fail c.tag .hwFault = t := ⟨_, rfl⟩
  have hdrop (pt : Part) (hpt : pt ∉ [.lf, .uhf, .uwb, .ham, .kw]) := Dev.dropWork_get c.tag u hpt
  have hget (pt : Part) (hpt : pt ∉ [.cmds, .lf, .uhf, .uwb, .ham, .kw]) : t.get pt = u.get pt := by
    rw [← ht]
    exact (Dev.get_with_cmds _ (u.dropWork c.tag) fun hm => hpt (by rw [hm]; decide)).trans (hdrop pt (not_mem_of_subset (by decide) hpt))
  have hrow : aerialFault 7 b s.toDev = t := by
    have hfault : s.faultOn b 7 = s.latchFault b 7 := if_neg (by omega)
    rw [aerialFault_eq (by decide) (by omega) hb0, hfault, hu, hlost, ht, pollLost_up]
    rw [show t.pwr = u.pwr from hget .pwr (by decide), hlat.dev]
    exact hrun
  refine answers_still (f := aerialFault 7 b) rfl hrow (congrArg Journal.nextNumber ((hget .jrnl (by decide)).trans (hlat.others .jrnl (by decide))))
    ⟨?_, (hget .rel (by decide)).trans (hlat.others .rel (by decide)), (hget .sets (by decide)).trans (hlat.others .sets (by decide))⟩
  rw [← ht]
  refine ended_fail ?_
  rw [cmd_of_cmds ((hdrop .cmds (by decide)).trans hcmds), hcmd]
  rfl

end

/-! ### The end of an overtemperature (R190) -/

/-- An aerial with OVERTEMP off: its bridge stays off only for a short (R190). -/
def Aerial.cooled (a : Aerial) : Aerial := { a with diag := (a.diag &&& 7) ||| (if a.diag &&& 6 = 0 then 0 else 16) }

/-- OVERTEMP off some aerials of a bank. -/
def Dev.cooled (k : Nat) (is : List Nat) (d : Dev) : Dev := is.foldl (fun d i => d.putAerial (k + i) (d.aerial (k + i)).cooled) d

theorem bridgeOvertempClear_eq (bank : Nat) (d : Dev) : bridgeOvertempClear bank d = d.cooled (bank % 2 * 4) (List.range 4) := by
  have hcool (a : Aerial) : ({ a with diag := if a.diag &&& 6 = 0 then a.diag &&& 7 else (a.diag &&& 7) ||| 16 } : Aerial) = a.cooled := by
    rw [Aerial.cooled]
    split
    · rw [Nat.or_zero]
    · rfl
  simp only [bridgeOvertempClear, Dev.cooled, hcool]

theorem cooled_aerial {k m : Nat} {is : List Nat} {d : Dev} (hnd : is.Nodup) (hlen : ∀ i ∈ is, k + i < d.lf.aerials.length) :
    (d.cooled k is).aerial m = if ∃ i ∈ is, k + i = m then (d.aerial m).cooled else d.aerial m := by
  induction is generalizing d with
  | nil => simp [Dev.cooled]
  | cons i is ih =>
    obtain ⟨hi, hnd⟩ := List.nodup_cons.mp hnd
    have hfirst : k + i < d.lf.aerials.length := hlen i List.mem_cons_self
    have hstep : (d.cooled k (i :: is)).aerial m = ((d.putAerial (k + i) (d.aerial (k + i)).cooled).cooled k is).aerial m := rfl
    rw [hstep, ih hnd fun j hj => (hlen j (List.mem_cons_of_mem i hj)).trans_eq List.length_set.symm]
    by_cases hm : k + i = m
    · subst hm
      rw [putAerial_same _ hfirst, if_neg, if_pos ⟨i, List.mem_cons_self, rfl⟩]
      rintro ⟨j, hj, hji⟩
      exact hi ((show j = i by omega) ▸ hj)
    · rw [putAerial_aerial _ d hm]
      simp [hm]

theorem cooled_frame (k : Nat) (is : List Nat) (d : Dev) : ∃ as, d.cooled k is = { d with lf := { d.lf with aerials := as } } := by
  induction is generalizing d with
  | nil => exact ⟨_, rfl⟩
  | cons i is ih =>
    obtain ⟨as, has⟩ := ih (d.putAerial (k + i) (d.aerial (k + i)).cooled)
    exact ⟨as, has⟩

theorem bridgeOvertempClear_answers {bank : Nat} {s : State} (hlen : s.lf.aerials.length = 8) :
    Answers (.bridgeOvertempClear bank) s (fun t => t = { s.toDev with lf := { s.lf with aerials := t.lf.aerials } } ∧
      ∀ m, m < 8 → t.aerial m = if m / 4 = bank % 2 then
        { s.aerial m with diag := ((s.aerial m).diag &&& 7) ||| (if (s.aerial m).diag &&& 6 = 0 then 0 else 16) } else s.aerial m) := by
  have hb : bank % 2 < 2 := Nat.mod_lt _ (by decide)
  obtain ⟨as, has⟩ := cooled_frame (bank % 2 * 4) (List.range 4) s.toDev
  refine answers_still (f := bridgeOvertempClear bank) rfl (bridgeOvertempClear_eq bank s.toDev) (by rw [has]) ⟨by rw [has], fun m hm => ?_⟩
  rw [cooled_aerial List.nodup_range fun i hi => by have := List.mem_range.mp hi; rw [hlen]; omega]
  refine if_congr ⟨?_, fun hbank => ⟨m % 4, List.mem_range.mpr (Nat.mod_lt _ (by decide)), by omega⟩⟩ rfl rfl
  rintro ⟨i, hi, him⟩
  have := List.mem_range.mp hi
  omega

/-! ### The supply limit (R209) -/

theorem vlfLimit_begins {mv : Nat} {s : State} (h : s.hostUp = true) (hc : s.evc.cond.getD 63 false = false) (hmv : mv < s.setting 0x020021) :
    Answers (.vlfLimit mv) s fun t => Raised 63 s.toDev t ∧ t.evc.cond = s.evc.cond.set 63 true ∧
      t.bg = { s.bg with vlfLimit := true } ∧ EventsOnly s.toDev t := by
  have hr : s.clock.rootOn = true := rootOn_of_hostUp h
  obtain ⟨u, hu⟩ : ∃ u, { s.toDev with bg := { s.bg with vlfLimit := true } } = u := ⟨_, rfl⟩
  have hothers (pt : Part) (hpt : pt ≠ .bg) : u.get pt = s.get pt := by
    rw [← hu]
    exact Dev.get_with_bg _ s.toDev hpt
  have hclock : u.clock = s.clock := hothers .clock (by decide)
  have hevc : u.evc = s.evc := hothers .evc (by decide)
  have hpwr : u.pwr = s.pwr := hothers .pwr (by decide)
  have hrow : vlfLimit mv s.toDev = u.begins 63 := by
    rw [vlfLimit, decide_eq_true hmv, ← starts_of_dev 63 (by rw [hpwr]; exact not_doze_of_run (run_of_hostUp h)), ← hu]
    rfl
  obtain ⟨hraised, hcond⟩ := begins_says (d := u) (n := 63) (by rw [hclock]; exact hr) (by rw [hevc]; exact hc)
  have hget (pt : Part) (hpt : pt ∉ [.clock, .evc]) := Dev.begins_get 63 u hpt
  refine answers_still (f := vlfLimit mv) rfl hrow (congrArg Journal.nextNumber ((hget .jrnl (by decide)).trans (hothers .jrnl (by decide))))
    ⟨raised_of_eq hraised (congrArg Clock.esn hclock) hevc, by rw [hcond, hevc], ?_, eventsOnly_of_get fun pt hpt => ?_⟩
  · refine (hget .bg (by decide)).trans ?_
    rw [← hu]
    rfl
  · exact (hget pt (not_mem_of_subset (by decide) hpt)).trans (hothers pt fun hm => hpt (by rw [hm]; decide))

theorem vlfLimit_ends {mv : Nat} {s : State} (hmv : s.setting 0x020021 ≤ mv) : Answers (.vlfLimit mv) s fun t => t = { s.toDev with
    evc := { s.evc with cond := s.evc.cond.set 63 false }, bg := { s.bg with vlfLimit := false } } := by
  have hrow : vlfLimit mv s.toDev = { s.toDev with evc := { s.evc with cond := s.evc.cond.set 63 false }, bg := { s.bg with vlfLimit := false } } := by
    rw [vlfLimit, decide_eq_false (by omega)]
    rfl
  exact answers_still (f := vlfLimit mv) rfl hrow rfl rfl

/-! ### The trim atom (R210) -/

/-- The loops of two devices have the same estimates and pins. -/
structure SameLoops (s t : Dev) : Prop where
  length : t.bg.loops.length = s.bg.loops.length
  est : ∀ m, (t.loop m).est = (s.loop m).est
  pinned : ∀ m, (t.loop m).pinned = (s.loop m).pinned

namespace SameLoops

variable {s t u : Dev}

theorem of_bg (h : t.bg.loops = s.bg.loops) : SameLoops s t :=
  ⟨by rw [h], fun m => by rw [Dev.loop, h, Dev.loop], fun m => by rw [Dev.loop, h, Dev.loop]⟩

theorem trans (h : SameLoops s t) (k : SameLoops t u) : SameLoops s u :=
  ⟨k.length.trans h.length, fun m => (k.est m).trans (h.est m), fun m => (k.pinned m).trans (h.pinned m)⟩

end SameLoops

theorem putLoop_sameLoops {n : Nat} {d : Dev} (b : Bool) : SameLoops d (d.putLoop n { d.loop n with overrode := b }) := by
  refine ⟨List.length_set, fun m => ?_, fun m => putLoop_pinned rfl⟩
  by_cases hm : m = n
  · subst hm
    by_cases hlen : m < d.bg.loops.length
    · rw [putLoop_same hlen]
    · show ((d.bg.loops.set m _).getD m ⟨0, false, false, none, false⟩).est = _
      rw [List.set_eq_of_length_le (by omega)]
      rfl
  · rw [putLoop_other hm]

theorem overrideCheck_sameLoops (n : Nat) (d : Dev) : SameLoops d (d.overrideCheck n) := by
  unfold Dev.overrideCheck
  dsimp only
  split
  · split
    · exact .of_bg rfl
    · refine (putLoop_sameLoops (n := n) true).trans (.of_bg ?_)
      have hbg (x : Draft) (e : Dev) : ((e.noteOn (loopPort n) oLoop x).alsoSignal 158).bg = e.bg :=
        (Dev.alsoSignal_get (pt := .bg) 158 _ (by decide)).trans (Dev.noteOn_get (pt := .bg) _ _ x e (by decide))
      exact (congrArg Background.loops (hbg _ _)).trans rfl
  · exact putLoop_sameLoops false

theorem lfHeat_sameLoops (d : Dev) : SameLoops d d.lfHeat := by
  unfold Dev.lfHeat
  dsimp only
  split
  · refine SameLoops.trans (.of_bg ?_) (overrideCheck_sameLoops 0 _)
    split
    · exact (congrArg Background.loops (Dev.starts_get (pt := .bg) 60 _ (by decide))).trans rfl
    · rfl
  · exact .of_bg rfl

/-- The measurements of a trim atom: the aerial's three peaks are taken, and its last atom is now (R210). -/
def Dev.trimMeasured (d : Dev) (n at_ above : Nat) : Dev :=
  let e := (d.lfHeat.drive []).wait ((d.lfHeat.drive []).now + ceilDiv (48 * 2 ^ 27) ((d.lfHeat.drive []).setting 0x020002))
  e.putAerial n { e.aerial n with
    ipeak := if d.trim n < e.loopCeil (n + 1) then above else at_
    atomTemp := e.trimTemp
    atomAt := e.now }

theorem trimMeasured_says {n at_ above : Nat} {d : Dev} (h : d.pwr.dev ≠ .doze) (hn : n < d.lf.aerials.length) :
    SameLoops d (d.trimMeasured n at_ above) ∧ Steady 1 d (d.trimMeasured n at_ above) ∧
    (∀ m, m ≠ n → (d.trimMeasured n at_ above).aerial m = d.aerial m) ∧ ((d.trimMeasured n at_ above).aerial n).diag = (d.aerial n).diag ∧
    (∃ l : Lf, (d.trimMeasured n at_ above).lf = { d.lf with aerials := l.aerials, airIcodes := l.airIcodes, airShapes := l.airShapes, airRamp := l.airRamp }) ∧
    (∀ pt, pt ∉ [.lf] ++ eventParts → (d.trimMeasured n at_ above).get pt = d.get pt) := by
  have hloops := lfHeat_sameLoops d
  have hsteady := lfHeat_steady h
  have hget (pt : Part) (hpt : pt ∉ [.clock, .pwr, .jrnl, .evc, .nv, .bg]) := Dev.lfHeat_get d hpt
  have hlf := lfHeat_lf d
  obtain ⟨e, he⟩ : ∃ e, d.lfHeat = e := ⟨_, rfl⟩
  rw [he] at hloops hsteady hget hlf
  obtain ⟨k, hk⟩ : ∃ k, (e.drive []).wait ((e.drive []).now + ceilDiv (48 * 2 ^ 27) ((e.drive []).setting 0x020002)) =
      { e.drive [] with clock := k } ∧ k.rootOn = e.clock.rootOn := ⟨_, rfl, wait_rootOn ..⟩
  obtain ⟨hk, hkroot⟩ := hk
  obtain ⟨u, hu⟩ : ∃ u, ({ e.drive [] with clock := k } : Dev) = u := ⟨_, rfl⟩
  obtain ⟨a, ha⟩ : ∃ a : Aerial, { u.aerial n with
    ipeak := if d.trim n < u.loopCeil (n + 1) then above else at_
    atomTemp := u.trimTemp
    atomAt := u.now } = a := ⟨_, rfl⟩
  have hrow : d.trimMeasured n at_ above = u.putAerial n a := by
    rw [Dev.trimMeasured, he, hk, hu]
    dsimp only
    rw [ha]
  have haer (m : Nat) : u.aerial m = d.aerial m := by
    rw [← hu]
    exact (aerial_of_lf hlf m : e.aerial m = d.aerial m)
  have hulen : n < u.lf.aerials.length := by
    rw [← hu]
    show n < e.lf.aerials.length
    rw [hlf]
    exact hn
  rw [hrow]
  refine ⟨hloops.trans (.of_bg (by rw [← hu]; rfl)), hsteady.before (by rw [← hu]; rfl) ?_ (by rw [← hu]; rfl),
    fun m hm => (putAerial_aerial a u hm.symm).trans (haer m), ?_, ⟨(u.putAerial n a).lf, ?_⟩, fun pt hpt => ?_⟩
  · rw [← hu]
    exact hkroot
  · rw [putAerial_same a hulen, ← ha]
    show (u.aerial n).diag = _
    rw [haer]
  · rw [← hlf, ← hu]
    rfl
  · have hpl : pt ≠ .lf := fun hm => hpt (by rw [hm]; decide)
    rw [← hu]
    refine (Dev.get_with_lf _ _ hpl).trans ((Dev.get_with_clock k (e.drive []) fun hm => hpt (by rw [hm]; decide)).trans
      ((Dev.drive_get [] e hpl).trans (hget pt (not_mem_of_subset (by decide) hpt))))

theorem wishBelow_says {n : Nat} {d : Dev} (hd : d.pwr.dev ≠ .doze) (hn : n < d.bg.loops.length) (hp : (d.loop n).pinned = false) :
    (d.wishBelow n).loop n = { d.loop n with est := 0, below := true } ∧ (∀ m, m ≠ n → (d.wishBelow n).loop m = d.loop m) ∧
    (∀ pt, pt ∉ [.clock, .evc, .bg] → (d.wishBelow n).get pt = d.get pt) := by
  have hrow : d.wishBelow n = (d.putLoop n { d.loop n with est := 0, below := true }).satCheck := if_neg (by rw [hp]; decide)
  have hget (pt : Part) (hpt : pt ∉ [.clock, .evc]) := satCheck_awake (d := d.putLoop n { d.loop n with est := 0, below := true }) hd hpt
  have hbg : (d.wishBelow n).bg = (d.putLoop n { d.loop n with est := 0, below := true }).bg := by
    rw [hrow]
    exact hget .bg (by decide)
  refine ⟨(loop_of_bg hbg n).trans (putLoop_same hn), fun m hm => (loop_of_bg hbg m).trans (putLoop_other hm), fun pt hpt => ?_⟩
  rw [hrow]
  exact (hget pt (not_mem_of_subset (by decide) hpt)).trans (Dev.get_with_bg _ d fun hm => hpt (by rw [hm]; decide))

/-- The estimate moves to the best of the three peaks; a wish beyond a bound is one step outside it (R210). -/
def Dev.trimMoved (n t below at_ above : Nat) (e : Dev) : Dev :=
  if at_ < above && below ≤ above then e.setEst (n + 1) (t + 1)
  else if at_ < below then (if t = 0 then e.wishBelow (n + 1) else e.setEst (n + 1) (t - 1))
  else e.setEst (n + 1) t

theorem trimMoved_says {n t below at_ above : Nat} {e : Dev} (hd : e.pwr.dev ≠ .doze) (hn : n + 1 < e.bg.loops.length) (hp : (e.loop (n + 1)).pinned = false) :
    ((e.trimMoved n t below at_ above).loop (n + 1)).est = (if at_ < above ∧ below ≤ above then t + 1 else if at_ < below then t - 1 else t) ∧
    (∀ m, m ≠ n + 1 → (e.trimMoved n t below at_ above).loop m = e.loop m) ∧
    (∀ pt, pt ∉ [.clock, .evc, .bg] → (e.trimMoved n t below at_ above).get pt = e.get pt) := by
  have hset (v : Nat) := setEst_says (v := v) hd hn hp
  have hwish := wishBelow_says hd hn hp
  unfold Dev.trimMoved
  by_cases hup : at_ < above ∧ below ≤ above
  · rw [if_pos (by simpa using hup), if_pos hup]
    obtain ⟨hsame, hother, hget⟩ := hset (t + 1)
    exact ⟨by rw [hsame], hother, hget⟩
  · rw [if_neg (by simpa using hup), if_neg hup]
    by_cases hdown : at_ < below
    · rw [if_pos hdown, if_pos hdown]
      by_cases ht : t = 0
      · rw [if_pos ht, ht]
        obtain ⟨hsame, hother, hget⟩ := hwish
        exact ⟨by rw [hsame], hother, hget⟩
      · rw [if_neg ht]
        obtain ⟨hsame, hother, hget⟩ := hset (t - 1)
        exact ⟨by rw [hsame], hother, hget⟩
    · rw [if_neg hdown, if_neg hdown]
      obtain ⟨hsame, hother, hget⟩ := hset t
      exact ⟨by rw [hsame], hother, hget⟩

theorem trimAtom_answers {n below at_ above : Nat} {s : State} (h : s.hostUp = true) (hlen : s.lf.aerials.length = 8) (hloops : s.bg.loops.length = 13)
    (hn : n < 8) (hok : s.aerialOk n = true) (hdue : s.trimDue n = true) (hpin : (s.loop (n + 1)).pinned = false) (hair : s.lf.emission = none)
    (hon : s.domOn 4 = true) (hfree : bit 0 s.host.fnBusy = false) (hbusy : s.atomBusy 0x02 = false) :
    Answers (.trimAtom n below at_ above) s fun t =>
      (t.loop (n + 1)).est = (if at_ < above ∧ below ≤ above then s.trim n + 1 else if at_ < below then s.trim n - 1 else s.trim n) ∧
      (∀ m, m ≠ n + 1 → (t.loop m).est = (s.loop m).est) ∧ (∀ m, m ≠ n → t.aerial m = s.aerial m) ∧
      (t.aerial n).diag = (s.aerial n).diag ∧ EventsOnly { s.toDev with lf := { s.lf with
        aerials := t.lf.aerials, airIcodes := t.lf.airIcodes, airShapes := t.lf.airShapes, airRamp := t.lf.airRamp } } t := by
  obtain ⟨d, hd⟩ : ∃ d, s.dueless 0x02 = d := ⟨_, rfl⟩
  have hdget (pt : Part) (hpt : pt ≠ .bg) : d.get pt = s.get pt := by
    rw [← hd]
    exact dueless_get 0x02 s.toDev hpt
  have hrun : d.pwr.dev = .run := (congrArg Power.dev (hdget .pwr (by decide))).trans (run_of_hostUp h)
  obtain ⟨hsame, hsteady, haer, hdiag, ⟨l, hlf⟩, hget⟩ := trimMeasured_says (n := n) (at_ := at_) (above := above) (d := d)
    (not_doze_of_run hrun) (by rw [← hd]; show n < s.lf.aerials.length; rw [hlen]; exact hn)
  obtain ⟨e, he⟩ : ∃ e, d.trimMeasured n at_ above = e := ⟨_, rfl⟩
  rw [he] at hsame hsteady haer hdiag hlf hget
  have hdloop (m : Nat) : d.loop m = s.loop m := by rw [← hd]; rfl
  obtain ⟨hest, hother, hmoved⟩ := trimMoved_says (n := n) (t := s.trim n) (below := below) (at_ := at_) (above := above) (e := e)
    (by rw [hsteady.dev, hrun]; decide) (by rw [hsame.length, ← hd]; show n + 1 < s.bg.loops.length; omega) (by rw [hsame.pinned, hdloop]; exact hpin)
  obtain ⟨t, ht⟩ : ∃ t, e.trimMoved n (s.trim n) below at_ above = t := ⟨_, rfl⟩
  rw [ht] at hest hother hmoved
  have hrow : trimAtom n below at_ above s.toDev = t.atomEnded := by
    refine (atom_runs (unit := 0x02) (run_of_hostUp h) ?_ hfree hbusy).trans ?_
    · intro m hm
      rw [show m = 4 by simpa [unitFn, fnDomains] using hm]
      exact hon
    · have hgo : (decide (8 ≤ n) || !d.aerialOk n || (d.loop (n + 1)).pinned || d.emitting || !d.trimDue n) = false := by
        have hemit : d.emitting = false := by
          rw [Dev.emitting, show d.lf = s.lf from hdget .lf (by decide), hair]
        rw [hdloop, hpin, hemit, ← hd]
        simp only [Bool.or_false]
        rw [show (s.dueless 0x02).aerialOk n = true from hok, show (s.dueless 0x02).trimDue n = true from hdue]
        simpa using hn
      rw [← ht, ← he, hd, hgo]
      rw [show s.trim n = d.trim n by rw [← hd]; rfl]
      rfl
  have htlf : t.lf = e.lf := hmoved .lf (by decide)
  have hjrnl : t.jrnl = e.jrnl := hmoved .jrnl (by decide)
  have hdj : d.jrnl = s.jrnl := hdget .jrnl (by decide)
  refine answers_room (f := trimAtom n below at_ above) rfl (.inr ?_) ?_
  · rw [hrow]
    show t.jrnl.buf.length < 960
    have hbuf := hsteady.buf
    have h900 := (hostUp_iff.mp h).2.2.2.2
    rw [hdj] at hbuf
    rw [hjrnl]
    omega
  · rw [hrow]
    have hloop (m : Nat) : t.atomEnded.loop m = t.loop m := rfl
    have haerial (m : Nat) : t.atomEnded.aerial m = e.aerial m := aerial_of_lf htlf m
    have hsaer (m : Nat) : d.aerial m = s.aerial m := aerial_of_lf (hdget .lf (by decide)) m
    refine ⟨hest, fun m hm => ?_, fun m hm => ?_, ?_, ?_⟩
    · rw [hloop, hother m hm, hsame.est, hdloop]
    · rw [haerial, haer m hm, hsaer]
    · rw [haerial, hdiag, hsaer]
    · have hfin : t.atomEnded.lf = { s.lf with aerials := l.aerials, airIcodes := l.airIcodes, airShapes := l.airShapes, airRamp := l.airRamp } := by
        show t.lf = _
        rw [htlf, hlf, show d.lf = s.lf from hdget .lf (by decide)]
      have hlf2 : { s.lf with aerials := t.atomEnded.lf.aerials, airIcodes := t.atomEnded.lf.airIcodes
                              airShapes := t.atomEnded.lf.airShapes, airRamp := t.atomEnded.lf.airRamp } = t.atomEnded.lf := by rw [hfin]
      rw [hlf2]
      refine eventsOnly_lf fun pt hpt => ?_
      exact (atomEnded_get t fun hm => hpt (by rw [hm]; decide)).trans ((hmoved pt (not_mem_of_subset (by decide) hpt)).trans
        ((hget pt hpt).trans (hdget pt fun hm => hpt (by rw [hm]; decide))))

/-- Settles O9: each fault, supply reading and atom by its own row. -/
theorem aerialEvents : Obligations.AerialEvents := by
  unfold Obligations.AerialEvents
  refine fun n b bank mv below at_ above s hlen hloops _ h => ⟨fun hn hb hbit h7 => aerialFault_short h hlen hn hb hbit h7,
    fun hn h7 => aerialFault_overtemp h hlen hn h7, fun c w hb hfind hcmd hphase => aerialFault_coil h hlen hb hfind hcmd hphase,
    bridgeOvertempClear_answers hlen, fun hc hmv => vlfLimit_begins h hc hmv, vlfLimit_ends,
    fun hn hok hdue hpin hair hon hfree hbusy => trimAtom_answers h hlen hloops hn hok hdue hpin hair hon hfree hbusy⟩

end Sys2Proof.Machine
end

section
/-!
PROOFS. The backup transponder: TRANSPONDER_READ and what its exchange comes to (R232, R233).
-/

namespace Sys2Proof.Machine

/-! ### TRANSPONDER_READ (R232, R233) -/

/-- The exchange as TRANSPONDER_READ begins it. -/
def newTp (c : Cmd) (nb : Bytes) : TpRun :=
  { stage := 0, icode := c.w 7, minDepth := if c.w 6 = 0 then 20 else c.w 6, expect := c.w2 8, nb, crcEnd := 0, slot := 0, token := 0, depth := 0
    turn := 0 }

/-- The charge phase begins: what TRANSPONDER_READ leaves behind its checks. -/
def Dev.charged (tag : Nat) (c : Cmd) (d : Dev) : Dev :=
  ((d.draw 8).2.emit (.command tag) 0x80 32 625 (List.replicate 8 (c.w 7))).setTp tag (newTp c (d.draw 8).1)

theorem charged_get {pt : Part} (tag : Nat) (c : Cmd) (d : Dev) (h : pt ∉ [.lf, .anvil] ++ eventParts) : (d.charged tag c).get pt = d.get pt :=
  (Dev.setTp_get _ _ _ (by intro hm; exact h (by rw [hm]; decide))).trans
    ((Dev.emit_get _ _ _ _ _ _ (not_mem_of_subset (by decide) h)).trans (Dev.draw_get 8 d (by intro hm; exact h (by rw [hm]; decide))))

theorem draw_cmds (n : Nat) (d : Dev) : (d.draw n).2.cmds = d.cmds := Dev.draw_get (pt := .cmds) n d (by decide)

theorem charged_working {tag : Nat} {c : Cmd} {d : Dev} (h : (d.cmd tag).isSome = true) :
    (d.charged tag c).working tag = some (.transponder (newTp c (d.draw 8).1)) := by
  refine working_setPhase ?_
  rw [cmd_of_cmds ((Dev.emit_get (pt := .cmds) (.command tag) 0x80 32 625 (List.replicate 8 (c.w 7)) (d.draw 8).2 (by decide)).trans (draw_cmds 8 d))]
  exact h

theorem transponderRead_eq {tag : Nat} {c : Cmd} {s : Dev} (h : s.canRun 0x16 tag c = true) (h6 : c.w 6 < 256) (h7 : c.w 7 ≤ 30)
    (hz : c.zeroFrom 10 = true) (hair : s.lf.emission = none) : transponderRead tag s =
      if s.aerialEn 7 = false ∨ s.domOn 3 = false then (s.markStart c).fail tag .stateConflict
      else if s.aerialShut 7 = true then (s.markStart c).fail tag .hwFault
      else (s.markStart c).charged tag c := by
  have hgood : ¬(decide (256 ≤ c.w 6) || decide (30 < c.w 7) || !c.zeroFrom 10) = true := by
    simp [hz]; omega
  refine (startCmd_of_canRun _ h).trans ((if_neg hgood).trans (if_congr ?_ rfl (if_congr Iff.rfl rfl ?_)))
  · show (!s.aerialEn 7 || !s.domOn 3) = true ↔ _
    simp
  · have hidle : ((s.markStart c).draw 8).2.takeLf = ((s.markStart c).draw 8).2 := takeLf_idle hair
    dsimp only
    rw [hidle]
    rfl

theorem transponderRead_answers {tag : Nat} {c : Cmd} {s : State} (h : s.canRun 0x16 tag c = true) (h6 : c.w 6 < 256) (h7 : c.w 7 ≤ 30)
    (hz : c.zeroFrom 10 = true) (hair : s.lf.emission = none) : Answers (.transponderRead tag) s fun t =>
      if s.aerialEn 7 = false ∨ s.domOn 3 = false then t.ended tag = some (.gives .stateConflict []) ∧ t.lf = s.lf
      else if s.aerialShut 7 = true then t.ended tag = some (.gives .hwFault []) ∧ t.lf = s.lf
      else
        (∃ x, t.working tag = some (.transponder x) ∧ x.stage = 0 ∧ x.expect = c.w2 8) ∧
        t.lf.emission.map (fun e => e.2) = some (.command tag, 0x80) ∧ t.lf.airCarriers = 625 ∧
        EventsOnly { s.toDev with lf := t.lf, anvil := t.anvil } t := by
  have hlf {t : Dev} (ho : OnlyCommands s.toDev t) : t.lf = s.lf := by
    unfold OnlyCommands at ho
    rw [ho]
  have hrow := transponderRead_eq h h6 h7 hz hair
  split
  · next hc =>
    rw [if_pos hc] at hrow
    exact (answers_refused (f := transponderRead tag) rfl h hrow).imp fun t ⟨hend, honly⟩ => ⟨hend, hlf honly⟩
  · next hc =>
    rw [if_neg hc] at hrow
    split
    · next hf =>
      rw [if_pos hf] at hrow
      exact (answers_refused (f := transponderRead tag) rfl h hrow).imp fun t ⟨hend, honly⟩ => ⟨hend, hlf honly⟩
    · next hf =>
      rw [if_neg hf] at hrow
      refine answers_settle (f := transponderRead tag) rfl hrow ⟨⟨newTp c ((s.markStart c).draw 8).1, ?_, rfl, rfl⟩, ?_, ?_, ?_⟩
      · rw [settle_working]
        exact charged_working (markStart_isSome h)
      · rw [settle_lf]
        rfl
      · rw [settle_lf]
        rfl
      · refine eventsOnly_lf_anvil fun pt hpt => (Dev.settle_get _ _ (not_mem_of_subset (by decide) hpt)).trans ((charged_get tag c _ hpt).trans
          (Dev.markStart_get c s.toDev (not_mem_of_subset (by decide) hpt)))

/-! ### TP_M2 and the turnaround's close (R232, R233) -/

/-- Work under the settings a command sampled: those in effect stand again behind it (R132). -/
theorem sampled_eq {tag : Nat} {f : Dev → Dev} (d : Dev) (hf : (f d).sets = d.sets) :
    ∃ S, d.sampled tag f = { f { d with sets := S } with sets := d.sets } := by
  have hself : f d = { f d with sets := d.sets } := by rw [← hf]
  unfold Dev.sampled
  split
  · exact ⟨d.sets, hself⟩
  · split
    · exact ⟨d.sets, hself⟩
    · exact ⟨_, rfl⟩

/-- TP_M2 received in its window: the frame judged, and the next one or an end (R233 orders 4–7). -/
def Dev.tpJudged (c : Cmd) (x : TpRun) (turn depth : Nat) (bytes : Bytes) (d : Dev) : Dev :=
  let tc := turn * d.lf.airFtw / 2 ^ 27
  let d := d.wait (d.lf.airStamp (x.crcEnd + tc + 176 * 32))
  let m := bytes.take 20
  let id := beNat (m.take 4)
  if bytes.length ≠ 21 ∨ crc 8 0x1D 0xFF m ≠ (bytes.getD 20 0).toNat ∨ depth < x.minDepth then (d.dropWork c.tag).fail c.tag .noResponse
  else
    match d.slotOfToken id with
    | none => d.fail c.tag .authFail
    | some k =>
      if (x.expect ≠ 0xFFFFFFFF ∧ x.expect ≠ id) ∨ authMac (d.tpKey k) x.nb (slice 4 8 m) id ≠ slice 12 8 m then d.fail c.tag .authFail
      else (d.tpFrame c.tag (tc + 176 * 32 + 16) x (0x11 :: authMac (d.tpKey k) (slice 4 8 m) x.nb id)).setTp c.tag
        { x with stage := 3, slot := k, token := id, depth := depth, turn := turn }

theorem tpJudged_get {pt : Part} (c : Cmd) (x : TpRun) (turn depth : Nat) (bytes : Bytes) (d : Dev) (h : pt ∉ [.lf, .uhf, .uwb, .kw, .ham] ++ eventParts) :
    (d.tpJudged c x turn depth bytes).get pt = d.get pt := by
  have hcmds : pt ≠ .cmds := fun hm => h (by rw [hm]; decide)
  have hwait (t : Nat) : (d.wait t).get pt = d.get pt := Dev.wait_get t d fun hm => h (by rw [hm]; decide)
  have hfail (st : Status) (e : Dev) : (e.fail c.tag st).get pt = e.get pt := Dev.fail_get c.tag st e hcmds
  unfold Dev.tpJudged
  dsimp only
  split
  · exact (hfail ..).trans ((Dev.dropWork_get _ _ (not_mem_of_subset (by decide) h)).trans (hwait _))
  · split
    · exact (hfail ..).trans (hwait _)
    · split
      · exact (hfail ..).trans (hwait _)
      · exact (Dev.setTp_get _ _ _ hcmds).trans ((Dev.tpFrame_get _ _ _ _ _ (not_mem_of_subset (by decide) h)).trans (hwait _))

/-- What the judged frame comes to, in the words of the device before it. -/
theorem tpJudged_says {c : Cmd} {x : TpRun} {turn depth : Nat} {bytes : Bytes} {d : Dev} (h : (d.cmd c.tag).isSome = true) :
    let t := d.tpJudged c x turn depth bytes
    let m := bytes.take 20
    let id := beNat (m.take 4)
    if bytes.length ≠ 21 ∨ crc 8 0x1D 0xFF m ≠ (bytes.getD 20 0).toNat ∨ depth < x.minDepth then
      t.ended c.tag = some (.gives .noResponse [])
    else ∀ k, d.slotOfToken id = k →
      match k with
      | none => t.ended c.tag = some (.gives .authFail [])
      | some k =>
        if (x.expect ≠ 0xFFFFFFFF ∧ x.expect ≠ id) ∨ authMac (d.tpKey k) x.nb (slice 4 8 m) id ≠ slice 12 8 m then
          t.ended c.tag = some (.gives .authFail [])
        else t.working c.tag = some (.transponder { x with stage := 3, slot := k, token := id, depth := depth, turn := turn }) ∧
          t.lf.emission.map (fun e => e.2) = some (.command c.tag, 0x80) := by
  intro t m id
  obtain ⟨k, hk⟩ : ∃ k, d.wait (d.lf.airStamp (x.crcEnd + turn * d.lf.airFtw / 2 ^ 27 + 176 * 32)) = { d with clock := k } := ⟨_, rfl⟩
  obtain ⟨w, hw⟩ : ∃ w, ({ d with clock := k } : Dev) = w := ⟨_, rfl⟩
  have hcmd : (w.cmd c.tag).isSome = true := by
    rw [← hw]
    exact h
  have hslot : w.slotOfToken id = d.slotOfToken id := by rw [← hw]; rfl
  have hkey (n : Nat) : w.tpKey n = d.tpKey n := by
    rw [← hw, Dev.tpKey, Dev.tpKey]
    rfl
  have ht : t = d.tpJudged c x turn depth bytes := rfl
  unfold Dev.tpJudged at ht
  dsimp only at ht
  rw [hk, hw] at ht
  split
  · next hbad =>
    rw [ht, if_pos hbad]
    refine ended_fail ?_
    rw [cmd_of_cmds (Dev.dropWork_get (pt := .cmds) c.tag w (by decide))]
    exact hcmd
  · next hgood =>
    rw [if_neg hgood, hslot] at ht
    rintro _ rfl
    cases hs : d.slotOfToken id with
    | none =>
      rw [hs] at ht
      rw [ht]
      exact ended_fail hcmd
    | some n =>
      rw [hs] at ht
      dsimp only at ht ⊢
      rw [hkey] at ht
      split
      · next hbad =>
        rw [ht, if_pos hbad]
        exact ended_fail hcmd
      · next hok =>
        rw [ht, if_neg hok]
        refine ⟨working_setPhase ?_, rfl⟩
        rw [cmd_of_cmds (Dev.tpFrame_get (pt := .cmds) _ _ _ _ w (by decide))]
        exact hcmd

/-- A choice of two tests in a row, as one test. -/
theorem ite_or_same {α : Type} {p q r : Prop} [Decidable p] [Decidable q] [Decidable r] (h : r ↔ p ∨ q) (a b : α) :
    (if p then a else if q then a else b) = if r then a else b := by
  by_cases hp : p
  · rw [if_pos hp, if_pos (h.mpr (.inl hp))]
  · rw [if_neg hp]
    exact if_congr (by rw [h]; exact ⟨.inr, fun k => k.resolve_left hp⟩) rfl rfl

theorem tpM2_eq {turn depth : Nat} {bytes : Bytes} {c : Cmd} {x : TpRun} {s : Dev} (hrun : s.tpRun = some (c, x)) (hst : x.stage = 2)
    (hlow : 16 ≤ turn * s.lf.airFtw / 2 ^ 27) (hhigh : turn * s.lf.airFtw / 2 ^ 27 < 20) :
    ∃ S, tpM2 turn depth bytes s = { Dev.tpJudged c x turn depth bytes { s with sets := S } with sets := s.sets } := by
  have hrow : tpM2 turn depth bytes s = s.sampled c.tag fun d =>
      if 16 ≤ turn * d.lf.airFtw / 2 ^ 27 ∧ turn * d.lf.airFtw / 2 ^ 27 < 20 then d.tpJudged c x turn depth bytes else d := by
    rw [tpM2, hrun]
    dsimp only
    congr 1
    funext d
    unfold Dev.tpJudged
    dsimp only
    by_cases hin : 16 ≤ turn * d.lf.airFtw / 2 ^ 27 ∧ turn * d.lf.airFtw / 2 ^ 27 < 20
    · rw [if_neg (by simp [hst]; omega), if_pos hin]
      refine (ite_or_same (by simp [or_assoc]) _ _).trans (if_congr Iff.rfl rfl ?_)
      generalize (Dev.wait _ d).slotOfToken _ = slot
      cases slot with
      | none => rfl
      | some k => exact ite_or_same (by simp) _ _
    · rw [if_pos (by simp [hst]; omega), if_neg hin]
  obtain ⟨S, hS⟩ := sampled_eq (tag := c.tag) (f := fun d =>
    if 16 ≤ turn * d.lf.airFtw / 2 ^ 27 ∧ turn * d.lf.airFtw / 2 ^ 27 < 20 then d.tpJudged c x turn depth bytes else d) s (by
      rw [if_pos ⟨hlow, hhigh⟩]
      exact tpJudged_get (pt := .sets) c x turn depth bytes s (by decide))
  rw [hrow, hS]
  refine ⟨S, ?_⟩
  dsimp only
  rw [if_pos ⟨hlow, hhigh⟩]

theorem tpM2_answers {turn depth : Nat} {bytes : Bytes} {c : Cmd} {x : TpRun} {s : State} (hrun : s.tpRun = some (c, x)) (hcmd : s.cmd c.tag = some c)
    (hst : x.stage = 2) (hlow : 16 ≤ turn * s.lf.airFtw / 2 ^ 27) (hhigh : turn * s.lf.airFtw / 2 ^ 27 < 20) :
    Answers (.tpM2 turn depth bytes) s fun t =>
      let m := bytes.take 20
      let id := beNat (m.take 4)
      EventsOnly { s.toDev with lf := t.lf, uhf := t.uhf, uwb := t.uwb, kw := t.kw, ham := t.ham } t ∧
      if bytes.length ≠ 21 ∨ crc 8 0x1D 0xFF m ≠ (bytes.getD 20 0).toNat ∨ depth < x.minDepth then
        t.ended c.tag = some (.gives .noResponse [])
      else ∀ k, s.slotOfToken id = k →
        match k with
        | none => t.ended c.tag = some (.gives .authFail [])
        | some k =>
          if (x.expect ≠ 0xFFFFFFFF ∧ x.expect ≠ id) ∨ authMac (s.tpKey k) x.nb (slice 4 8 m) id ≠ slice 12 8 m then
            t.ended c.tag = some (.gives .authFail [])
          else t.working c.tag = some (.transponder { x with stage := 3, slot := k, token := id, depth := depth, turn := turn }) ∧
            t.lf.emission.map (fun e => e.2) = some (.command c.tag, 0x80) := by
  obtain ⟨S, hS⟩ := tpM2_eq (depth := depth) (bytes := bytes) hrun hst hlow hhigh
  obtain ⟨e, he⟩ : ∃ e, { s.toDev with sets := S } = e := ⟨_, rfl⟩
  have hsome : (e.cmd c.tag).isSome = true := by
    rw [← he]
    show (s.cmd c.tag).isSome = true
    rw [hcmd]
    rfl
  have hsays := tpJudged_says (x := x) (turn := turn) (depth := depth) (bytes := bytes) hsome
  have hget (pt : Part) (hpt : pt ∉ [.lf, .uhf, .uwb, .kw, .ham] ++ eventParts) := tpJudged_get c x turn depth bytes e hpt
  have hslot (id : Nat) : e.slotOfToken id = s.slotOfToken id := by rw [← he]; rfl
  have hkey (n : Nat) : e.tpKey n = s.tpKey n := by
    rw [← he, Dev.tpKey, Dev.tpKey]
    rfl
  rw [he] at hS
  obtain ⟨j, hj⟩ : ∃ j, e.tpJudged c x turn depth bytes = j := ⟨_, rfl⟩
  rw [hj] at hS hget
  obtain ⟨t, ht⟩ : ∃ t, Dev.settle s.toDev { j with sets := s.sets } = t := ⟨_, rfl⟩
  refine answers_settle (f := tpM2 turn depth bytes) rfl hS ?_
  rw [ht]
  have hother (pt : Part) (hpt : pt ∉ [.lf, .uhf, .uwb, .kw, .ham] ++ eventParts) : t.get pt = s.get pt := by
    rw [← ht]
    refine (Dev.settle_get _ _ (not_mem_of_subset (by decide) hpt)).trans ?_
    by_cases hm : pt = .sets
    · rw [hm]
      rfl
    · refine (Dev.get_with_sets _ j hm).trans ((hget pt hpt).trans ?_)
      rw [← he]
      exact Dev.get_with_sets S s.toDev hm
  have hended : t.ended c.tag = j.ended c.tag := by
    rw [← ht, settle_ended]
    rfl
  have hworking : t.working c.tag = j.working c.tag := by
    rw [← ht, settle_working]
    rfl
  have hlf : t.lf = j.lf := by
    rw [← ht, settle_lf]
  intro m id
  refine ⟨?_, ?_⟩
  · exact eventsOnly_of_get fun pt hpt => by
      cases pt
      case lf | uhf | uwb | kw | ham => rfl
      case cmds | clock | pwr | evc | jrnl | nv | bg => exact absurd (by decide) hpt
      all_goals exact hother _ (by decide)
  · rw [hended, hworking, hlf, ← hj, ← hslot]
    simp only [← hkey]
    exact hsays

theorem turnaroundWindowClose_answers {c : Cmd} {x : TpRun} {s : State} (hrun : s.tpRun = some (c, x)) (hcmd : s.cmd c.tag = some c)
    (hst : x.stage = 2) : Answers .turnaroundWindowClose s fun t => t.ended c.tag = some (.gives .noResponse []) ∧
      t = { s.toDev with clock := t.clock, cmds := t.cmds } := by
  have hrow : turnaroundWindowClose s.toDev = (s.wait (s.lf.airStamp (x.crcEnd + 20))).fail c.tag .noResponse := by
    rw [turnaroundWindowClose, hrun]
    exact if_pos hst
  refine answers_still (f := turnaroundWindowClose) rfl hrow rfl ⟨ended_fail ?_, rfl⟩
  show (s.cmd c.tag).isSome = true
  rw [hcmd]
  rfl

/-- Settles O10: the charge phase, TP_M2 and the turnaround's close. -/
theorem backupTransponder : Obligations.BackupTransponder := by
  unfold Obligations.BackupTransponder
  exact ⟨fun tag c s h h6 h7 hz hair => transponderRead_answers h h6 h7 hz hair, fun turn depth bytes c x s hrun hcmd hst =>
    ⟨tpM2_answers hrun hcmd hst, turnaroundWindowClose_answers hrun hcmd hst⟩⟩

end Sys2Proof.Machine
end

section
/-!
PROOFS. The end of an emission (R188, R199). O8 fails where an LF_TELEGRAM's command is in a locate phase: with no usable path the row ends it
HW_FAULT, and presents its completion at the same stamp, as for every LF_TELEGRAM, so the command has left the table.
-/

namespace Sys2Proof.Machine

/-- An LF_TELEGRAM whose phase is a locate phase, its emission at its end, and no path usable. -/
def locateTelegram : State :=
  { Tests.up with
    lf := { Tests.up.lf with emission := some (0, .command 7, 0) }
    uhf := { Tests.up.uhf with unlocked := [true, true] }
    cmds := [{ Tests.cmd 0x14 with phase := .running (.locate 1 0 0 0 []) }] }

theorem locateTelegram_ends : (Dev.settle locateTelegram.toDev (emissionEndRow [] false locateTelegram.toDev)).ended 7 = none := by decide +kernel

/-- Refutes O8: the locate phase of an LF_TELEGRAM's command that ends with no path is presented with its HW_FAULT, and stands in the table no
more. -/
theorem not_emissionsAndPolls : ¬ Obligations.EmissionsAndPolls := by
  unfold Obligations.EmissionsAndPolls
  rintro ⟨h, -⟩
  obtain ⟨t, ht, -, -, -, -, -, -, hlocate⟩ := h [] false 0 0 (.command 7) locateTelegram rfl (by decide +kernel) (by decide +kernel) (by decide +kernel)
    (by decide +kernel)
  obtain ⟨-, -, hend, -⟩ := hlocate { Tests.cmd 0x14 with phase := .running (.locate 1 0 0 0 []) } 0 0 0 [] rfl (by decide +kernel) rfl
  have hpath : Dev.anyPath (if (Tests.cmd 0x14).op = 0x91 then locateTelegram.toDev else { locateTelegram.toDev with
      sets := Cmd.setsAmong { Tests.cmd 0x14 with phase := .running (.locate 1 0 0 0 []) } locateTelegram.sets }) = false := by decide +kernel
  have hnone : t.ended 7 = none := by
    rw [settled_of_next (f := emissionEndRow [] false) rfl ht]
    exact locateTelegram_ends
  exact absurd (hnone.symm.trans (hend hpath)) (by decide)

end Sys2Proof.Machine
end

section
/-!
PROOFS. Reply windows of the node bus (R455, R466). O33 fails where a second node command waits in the table: the close of a pairing's last
reply window ends NODE_PAIR, and the row then ends the NODE_GRANT behind it whose time has passed, with an event of its own.
-/

namespace Sys2Proof.Machine

/-- A NODE_PAIR at its last attempt, its reply window open, and a NODE_GRANT behind it whose time of R27 has passed. -/
def pairAndGrant : State :=
  { Tests.up with
    clock := { Tests.up.clock with tb := 2496001 }
    kw := { Tests.up.kw with replies := [⟨0, 0, 6, some 7⟩] }
    cmds := [
      { Tests.cmd 0x70 with phase := .running (.node { NodeRun.new 1 0 [] [] with tries := 1000000 }) },
      { Tests.cmd 0x72 with tag := 8, bellTb := 0, phase := .running (.node (NodeRun.new 2 0 [1, 255, 0, 0, 5] [])) }] }

theorem pairAndGrant_close : (Dev.settle pairAndGrant.toDev (replyWindowClose 0 pairAndGrant.toDev)).clock.esn ≠ pairAndGrant.clock.esn := by
  decide +kernel

/-- Refutes O33: the row's check of a NODE_GRANT's time finds the second command once the pairing has ended. -/
theorem not_nodeBusEvents : ¬ Obligations.NodeBusEvents := by
  unfold Obligations.NodeBusEvents
  intro h
  obtain ⟨-, hpair, -⟩ := h 0 0 pairAndGrant (by decide +kernel) (by decide +kernel) (by decide +kernel)
  obtain ⟨t, ht, -, -, -, hdev⟩ := hpair ⟨0, 0, 6, some 7⟩ { Tests.cmd 0x70 with phase := .running (.node { NodeRun.new 1 0 [] [] with tries := 1000000 }) }
    { NodeRun.new 1 0 [] [] with tries := 1000000 } (by decide +kernel) rfl rfl (by decide +kernel) (by decide +kernel) (by decide +kernel) rfl
  rw [settled_of_next (f := replyWindowClose 0) rfl ht] at hdev
  exact pairAndGrant_close (by rw [hdev])

end Sys2Proof.Machine
end

section
/-!
PROOFS. The background of the media manager, sweeps and reloads (R278, R280, R424, R497, R506-R514, R518, R519, R529, R534).
-/

namespace Sys2Proof.Machine

/-! ### The media manager's atoms (R506-R513) -/

theorem mediaAtom_runs {body : Dev → Dev} {d : Dev} (hr : d.pwr.dev = .run) (hready : d.med.ready = true) (hfree : bit 8 d.host.fnBusy = false)
    (hbusy : d.atomBusy 0x0B = false) (hdom : (fnDomains 8).all d.domOn = true) :
    Dev.mediaAtom body d = (body (d.dueless 0x0B)).atomEnded :=
  (if_pos hready).trans (atom_runs (unit := 0x0B) hr (List.all_eq_true.mp hdom) hfree hbusy)

theorem refreshDie_used {k : Nat} {x : Die} {d : Dev} (hx : d.med.dies[k]? = some x) (h1 : x.state = 1) :
    d.refreshDie k = { d with med := { d.med with dies := d.med.dies.set k { x with refresh := x.refresh + 1 } } } := by
  rw [Dev.refreshDie, hx]
  exact if_pos h1

/-- Of the medium nothing differs but its dies. -/
def DiesOnly (s t : Dev) : Prop := ∃ ds rb, t.med = { s.med with dies := ds, rebuild := rb }

namespace DiesOnly

variable {s t u : Dev}

theorem of_med (h : t.med = s.med) : DiesOnly s t := ⟨s.med.dies, s.med.rebuild, h⟩

theorem trans (h : DiesOnly s t) (k : DiesOnly t u) : DiesOnly s u := by
  obtain ⟨_, _, h⟩ := h
  obtain ⟨ds, rb, k⟩ := k
  exact ⟨ds, rb, by rw [k, h]⟩

theorem ite {c : Prop} [Decidable c] (h : DiesOnly s t) (k : DiesOnly s u) : DiesOnly s (if c then t else u) := by
  split
  · exact h
  · exact k

end DiesOnly

theorem dieGone_diesOnly (k : Nat) (d : Dev) : DiesOnly d (d.dieGone k) := by
  unfold Dev.dieGone
  split
  · exact .of_med rfl
  · exact ⟨_, _, rfl⟩

theorem dieNoted_med (k old : Nat) (d : Dev) : (d.undoze.aside 11 (Dev.dieNoted k old)).med = d.med :=
  (Dev.aside_get (pt := .med) 11 _ _ (by decide) fun x => Dev.dieNoted_get (pt := .med) k old x (by decide)).trans
    (Dev.undoze_get (pt := .med) d (by decide))

/-- A block's retirement leaves all of the medium but its dies (R513). -/
theorem retireBlock_diesOnly (d : Dev) : DiesOnly d d.retireBlock := by
  unfold Dev.retireBlock
  dsimp only
  split
  · exact .of_med rfl
  · have hgone (k old : Nat) (e : Dev) : DiesOnly e ((e.dieGone k).undoze.aside 11 (Dev.dieNoted k old)) :=
      (dieGone_diesOnly k e).trans (.of_med (dieNoted_med k old (e.dieGone k)))
    have hspare (e : Dev) : DiesOnly e (if e.lowSpare then e.alsoStarts 141 else e) :=
      .ite (.of_med (Dev.alsoStarts_get (pt := .med) 141 e (by decide))) (.of_med rfl)
    have hset (ds : List Die) : DiesOnly d { d.freeNat.2 with med := { d.freeNat.2.med with dies := ds } } := ⟨ds, d.med.rebuild, rfl⟩
    exact ((hset _).trans (hspare _)).trans (.ite (hgone ..) (.of_med rfl))

/-- A read that needs no stripe counts the later steps of the ladder that it took (R511). -/
theorem nandMet_clean_read {nand : NandRead} {d : Dev} (hl : d.nandLost nand = false) (hs : d.nandStripe nand = false) :
    ∃ free ladder, d.nandMet nand = { d with
      free := free
      med := { d.med with ladderHits := d.med.ladderHits + (if 0 < nand.step then 1 else 0), ladder := ladder } } := by
  unfold Dev.nandMet
  rw [if_neg (by rw [hl]; decide), if_neg (by rw [hs]; decide)]
  by_cases hstep : 0 < nand.step
  · rw [if_pos hstep, if_pos hstep]
    exact ⟨_, _, rfl⟩
  · rw [if_neg hstep, if_neg hstep]
    exact ⟨d.free, d.med.ladder, rfl⟩

section
variable {k : Nat} {x : Die} {nand : NandRead} {s : State} (h : s.hostUp = true) (hready : s.med.ready = true)
include h hready

theorem protectionRewrite_answers (hx : s.med.dies[k]? = some x) (h1 : x.state = 1) : Answers (.protectionRewrite k) s fun t =>
    t = { s.toDev with med := { s.med with dies := s.med.dies.set k { x with refresh := x.refresh + 1 } } } := by
  have hrow : protectionRewrite k s.toDev = s.refreshDie k := if_pos (by rw [hready, awake_of_hostUp h]; rfl)
  exact answers_still (f := protectionRewrite k) rfl (hrow.trans (refreshDie_used hx h1)) rfl rfl

variable (hfree : bit 8 s.host.fnBusy = false) (hbusy : s.atomBusy 0x0B = false) (hdom : (fnDomains 8).all s.domOn = true)
include hfree hbusy hdom

/-- The state a media atom leaves when its body leaves the state. -/
def State.mediaTurn (s : State) : Dev :=
  { s.toDev with bg := { s.bg with due := s.bg.due.filter (fun a => a.unit != 0x0B) }, pwr := { s.pwr with busyAt := s.clock.tb } }

theorem mediaRow {f body : Dev → Dev} {t : Dev} (hf : f s.toDev = Dev.mediaAtom body s.toDev) (hb : body (s.dueless 0x0B) = t) :
    f s.toDev = t.atomEnded :=
  hf.trans ((mediaAtom_runs (run_of_hostUp h) hready hfree hbusy hdom).trans (congrArg Dev.atomEnded hb))

omit hready hfree hbusy hdom in
theorem atomEnded_over {t : Dev} (hc : t.clock = s.clock) : t.atomEnded = { t with pwr := { t.pwr with busyAt := s.clock.tb } } := by
  have hnow : t.now = s.clock.tb := by rw [now_running (by rw [hc]; exact rootOn_of_hostUp h), hc]
  rw [Dev.atomEnded, hnow]

/-- A media atom whose body takes no time and is no event leaves its medium in the state's turn. -/
theorem mediaRow_quiet {f body : Dev → Dev} {t : Dev} (hf : f s.toDev = Dev.mediaAtom body s.toDev) (hb : body (s.dueless 0x0B) = t)
    (hc : t.clock = s.clock) : f s.toDev = { t with pwr := { t.pwr with busyAt := s.clock.tb } } :=
  (mediaRow h hready hfree hbusy hdom hf hb).trans (atomEnded_over h hc)

theorem fold_answers (hidle : s.atlas.active = none ∨ s.atlas.loaded = true ∨ s.atlas.reloadFailed = true) : Answers .fold s fun t =>
    t.med.slc = 0 ∧ t.med.buf = [] ∧ t.med.v4 = s.durable.med.v4 ∧ t.med.v6 = s.durable.med.v6 ∧ t.med.mapped = s.med.mapped ∧
    t = { s.mediaTurn with med := t.med } := by
  have hno : ¬ (s.atlas.active.isSome && !s.atlas.loaded && !s.atlas.reloadFailed) = true := by
    rcases hidle with h | h | h <;> simp [h]
  exact answers_still (f := fold) rfl (mediaRow_quiet h hready hfree hbusy hdom (f := fold) (if_neg hno) rfl rfl) rfl ⟨rfl, rfl, rfl, rfl, rfl, rfl⟩

theorem garbageCollection_answers : Answers .garbageCollection s fun t => t = s.mediaTurn :=
  answers_still (f := garbageCollection) rfl (mediaRow_quiet h hready hfree hbusy hdom rfl rfl rfl) rfl rfl

theorem demotion_answers : Answers .demotion s fun t => t = { s.mediaTurn with
    med := { s.med with units := s.med.units.filter (fun u => !(u.fine && u.lastWrite + 10782720000000 ≤ s.clock.tb)) } } := by
  have hnow : (s.dueless 0x0B).now = s.clock.tb := now_running (rootOn_of_hostUp h : s.clock.rootOn = true)
  refine answers_still (f := demotion) rfl (mediaRow_quiet h hready hfree hbusy hdom (f := demotion) rfl rfl rfl) rfl ?_
  rw [hnow]
  rfl

theorem refresh_answers (hx : s.med.dies[k]? = some x) (h1 : x.state = 1) : Answers (.refresh k) s fun t =>
    t = { s.mediaTurn with med := { s.med with dies := s.med.dies.set k { x with refresh := x.refresh + 1 } } } :=
  answers_still (f := refresh k) rfl (mediaRow_quiet h hready hfree hbusy hdom rfl (refreshDie_used (d := s.dueless 0x0B) hx h1) rfl) rfl rfl

theorem sampleRead_lost_answers (hlost : s.nandLost nand = true) : Answers (.sampleRead nand) s fun t => RaisedBeside 142 s.toDev t ∧
    t.med = { s.med with uncorr := true, uncorrReads := s.med.uncorrReads + 1 } ∧ EventsOnly { s.toDev with med := t.med } t := by
  obtain ⟨u, hu⟩ : ∃ u, ({ s.dueless 0x0B with med := { s.med with uncorr := true, uncorrReads := s.med.uncorrReads + 1 } } : Dev) = u := ⟨_, rfl⟩
  have hmet : Dev.nandMet nand (s.dueless 0x0B) = u.raise 142 := by
    rw [← alsoSignal_awake 142 (d := u) (by rw [← hu]; exact not_doze_of_run (run_of_hostUp h)), ← hu]
    exact if_pos hlost
  have hrow := mediaRow h hready hfree hbusy hdom (f := sampleRead nand) rfl hmet
  have hr : u.clock.rootOn = true := by rw [← hu]; exact rootOn_of_hostUp h
  have hraised : RaisedBeside 142 s.toDev (u.raise 142) := by
    have hbeside := raise_beside 142 hr
    rw [← hu] at hbeside ⊢
    exact hbeside
  have hget (pt : Part) (hpt : pt ∉ [.clock, .evc]) : (u.raise 142).get pt = u.get pt := Dev.raise_get 142 u hpt
  have hothers (pt : Part) (hpt : pt ∉ [.med, .bg]) : u.get pt = s.get pt := by
    simp only [List.mem_cons, List.not_mem_nil, or_false, not_or] at hpt
    rw [← hu]
    exact (Dev.get_with_med _ (s.dueless 0x0B) hpt.1).trans (dueless_get 0x0B s.toDev hpt.2)
  refine answers_still (f := sampleRead nand) rfl hrow ?_ ⟨hraised, ?_, eventsOnly_med fun pt hpt => ?_⟩
  · exact congrArg Journal.nextNumber ((hget .jrnl (by decide)).trans (hothers .jrnl (by decide)))
  · exact (hget .med (by decide)).trans (by rw [← hu]; rfl)
  · refine (atomEnded_get _ fun hm => hpt (by rw [hm]; decide)).trans ((hget pt (not_mem_of_subset (by decide) hpt)).trans (hothers pt ?_))
    exact not_mem_of_subset (by decide) hpt

theorem sampleRead_stripe_answers (hkept : s.nandLost nand = false) (hstripe : s.nandStripe nand = true) : Answers (.sampleRead nand) s fun t =>
    t.med.rebuilt = s.med.rebuilt + 1 ∧ t.med.v4 = s.med.v4 ∧ t.med.v6 = s.med.v6 ∧ t.med.uncorr = s.med.uncorr ∧ t.sets = s.sets := by
  obtain ⟨u, hu⟩ : ∃ u, ({ s.dueless 0x0B with med := { s.med with rebuilt := s.med.rebuilt + 1 } } : Dev) = u := ⟨_, rfl⟩
  have hmet : Dev.nandMet nand (s.dueless 0x0B) = u.retireBlock := by
    rw [← hu]
    exact (if_neg (by show ¬ s.nandLost nand = true; rw [hkept]; decide)).trans (if_pos hstripe)
  have hrow := mediaRow h hready hfree hbusy hdom (f := sampleRead nand) rfl hmet
  obtain ⟨ds, rb, hmed⟩ := retireBlock_diesOnly u
  refine answers_settle (f := sampleRead nand) rfl hrow ?_
  have hm : u.retireBlock.atomEnded.med = u.retireBlock.med := rfl
  rw [settle_med, settle_sets, hm, hmed, ← hu]
  exact ⟨rfl, rfl, rfl, rfl, Dev.retireBlock_sets _⟩

theorem sampleRead_clean_answers (hkept : s.nandLost nand = false) (hstripe : s.nandStripe nand = false) : Answers (.sampleRead nand) s fun t =>
    t.med.ladderHits = s.med.ladderHits + (if 0 < nand.step then 1 else 0) ∧
    t = { s.mediaTurn with free := t.free, med := { s.med with ladderHits := t.med.ladderHits, ladder := t.med.ladder } } := by
  obtain ⟨free, ladder, hmet⟩ := nandMet_clean_read (d := s.dueless 0x0B) hkept hstripe
  exact answers_still (f := sampleRead nand) rfl (mediaRow_quiet h hready hfree hbusy hdom rfl hmet rfl) rfl ⟨rfl, rfl⟩

end

/-! ### The hold-up test, telemetry records and dies (R497, R514, R518) -/

/-- WRITE_THROUGH becomes WRITE_BACK: the condition of source 137 ends, and the MEDIA record stands (R519). -/
theorem enterBack_says {d : Dev} (hd : d.pwr.dev = .run) (hr : d.clock.rootOn = true) (hm : d.med.state = .writeThrough)
    (hv : d.pwr.vholdLow = false) (hb : d.jrnl.buf.length < 1024) :
    d.enterBack.med = { d.med with state := .writeBack } ∧ d.enterBack.evc.cond = d.evc.cond.set 137 false ∧
    d.clock.tb ≤ d.enterBack.clock.tb ∧ d.enterBack.jrnl.buf.length = d.jrnl.buf.length + 1 ∧
    ∀ pt, pt ∉ [.clock, .med, .evc, .jrnl, .nv] → d.enterBack.get pt = d.get pt := by
  obtain ⟨u, hu⟩ : ∃ u, Dev.ends 137 { d.presentOn 11 with med := { (d.presentOn 11).med with state := .writeBack } } = u := ⟨_, rfl⟩
  have hrow : d.enterBack = u.noteMedia 0xFF d.medstat := by
    rw [Dev.enterBack, if_pos (by rw [hm, hv]; rfl), ← hu]
  have hnote (pt : Part) (hpt : pt ∉ [.jrnl, .nv]) : (u.noteMedia 0xFF d.medstat).get pt = u.get pt := Dev.noteMedia_get _ _ u hpt
  have hpresent := presentOn_run 11 hd hr
  rw [hpresent] at hu
  have hj : u.jrnl = d.jrnl := by rw [← hu]; rfl
  rw [hrow]
  refine ⟨(hnote .med (by decide)).trans (by rw [← hu]; rfl), (congrArg Evc.cond (hnote .evc (by decide))).trans (by rw [← hu]; rfl), ?_, ?_,
    fun pt hpt => (hnote pt (not_mem_of_subset (by decide) hpt)).trans ?_⟩
  · rw [show (u.noteMedia 0xFF d.medstat).clock = u.clock from hnote .clock (by decide), ← hu]
    exact accept_tb_le ..
  · exact (note_buf_length (by rw [hj]; exact hb) oPower _).trans (by rw [hj])
  · simp only [List.mem_cons, List.not_mem_nil, or_false, not_or] at hpt
    obtain ⟨hc, hmed, he, -, -⟩ := hpt
    rw [← hu]
    exact (Dev.get_with_evc _ _ he).trans ((Dev.get_with_med _ _ hmed).trans (Dev.get_with_clock _ _ hc))

/-- The verdict of a hold-up test at `vhold` and `droop` in mV (R518). -/
def Dev.holdsUp (d : Dev) (vhold droop : Nat) : Bool :=
  (d.setting 0x0B0020 ≤ vhold : Bool) && (750 * 900 * droop ≤ vhold * vhold - d.setting 0x0B0020 * d.setting 0x0B0020 : Bool)

/-- The state in which a hold-up test has its verdict. -/
def Dev.judgedHoldup (vhold droop : Nat) (d : Dev) : Dev :=
  let e := (d.dueless 0x0B).wait (d.clock.tb + 124800)
  { e with med := { e.med with
      testPass := d.holdsUp vhold droop, testC := if droop = 0 then 32767 else min 32767 (50000 / droop), holdupOk := d.holdsUp vhold droop,
      testIn := some e.testWindow } }

section
variable {vhold droop k : Nat} {x : Die} {s : State} (h : s.hostUp = true)
include h

theorem holdupTest_answers (hp : s.clock.pos < 4000) (hready : s.med.ready = true) (hfree : bit 8 s.host.fnBusy = false)
    (hbusy : s.atomBusy 0x0B = false) (hdom : (fnDomains 8).all s.domOn = true) (hm : s.med.state = .writeThrough)
    (hv : s.pwr.vholdLow = false) (hin : s.med.testIn ≠ some s.testWindow) : Answers (.holdupTest vhold droop) s fun t =>
      s.clock.tb + 124800 ≤ t.clock.tb ∧ EventsOnly { s.toDev with med := t.med } t ∧
      if s.holdsUp vhold droop then
        t.med.testPass = true ∧ t.med.holdupOk = true ∧ t.med.state = .writeBack ∧ t.evc.cond = s.evc.cond.set 137 false
      else t.med.testPass = false ∧ t.med.holdupOk = false ∧ t.med.state = .writeThrough ∧ Raised 138 s.toDev t := by
  have hr := rootOn_of_hostUp h
  obtain ⟨u, hu⟩ : ∃ u, s.judgedHoldup vhold droop = u := ⟨_, rfl⟩
  have hrow : holdupTest vhold droop s.toDev = (if s.holdsUp vhold droop then u.enterBack else (u.signal 138).enterThrough).atomEnded := by
    have hnow : (s.dueless 0x0B).now = s.clock.tb := now_running hr
    have hif : holdupTest vhold droop s.toDev = _ := if_neg (by simpa using hin)
    have hrow := hif.trans (mediaAtom_runs (run_of_hostUp h) hready hfree hbusy hdom)
    rw [hnow] at hrow
    rw [← hu]
    exact hrow
  have hothers (pt : Part) (hpt : pt ∉ [.med, .clock, .bg]) : u.get pt = s.get pt := by
    simp only [List.mem_cons, List.not_mem_nil, or_false, not_or] at hpt
    obtain ⟨hmed, hc, hbg⟩ := hpt
    rw [← hu]
    exact (Dev.get_with_med _ _ hmed).trans ((Dev.get_with_clock _ _ hc).trans (dueless_get 0x0B s.toDev hbg))
  have hclock : u.clock = (s.wait (s.clock.tb + 124800)).clock := by rw [← hu]; rfl
  have hmed : u.med.testPass = s.holdsUp vhold droop ∧ u.med.holdupOk = s.holdsUp vhold droop ∧ u.med.state = .writeThrough := by
    rw [← hu]
    exact ⟨rfl, rfl, hm⟩
  obtain ⟨hpass, hok, hstate⟩ := hmed
  have hpwr : u.pwr = s.pwr := hothers .pwr (by decide)
  have hevc : u.evc = s.evc := hothers .evc (by decide)
  have hj : u.jrnl = s.jrnl := hothers .jrnl (by decide)
  have hd : u.pwr.dev = .run := by rw [hpwr]; exact run_of_hostUp h
  have hur : u.clock.rootOn = true := by rw [hclock, wait_rootOn]; exact hr
  have hreach : s.clock.tb + 124800 ≤ u.clock.tb := by rw [hclock]; exact (wait_reaches hr hp).1
  by_cases hver : s.holdsUp vhold droop = true
  · rw [if_pos hver] at hrow
    simp only [if_pos hver]
    obtain ⟨hbm, hcond, htb, hlen, hget⟩ := enterBack_says hd hur hstate (by rw [hpwr]; exact hv) (by rw [hj]; have := (hostUp_iff.mp h).2.2.2.2; omega)
    refine (answers_iff (f := holdupTest vhold droop) rfl).mpr ?_
    rw [hrow, settle_room (.inr ?_)]
    · refine ⟨hreach.trans htb, eventsOnly_med fun pt hpt => ?_, ?_⟩
      · refine (atomEnded_get _ fun hm => hpt (by rw [hm]; decide)).trans ((hget pt (not_mem_of_subset (by decide) hpt)).trans (hothers pt ?_))
        exact not_mem_of_subset (by decide) hpt
      · show u.enterBack.med.testPass = true ∧ u.enterBack.med.holdupOk = true ∧ u.enterBack.med.state = .writeBack ∧ u.enterBack.evc.cond = _
        rw [hbm, hcond, hevc]
        exact ⟨hpass.trans hver, hok.trans hver, rfl, rfl⟩
    · show u.enterBack.jrnl.buf.length < 960
      have := (hostUp_iff.mp h).2.2.2.2
      rw [hlen, hj]
      omega
  · have hfail : s.holdsUp vhold droop = false := by simpa using hver
    rw [if_neg hver] at hrow
    simp only [if_neg hver]
    obtain ⟨hraised, hget⟩ := signal_says 138 (not_doze_of_run hd) hur
    have hthrough : (u.signal 138).enterThrough = u.signal 138 := by
      rw [Dev.enterThrough, show (u.signal 138).med = u.med from hget .med (by decide), hstate]
      rfl
    rw [hthrough] at hrow
    have hmed : (u.signal 138).med = u.med := hget .med (by decide)
    refine answers_still (f := holdupTest vhold droop) rfl hrow ?_ ⟨hreach.trans (signal_onward 138 u).tb, eventsOnly_med fun pt hpt => ?_, ?_⟩
    · exact congrArg Journal.nextNumber ((hget .jrnl (by decide)).trans hj)
    · refine (atomEnded_get _ fun hm => hpt (by rw [hm]; decide)).trans ((hget pt (not_mem_of_subset (by decide) hpt)).trans (hothers pt ?_))
      exact not_mem_of_subset (by decide) hpt
    · show (u.signal 138).med.testPass = false ∧ (u.signal 138).med.holdupOk = false ∧ (u.signal 138).med.state = .writeThrough ∧ _
      rw [hmed]
      exact ⟨hpass.trans hfail, hok.trans hfail, hstate, raised_of_clock_evc (raised_of_eq hraised (by rw [hclock, wait_esn]) hevc) rfl rfl⟩

theorem telemetryRecord_answers (hp : s.clock.pos < 4000) (hready : s.med.ready = true) (hdom : s.domOn 15 = true) :
    Answers .telemetryRecord s fun t =>
      t.med.telCount = s.med.telCount + 1 ∧ s.clock.tb + (s.med.telAt + s.setting 0x0B0050 * 7488000000 - s.runTime) ≤ t.clock.tb ∧
      t = { s.toDev with
        clock := t.clock, med := { s.med with tel := t.med.tel, telCount := t.med.telCount, telAt := t.med.telAt } } ∧
      ∃ bs, t.med.tel.getLast? = some bs ∧ bs.take 8 = leBytes 8 t.clock.tb ∧
        (s.med.tel.length < 262144 → t.med.tel = s.med.tel ++ [bs]) := by
  have hr := rootOn_of_hostUp h
  obtain ⟨u, hu⟩ : ∃ u, s.wait (s.clock.tb + (s.med.telAt + s.setting 0x0B0050 * 7488000000 - s.runTime)) = u := ⟨_, rfl⟩
  have hframe : u = { s.toDev with clock := u.clock } := by rw [← hu]; rfl
  have hnow : u.now = u.clock.tb := now_running (by rw [← hu, wait_rootOn]; exact hr)
  have hreach : s.clock.tb + (s.med.telAt + s.setting 0x0B0050 * 7488000000 - s.runTime) ≤ u.clock.tb := by
    rw [← hu]
    exact (wait_reaches hr hp).1
  obtain ⟨bs, hbs, hrow⟩ : ∃ bs : Bytes, bs.take 8 = leBytes 8 u.clock.tb ∧ telemetryRecord s.toDev = { u with med := { u.med with
      tel := if 262144 < (u.med.tel ++ [bs]).length then (u.med.tel ++ [bs]).drop 1 else u.med.tel ++ [bs], telCount := u.med.telCount + 1,
      telAt := u.runTime } } := by
    have hrow : telemetryRecord s.toDev = _ := if_neg (by rw [hready, run_of_hostUp h, hdom]; decide)
    rw [now_running hr, hu] at hrow
    refine ⟨_, ?_, hrow⟩
    rw [List.append_assoc, List.append_assoc, List.take_left' (length_leBytes ..), hnow]
  rw [hframe] at hrow
  refine answers_still (f := telemetryRecord) rfl hrow rfl ⟨rfl, hreach, rfl, bs, ?_, hbs, fun hroom => ?_⟩
  · show (if 262144 < (s.med.tel ++ [bs]).length then (s.med.tel ++ [bs]).drop 1 else s.med.tel ++ [bs]).getLast? = some bs
    split
    · next hfull =>
      rw [List.length_append] at hfull
      rw [List.drop_append_of_le_length (by simp at hfull; omega), List.getLast?_concat]
    · exact List.getLast?_concat ..
  · refine if_neg ?_
    show ¬ 262144 < (s.med.tel ++ [bs]).length
    rw [List.length_append, List.length_singleton]
    omega

omit h in
/-- An event of the media manager with its MEDIA record, on a state whose medium has changed (R514, R519). -/
theorem mediaNoted_says {u s : Dev} (n die old : Nat) (h : s.hostUp = true) (hu : ∀ pt, pt ≠ .med → u.get pt = s.get pt) :
    ((u.event n).noteMedia die old).jrnl.buf.length < 960 ∧ ((u.event n).noteMedia die old).med = u.med ∧
    Raised n s ((u.event n).noteMedia die old) ∧
    (∃ new, ((u.event n).noteMedia die old).lastRecord = some (0x60, die, old, new, 0)) ∧
    EventsOnly { s with med := ((u.event n).noteMedia die old).med } ((u.event n).noteMedia die old) := by
  have hclock : u.clock = s.clock := hu .clock (by decide)
  have hget (pt : Part) (hpt : pt ∉ [.clock, .evc]) : (u.event n).get pt = u.get pt := Dev.event_get n u hpt
  have hb : (u.event n).jrnl.buf.length < 900 := by
    rw [show (u.event n).jrnl = s.jrnl from (hget .jrnl (by decide)).trans (hu .jrnl (by decide))]
    exact (hostUp_iff.mp h).2.2.2.2
  have hnote (pt : Part) (hpt : pt ∉ [.jrnl, .nv]) : ((u.event n).noteMedia die old).get pt = (u.event n).get pt := Dev.noteMedia_get _ _ _ hpt
  refine ⟨?_, (hnote .med (by decide)).trans (hget .med (by decide)), ?_, ⟨_, note_lastRecord (by omega) oPower _⟩, eventsOnly_med fun pt hpt => ?_⟩
  · rw [show ((u.event n).noteMedia die old).jrnl.buf.length = _ from note_buf_length (by omega) oPower _]
    omega
  · have hraised := raised_of_eq (event_raised n (by rw [hclock]; exact rootOn_of_hostUp h)) (by rw [hclock]) (hu .evc (by decide))
    exact raised_of_clock_evc hraised (hnote .clock (by decide)) (hnote .evc (by decide))
  · exact (hnote pt (not_mem_of_subset (by decide) hpt)).trans ((hget pt (not_mem_of_subset (by decide) hpt)).trans
      (hu pt fun hm => hpt (by rw [hm]; decide)))

theorem dieLost_answers (hk : k < 8) (hx : s.med.dies[k]? = some x) (h1 : x.state = 1) : Answers (.dieLost k) s fun t =>
    t.med = { s.med with dies := s.med.dies.set k { x with state := 2 }, rebuild := s.med.rebuild || decide (2 ≤ s.diesUsed) } ∧
    Raised 139 s.toDev t ∧ t.lastRecord.map (fun r => (r.1, r.2.1, r.2.2.1)) = some (0x60, k, s.medstat) ∧
    EventsOnly { s.toDev with med := t.med } t := by
  have hgone : s.dieGone k = { s.toDev with med := { s.med with
      dies := s.med.dies.set k { x with state := 2 }, rebuild := s.med.rebuild || decide (2 ≤ s.diesUsed) } } := by
    rw [Dev.dieGone, hx]
  obtain ⟨u, hu⟩ : ∃ u, s.dieGone k = u := ⟨_, rfl⟩
  have hothers (pt : Part) (hpt : pt ≠ .med) : u.get pt = s.get pt := by
    rw [← hu, hgone]
    exact Dev.get_with_med _ _ hpt
  have hmed : u.med = { s.med with dies := s.med.dies.set k { x with state := 2 }, rebuild := s.med.rebuild || decide (2 ≤ s.diesUsed) } := by
    rw [← hu, hgone]
  have hin : s.dieList.contains k = true := by
    rw [Dev.dieList, List.contains_iff_mem, List.mem_filter, hx]
    exact ⟨List.mem_range.mpr hk, by simpa using h1⟩
  have hd : u.pwr.dev = .run := by
    rw [show u.pwr = s.pwr from hothers .pwr (by decide)]
    exact run_of_hostUp h
  have hevent : (u.presentOn 11).reach 139 = u.event 139 := by
    rw [Dev.presentOn, undoze_awake (not_doze_of_run hd)]
    rfl
  have hrow : dieLost k s.toDev = (u.event 139).noteMedia k s.medstat := by
    have hif : dieLost k s.toDev = ((s.dieGone k).presentOn 11).dieNoted k s.medstat := if_neg (by rw [hin, awake_of_hostUp h]; decide)
    rw [hif, hu, Dev.dieNoted, hevent]
  obtain ⟨hbuf, hm, hraised, ⟨new, hlast⟩, honly⟩ := mediaNoted_says 139 k s.medstat h hothers
  rw [← hrow] at hbuf hm hraised hlast honly
  refine answers_room (f := dieLost k) rfl (.inr hbuf) ⟨hm.trans hmed, hraised, ?_, honly⟩
  rw [hlast]
  rfl

theorem rebuildDone_answers (hb : s.med.rebuild = true) (hroom : s.roomFor 0 = true) : Answers .rebuildDone s fun t =>
    t.med = { s.med with rebuild := false } ∧ Raised 140 s.toDev t ∧ t.lastRecord.map (fun r => r.1) = some 0x60 ∧
    EventsOnly { s.toDev with med := t.med } t := by
  obtain ⟨u, hu⟩ : ∃ u, { s.toDev with med := { s.med with rebuild := false } } = u := ⟨_, rfl⟩
  have hothers (pt : Part) (hpt : pt ≠ .med) : u.get pt = s.get pt := by
    rw [← hu]
    exact Dev.get_with_med _ _ hpt
  have hd : u.pwr.dev = .run := by
    rw [show u.pwr = s.pwr from hothers .pwr (by decide)]
    exact run_of_hostUp h
  obtain ⟨die, hrow⟩ : ∃ die, rebuildDone s.toDev = (u.event 140).noteMedia die s.medstat := by
    rw [rebuildDone, if_pos (by rw [hb, hroom]; rfl)]
    dsimp only
    rw [hu, signal_awake 140 (not_doze_of_run hd)]
    exact ⟨_, rfl⟩
  obtain ⟨hbuf, hm, hraised, ⟨new, hlast⟩, honly⟩ := mediaNoted_says 140 die s.medstat h hothers
  rw [← hrow] at hbuf hm hraised hlast honly
  refine answers_room (f := rebuildDone) rfl (.inr hbuf) ⟨hm.trans (by rw [← hu]), hraised, ?_, honly⟩
  rw [hlast]
  rfl

end

/-! ### Sweeps and reloads (R278, R280, R424, R534) -/

section
variable {items : List Word} {nand : NandRead} {q : Nat} {s : State} (h : s.hostUp = true)
include h

theorem paritySweep_answers (hfree : bit 7 s.host.fnBusy = false) (hbusy : s.atomBusy 0x08 = false) (hdom : (fnDomains 7).all s.domOn = true) :
    Answers .paritySweep s fun t => t = { s.toDev with
      bg := { s.bg with due := s.bg.due.filter (fun a => a.unit != 0x08) }, pwr := { s.pwr with busyAt := s.clock.tb } } :=
  answers_still (f := paritySweep) rfl ((atom_runs (unit := 0x08) (run_of_hostUp h) (List.all_eq_true.mp hdom) hfree hbusy).trans
    (atomEnded_over h (t := s.dueless 0x08) rfl)) rfl rfl

theorem atlasReload_unreadable_answers (ha : s.atlas.active.isSome = true) (hl : s.atlas.loaded = false) (hf : s.atlas.reloadFailed = false)
    (h13 : s.domOn 13 = true) (h14 : s.domOn 14 = true) (hok : s.mediumOk = false) : Answers (.atlasReload nand) s fun t =>
      t.atlas = { s.atlas with reloadFailed := true } ∧ Raised 143 s.toDev t ∧ EventsOnly { s.toDev with atlas := t.atlas } t := by
  obtain ⟨u, hu⟩ : ∃ u, { s.toDev with atlas := { s.atlas with reloadFailed := true } } = u := ⟨_, rfl⟩
  have hrow : atlasReload nand s.toDev = u.signal 143 := by
    rw [atlasReload, if_neg (by simp [hl, hf, hok, h13, h14, awake_of_hostUp h, Option.isSome_iff_ne_none.mp ha]), if_pos (by simp [hok]),
      if_neg (by rw [hok]; decide), ← hu]
  have hothers (pt : Part) (hpt : pt ≠ .atlas) : u.get pt = s.get pt := by
    rw [← hu]
    exact Dev.get_with_atlas _ _ hpt
  obtain ⟨hraised, hatlas, hget⟩ := signal_over 143 h (by decide) hothers
  refine answers_still (f := atlasReload nand) rfl hrow (congrArg Journal.nextNumber (hget .jrnl (by decide))) ⟨?_, hraised,
    eventsOnly_atlas fun pt hpt => hget pt (not_mem_of_subset (by decide) hpt)⟩
  exact Eq.trans (b := u.atlas) hatlas (by rw [← hu])

omit h in
theorem raise_lastOf_self {n : Nat} {d : Dev} (hr : d.clock.rootOn = true) (hn : n < d.evc.lastEsn.length) : (d.raise n).lastOf n = d.clock.esn := by
  obtain ⟨-, -, -, hevc⟩ := raise_beside n hr
  rw [Dev.lastOf, hevc]
  simp [List.getD_eq_getElem?_getD, hn]

theorem atlasReload_lost_answers (hlen : s.evc.lastEsn.length = 160) (ha : s.atlas.active.isSome = true) (hl : s.atlas.loaded = false)
    (hf : s.atlas.reloadFailed = false) (h13 : s.domOn 13 = true) (h14 : s.domOn 14 = true) (hok : s.mediumOk = true)
    (hready : s.med.ready = true) (hlost : s.nandLost nand = true) : Answers (.atlasReload nand) s fun t =>
      t.atlas = { s.atlas with reloadFailed := true } ∧ t.lastOf 142 = s.clock.esn ∧ t.lastOf 143 = s.clock.esn + 1 ∧
      EventsOnly { s.toDev with atlas := t.atlas, med := t.med } t := by
  obtain ⟨u, hu⟩ : ∃ u, { s.toDev with med := { s.med with uncorr := true, uncorrReads := s.med.uncorrReads + 1 } } = u := ⟨_, rfl⟩
  have hothers (pt : Part) (hpt : pt ≠ .med) : u.get pt = s.get pt := by
    rw [← hu]
    exact Dev.get_with_med _ _ hpt
  have hclock : u.clock = s.clock := hothers .clock (by decide)
  have hdoze : u.pwr.dev ≠ .doze := by
    rw [show u.pwr = s.pwr from hothers .pwr (by decide)]
    exact not_doze_of_run (run_of_hostUp h)
  have hr : u.clock.rootOn = true := by rw [hclock]; exact rootOn_of_hostUp h
  have hmet : s.nandMet nand = u.raise 142 := by
    rw [← alsoSignal_awake 142 hdoze, ← hu]
    exact if_pos hlost
  obtain ⟨v, hv⟩ : ∃ v, { u.raise 142 with atlas := { (u.raise 142).atlas with reloadFailed := true } } = v := ⟨_, rfl⟩
  have hrow : atlasReload nand s.toDev = v.signal 143 := by
    rw [atlasReload, if_neg (by simp [hl, hf, hready, h13, h14, awake_of_hostUp h, Option.isSome_iff_ne_none.mp ha]), if_pos (by simp [hlost]),
      if_pos hok, hmet, ← hv]
  have hraise (pt : Part) (hpt : pt ∉ [.clock, .evc]) : (u.raise 142).get pt = u.get pt := Dev.raise_get 142 u hpt
  have hothers' (pt : Part) (hpt : pt ≠ .atlas) : v.get pt = (u.raise 142).get pt := by
    rw [← hv]
    exact Dev.get_with_atlas _ _ hpt
  have hvclock : v.clock = (u.raise 142).clock := hothers' .clock (by decide)
  have hvevc : v.evc = (u.raise 142).evc := hothers' .evc (by decide)
  obtain ⟨-, -, hesn, hevc⟩ := raise_beside 142 hr
  have hvr : v.clock.rootOn = true := by
    rw [hvclock]
    exact (raise_onward 142 u).rootOn.trans hr
  have hvdoze : v.pwr.dev ≠ .doze := by
    rw [show v.pwr = u.pwr from (hothers' .pwr (by decide)).trans (hraise .pwr (by decide))]
    exact hdoze
  obtain ⟨-, hget⟩ := signal_says 143 hvdoze hvr
  have hulen : 142 < u.evc.lastEsn.length := by
    rw [show u.evc = s.evc from hothers .evc (by decide), hlen]
    decide
  refine answers_still (f := atlasReload nand) rfl hrow ?_ ⟨?_, ?_, ?_, eventsOnly_but [.atlas, .med] (s := s.toDev) ?_ ?_ fun pt hpt => ?_⟩
  · exact congrArg Journal.nextNumber ((hget .jrnl (by decide)).trans ((hothers' .jrnl (by decide)).trans ((hraise .jrnl (by decide)).trans
      (hothers .jrnl (by decide)))))
  · refine Eq.trans (b := v.atlas) (hget .atlas (by decide)) ?_
    rw [← hv, show (u.raise 142).atlas = s.atlas from (hraise .atlas (by decide)).trans (hothers .atlas (by decide))]
  · rw [signal_awake 143 hvdoze, event_lastOf (by decide), lastOf_of_evc hvevc, raise_lastOf_self hr hulen, hclock]
  · rw [signal_awake 143 hvdoze, event_lastOf_self hvr, hvclock, hesn, hclock]
    rw [hvevc, hevc, show u.evc = s.evc from hothers .evc (by decide), List.length_set, hlen]
    decide
  · intro pt hpt
    simp only [List.mem_cons, List.not_mem_nil, or_false] at hpt
    rcases hpt with rfl | rfl <;> rfl
  · intro pt hpt
    simp only [List.mem_cons, List.not_mem_nil, or_false, not_or] at hpt
    exact (Dev.get_with_med (v.signal 143).med { s.toDev with atlas := (v.signal 143).atlas } hpt.2).trans (Dev.get_with_atlas _ s.toDev hpt.1)
  · exact (hget pt (not_mem_of_subset (by decide) hpt)).trans ((hothers' pt fun hm => hpt (by rw [hm]; decide)).trans
      ((hraise pt (not_mem_of_subset (by decide) hpt)).trans (hothers pt fun hm => hpt (by rw [hm]; decide))))

theorem atlasReload_loaded_answers (ha : s.atlas.active.isSome = true) (hl : s.atlas.loaded = false) (hf : s.atlas.reloadFailed = false)
    (h13 : s.domOn 13 = true) (h14 : s.domOn 14 = true) (hok : s.mediumOk = true) (hready : s.med.ready = true)
    (hkept : s.nandLost nand = false) (hstripe : s.nandStripe nand = false) : Answers (.atlasReload nand) s fun t =>
      t.atlas = { s.atlas with loaded := true, reloadFailed := false, cache := [] } ∧
      t = { s.toDev with atlas := t.atlas, free := t.free, med := t.med } := by
  obtain ⟨free, ladder, hmet⟩ := nandMet_clean_read hkept hstripe
  obtain ⟨u, hu⟩ : ∃ u, s.nandMet nand = u := ⟨_, rfl⟩
  have hrow : atlasReload nand s.toDev = { u with atlas := { s.atlas with loaded := true, reloadFailed := false, cache := [] } } := by
    rw [atlasReload, if_neg (by simp [hl, hf, hready, h13, h14, awake_of_hostUp h, Option.isSome_iff_ne_none.mp ha]), if_neg (by simp [hkept, hok]),
      hu]
  rw [hu] at hmet
  rw [hmet] at hrow
  exact answers_still (f := atlasReload nand) rfl hrow rfl ⟨rfl, rfl⟩

/-! #### SCRIPT_RESTORE (R424) -/

theorem restorable (hres : (s.seqr q).restoring = true) (hdom : s.domOn (11 + q) = true) (hrep : s.replaying = false) :
    ¬ (!(s.seqr q).restoring || !s.awake || !s.domOn (11 + q) || s.replaying) = true := by
  rw [hres, awake_of_hostUp h, hdom, hrep]
  decide

theorem scriptRestore_unreadable_answers (hq : q < 2) (hres : (s.seqr q).restoring = true) (hdom : s.domOn (11 + q) = true)
    (hrep : s.replaying = false) (hready : s.med.ready = false) : Answers (.scriptRestore q nand) s fun t =>
      t = s.onSeq q (fun u => { u with restoring := false, restoreFailed := true }) := by
  have hrow : scriptRestore q nand s.toDev = s.onSeq q (fun u => { u with restoring := false, restoreFailed := true }) := by
    rw [scriptRestore]
    dsimp only
    rw [Nat.mod_eq_of_lt hq, if_neg (restorable h hres hdom hrep), if_neg (c := s.med.ready = true) (by rw [hready]; decide), hready]
    rfl
  exact answers_still (f := scriptRestore q nand) rfl hrow
    (congrArg Journal.nextNumber (Dev.onSeq_get (pt := .jrnl) q (fun u => { u with restoring := false, restoreFailed := true }) s.toDev (by decide))) rfl

/-- The state in which a stored image that verifies no more has been cleared. -/
def Dev.scriptCleared (q : Nat) (d : Dev) : Dev := (d.setStored q none).onSeq q (fun u => { u with restoring := false })

theorem scriptRestore_cleared_answers {m : Bytes} (hq : q < 2)
    (hrow : scriptRestore q nand s.toDev = ((s.scriptCleared q).presentOn (9 + q)).note oPower (scriptDraft (leNat (slice 8 4 m)) q .imageInvalid)) :
    Answers (.scriptRestore q nand) s fun t =>
      t.seqr q = { s.seqr q with restoring := false } ∧ t.seqr (1 - q) = s.seqr (1 - q) ∧ t.stored q = none ∧
      t.lastRecord.map (fun r => (r.1, r.2.2.1, r.2.2.2.2)) = some (0x71, q, Status.imageInvalid.code) ∧
      EventsOnly { s.toDev with ham := t.ham } t := by
  obtain ⟨u, hu⟩ : ∃ u, s.scriptCleared q = u := ⟨_, rfl⟩
  have hset (pt : Part) (hpt : pt ≠ .ham) : (s.setStored q none).get pt = s.get pt := Dev.get_with_ham _ _ hpt
  have hothers (pt : Part) (hpt : pt ≠ .ham) : u.get pt = s.get pt := by
    rw [← hu]
    exact (onSeq_get q _ _ hpt).trans (hset pt hpt)
  have hstored (p : Nat) : (s.setStored q none).seqr p = s.seqr p := by
    unfold Dev.seqr Dev.setStored
    dsimp only
    split <;> split <;> rfl
  have hu1 : u.seqr q = { s.seqr q with restoring := false } ∧ u.seqr (1 - q) = s.seqr (1 - q) ∧ u.stored q = none := by
    rw [← hu, Dev.scriptCleared, seqr_onSeq, onSeq_other hq, hstored, hstored]
    refine ⟨rfl, rfl, ?_⟩
    unfold Dev.stored Dev.onSeq Dev.setStored
    split <;> rfl
  have hpresent := presentOn_run (d := u) (9 + q) (by rw [show u.pwr = s.pwr from hothers .pwr (by decide)]; exact run_of_hostUp h)
    (by rw [show u.clock = s.clock from hothers .clock (by decide)]; exact rootOn_of_hostUp h)
  obtain ⟨v, hv⟩ : ∃ v, u.presentOn (9 + q) = v := ⟨_, rfl⟩
  rw [hu, hv] at hrow
  rw [hv] at hpresent
  have hvget (pt : Part) (hpt : pt ≠ .clock) : v.get pt = u.get pt := by
    rw [hpresent]
    exact Dev.get_with_clock _ _ hpt
  have hham : v.ham = u.ham := hvget .ham (by decide)
  have hb : v.jrnl.buf.length < 900 := by
    rw [show v.jrnl = s.jrnl from (hvget .jrnl (by decide)).trans (hothers .jrnl (by decide))]
    exact (hostUp_iff.mp h).2.2.2.2
  have hnote (pt : Part) (hpt : pt ∉ [.jrnl, .nv]) : (v.note oPower (scriptDraft (leNat (slice 8 4 m)) q .imageInvalid)).get pt = v.get pt :=
    Dev.note_get _ _ v hpt
  have hnham : (v.note oPower (scriptDraft (leNat (slice 8 4 m)) q .imageInvalid)).ham = u.ham := (hnote .ham (by decide)).trans hham
  have hseqr (p : Nat) : (v.note oPower (scriptDraft (leNat (slice 8 4 m)) q .imageInvalid)).seqr p = u.seqr p := by rw [Dev.seqr, hnham, Dev.seqr]
  obtain ⟨hq1, hq2, hq3⟩ := hu1
  refine answers_room (f := scriptRestore q nand) rfl ?_ ?_
  · rw [hrow, note_buf_length (by omega)]
    exact .inr (by omega)
  · rw [hrow]
    refine ⟨(hseqr q).trans hq1, (hseqr _).trans hq2, ?_, ?_, eventsOnly_ham fun pt hpt => ?_⟩
    · rw [Dev.stored, hnham]
      exact hq3
    · rw [note_lastRecord (by omega)]
      rfl
    · exact (hnote pt (not_mem_of_subset (by decide) hpt)).trans ((hvget pt fun hm => hpt (by rw [hm]; decide)).trans
        (hothers pt fun hm => hpt (by rw [hm]; decide)))

theorem scriptRestore_answers {m : Bytes} (hq : q < 2) (hres : (s.seqr q).restoring = true) (hdom : s.domOn (11 + q) = true)
    (hrep : s.replaying = false) (hready : s.med.ready = true) (hclean : nand = ⟨0, nand.bits, false, false⟩) (hm : s.stored q = some m) :
    Answers (.scriptRestore q nand) s fun t =>
      match s.verifyScript q m with
      | some x => t = s.onSeq q (fun u =>
        { u with image := some x, iram := imageRam m x, restoring := false, restoreFailed := false, dirty := false })
      | none => t.seqr q = { s.seqr q with restoring := false } ∧ t.seqr (1 - q) = s.seqr (1 - q) ∧ t.stored q = none ∧
        t.lastRecord.map (fun r => (r.1, r.2.2.1, r.2.2.2.2)) = some (0x71, q, Status.imageInvalid.code) ∧
        EventsOnly { s.toDev with ham := t.ham } t := by
  have hlost : s.nandLost nand = false := by rw [hclean]; rfl
  have hmet : s.nandMet nand = s.toDev := by rw [hclean]; rfl
  have hrow : scriptRestore q nand s.toDev = match s.verifyScript q m with
      | some x => s.installScript q m x
      | none => ((s.scriptCleared q).presentOn (9 + q)).note oPower (scriptDraft (leNat (slice 8 4 m)) q .imageInvalid) := by
    rw [scriptRestore]
    dsimp only
    rw [Nat.mod_eq_of_lt hq, if_neg (restorable h hres hdom hrep), if_pos hready, hmet, hready, hlost, if_neg (by decide), hm]
    dsimp only
    cases s.verifyScript q m with
    | some x => rfl
    | none => rfl
  cases hv : s.verifyScript q m with
  | some x =>
    rw [hv] at hrow
    exact answers_still (f := scriptRestore q nand) rfl hrow (congrArg Journal.nextNumber (onSeq_get (pt := .jrnl) q _ s.toDev (by decide))) rfl
  | none =>
    rw [hv] at hrow
    exact scriptRestore_cleared_answers h hq hrow

end

/-! #### SENSOR_SWEEP (R534) -/

/-- A stretch of a sweep: the readings and the sweep's stamp stay, time goes on, and nothing changes but events and the loops. -/
structure Sweeping (s t : Dev) : Prop where
  items : t.bg.items = s.bg.items
  sweepAt : t.bg.sweepAt = s.bg.sweepAt
  length : t.bg.loops.length = s.bg.loops.length
  onward : Onward s t
  kept : ∀ pt, pt ∉ [.clock, .evc, .bg] → t.get pt = s.get pt

namespace Sweeping

variable {s t u : Dev}

theorem refl (s : Dev) : Sweeping s s := ⟨rfl, rfl, rfl, .refl s, fun _ _ => rfl⟩

theorem trans (h : Sweeping s t) (k : Sweeping t u) : Sweeping s u :=
  ⟨k.items.trans h.items, k.sweepAt.trans h.sweepAt, k.length.trans h.length, h.onward.trans k.onward, fun pt hpt => (k.kept pt hpt).trans (h.kept pt hpt)⟩

theorem of_events (h : t.bg = s.bg) (ho : Onward s t) (hk : ∀ pt, pt ∉ [.clock, .evc] → t.get pt = s.get pt) : Sweeping s t :=
  ⟨by rw [h], by rw [h], by rw [h], ho, fun pt hpt => hk pt (not_mem_of_subset (by decide) hpt)⟩

/-- What a sweep does outside DOZE. -/
theorem dev (h : Sweeping s t) (hd : s.pwr.dev ≠ .doze) : t.pwr.dev ≠ .doze := by
  rw [show t.pwr = s.pwr from h.kept .pwr (by decide)]
  exact hd

end Sweeping

theorem warnArmed_sweeping (l : List Bool) (d : Dev) : Sweeping d { d with bg := { d.bg with warnArmed := l } } :=
  ⟨rfl, rfl, rfl, .of_clock rfl, fun _ hpt => Dev.get_with_bg _ d fun hm => hpt (by rw [hm]; decide)⟩

/-- TEL_LIMIT of a sensor moves no loop (R534). -/
theorem warnSensor_sweeping (n : Nat) {d : Dev} (hd : d.pwr.dev ≠ .doze) (hr : d.clock.rootOn = true) :
    Sweeping d (d.warnSensor n) ∧ (d.warnSensor n).bg.loops = d.bg.loops := by
  have hsignal (e : Dev) (he : e.pwr.dev ≠ .doze) (her : e.clock.rootOn = true) : Sweeping e (e.signal 20) ∧ (e.signal 20).bg.loops = e.bg.loops := by
    obtain ⟨-, hget⟩ := signal_says 20 he her
    have hbg : (e.signal 20).bg = e.bg := hget .bg (by decide)
    exact ⟨.of_events hbg (signal_onward 20 e) hget, by rw [hbg]⟩
  unfold Dev.warnSensor
  dsimp only
  split
  · split
    · obtain ⟨hs, hl⟩ := hsignal { d with bg := { d.bg with warnArmed := d.bg.warnArmed.set n false } } hd hr
      exact ⟨(warnArmed_sweeping _ d).trans hs, hl⟩
    · exact ⟨warnArmed_sweeping _ d, rfl⟩
  · split
    · exact ⟨warnArmed_sweeping _ d, rfl⟩
    · exact ⟨.refl d, rfl⟩

theorem warnSensors_sweeping (ns : List Nat) {d : Dev} (hd : d.pwr.dev ≠ .doze) (hr : d.clock.rootOn = true) :
    Sweeping d (ns.foldl (fun d n => d.warnSensor n) d) ∧ (ns.foldl (fun d n => d.warnSensor n) d).bg.loops = d.bg.loops := by
  induction ns generalizing d with
  | nil => exact ⟨.refl d, rfl⟩
  | cons n ns ih =>
    obtain ⟨hstep, hloops⟩ := warnSensor_sweeping n hd hr
    obtain ⟨hrest, hrest'⟩ := ih (hstep.dev hd) (hstep.onward.rootOn.trans hr)
    exact ⟨hstep.trans hrest, hrest'.trans hloops⟩

theorem setEst_sweeping (n v : Nat) {d : Dev} (hd : d.pwr.dev ≠ .doze) : Sweeping d (d.setEst n v) := by
  have hput (l : Loop) : Sweeping d (d.putLoop n l) :=
    ⟨rfl, rfl, List.length_set, .of_clock rfl, fun _ hpt => Dev.get_with_bg _ d fun hm => hpt (by rw [hm]; decide)⟩
  have hsat (e : Dev) (he : e.pwr.dev ≠ .doze) : Sweeping e e.satCheck := by
    have honward : Onward e e.satCheck := by
      unfold Dev.satCheck Dev.alsoStarts Dev.arises
      rw [undoze_awake he]
      exact .ite (.of_clock rfl) (.ite (.refl e) (.ite (.refl e) ((raise_onward ..).after rfl)))
    exact .of_events (satCheck_awake (pt := .bg) he (by decide)) honward fun pt hpt => satCheck_awake he hpt
  unfold Dev.setEst
  split
  · exact .refl d
  · exact (hput _).trans (hsat _ hd)

theorem setEst_other {n m v : Nat} {d : Dev} (hd : d.pwr.dev ≠ .doze) (hn : n < d.bg.loops.length) (hm : m ≠ n) :
    (d.setEst n v).loop m = d.loop m := by
  by_cases hp : (d.loop n).pinned = true
  · rw [Dev.setEst, if_pos hp]
  · exact (setEst_says hd hn (by simpa using hp)).2.1 m hm

theorem hottest_of_items {s t : Dev} (h : t.bg.items = s.bg.items) : t.hottest = s.hottest := by
  unfold Dev.hottest Dev.sensor
  rw [h]

theorem celsius_of_sets {s t : Dev} (h : t.sets = s.sets) (a : Nat) : t.celsius a = s.celsius a := by
  unfold Dev.celsius Dev.setting
  rw [h]

/-- The state whose readings a sweep has taken (R124). -/
def Dev.readings (items : List Word) (d : Dev) : Dev :=
  let e := (d.wait (d.bg.sweepAt + d.loopApplied 12 * 124800)).dueless 0x0D
  { e with bg := { e.bg with items := e.telemetry items, sweepAt := e.now } }

section
variable {items : List Word} {s : State} (h : s.hostUp = true)
include h

theorem sensorSweep_answers (hpos : s.clock.pos < 4000) (hc : s.cmds = []) (hfree : bit 13 s.host.fnBusy = false) (hdom : (fnDomains 13).all s.domOn = true)
    (hlen : s.bg.loops.length = 13) (hpin : (s.loop 11).pinned = false) : Answers (.sensorSweep items) s fun t =>
      s.bg.sweepAt + s.loopApplied 12 * 124800 ≤ t.bg.sweepAt ∧ t.bg.sweepAt ≤ t.clock.tb ∧ EventsOnly s.toDev t ∧
      (∀ i, i < 8 → t.bg.items.getD i 0 = items.getD i 0) ∧
      (t.loop 11).est = rateEst (s.celsius 0x0D0000) t.hottest := by
  have hr := rootOn_of_hostUp h
  obtain ⟨w, hw⟩ : ∃ w, s.wait (s.bg.sweepAt + s.loopApplied 12 * 124800) = w := ⟨_, rfl⟩
  have hframe : w = { s.toDev with clock := w.clock } := by rw [← hw]; rfl
  have hwr : w.clock.rootOn = true := by rw [← hw, wait_rootOn]; exact hr
  have hreach : s.bg.sweepAt + s.loopApplied 12 * 124800 ≤ w.clock.tb := by
    rw [← hw]
    exact (wait_reaches hr hpos).1
  obtain ⟨u, hu⟩ : ∃ u, s.readings items = u := ⟨_, rfl⟩
  have hnow : u.bg.sweepAt = w.clock.tb := by
    rw [← hu, ← now_running hwr, ← hw]
    rfl
  have hitems (i : Nat) (hi : i < 8) : u.bg.items.getD i 0 = items.getD i 0 := by
    rw [← hu]
    show ((fit 8 0 items ++ _) ++ _ ++ _).getD i 0 = _
    rw [List.append_assoc, List.append_assoc, List.getD_append _ _ _ _ (by rw [length_fit]; exact hi), getD_fit _ _ hi]
  have hothers (pt : Part) (hpt : pt ∉ [.clock, .bg]) : u.get pt = s.get pt := by
    simp only [List.mem_cons, List.not_mem_nil, or_false, not_or] at hpt
    rw [← hu]
    exact (Dev.get_with_bg _ (Dev.dueless 0x0D (s.wait (s.bg.sweepAt + s.loopApplied 12 * 124800))) hpt.2).trans
      ((dueless_get 0x0D _ hpt.2).trans (Dev.get_with_clock _ s.toDev hpt.1))
  have huclock : u.clock = w.clock := by rw [← hu, ← hw]; rfl
  have huloops : u.bg.loops = s.bg.loops := by rw [← hu]; rfl
  have hd : u.pwr.dev ≠ .doze := by
    rw [show u.pwr = s.pwr from hothers .pwr (by decide)]
    exact not_doze_of_run (run_of_hostUp h)
  obtain ⟨hwarn, hwloops⟩ := warnSensors_sweeping [0, 1, 2, 3] hd (by rw [huclock]; exact hwr)
  obtain ⟨v, hv⟩ : ∃ v, [0, 1, 2, 3].foldl (fun d n => Dev.warnSensor n d) u = v := ⟨_, rfl⟩
  rw [hv] at hwarn hwloops
  have hvd := hwarn.dev hd
  have hrate := setEst_sweeping 11 (rateEst (v.celsius 0x0D0000) v.hottest) hvd
  obtain ⟨e, he⟩ : ∃ e, v.setEst 11 (rateEst (v.celsius 0x0D0000) v.hottest) = e := ⟨_, rfl⟩
  have hloop : (e.loop 11).est = rateEst (v.celsius 0x0D0000) v.hottest := by
    have hloop11 : v.loop 11 = s.loop 11 := by rw [Dev.loop, hwloops, huloops, Dev.loop]
    rw [← he, (setEst_says hvd (by rw [hwloops, huloops, hlen]; decide) (by rw [hloop11]; exact hpin)).1]
  rw [he] at hrate
  have hperiod := setEst_sweeping 12 (periodEst (v.celsius 0x0D0000) v.hottest) (hrate.dev hvd)
  have hrow : sensorSweep items s.toDev = (e.setEst 12 (periodEst (v.celsius 0x0D0000) v.hottest)).atomEnded := by
    have hbusy : w.atomBusy 0x0D = false := by
      rw [hframe, Dev.atomBusy, Dev.occupants]
      simp [hc]
    have hwd : w.pwr.dev = .run := by rw [hframe]; exact (run_of_hostUp h : s.pwr.dev = .run)
    rw [sensorSweep]
    dsimp only
    rw [hw, atom_runs (unit := 0x0D) hwd (by rw [hframe]; exact List.all_eq_true.mp hdom) (by rw [hframe]; exact hfree) hbusy, ← he, ← hv, ← hu, ← hw]
    rfl
  have hall := hwarn.trans (hrate.trans hperiod)
  obtain ⟨t, ht⟩ : ∃ t, e.setEst 12 (periodEst (v.celsius 0x0D0000) v.hottest) = t := ⟨_, rfl⟩
  have hloop' : t.loop 11 = e.loop 11 := by
    rw [← ht]
    refine setEst_other (hrate.dev hvd) ?_ (by decide)
    rw [hrate.length, hwarn.length, huloops, hlen]
    decide
  rw [ht] at hrow hall hperiod
  refine answers_still (f := sensorSweep items) rfl hrow ?_ ⟨?_, ?_, eventsOnly_of_get fun pt hpt => ?_, fun i hi => ?_, ?_⟩
  · exact congrArg Journal.nextNumber ((hall.kept .jrnl (by decide)).trans (hothers .jrnl (by decide)))
  · show _ ≤ t.bg.sweepAt
    rw [hall.sweepAt, hnow]
    exact hreach
  · show t.bg.sweepAt ≤ t.clock.tb
    rw [hall.sweepAt, hnow, ← huclock]
    exact hall.onward.tb
  · exact (atomEnded_get _ fun hm => hpt (by rw [hm]; decide)).trans ((hall.kept pt (not_mem_of_subset (by decide) hpt)).trans
      (hothers pt (not_mem_of_subset (by decide) hpt)))
  · show t.bg.items.getD i 0 = _
    rw [hall.items]
    exact hitems i hi
  · show (t.loop 11).est = rateEst _ t.hottest
    rw [hloop', hloop, hottest_of_items (hrate.trans hperiod).items,
      celsius_of_sets (show v.sets = s.sets from (hwarn.kept .sets (by decide)).trans (hothers .sets (by decide)))]

end

/-- Settles O60: each row of the background by what its one step leaves of the medium, the loops or the sequencer. -/
theorem mediaAndSweeps : Obligations.MediaAndSweeps := by
  unfold Obligations.MediaAndSweeps
  refine ⟨fun k x nand s h hready => ⟨protectionRewrite_answers h hready, fun hfree hbusy hdom => ⟨fold_answers h hready hfree hbusy hdom,
      garbageCollection_answers h hready hfree hbusy hdom, demotion_answers h hready hfree hbusy hdom,
      refresh_answers h hready hfree hbusy hdom, sampleRead_lost_answers h hready hfree hbusy hdom,
      sampleRead_stripe_answers h hready hfree hbusy hdom, sampleRead_clean_answers h hready hfree hbusy hdom⟩⟩,
    fun vhold droop k x s h hp hlen => ⟨fun hready hfree hbusy hdom hm hv hin => ?_, telemetryRecord_answers h hp, dieLost_answers h,
      rebuildDone_answers h⟩,
    fun items nand q s h hp hlen => ⟨paritySweep_answers h, sensorSweep_answers h hp, fun ha hl hf h13 h14 =>
      ⟨atlasReload_unreadable_answers h ha hl hf h13 h14, atlasReload_lost_answers h hlen ha hl hf h13 h14,
        atlasReload_loaded_answers h ha hl hf h13 h14⟩, fun hq hres hdom hrep => ⟨scriptRestore_unreadable_answers h hq hres hdom hrep,
        fun m => scriptRestore_answers h hq hres hdom hrep⟩⟩⟩
  refine (holdupTest_answers h hp hready hfree hbusy hdom hm hv hin).imp fun t ⟨htb, honly, hver⟩ => ⟨htb, honly, ?_⟩
  have hiff : s.holdsUp vhold droop = true ↔
      s.setting 0x0B0020 ≤ vhold ∧ 750 * 900 * droop ≤ vhold * vhold - s.setting 0x0B0020 * s.setting 0x0B0020 := by
    simp [Dev.holdsUp]
  by_cases hpass : s.holdsUp vhold droop = true
  · rw [if_pos hpass] at hver
    rw [if_pos (hiff.mp hpass)]
    exact hver
  · rw [if_neg hpass] at hver
    rw [if_neg (mt hiff.mpr hpass)]
    exact hver

end Sys2Proof.Machine
end

section
/-!
PROOFS. Journal records, their way to the media, page writes and the scrub (R137, R140-R144, R472, R490).
-/

namespace Sys2Proof.Machine

/-! ### A journal record (R137, R140, R141, R144) -/

/-- A head that was written at a flush is unflushed again: its pages are to be written, and nothing else differs (R143). -/
theorem headUnflushed_frame (d : Dev) : ∃ head seq busy queue undo, d.headUnflushed = { d with
    jrnl := { d.jrnl with head := head, headSeq := seq }
    nv := { d.nv with busy := busy, queue := queue, undo := undo } } := by
  unfold Dev.headUnflushed
  split
  · exact ⟨_, _, _, _, _, rfl⟩
  · exact ⟨d.jrnl.head, d.jrnl.headSeq, d.nv.busy, d.nv.queue, d.nv.undo, rfl⟩

/-- A record appended to the buffer, `tag` its chain tag (R140, R141). -/
theorem append_frame (r : Record) (d : Dev) : ∃ head seq busy queue undo oldest last tag,
    (d.start.boot = none → tag = d.chainTag r d.jrnl.lastTag ∧ last = tag) ∧
    d.append r = { d with
      jrnl := { d.jrnl with
        head := head, headSeq := seq, buf := d.jrnl.buf ++ [{ r with number := d.jrnl.nextNumber, tag := tag }],
        nextNumber := d.jrnl.nextNumber + 1, lastTag := last, lastEsn := r.esn, oldestAt := oldest, headDue := true }
      nv := { d.nv with busy := busy, queue := queue, undo := undo } } := by
  obtain ⟨head, seq, busy, queue, undo, hd⟩ := headUnflushed_frame d
  refine ⟨head, seq, busy, queue, undo, if d.jrnl.buf.isEmpty then d.now else d.jrnl.oldestAt,
    if d.start.boot.isSome then d.jrnl.lastTag else if d.start.boot.isSome then zeroTag else d.chainTag r d.jrnl.lastTag,
    if d.start.boot.isSome then zeroTag else d.chainTag r d.jrnl.lastTag, fun hboot => ?_, ?_⟩
  · rw [hboot]
    exact ⟨rfl, rfl⟩
  · unfold Dev.append
    rw [hd]
    rfl

theorem log_room (origin tag op : Nat) (x : Draft) {d : Dev} (hb : d.jrnl.buf.length < 1024) :
    d.log origin tag op x = d.append (d.recordOf origin tag op x) := if_pos hb

theorem log_folds (origin tag op : Nat) (x : Draft) {d : Dev} (hb : 1024 ≤ d.jrnl.buf.length) : d.log origin tag op x = d.fold x.cls :=
  if_neg (by omega)

/-- The summary of the record's class stands, with the newest ESN (R144). -/
theorem mem_foldInto (cls esn : Nat) : ∀ fs, ∃ f ∈ foldInto cls esn fs, f.1 = cls ∧ f.2.2.2 = esn
  | [] => ⟨_, List.mem_singleton_self _, rfl, rfl⟩
  | (c, n, a, z) :: fs => by
    rw [foldInto]
    split
    · next h => exact ⟨_, List.mem_cons_self, h, rfl⟩
    · obtain ⟨f, hf, h⟩ := mem_foldInto cls esn fs
      exact ⟨f, List.mem_cons_of_mem _ hf, h⟩

/-! ### Journal hold (R144) -/

/-- A source that is reached, by whatever way, sets no condition. -/
theorem reach_cond (n : Nat) (d : Dev) : (d.reach n).evc.cond = d.evc.cond := by
  unfold Dev.reach
  split
  · rfl
  · split
    · unfold Dev.latch Dev.latchAt
      dsimp only
      split <;> rfl
    · split <;> rfl

theorem event_keeps_cond (n : Nat) (d : Dev) : (d.event n).evc.cond = d.evc.cond :=
  (reach_cond n _).trans (congrArg Evc.cond (Dev.acceptOn_get (pt := .evc) _ _ d (by decide)))

theorem settle_holds {s d : Dev} (hn : s.jrnl.nextNumber ≠ d.jrnl.nextNumber) (hh : d.jrnl.hold = false) (hb : 960 ≤ d.jrnl.buf.length) :
    (Dev.settle s d).jrnl.hold = true ∧ (Dev.settle s d).jrnl.buf.take d.jrnl.buf.length = d.jrnl.buf ∧
    (Dev.settle s d).jrnl.buf.length = d.jrnl.buf.length + 1 ∧
    (Dev.settle s d).jrnl.buf.getLast?.map (fun r => (r.cls, r.old, r.new, r.auxCause)) =
      some (0x7F, d.jrnl.buf.length, d.jrnl.buf.length + 1, 0) ∧
    (Dev.settle s d).evc.cond = (if d.evc.cond.getD 155 false then d.evc.cond else d.evc.cond.set 155 true) := by
  obtain ⟨u, hu⟩ : ∃ u, d.begins 155 = u := ⟨_, rfl⟩
  have hj : u.jrnl = d.jrnl := by
    rw [← hu]
    exact Dev.begins_get (pt := .jrnl) 155 d (by decide)
  have hcond : u.evc.cond = (if d.evc.cond.getD 155 false then d.evc.cond else d.evc.cond.set 155 true) := by
    rw [← hu]
    unfold Dev.begins
    split
    · rfl
    · exact event_keeps_cond 155 { d with evc := { d.evc with cond := d.evc.cond.set 155 true } }
  obtain ⟨head, seq, busy, queue, undo, oldest, last, tag, -, happ⟩ := append_frame
    (u.recordOf oPower 0xFFFF 0xFF (draft 0x7F 0xFF (u.jrnl.nextNumber % 2 ^ 32) d.jrnl.buf.length (d.jrnl.buf.length + 1) 0)) u
  have hrow : Dev.settle s d = { u.append (u.recordOf oPower 0xFFFF 0xFF
      (draft 0x7F 0xFF (u.jrnl.nextNumber % 2 ^ 32) d.jrnl.buf.length (d.jrnl.buf.length + 1) 0)) with
      jrnl := { (u.append (u.recordOf oPower 0xFFFF 0xFF
        (draft 0x7F 0xFF (u.jrnl.nextNumber % 2 ^ 32) d.jrnl.buf.length (d.jrnl.buf.length + 1) 0))).jrnl with hold := true } } := by
    rw [Dev.settle, if_neg hn.symm, Dev.holdEntry, if_pos (by rw [hh]; simpa using hb), ← hu]
  rw [happ] at hrow
  rw [hrow]
  dsimp only
  rw [hj]
  refine ⟨rfl, List.take_left' rfl, ?_, ?_, hcond⟩
  · rw [List.length_append, List.length_singleton]
  · rw [List.getLast?_concat]
    rfl

/-! ### The journal on the media (R142, R143) -/

/-- A page of HEADRING is no first page of a record whose SEQ a unit keeps (R473). -/
theorem seqStep_headPage (n by_ : Nat) (nv : Nv) : nv.seqStep (51 + (n + 23) % 24 / 2) by_ = nv := by
  have hno : ¬ seqPages.contains (51 + (n + 23) % 24 / 2) = true := by
    simp [seqPages]
    omega
  exact if_neg hno

/-- The chain head written (R143): its pages wait behind those that waited before. -/
theorem writeHead_frame (flushed : Bool) {d : Dev} (hn : d.jrnl.nextNumber ≠ 0) : ∃ busy undo, d.writeHead flushed = { d with
    jrnl := { d.jrnl with
      head := some (d.jrnl.nextNumber - 1, d.jrnl.lastEsn, d.nv.bootEpoch, d.jrnl.lastTag, flushed), headAt := d.now, headDue := false,
      headSeq := d.jrnl.headSeq + 1 }
    nv := { d.nv with busy := busy, queue := d.nv.queue ++ devWrites none (headPages (d.jrnl.headSeq + 1)), undo := undo } } := by
  rw [Dev.writeHead, if_neg hn]
  dsimp only
  unfold Dev.recordWrite
  dsimp only
  rw [show (List.drop 1 (headPages (d.jrnl.headSeq + 1))).headD 0 = 51 + (d.jrnl.headSeq + 1 + 23) % 24 / 2 from rfl, seqStep_headPage]
  exact ⟨_, _, rfl⟩

section
variable {s : State} (h : s.hostUp = true)
include h

theorem chainHeadWrite_answers (hp : s.clock.pos < 4000) (hn : s.jrnl.nextNumber ≠ 0) (hdue : s.jrnl.headDue = true) :
    Answers .chainHeadWrite s fun t =>
      s.jrnl.headAt + 124800000 ≤ t.clock.tb ∧ t.jrnl = { s.jrnl with
        head := some (s.jrnl.nextNumber - 1, s.jrnl.lastEsn, s.nv.bootEpoch, s.jrnl.lastTag, false), headAt := t.clock.tb,
        headDue := false, headSeq := s.jrnl.headSeq + 1 } ∧
      t = { s.toDev with clock := t.clock, jrnl := t.jrnl, nv := { s.nv with busy := t.nv.busy, queue := t.nv.queue, undo := t.nv.undo } } ∧
      t.nv.queue = s.nv.queue ++ devWrites none (headPages (s.jrnl.headSeq + 1)) := by
  have hr := rootOn_of_hostUp h
  obtain ⟨k, hk⟩ : ∃ k, (s.wait (s.jrnl.headAt + 124800000)).clock = k := ⟨_, rfl⟩
  have hframe : s.wait (s.jrnl.headAt + 124800000) = { s.toDev with clock := k } := by rw [← hk]; rfl
  have hnow : ({ s.toDev with clock := k } : Dev).now = k.tb := now_running (by rw [← hk, wait_rootOn]; exact hr)
  have hrow : chainHeadWrite s.toDev = Dev.writeHead false { s.toDev with clock := k } := by
    rw [chainHeadWrite, if_neg (by rw [hdue, awake_of_hostUp h]; decide), hframe]
  obtain ⟨busy, undo, hw⟩ := writeHead_frame (d := { s.toDev with clock := k }) false hn
  rw [hnow] at hw
  refine answers_still (f := chainHeadWrite) rfl (hrow.trans hw) rfl ⟨?_, rfl, rfl, rfl⟩
  show _ ≤ k.tb
  rw [← hk]
  exact (wait_reaches hr hp).1

omit h in
theorem jrnlWarn_says {d : Dev} (hd : d.pwr.dev ≠ .doze) : Onward d d.jrnlWarn ∧ ∀ pt, pt ∉ [.clock, .evc] → d.jrnlWarn.get pt = d.get pt := by
  unfold Dev.jrnlWarn
  rw [starts_of_dev 154 hd]
  split
  · exact ⟨begins_onward 154 d, fun pt hpt => Dev.begins_get 154 d hpt⟩
  · exact ⟨.of_clock rfl, fun pt hpt => Dev.ends_get 154 d fun hm => hpt (by rw [hm]; decide)⟩

theorem journalFlush_answers (hp : s.clock.pos < 4000) (hn : s.jrnl.nextNumber ≠ 0) (hup : s.mediaUp = true) (hbuf : s.jrnl.buf ≠ [])
    (hroom : s.jrnl.v2.length + s.jrnl.buf.length + 1 ≤ v2Capacity) : Answers .journalFlush s fun t =>
      s.batchAt ≤ t.clock.tb ∧ t.jrnl.v2 = s.jrnl.v2 ++ s.jrnl.buf ∧ t.jrnl.buf = [] ∧ t.jrnl.nextNumber = s.jrnl.nextNumber ∧
      t.jrnl.head = (if s.jrnl.buf.any headClass
        then some (s.jrnl.nextNumber - 1, s.jrnl.lastEsn, s.nv.bootEpoch, s.jrnl.lastTag, false) else s.jrnl.head) ∧
      EventsOnly s.toDev t := by
  have hr := rootOn_of_hostUp h
  obtain ⟨w, hw⟩ : ∃ w, ({ s.wait s.batchAt with jrnl := { s.jrnl with v2 := s.jrnl.v2 ++ s.jrnl.buf, buf := [] } } : Dev) = w := ⟨_, rfl⟩
  have hothers (pt : Part) (hpt : pt ∉ [.clock, .jrnl]) : w.get pt = s.get pt := by
    simp only [List.mem_cons, List.not_mem_nil, or_false, not_or] at hpt
    rw [← hw]
    exact (Dev.get_with_jrnl _ (s.wait s.batchAt) hpt.2).trans (Dev.get_with_clock _ s.toDev hpt.1)
  have hwj : w.jrnl = { s.jrnl with v2 := s.jrnl.v2 ++ s.jrnl.buf, buf := [] } := by rw [← hw]
  have hreach : s.batchAt ≤ w.clock.tb := by
    rw [← hw]
    exact (wait_reaches hr hp).1
  obtain ⟨honward, hget⟩ := jrnlWarn_says (d := w) (by
    rw [show w.pwr = s.pwr from hothers .pwr (by decide)]
    exact not_doze_of_run (run_of_hostUp h))
  obtain ⟨u, hu⟩ : ∃ u, w.jrnlWarn = u := ⟨_, rfl⟩
  rw [hu] at honward hget
  have huj : u.jrnl = { s.jrnl with v2 := s.jrnl.v2 ++ s.jrnl.buf, buf := [] } := Eq.trans (b := w.jrnl) (hget .jrnl (by decide)) hwj
  have hunv : u.nv = s.nv := (hget .nv (by decide)).trans (hothers .nv (by decide))
  have hkept (pt : Part) (hpt : pt ∉ [.clock, .evc, .jrnl]) : u.get pt = s.get pt :=
    (hget pt (not_mem_of_subset (by decide) hpt)).trans (hothers pt (not_mem_of_subset (by decide) hpt))
  have hrow : journalFlush s.toDev = if s.jrnl.buf.any headClass then u.writeHead false else u := by
    have hflush : (s.wait s.batchAt).flushBuffer = u := by
      have hempty : ¬ (!(s.wait s.batchAt).mediaUp || (s.wait s.batchAt).jrnl.buf.isEmpty) = true := by
        show ¬ (!s.mediaUp || s.jrnl.buf.isEmpty) = true
        rw [hup]
        simpa using hbuf
      have hstay : (s.wait s.batchAt).v2Room = s.wait s.batchAt := if_pos hroom
      have hexit : u.holdExit = u := by
        rw [Dev.holdExit, huj]
        show (if s.jrnl.hold && _ then _ else u) = u
        rw [(hostUp_iff.mp h).2.2.2.1]
        rfl
      rw [Dev.flushBuffer, if_neg hempty, hstay]
      refine Eq.trans ?_ hexit
      rw [← hu, ← hw]
      rfl
    rw [journalFlush, if_neg (by rw [hup, awake_of_hostUp h]; simpa using hbuf)]
    dsimp only
    rw [hflush]
    rfl
  by_cases hhead : s.jrnl.buf.any headClass = true
  · rw [if_pos hhead] at hrow
    obtain ⟨busy, undo, hwrite⟩ := writeHead_frame (d := u) false (by rw [huj]; exact hn)
    rw [huj, hunv] at hwrite
    refine answers_still (f := journalFlush) rfl (hrow.trans hwrite) rfl ⟨hreach.trans honward.tb, rfl, rfl, rfl, ?_, eventsOnly_of_get fun pt hpt => ?_⟩
    · rw [if_pos hhead]
    · have hwget : (u.writeHead false).get pt = u.get pt := Dev.writeHead_get false u (not_mem_of_subset (by decide) hpt)
      rw [hwrite] at hwget
      exact hwget.trans (hkept pt (not_mem_of_subset (by decide) hpt))
  · rw [if_neg hhead] at hrow
    refine answers_still (f := journalFlush) rfl hrow (by rw [huj]) ⟨hreach.trans honward.tb, by rw [huj], by rw [huj], by rw [huj], ?_,
      eventsOnly_of_get fun pt hpt => hkept pt (not_mem_of_subset (by decide) hpt)⟩
    rw [huj, if_neg hhead]

end

/-! ### The page writes and the scrub of NVSTORE (R472, R490) -/

section
variable {w : PageWrite} {ws : List PageWrite} {s : State} (h : s.hostUp = true)
include h

omit h in
theorem slotCopy_frame (p : Nat) (ok : Bool) (d : Dev) : ∃ slots tokens, d.slotCopy p ok = { d with cru := { d.cru with slots := slots, tokens := tokens } } := by
  unfold Dev.slotCopy
  split
  · exact ⟨_, d.cru.tokens, rfl⟩
  · exact ⟨d.cru.slots, _, rfl⟩
  · exact ⟨d.cru.slots, d.cru.tokens, rfl⟩

theorem scrubPass_answers (hp : s.clock.pos < 4000) (hn : s.nv.scrub = none) : Answers .scrubPass s fun t =>
    s.clock.tb + (scrubTicks - s.scrubCount) ≤ t.clock.tb ∧
    t = { s.toDev with clock := t.clock, nv := { s.nv with scrub := some 0 } } := by
  have hr := rootOn_of_hostUp h
  have hrow : scrubPass s.toDev = _ := if_neg (by rw [awake_of_hostUp h, hn]; decide)
  rw [now_running hr] at hrow
  exact answers_still (f := scrubPass) rfl hrow rfl ⟨(wait_reaches hr hp).1, rfl⟩

omit h in
/-- NV_PAGE_WRITE_END of a page that begins no new work (R472). -/
theorem nvPageWriteEnd_row (hq : s.nv.queue = w :: ws) (hb : s.nv.busy = true) (hg : s.domGated 16 = false) (h8 : w.page ≠ 8)
    (hown : ∀ tag, w.owner = some tag → s.tokenRun tag = none) : ∃ slots tokens counted torn undo,
    nvPageWriteEnd s.toDev = (fun e : Dev => if ws.isEmpty then e.signal 144 else e.nvKick) { s.toDev with
      cru := { s.cru with slots := slots, tokens := tokens }
      nv := { s.nv with
        cells := w.cells.foldl (fun cs c => cellPut 0xFF c.1 c.2 cs) s.nv.cells
        bad := s.nv.bad.filter fun g => !(if w.cells.isEmpty then g / 64 == w.page else w.cells.any (fun c => c.1 / 4 == g / 4))
        queue := ws, busy := false, undo := undo, writes := (s.nv.writes + 1) % 2 ^ 32, counted := counted, torn := torn } } := by
  obtain ⟨slots, tokens, hslot⟩ := slotCopy_frame w.page true s.toDev
  have hlearn (tag : Nat) (e : Dev) (he : e.cmds = s.cmds) (ho : w.owner = some tag) : e.learnWritten tag = e := by
    have hrun : e.tokenRun tag = none := by
      rw [Dev.tokenRun, cmd_of_cmds he]
      exact hown tag ho
    rw [Dev.learnWritten, hrun]
  refine ⟨slots, tokens, s.nv.counted.filter fun c => ws.any fun x => (c.1 < 64 * x.page + 64 && 64 * x.page < c.1 + c.2 : Bool),
    s.nv.torn.filter (· != w.page), undoEnded w.owner s.nv.undo, ?_⟩
  rw [nvPageWriteEnd, hq]
  dsimp only
  rw [if_neg (by rw [hb, hg]; decide), if_neg h8, Dev.programmed, hslot]
  cases ho : w.owner with
  | none => rfl
  | some tag =>
    dsimp only
    rw [hlearn tag _ _ ho]
    rfl

theorem nvPageWriteEnd_answers (hq : s.nv.queue = w :: ws) (hb : s.nv.busy = true) (hg : s.domGated 16 = false) (h8 : w.page ≠ 8)
    (hown : ∀ tag, w.owner = some tag → s.tokenRun tag = none) : Answers .nvPageWriteEnd s fun t =>
      t.nv.queue = ws ∧ t.nv.writes = (s.nv.writes + 1) % 2 ^ 32 ∧
      t.nv.cells = w.cells.foldl (fun cs c => cellPut 0xFF c.1 c.2 cs) s.nv.cells ∧ t.cmds = s.cmds ∧
      (∀ g ∈ t.nv.bad, g ∈ s.nv.bad ∧ (∀ c ∈ w.cells, c.1 / 4 ≠ g / 4) ∧ (w.cells = [] → g / 64 ≠ w.page)) ∧
      (ws = [] → t.nv.busy = false ∧ Raised 144 s.toDev t) ∧
      (ws ≠ [] → t.nv.busy = (s.dom 16 == .on && !s.pwr.vsupLow) ∧ t.clock = s.clock) ∧
      EventsOnly { s.toDev with cru := { s.cru with slots := t.cru.slots, tokens := t.cru.tokens } } t := by
  obtain ⟨slots, tokens, counted, torn, undo, hrow⟩ := nvPageWriteEnd_row hq hb hg h8 hown
  obtain ⟨v, hv⟩ : ∃ v : Nv, ({ s.nv with
      cells := w.cells.foldl (fun cs c => cellPut 0xFF c.1 c.2 cs) s.nv.cells
      bad := s.nv.bad.filter fun g => !(if w.cells.isEmpty then g / 64 == w.page else w.cells.any (fun c => c.1 / 4 == g / 4))
      queue := ws, busy := false, undo := undo, writes := (s.nv.writes + 1) % 2 ^ 32, counted := counted, torn := torn } : Nv) = v := ⟨_, rfl⟩
  have hbad : ∀ g ∈ v.bad, g ∈ s.nv.bad ∧ (∀ c ∈ w.cells, c.1 / 4 ≠ g / 4) ∧ (w.cells = [] → g / 64 ≠ w.page) := by
    intro g hg
    rw [← hv, List.mem_filter] at hg
    refine ⟨hg.1, fun c hc heq => ?_, fun he heq => ?_⟩
    · have hne : w.cells.isEmpty = false := by
        cases hw : w.cells with
        | nil => rw [hw] at hc; cases hc
        | cons => rfl
      have hany : w.cells.any (fun c => c.1 / 4 == g / 4) = true := List.any_eq_true.mpr ⟨c, hc, by simpa using heq⟩
      rw [hne] at hg
      simp [hany] at hg
    · rw [he] at hg
      simp [heq] at hg
  obtain ⟨hqueue, hwrites, hcells, hbusy⟩ : v.queue = ws ∧ v.writes = (s.nv.writes + 1) % 2 ^ 32 ∧
      v.cells = w.cells.foldl (fun cs c => cellPut 0xFF c.1 c.2 cs) s.nv.cells ∧ v.busy = false := by
    rw [← hv]
    exact ⟨rfl, rfl, rfl, rfl⟩
  obtain ⟨u, hu⟩ : ∃ u, ({ s.toDev with cru := { s.cru with slots := slots, tokens := tokens }, nv := v } : Dev) = u := ⟨_, rfl⟩
  have hothers (pt : Part) (hpt : pt ∉ [.cru, .nv]) : u.get pt = s.get pt := by
    simp only [List.mem_cons, List.not_mem_nil, or_false, not_or] at hpt
    rw [← hu]
    exact (Dev.get_with_nv v { s.toDev with cru := { s.cru with slots := slots, tokens := tokens } } hpt.2).trans (Dev.get_with_cru _ s.toDev hpt.1)
  have hunv : u.nv = v := by rw [← hu]
  have hucru : u.cru = { s.cru with slots := slots, tokens := tokens } := by rw [← hu]
  have honly {t : Dev} (hcru : t.cru = u.cru) (hget : ∀ pt, pt ∉ .cru :: eventParts → t.get pt = s.get pt) :
      EventsOnly { s.toDev with cru := { s.cru with slots := t.cru.slots, tokens := t.cru.tokens } } t := by
    refine eventsOnly_but [.cru] (s := s.toDev) (fun pt hpt => ?_) (fun pt hpt => ?_) hget
    · rw [List.mem_singleton.mp hpt]
      show ({ s.cru with slots := t.cru.slots, tokens := t.cru.tokens } : Crucible) = t.cru
      rw [hcru, hucru]
    · exact Dev.get_with_cru _ s.toDev fun hm => hpt (List.mem_singleton.mpr hm)
  rw [hv, hu] at hrow
  cases ws with
  | nil =>
    obtain ⟨hraised, hget⟩ := signal_says (d := u) 144
      (by rw [show u.pwr = s.pwr from hothers .pwr (by decide)]; exact not_doze_of_run (run_of_hostUp h))
      (by rw [show u.clock = s.clock from hothers .clock (by decide)]; exact rootOn_of_hostUp h)
    have hnv : (u.signal 144).nv = v := Eq.trans (b := u.nv) (hget .nv (by decide)) hunv
    have hkept (pt : Part) (hpt : pt ∉ [.cru, .nv, .clock, .evc]) : (u.signal 144).get pt = s.get pt :=
      (hget pt (not_mem_of_subset (by decide) hpt)).trans (hothers pt (not_mem_of_subset (by decide) hpt))
    refine answers_still (f := nvPageWriteEnd) rfl hrow (congrArg Journal.nextNumber (hkept .jrnl (by decide))) ?_
    show (u.signal 144).nv.queue = _ ∧ (u.signal 144).nv.writes = _ ∧ (u.signal 144).nv.cells = _ ∧ (u.signal 144).cmds = _ ∧
      (∀ g ∈ (u.signal 144).nv.bad, _) ∧ (_ → (u.signal 144).nv.busy = false ∧ _) ∧ _
    rw [hnv]
    refine ⟨hqueue, hwrites, hcells, hkept .cmds (by decide), hbad, fun _ => ⟨hbusy, ?_⟩, fun hne => absurd rfl hne,
      honly (hget .cru (by decide)) fun pt hpt => hkept pt (not_mem_of_subset (by decide) hpt)⟩
    exact raised_of_eq hraised (by rw [show u.clock = s.clock from hothers .clock (by decide)]) (hothers .evc (by decide))
  | cons x xs =>
    have hkick : u.nvKick = { u with nv := { v with busy := s.dom 16 == .on && !s.pwr.vsupLow } } := by
      have hgo : (u.nv.busy || (!u.nv.queue.isEmpty && u.dom 16 == .on && !u.pwr.vsupLow)) = (s.dom 16 == .on && !s.pwr.vsupLow) := by
        rw [hunv, hbusy, hqueue, Dev.dom, show u.pwr = s.pwr from hothers .pwr (by decide)]
        rfl
      rw [Dev.nvKick, hgo, hunv]
    have hrow' : nvPageWriteEnd s.toDev = { u with nv := { v with busy := s.dom 16 == .on && !s.pwr.vsupLow } } := hrow.trans hkick
    have hkept (pt : Part) (hpt : pt ∉ [.cru, .nv]) :
        ({ u with nv := { v with busy := s.dom 16 == .on && !s.pwr.vsupLow } } : Dev).get pt = s.get pt :=
      (Dev.get_with_nv _ u fun hm => hpt (by rw [hm]; decide)).trans (hothers pt hpt)
    exact answers_still (f := nvPageWriteEnd) rfl hrow' (congrArg Journal.nextNumber (hkept .jrnl (by decide)))
      ⟨hqueue, hwrites, hcells, hkept .cmds (by decide), hbad, fun hnil => absurd hnil (by simp), fun _ => ⟨rfl, hkept .clock (by decide)⟩,
        honly rfl fun pt hpt => hkept pt (not_mem_of_subset (by decide) hpt)⟩

end

/-- The parts that a comparison of two copies may touch (R479, R490). -/
def comparedParts : List Part := [.clock, .pwr, .jrnl, .evc, .nv, .free]

section
variable {pt : Part} (d : Dev) (h : pt ∉ comparedParts)
include h

theorem compareTwin_get (a b n : Nat) : (d.compareTwin a b n).get pt = d.get pt := by
  have hseq : (d.recordSeq a).2.get pt = d.get pt := Dev.recordSeq_get d a fun hm => h (by rw [hm]; decide)
  have hmis (y old new : Nat) (e : Dev) : (e.mismatched y n old new).get pt = e.get pt := Dev.mismatched_get y n old new e (not_mem_of_subset (by decide) h)
  have hfree (e : Dev) : e.freeNat.2.get pt = e.get pt := Dev.freeNat_get e fun hm => h (by rw [hm]; decide)
  unfold Dev.compareTwin
  dsimp only
  split
  · exact (hmis ..).trans hseq
  · exact (hmis ..).trans hseq
  · rfl
  · split
    · exact (hmis ..).trans hseq
    · split
      · exact (hmis ..).trans ((hfree _).trans hseq)
      · rfl

theorem compareSlot_get (p : Nat) : (d.compareSlot p).get pt = d.get pt := by
  have hmis (y n old new : Nat) : (d.mismatched y n old new).get pt = d.get pt := Dev.mismatched_get y n old new d (not_mem_of_subset (by decide) h)
  unfold Dev.compareSlot
  dsimp only
  split
  · split
    · exact hmis ..
    · exact hmis ..
    · exact compareTwin_get d h ..
  · split
    · exact hmis ..
    · exact hmis ..
    · exact compareTwin_get d h ..
  · rfl

theorem compareDevice_get (p : Nat) : (d.compareDevice p).get pt = d.get pt := by
  unfold Dev.compareDevice
  split
  · refine foldl_get (fun e i => ?_) _ d
    dsimp only
    split
    · exact compareTwin_get e h ..
    · rfl
  · rfl

theorem comparePage_get (p : Nat) : (d.comparePage p).get pt = d.get pt := by
  refine foldl_get (fun e q => ?_) _ d
  dsimp only
  split
  · split
    · exact Dev.compare_get _ _ e (not_mem_of_subset (by decide) h)
    · refine foldl_get (fun x i => ?_) _ e
      split
      · exact Dev.compare_get _ _ x (not_mem_of_subset (by decide) h)
      · rfl
    · rfl
  · rfl

end

/-- Journal hold's entry leaves the scrub as it is. -/
theorem settle_scrub (s d : Dev) : (Dev.settle s d).nv.scrub = d.nv.scrub := by
  have happ (r : Record) (e : Dev) : ({ e.append r with jrnl := { (e.append r).jrnl with hold := true } } : Dev).nv.scrub = e.nv.scrub := by
    obtain ⟨_, _, _, _, _, _, _, _, -, h⟩ := append_frame r e
    rw [h]
  unfold Dev.settle Dev.holdEntry
  split
  · rfl
  · split
    · exact (happ _ _).trans (congrArg Nv.scrub (Dev.begins_get (pt := .nv) 155 d (by decide)))
    · rfl

theorem scrubAtom_answers {errors : List NvError} {p : Nat} {s : State} (h : s.hostUp = true) (hp : s.nv.scrub = some p)
    (hfree : bit 9 s.host.fnBusy = false) (hbusy : s.atomBusy 0x0A = false) (hdom : (fnDomains 9).all s.domOn = true) :
    Answers (.scrubAtom errors) s fun t => t.nv.scrub = (if p + 1 < 1024 then some (p + 1) else none) ∧ t.sets = s.sets ∧
      t.rel = s.rel ∧ t.cmds = s.cmds := by
  obtain ⟨u, hu⟩ : ∃ u, (((Dev.nvMetIn errors (64 * p) 64 (s.dueless 0x0A)).compareSlot p).compareDevice p).comparePage p = u := ⟨_, rfl⟩
  have hget (pt : Part) (hpt : pt ∉ .bg :: .cru :: comparedParts) : u.get pt = s.get pt := by
    have hc : pt ∉ comparedParts := not_mem_of_subset (by decide) hpt
    rw [← hu, comparePage_get _ hc, compareDevice_get _ hc, compareSlot_get _ hc, Dev.nvMetIn_get errors _ _ _ (not_mem_of_subset (by decide) hpt)]
    exact dueless_get 0x0A s.toDev fun hm => hpt (by rw [hm]; decide)
  obtain ⟨v, hv⟩ : ∃ v : Nv, scrubAtom errors s.toDev = Dev.atomEnded { u with nv := v } ∧ v.scrub = if p + 1 < 1024 then some (p + 1) else none := by
    rw [scrubAtom, hp]
    dsimp only
    rw [atom_runs (unit := 0x0A) (run_of_hostUp h) (List.all_eq_true.mp hdom) hfree hbusy, hu]
    split
    · exact ⟨_, rfl, rfl⟩
    · exact ⟨_, rfl, rfl⟩
  obtain ⟨hrow, hscrub⟩ := hv
  refine answers_settle (f := scrubAtom errors) rfl hrow ?_
  rw [settle_scrub, settle_sets, settle_rel, settle_cmds]
  exact ⟨hscrub, hget .sets (by decide), hget .rel (by decide), hget .cmds (by decide)⟩

/-- Settles O59: an appended record and the head's frame carry the journal's clauses; the page writes and the scrub go by their rows. -/
theorem journalAndPageWrites : Obligations.JournalAndPageWrites := by
  unfold Obligations.JournalAndPageWrites
  refine ⟨fun origin tag op x d hboot => ⟨fun hb => ?_, fun hb => ?_⟩, fun s d hn => ⟨fun hstay => settle_room hstay, settle_holds hn⟩,
    fun s h hp hn => ⟨journalFlush_answers h hp hn, chainHeadWrite_answers h hp hn⟩,
    fun w ws errors p s h hp => ⟨nvPageWriteEnd_answers h, scrubPass_answers h hp, scrubAtom_answers h⟩⟩
  · obtain ⟨head, seq, busy, queue, undo, oldest, last, t, htag, happ⟩ := append_frame (d.recordOf origin tag op x) d
    obtain ⟨rfl, rfl⟩ := htag hboot
    dsimp only
    rw [log_room origin tag op x hb, happ]
    exact ⟨rfl, rfl, rfl, rfl, rfl, rfl, rfl⟩
  · dsimp only
    rw [log_folds origin tag op x hb]
    exact ⟨rfl, mem_foldInto x.cls d.clock.evEsn.toNat d.jrnl.folded⟩

end Sys2Proof.Machine
end
